-- ==== Sys2Proof/Word.lean ====
section
/-!
DEFINITION. The word types of the block: a control register (R14), a byte, a shelf row (R23, 544 bytes, byte 0 in
the lowest bits) and an HBM granule (R233, 32 bytes, byte 0 in the lowest bits).
-/
namespace Sys2Proof

/-- A 32-bit control register (R14). -/
abbrev Word := BitVec 32
/-- One byte. -/
abbrev Byte := BitVec 8
/-- A shelf row of 544 bytes (R23): byte `i` is bits `8i+7 .. 8i`. -/
abbrev Row := BitVec 4352
/-- An HBM granule of 32 bytes: byte `i` is bits `8i+7 .. 8i`. -/
abbrev Granule := BitVec 256
/-- A bundle of program memory, 256 bits (R162). -/
abbrev Bundle := BitVec 256

/-- Number of a core, a router, a port or another unit of which the part has 16. -/
abbrev CoreNo := Fin 16
/-- Number of a tile in its core. -/
abbrev TileNo := Fin 1024
/-- Number of a partition. -/
abbrev PartNo := Fin 64
/-- Number of an Extur port. -/
abbrev PortNo := Fin 16
/-- Number of an HBM stack and its controller. -/
abbrev StackNo := Fin 8
/-- Number of a program context in its core. -/
abbrev CtxNo := Fin 4
/-- Number of a tile group in its core. -/
abbrev GroupNo := Fin 16
/-- Number of a stream context. -/
abbrev StreamNo := Fin 16384
/-- Number of a voltage quadrant. -/
abbrev QuadNo := Fin 4

end Sys2Proof
end

