-- ==== Sys2Proof/Machine/Bits.lean ====
section
/-!
DEFINITION. Bit fields, signed fields, byte strings and the one rounding of the part (R19).
-/
namespace Sys2Proof

/-- Bits `lo + w - 1 .. lo` of a natural number. -/
def bits (x lo w : Nat) : Nat := x / 2 ^ lo % 2 ^ w
/-- Bit `i` of a natural number. -/
def bitAt (x i : Nat) : Bool := x / 2 ^ i % 2 == 1
/-- A number with bit `i` set to `b`. -/
def putBit (x i : Nat) (b : Bool) : Nat := x - (x / 2 ^ i % 2) * 2 ^ i + (if b then 2 ^ i else 0)
/-- One bit as a number. -/
def b2n (b : Bool) : Nat := if b then 1 else 0
/-- The number of set bits among the lowest `n`. -/
def popCount (n x : Nat) : Nat := (List.range n).foldl (fun c i => c + b2n (bitAt x i)) 0
/-- The bits `i < n` at which `p i` holds, as a mask. -/
def maskOf (n : Nat) (p : Nat → Bool) : Nat := (List.range n).foldl (fun m i => if p i then m + 2 ^ i else m) 0
/-- Two's-complement reading of a field of `w` bits. -/
def signed (w x : Nat) : Int := if x % 2 ^ w < 2 ^ (w - 1) then ((x % 2 ^ w : Nat) : Int) else ((x % 2 ^ w : Nat) : Int) - (2 ^ w : Nat)
/-- Two's-complement field of `w` bits that holds `x` modulo `2 ^ w`. -/
def unsign (w : Nat) (x : Int) : Nat := (x % ((2 ^ w : Nat) : Int)).toNat
/-- Limit to a closed range. -/
def clampInt (lo hi x : Int) : Int := if x < lo then lo else if hi < x then hi else x
/-- Addition that stays at `top` (counters that saturate). -/
def satAdd (top a b : Nat) : Nat := min top (a + b)

/-- Nearest integer to `n / d`, ties to even (R19). -/
def rneDiv (n : Int) (d : Nat) : Int :=
  let q := n / (d : Int)
  let r := 2 * (n % (d : Int))
  if r < d then q else if (d : Int) < r then q + 1 else if q % 2 = 0 then q else q + 1

/-- Nearest integer to `x * 2 ^ e`, ties to even (R19). -/
def rneScale (x e : Int) : Int :=
  if 0 ≤ e then x * (2 ^ e.toNat : Nat) else rneDiv x (2 ^ (-e).toNat)

/-- Byte `i` of a row. -/
def rowByte (r : Row) (i : Nat) : Nat := (r.toNat / 2 ^ (8 * i)) % 256
/-- `n` little-endian bytes of a row from byte `i`. -/
def rowBytes (r : Row) (i n : Nat) : Nat := (r.toNat / 2 ^ (8 * i)) % 2 ^ (8 * n)
/-- The number that little-endian bytes spell. -/
def bytesVal : List Nat → Nat
  | [] => 0
  | b :: bs => b % 256 + 256 * bytesVal bs
/-- `n` little-endian bytes of a number. -/
def bytesOf : Nat → Nat → List Nat
  | 0, _ => []
  | n + 1, x => x % 256 :: bytesOf n (x / 256)
/-- A row from its bytes (missing bytes are 0). -/
def rowOf (bs : List Nat) : Row := BitVec.ofNat 4352 (bytesVal bs)
/-- Granule `i` (0 to 16) of a row. -/
def rowGranule (r : Row) (i : Nat) : Granule := BitVec.ofNat 256 (r.toNat / 2 ^ (256 * i))
/-- A row from its 17 granules. -/
def rowOfGranules (gs : List Granule) : Row :=
  BitVec.ofNat 4352 (gs.foldr (fun g acc => g.toNat + 2 ^ 256 * acc) 0)

/-- The element of a list, or a value where the list is shorter. -/
def nth {α : Type} (d : α) (l : List α) (i : Nat) : α := l.getD i d
/-- A list with the element at `i` replaced (unchanged when there is none). -/
def setNth {α : Type} (l : List α) (i : Nat) (v : α) : List α := l.set i v
/-- The sum of `f` over `0 .. n-1`. -/
def sumNat (n : Nat) (f : Nat → Nat) : Nat := (List.range n).foldl (fun a i => a + f i) 0
/-- The sum of `f` over `0 .. n-1`. -/
def sumInt (n : Nat) (f : Nat → Int) : Int := (List.range n).foldl (fun a i => a + f i) 0
/-- The first element of a list that satisfies `p`, with its place. -/
def findIdx1 {α : Type} (p : α → Bool) (l : List α) : Option (Nat × α) :=
  (l.zipIdx.find? fun e => p e.1).map fun e => (e.2, e.1)

end Sys2Proof
end

