-- ==== Sys2Proof/Machine/Operands.lean ====
section
/-!
DEFINITION. Number formats and row layouts of the digital datapath (R19 to R40, R60 and R61): element decoding, tile
input alignment, contributions, P40 rows and their addition, final conversion. Pure functions of their operands.
-/
namespace Sys2Proof

/-- Twice the value of an E2M1 code (R20); it is also the T4F weight integer m (R26). Negative zero reads as 0 (R21). -/
def e2m1x2 (c : Nat) : Int :=
  let m : Int := nth 0 [0, 1, 2, 3, 4, 6, 8, 12] (c % 8)
  if 8 ≤ c % 16 then -m else m
/-- The T4I weight integer of a code (R26). -/
def int4 (c : Nat) : Int := signed 4 c
/-- The weight integer m of a code: T4I when `fmt`, else T4F (R26, R51). -/
def weightM (fmt : Bool) (c : Nat) : Int := if fmt then int4 c else e2m1x2 c
/-- The unit exponent u of a weight format (R26). -/
def weightU (fmt : Bool) : Int := if fmt then 0 else -1
/-- Nominal levels (l+, l-) of a weight integer (R51). -/
def nominalLevels (m : Int) : Nat × Nat := if 0 ≤ m then (m.toNat, 0) else (0, (-m).toNat)

/-- An E4M3 element in units of 2^-9; none for NaN (R20). -/
def e4m3 (c : Nat) : Option Int :=
  let e := bits c 3 4
  let m := bits c 0 3
  if e = 15 ∧ m = 7 then none
  else
    let v : Int := if e = 0 then (m : Int) else ((8 + m) * 2 ^ (e - 1) : Nat)
    some (if bitAt c 7 then -v else v)
/-- A BF16 value as mantissa and exponent (value m x 2^e); none for infinity and NaN (R20, R22). -/
def bf16 (c : Nat) : Option (Int × Int) :=
  let e := bits c 7 8
  let m := bits c 0 7
  if e = 255 then none
  else
    let v : Int := if e = 0 then (m : Int) else ((128 + m : Nat) : Int)
    let x : Int := if e = 0 then -133 else (e : Int) - 134
    some (if bitAt c 15 then (-v, x) else (v, x))

/-- A float format: mantissa bits, least normal exponent, largest finite code, place of the sign bit. -/
structure FloatFmt where
  mbits : Nat
  emin : Int
  maxCode : Nat
  sign : Nat
  deriving DecidableEq, Repr
/-- E2M1 (R20). -/
def fmtE2M1 : FloatFmt := ⟨1, 0, 7, 3⟩
/-- E4M3 (R20). -/
def fmtE4M3 : FloatFmt := ⟨3, -6, 0x7E, 7⟩
/-- BF16 (R20). -/
def fmtBF16 : FloatFmt := ⟨7, -126, 0x7F7F, 15⟩

/-- The result of rounding one value: code, saturated (OSAT), non-zero value became zero (OZERO). -/
structure Rounded where
  code : Nat
  osat : Bool
  ozero : Bool
  deriving DecidableEq, Repr

/-- Round m x 2^t into a float format: nearest, ties to even; beyond the largest finite value that value with its sign
(R37, R39); zero is positive zero (R21). -/
def roundTo (f : FloatFmt) (m t : Int) : Rounded :=
  if m = 0 then ⟨0, false, false⟩
  else
    let a := m.natAbs
    let e : Int := (a.log2 : Int) + t
    let u : Int := (if e < f.emin then f.emin else e) - f.mbits
    let q := (rneScale a (t - u)).toNat
    let raw := (u + f.mbits - f.emin).toNat * 2 ^ f.mbits + q
    let sgn := if m < 0 then 2 ^ f.sign else 0
    if q = 0 then ⟨0, false, true⟩
    else if f.maxCode < raw then ⟨f.maxCode + sgn, true, false⟩
    else ⟨raw + sgn, false, false⟩

/-- The block scale X of R36 for values s_j x 2^exp, in a format whose largest element is `maxEl` x 2^`unit` with
emax = `emax` (6 and unit 1, emax 2 for E2M1; 448, unit 5, emax 8 for E4M3). -/
def blockScale (emax unit : Nat) (maxEl : Int) (s : List Int) (exp : Int) : Int :=
  let amax := s.foldl (fun a x => max a x.natAbs) 0
  if amax = 0 then 0
  else
    let x0 : Int := (amax.log2 : Int) + exp - emax
    let x1 := if maxEl < rneScale amax (exp - x0 - unit) * (2 ^ unit : Nat) then x0 + 1 else x0
    clampInt (-127) 127 x1

/-- One converted block: scale byte (MX formats), element codes, and the losses of R41. -/
structure ConvBlock where
  scale : Nat
  codes : List Nat
  osat : Nat
  ozero : Nat
  deriving DecidableEq, Repr

/-- Output formats of the final conversion (R36 to R39). -/
inductive OutFmt where
  | mx4 | mx8 | bf16
  deriving DecidableEq, Repr

/-- Final conversion of one 32-value block (R36, R37, R39). -/
def convBlock (f : OutFmt) (s : List Int) (exp : Int) : ConvBlock :=
  let x : Int := match f with
    | .mx4 => blockScale 2 1 6 s exp
    | .mx8 => blockScale 8 5 448 s exp
    | .bf16 => 0
  let ff := match f with | .mx4 => fmtE2M1 | .mx8 => fmtE4M3 | .bf16 => fmtBF16
  let r := s.map fun v => roundTo ff v (exp - x)
  ⟨(x + 127).toNat, r.map (·.code), (r.filter (·.osat)).length, (r.filter (·.ozero)).length⟩

/-! ### P40 rows -/

/-- A P40 row (R25), with the header's fields as numbers. -/
structure P40 where
  exp : Int
  top : Int
  contrib : Nat
  rid : Nat
  col0 : Nat
  nblk : Nat
  flags : Nat
  zero : Nat
  csat : List Nat
  cund : List Nat
  s : List Int
  deriving DecidableEq, Repr

/-- FLAGS bit of R25: a contributing tile read was accepted flagged. -/
def flagFlagged : Nat := 1
/-- FLAGS bit of R25: incomplete. -/
def flagIncomplete : Nat := 2
/-- FLAGS bit of R25: an invalid operand contributed. -/
def flagInvalid : Nat := 4

/-- Read a row as a P40 row (R25). -/
def P40.ofRow (r : Row) : P40 where
  exp := signed 16 (rowBytes r 0 2)
  top := signed 16 (rowBytes r 2 2)
  contrib := rowBytes r 4 4
  rid := rowBytes r 8 2
  col0 := rowBytes r 10 2
  nblk := rowByte r 12
  flags := rowByte r 13 % 8
  zero := rowBytes r 16 4
  csat := (List.range 3).map fun i => rowBytes r (20 + 2 * i) 2
  cund := (List.range 3).map fun i => rowBytes r (26 + 2 * i) 2
  s := (List.range 96).map fun j => signed 40 (rowBytes r (64 + 5 * j) 5)

/-- Write a P40 row: reserved bytes 0 (R24), values at and beyond 32 x NBLK 0 (R25). -/
def P40.toRow (p : P40) : Row :=
  rowOf (bytesOf 2 (unsign 16 p.exp) ++ bytesOf 2 (unsign 16 p.top) ++ bytesOf 4 p.contrib ++ bytesOf 2 p.rid ++
    bytesOf 2 p.col0 ++ [p.nblk, p.flags] ++ [0, 0] ++ bytesOf 4 p.zero ++
    ((List.range 3).map fun i => bytesOf 2 (nth 0 p.csat i)).flatten ++
    ((List.range 3).map fun i => bytesOf 2 (nth 0 p.cund i)).flatten ++ List.replicate 32 0 ++
    ((List.range 96).map fun j => bytesOf 5 (unsign 40 (if j < 32 * p.nblk then nth 0 p.s j else 0))).flatten)

/-- Rows that merge: equal RID, COL0 and NBLK (R32). -/
def P40.sameKey (a b : P40) : Bool := a.rid == b.rid && a.col0 == b.col0 && a.nblk == b.nblk

/-- A value word modulo 2^40, as two's complement (R32). -/
def wrap40 (x : Int) : Int := signed 40 (unsign 40 x)

/-- P40 addition of two rows of one key (R32). -/
def P40.merge (a b : P40) : P40 :=
  let e := min a.exp b.exp
  { a with
    exp := e
    top := max a.top b.top
    contrib := satAdd 0xFFFFFFFF a.contrib b.contrib
    flags := a.flags ||| b.flags
    zero := satAdd 0xFFFFFFFF a.zero b.zero
    csat := (List.range 3).map fun i => satAdd 0xFFFF (nth 0 a.csat i) (nth 0 b.csat i)
    cund := (List.range 3).map fun i => satAdd 0xFFFF (nth 0 a.cund i) (nth 0 b.cund i)
    s := (List.range 96).map fun j =>
      wrap40 (nth 0 a.s j * (2 ^ (a.exp - e).toNat : Nat) + nth 0 b.s j * (2 ^ (b.exp - e).toNat : Nat)) }

/-- Range-verified rows (R34). -/
def P40.verified (p : P40) : Bool :=
  decide (p.top - p.exp ≤ 16) && decide (p.contrib ≤ 2 ^ (16 - (p.top - p.exp)).toNat)

/-! ### Tile input and contributions -/

/-- A segment in a tile input buffer (R28, R53): drive integers, exponent, per-block zeroed and inexact counts, mask of
invalid blocks. -/
structure Segment where
  a : List Int
  sseg : Int
  zblk : List Nat
  xblk : List Nat
  iblk : Nat
  deriving DecidableEq, Repr

/-- Element `i` of an MX4 row, times 2 (R23). -/
def mx4x2 (r : Row) (i : Nat) : Int := e2m1x2 (bits (rowByte r (i / 2)) (4 * (i % 2)) 4)
/-- Scale byte of block `b` of an MX row (R23). -/
def mxScale (r : Row) (b : Nat) : Nat := rowByte r (512 + b)

/-- Tile input alignment (R28). -/
def alignSegment (r : Row) : Segment :=
  let valid := (List.range 32).filter fun b => mxScale r b != 255
  let smax := valid.foldl (fun m b => max m (mxScale r b)) 0
  let drive (i : Nat) : Int :=
    if mxScale r (i / 32) = 255 then 0
    else rneScale (2 * mx4x2 r i) ((mxScale r (i / 32) : Int) - smax)
  let isZ (i : Nat) : Bool := mxScale r (i / 32) != 255 && mx4x2 r i != 0 && drive i == 0
  let isX (i : Nat) : Bool := mxScale r (i / 32) != 255 &&
    drive i * (2 ^ (smax - mxScale r (i / 32)) : Nat) != 2 * mx4x2 r i
  { a := (List.range 1024).map drive
    sseg := (smax : Int) - 127
    zblk := (List.range 32).map fun b => sumNat 32 fun j => b2n (isZ (32 * b + j))
    xblk := (List.range 32).map fun b => sumNat 32 fun j => b2n (isX (32 * b + j))
    iblk := maskOf 32 fun b => mxScale r b == 255 }

/-- The exponent k of R29: X_c + r + u - 10 - B. -/
def contribK (scale : Nat) (r : Nat) (fmt : Bool) (base : Int) : Int :=
  (scale : Int) - 127 + r + weightU fmt - 10 - base

/-- Contribution of one column (R29), and whether a non-zero product rounded to 0 (R30). -/
def contribution (q : Int) (gain : Nat) (k a : Int) : Int × Bool :=
  let v := rneScale (q * ((256 + gain : Nat) : Int)) (k - a)
  (v, q * ((256 + gain : Nat) : Int) != 0 && v == 0)

/-- Expected value D_ref of reference column j for the drive integers (R60). -/
def dref (a : List Int) (j : Nat) : Int :=
  if j < 8 then 8 * sumInt 128 fun i => nth 0 a (128 * j + i)
  else if j < 10 then 4 * sumInt 1024 fun i => (if i % 2 = 0 then 1 else -1) * nth 0 a i
  else if j < 12 then -4 * sumInt 1024 fun i => (if i % 2 = 0 then 1 else -1) * nth 0 a i
  else if j < 14 then 12 * sumInt 1024 fun i => nth 0 a i
  else 0

/-- Levels (l+, l-) of the pair at row `i` of reference column j (R60). -/
def refLevels (j i : Nat) : Nat × Nat :=
  if j < 8 then (if i / 128 = j then (8, 0) else (0, 0))
  else if j < 10 then (if i % 2 = 0 then (4, 0) else (0, 4))
  else if j < 12 then (if i % 2 = 0 then (0, 4) else (4, 0))
  else if j < 14 then (12, 0)
  else (0, 0)

/-- 512 x rho(n) of R61. -/
def rho512 (n : Nat) : Nat := if n = 1 then 512 else if n = 2 then 362 else if n = 4 then 256 else 181

/-- Whether a reference column passes the check of R61, compared exactly with all terms times 2^20 x 2^STEP_EXP.
`q` is the sum of n codes; tolerances are the register fields. -/
def refPasses (q : Int) (n stepExp : Nat) (d : Int) (ofs gain confK sigma : Nat) : Bool :=
  let one : Nat := 2 ^ stepExp
  let dev := (q * one - n * d).natAbs * 2 ^ 20
  let w := ofs * 2 ^ 14 * one + gain * 2 ^ 10 * d.natAbs + confK * sigma * rho512 n * 2 ^ 3 * one
  decide (dev ≤ n * w)

/-- Physical column of reference column j (R52). -/
def refPcol (j : Nat) : Nat := 64 * j + 32
/-- Whether a physical column is a reference column (R52). -/
def isRefPcol (c : Nat) : Bool := c % 64 == 32 && decide (c < 1024)
/-- Physical column of spare column s (R52). -/
def sparePcol (s : Nat) : Nat := 16 * s + 7
/-- Whether a physical column is a spare column (R52). -/
def isSparePcol (c : Nat) : Bool := c % 16 == 7 && decide (c < 1024)
/-- Physical column of weight column w: the (w+1)-th lowest that is neither (R52). Each 64 physical columns below 1,024
hold 59 weight columns. -/
def weightPcol (w : Nat) : Nat :=
  if w < 944 then
    let b := w / 59
    let o := w % 59
    64 * b + nth 0 ((List.range 64).filter fun c => !(isRefPcol c) && !(isSparePcol c)) o
  else 1024 + (w - 944)

end Sys2Proof
end

