-- ==== Sys2Proof/Machine/SMap.lean ====
section
/-!
DEFINITION. Sparse stores: a list of (key, value) pairs in one canonical form. Every memory and every table of units
of the block is one of these. `d k` is what an unlisted key reads as.
-/
namespace Sys2Proof

/-- A sparse store: key and value pairs. -/
abbrev SMap (α : Type) := List (Nat × α)

/-- The value at key `k`: the first entry listed, or what an unlisted key reads as. -/
def SMap.get {α : Type} (d : Nat → α) : SMap α → Nat → α
  | [], k => d k
  | (j, v) :: m, k => if j = k then v else SMap.get d m k

/-- Put an entry before the first larger key. -/
def SMap.ins {α : Type} (k : Nat) (v : α) : SMap α → SMap α
  | [] => [(k, v)]
  | (j, w) :: m => if k < j then (k, v) :: (j, w) :: m else (j, w) :: SMap.ins k v m

/-- Remove every entry of key `k`. -/
def SMap.del {α : Type} (k : Nat) : SMap α → SMap α
  | [] => []
  | (j, w) :: m => if j = k then SMap.del k m else (j, w) :: SMap.del k m

/-- Write `v` at key `k`; writing what an unlisted key reads as removes the entry. -/
def SMap.set {α : Type} [DecidableEq α] (d : Nat → α) (m : SMap α) (k : Nat) (v : α) : SMap α :=
  if v = d k then SMap.del k m else SMap.ins k v (SMap.del k m)

/-- Every key of the store is above `k`. -/
def SMap.above {α : Type} (k : Nat) (m : SMap α) : Bool := m.all fun e => decide (k < e.1)

/-- The canonical form: keys strictly rising, no entry equal to what an unlisted key reads as. -/
def SMap.wf {α : Type} [DecidableEq α] (d : Nat → α) : SMap α → Bool
  | [] => true
  | (j, v) :: m => decide (v ≠ d j) && SMap.above j m && SMap.wf d m

/-- Write the values `f i` at the keys `base + i` for `i < n`, in rising order. -/
def SMap.setRange {α : Type} [DecidableEq α] (d : Nat → α) (m : SMap α) (base n : Nat) (f : Nat → α) : SMap α :=
  (List.range n).foldl (fun m i => SMap.set d m (base + i) (f i)) m

end Sys2Proof
end

