-- ==== Sys2Proof/Machine/TypesCore.lean ====
section
/-!
DEFINITION. The state of the tiles, of the drift estimators, of the shelf and of the program contexts (02_tiles.md,
03_drift.md, 04_core_and_shelf.md, 05_program.md). Stores are sparse maps; a key packs the numbers of core, tile, row
and so on as each field says.
-/
namespace Sys2Proof.Machine

/-- A dispatch template (R173). -/
structure DispTmpl where
  odst : Nat
  psrc : Nat
  rid : Nat
  col0 : Nat
  base : Int
  layer : Nat
  pc : Bool
  deriving DecidableEq, Repr

/-- A segment handed to a tile with the template of its dispatch (R167, R54). -/
structure TileJob where
  seg : Segment
  ctx : Nat
  pc : Nat
  tmpl : DispTmpl
  deriving DecidableEq, Repr

/-- States of the repeated-read sequence (R66); a read in DRAIN is held apart in `TileEng.drains`. -/
inductive TilePhase where
  | idle | read | check
  deriving DecidableEq, Repr

/-- An accepted read whose last codes are being summed (state DRAIN of R66). -/
structure TileDrain where
  job : TileJob
  n : Nat
  hot : Bool
  flagged : Bool
  unchk : Bool
  refFail : Nat
  qsum : List Int
  clip : List Bool
  /-- Number of its last physical read, as TILE_RDCNT counted it (R70). -/
  last : Nat
  deriving DecidableEq, Repr

/-- The read engine of a tile: input buffers (oldest first; the first ones belong to `drains`), reads made and wanted,
the chosen sigma, the correction words in force at the start (R67), the sums and clips of the physical columns. -/
structure TileEng where
  bufs : List TileJob := []
  phase : TilePhase := .idle
  n : Nat := 0
  target : Nat := 0
  hot : Bool := false
  corr : List Word := []
  qsum : List Int := []
  clip : List Bool := []
  drains : List TileDrain := []
  /-- Number of the last physical read before the current flag window; whether it raised its event; consecutive windows
  with an event before it (R70, R71, R468). -/
  winStart : Nat := 0
  evInWin : Bool := false
  evRun : Nat := 0
  /-- The window before: its flags, event and run, for reads that end after it (R70). -/
  prevFlags : Nat := 0
  prevEv : Bool := false
  prevRun : Nat := 0
  /-- Unrepaired logical columns (R80). -/
  unrep : List Nat := []
  /-- Spares recorded as in unused spare (R79). -/
  unusedSpare : List Nat := []
  /-- Weight format: true T4I, false T4F (R26). -/
  fmt : Bool := false
  deriving DecidableEq, Repr

/-- Column sums and read status delivered to the group accumulator (R72). -/
structure Delivered where
  tile : Nat
  job : TileJob
  n : Nat
  flagged : Bool
  unchk : Bool
  clipb : List Nat
  unrep : Nat
  q : List Int
  deriving DecidableEq, Repr

/-- A tile estimate (R95): gain, offset, mean temperature in degrees Celsius. -/
structure Estimate where
  g : Rat
  o : Rat
  tw : Rat
  deriving DecidableEq, Repr

/-- Drift state of a tile (R94 to R106). Temperatures are in 1/4 degree Celsius. -/
structure DriftTile where
  reads : Nat := 0
  m : Nat := 0
  sx : Rat := 0
  sy : Rat := 0
  sxx : Rat := 0
  sxy : Rat := 0
  st : Rat := 0
  tn : Nat := 0
  colReads : Nat := 0
  est : Option Estimate := none
  last : Option Estimate := none
  qual : Bool := false
  age : Nat := 0
  tcommit : Int := 0
  tbuild : Int := 0
  clampAct : Bool := false
  clampShd : Bool := false
  built : Bool := false
  armed : Bool := false
  consumed : Bool := false
  evPending : Bool := false
  deriving DecidableEq, Repr

/-- A column window (R97, R98): count, sums, baseline variance, residual held for the next round. -/
structure ColWin where
  cnt : Nat := 0
  sq : Int := 0
  sqq : Int := 0
  v0 : Option Rat := none
  rho : Rat := 1
  deriving DecidableEq, Repr

/-- A tile record of the factory calibration record (R89); the default is a tile that passed with zero corrections. -/
structure CalTile where
  gc : Int := 0
  oc : Int := 0
  fpvar : Nat := 0
  tcg : Int := 0
  tco : Int := 0
  refMask : Nat := 0
  passed : Bool := true
  deriving DecidableEq, Repr

/-- A column exception entry of the factory calibration record (R89). -/
structure CalExc where
  gc : Int
  oc : Int
  fpvar : Nat
  deriving DecidableEq, Repr

/-- One shelf row: data, tag, poison bit (R118) and the condition of its check bits: 0 clean, 1 a single-bit error,
2 an uncorrectable error. -/
structure ShelfRow where
  data : Row := 0
  full : Bool := false
  poison : Bool := false
  ecc : Nat := 0
  deriving DecidableEq, Repr

/-- Tag kinds of a shelf access (R123); `plain` is the scheduled-mode access. -/
inductive TagKind where
  | fill | consume | peek
  deriving DecidableEq, Repr

/-- Client classes of the shelf (R116), numbered by their code bit. -/
inductive Cls where
  | acc | whl | msh | que | mov
  deriving DecidableEq, Repr

/-- The code bit of a class (R116). -/
def Cls.bit : Cls → Nat
  | .acc => 0 | .whl => 1 | .msh => 2 | .que => 3 | .mov => 4

/-- Wheel operations (R176). -/
inductive WheelOp where
  | mmnt | mmnn | merge | conv | func | add | mul | reduce | bscale
  deriving DecidableEq, Repr

/-- A wheel template (R178). -/
structure WheelTmpl where
  m : Nat
  kb : Nat
  nb : Nat
  fa : Nat
  fb : Nat
  fo : Nat
  layer : Nat
  rid : Nat
  col0 : Nat
  func : Nat
  deriving DecidableEq, Repr

/-- An operation that a unit of the core performs, with its operands. -/
inductive UnitJob where
  /-- R167: first tile, count, input row, whether each tile reads its own row, access, the templates. -/
  | dispatch (group tile count row : Nat) (istep : Bool) (kind : TagKind) (tmpls : List DispTmpl)
  /-- R174: source and destination row, count, access; no source for FILLZ. -/
  | move (src : Option Nat) (dst n : Nat) (kind : TagKind)
  /-- R176: operation, template, first rows of A, B and C, accesses of A and B. -/
  | wheel (op : WheelOp) (t : WheelTmpl) (a b c : Nat) (ac bc : TagKind)
  /-- R179: send entry word, first row, offset added to DROW, count, access. -/
  | send (dest : Nat) (reduce : Bool) (ste drow src n : Nat) (kind : TagKind)
  /-- R182: ENQ_S of a slot of a descriptor row. -/
  | enqRow (q row slot : Nat) (kind : TagKind)
  /-- R182, R135: a checked enqueue that waits for room in its queue. -/
  | enqWait (q src : Nat) (desc : List Nat)
  /-- R171: a delivered read that the accumulator writes. -/
  | accum (d : Delivered)
  deriving DecidableEq, Repr

/-- A unit's operation in progress: its context, bundle address, mode at issue, accesses made so far, and what was read. -/
structure UnitOp where
  ctx : Nat
  pc : Nat
  tagged : Bool
  job : UnitJob
  i : Nat
  held : List (Row × Bool)
  blocked : Option Nat
  deriving DecidableEq, Repr

/-- A bundle that has issued: its bits, registers as they stood, the slots not yet performed, the next address. -/
structure Issued where
  bundle : Nat
  a : List Nat
  left : Nat
  next : Nat
  deriving DecidableEq, Repr

/-- What a context waits for between bundles (R129, R140, R183 to R186). -/
inductive CtxWait where
  | none
  | counter
  | switch (mode : Bool) (fb nb ne : Nat)
  | barrier (id : Nat)
  | stepDrain
  | stepWait
  | drain (mask : Nat)
  | event (code : Nat)
  | halting
  | halted
  deriving DecidableEq, Repr

/-- The registers of a context that the program uses (R161) and its waiting state. -/
structure CtxState where
  a : List Nat := List.replicate 16 0
  l : List Nat := List.replicate 4 0
  wait : CtxWait := .none
  cur : Option Issued := none
  sent : Nat := 0
  deriving DecidableEq, Repr

/-- A descriptor in flight (R133, R136 to R139). `src` names it in a fault report (R190). -/
structure QDesc where
  write : Bool
  keep : Bool
  fence : Bool
  ctr : Nat
  first : Nat
  rows : Nat
  hstride : Nat
  region : Nat
  hoff : Nat
  ctx : Nat
  tagged : Bool
  src : Nat
  pc : Nat
  id : Nat := 0
  started : Bool := false
  done : List Nat := []
  sent : List Nat := []
  ended : Bool := false
  err : Bool := false
  deriving DecidableEq, Repr

/-- The key of a tile: core x 1024 + tile. -/
def tileKey (k t : Nat) : Nat := k * 1024 + t
/-- The key of a physical column of a tile. -/
def colKey (k t c : Nat) : Nat := tileKey k t * 2048 + c
/-- The key of the cell pair of a row and physical column of a tile. -/
def cellKey (k t c r : Nat) : Nat := colKey k t c * 1024 + r
/-- The key of a shelf row of a core. -/
def rowKey (k r : Nat) : Nat := k * 65536 + r
/-- The key of a context of a core. -/
def ctxKey (k n : Nat) : Nat := k * 4 + n

/-- What an unlisted cell pair holds: the reference pattern of R60 in a reference column, levels (0, 0) elsewhere.
A pair is l+ x 16 + l-. -/
def cellDefault (key : Nat) : Nat :=
  let r := key % 1024
  let c := key / 1024 % 2048
  if isRefPcol c then (refLevels (c / 64) r).1 * 16 + (refLevels (c / 64) r).2 else 0

/-- A party whose blocked access retries (R124): a unit of a core, a queue, a parked row or a slot of a context. -/
inductive Waiter where
  | unit (u : Fin 32)
  | queue (q : Fin 16)
  | parked (n : Fin 4) (i : Fin 16)
  | slot (n : Fin 4) (i : Fin 16)
  deriving DecidableEq, Repr

/-- The state of the 16 cores apart from their registers. -/
structure CoreBlk where
  /-- Read engines of the tiles, by `tileKey`. -/
  eng : SMap TileEng := []
  /-- Cell levels, by `cellKey` (R49 to R51). -/
  cells : SMap Nat := []
  /-- Column scale words, by `tileKey` x 1024 + logical column (R27). -/
  scales : SMap Word := []
  /-- Delivery queue of each tile group, by core x 16 + group (R74). -/
  groups : SMap (List Delivered) := []
  /-- Active correction words, by `colKey` (R88). -/
  act : SMap Word := []
  /-- Shadow correction words, by `colKey` (R88). -/
  shd : SMap Word := []
  drift : SMap DriftTile := []
  cols : SMap ColWin := []
  cal : SMap CalTile := []
  exc : SMap (Option CalExc) := []
  calInvalid : Bool := false
  /-- A mode for the rounds, kept while a build or commit of the old mode runs (R105), by core: 0 no build. -/
  dmode : SMap Nat := []
  shelf : SMap ShelfRow := []
  scrub : SMap Nat := []
  ctxs : SMap CtxState := []
  /-- Unit operations in progress, by core x 32 + unit. -/
  ops : SMap (Option UnitOp) := []
  /-- Units waiting on a row in the order in which they first blocked, by `rowKey`, with whether they wait to FILL
  (R124): 0 to 31 units of `ops`, 32 + q queues, 64 + n the local port for context n. -/
  waiters : SMap (List (Nat × Bool)) := []
  queues : SMap (List QDesc) := []
  /-- The descriptor that set ERR of a counter, as a fault report names it (R139, R190), by core x 64 + counter. -/
  errSrc : SMap Nat := []
  /-- Event queues of the cores (R183): context x 2^32 + PC x 2^16 + CODE. -/
  events : SMap (List Nat) := []
  /-- Check condition of 64-bit words of program memory (0 clean, 1 single-bit, 2 uncorrectable), by core x 32768 + bundle x 4 + word. -/
  pmEcc : SMap Nat := []
  deriving DecidableEq, Repr

end Sys2Proof.Machine
end

