-- ==== Sys2Proof/Machine/TypesMesh.lean ====
section
/-!
DEFINITION. The state of the routers, of local delivery and of the control network (06_mesh.md).
-/
namespace Sys2Proof.Machine

/-- A row on a mesh link with its sideband (R194). `vc`: 0 DATA, 1 REQ, 2 RSP. -/
structure MeshRow where
  data : Row
  poison : Bool
  dnode : Nat
  snode : Nat
  part : Nat
  vc : Nat
  reduce : Bool
  ste : Nat
  drow : Nat
  wt : Nat
  /-- Order of arrival at the router (R197). -/
  age : Nat := 0
  /-- Contexts (core x 4 + context) whose sends the row holds (R183 bit 3). -/
  srcs : List Nat := []
  deriving DecidableEq, Repr

/-- The share arbiter of R198, also used by the HBM controllers (R240) and the ports (R318). -/
structure Arbiter where
  frame : Nat := 0
  left : List Nat := List.replicate 64 0
  gnext : Nat := 0
  xnext : Nat := 0
  deriving DecidableEq, Repr

/-- A position in a route list (R200). -/
structure RoutePos where
  pos : Nat := 0
  rem : Nat := 0
  deriving DecidableEq, Repr

/-- A reduction slot (R207): table entry, row, the merged row, whether it holds a closed row. The list of a context's
slots is kept in order of last merge, oldest first. -/
structure RedSlot where
  entry : Nat
  drow : Nat
  row : P40
  poison : Bool
  closed : Bool
  /-- Source of the row merged last, for a fault report (R190). -/
  snode : Nat
  deriving DecidableEq, Repr

/-- Control message types that travel between nodes (R217). -/
inductive MsgType where
  | barArrive | barQuery | barCount | barRelease | stepDone | boundary | boundaryAck | stepStart | pstop | pstart
  | forceSched | discard | creditReclaim | tagReclaim | reclaimDone | fault | incomplete | event | sched | telem
  deriving DecidableEq, Repr

/-- The TYPE code of a message (R217). -/
def MsgType.code : MsgType → Nat
  | .barArrive => 1 | .barQuery => 2 | .barCount => 3 | .barRelease => 4 | .stepDone => 5 | .boundary => 6
  | .boundaryAck => 7 | .stepStart => 8 | .pstop => 9 | .pstart => 10 | .forceSched => 11 | .discard => 12
  | .creditReclaim => 13 | .tagReclaim => 14 | .reclaimDone => 15 | .fault => 16 | .incomplete => 17 | .event => 18
  | .sched => 19 | .telem => 20

/-- A control message on its way (R216). -/
structure Msg where
  type : MsgType
  snode : Nat
  dnode : Nat
  part : Nat
  arg : Nat
  deriving DecidableEq, Repr

/-- The barrier and step unit of a partition at the root hub (R220, R221): arrivals (core, identifier, count), the barrier
being queried and its count I, the replies of the round, cores that reported STEP_DONE, whether the boundary stands, its
acknowledgements, the engine's grant, the start tick reached (R331). -/
structure RootPart where
  arrived : List (Nat × Nat × Nat) := []
  query : Option (Nat × Nat) := none
  counts : List (Nat × Nat) := []
  stepDone : List Nat := []
  acks : List Nat := []
  boundary : Bool := false
  granted : Bool := false
  tickOk : Bool := false
  deriving DecidableEq, Repr

/-- Progress of a forced reclaim (R226): step 1 to 6 in progress (0 none), orders still to be answered (node, with the
context or attachment in units of 64), dead attachments as router x 8 + output, the status with which streams end after
it (0: they live on for the replay). -/
structure Reclaim where
  step : Nat := 0
  awaited : List Nat := []
  dead : List Nat := []
  endStatus : Nat := 0
  deriving DecidableEq, Repr

/-- The state of mesh and control network apart from their registers. -/
structure MeshBlk where
  /-- Input buffers, by router x 64 + input x 4 + virtual channel, oldest first (R194). -/
  inputs : SMap (List MeshRow) := []
  /-- Share arbiters of the router outputs, by router x 8 + output. -/
  arbs : SMap Arbiter := []
  /-- Route-list positions, by (router x 8 + output) x 64 + partition. -/
  pos : SMap RoutePos := []
  /-- Credits of a router output toward an attachment, by (router x 8 + output) x 4 + virtual channel (reset value 8). -/
  credits : SMap Nat := []
  /-- Delivery queue, parking store and reduction slots of a context, by `ctxKey` (R207, R212). -/
  deliv : SMap (List MeshRow) := []
  parked : SMap (List MeshRow) := []
  slots : SMap (List RedSlot) := []
  /-- Ejected weight since the last barrier, and the count last reported, by node x 64 + partition (R220). -/
  ejected : SMap Nat := []
  reported : SMap Nat := []
  /-- Rows that a context has sent and that are not yet written at their destination, by `ctxKey` (R183 bit 3). -/
  unwritten : SMap Nat := []
  /-- Receive buffer of the serving engine (R193). -/
  srvRx : List MeshRow := []
  /-- Arrivals at router inputs so far (R197). -/
  arrivals : Nat := 0
  /-- Control messages on their way. -/
  msgs : List Msg := []
  /-- Class-U and class-B messages held for firmware, and the overflow record (node, type) (R219). -/
  storeU : List Msg := []
  storeB : List Msg := []
  overflow : List (Nat × Nat) := []
  root : SMap RootPart := []
  reclaim : SMap Reclaim := []
  /-- Contexts (`ctxKey`) whose tile reads, delivered from FORCE_SCHED onward, are discarded (R226 step 1). -/
  dropSums : List Nat := []
  /-- Reports of halts held for firmware: core, context, PC of the HALT bundle (R186). -/
  halts : List (Nat × Nat × Nat) := []
  deriving DecidableEq, Repr

end Sys2Proof.Machine
end

