-- ==== Sys2Proof/Machine/TypesSrv.lean ====
section
/-!
DEFINITION. The state of the HBM controllers, of the tier movers and of the serving engine (07_hbm.md, 08_serving.md).
-/
namespace Sys2Proof.Machine

/-- Who made an HBM request: a descriptor's row, a copy of the host, a peer part. -/
inductive Requester where
  /-- Core, queue, descriptor identity, row of the descriptor, granule of the row. -/
  | desc (core queue id row gran : Nat)
  /-- Port, TAG of the peer's request, and the granule's place in it. -/
  | peer (port tag gran : Nat)
  /-- Virtual function, command identifier, granule of the copy. -/
  | copy (vf cid gran : Nat)
  deriving DecidableEq, Repr

/-- A request for one granule (R234, R238). `ok` is false when R238 refuses it. -/
structure HbmReq where
  by_ : Requester
  part : Nat
  g : Nat
  write : Bool
  data : Granule
  poison : Bool
  ok : Bool
  /-- Condition of the content that an accepted read returns, as `HbmBlk.cond` has it. -/
  cond : Nat := 0
  deriving DecidableEq, Repr

/-- An answer to a granule request on the RSP path: data, poisoned, refused (R238, R244, R245). -/
structure HbmResp where
  by_ : Requester
  write : Bool
  data : Granule
  poison : Bool
  refused : Bool
  deriving DecidableEq, Repr

/-- A tier move (R252). Steps made: 0 ordered, 1 the reads of an inward move from tier 1 requested, 3 written to the slot (outward),
4 read and checked (inward); 9 failed, to be ordered again at the next boundary. `tier` of an ordered outward move is the tier to
prefer (0 none), of one under way the tier it goes to. -/
structure Move where
  part : Nat
  stream : Nat
  block : Nat
  out : Bool
  tier : Nat
  chip : Nat
  slot : Nat
  step : Nat
  seq : Nat
  data : List Granule
  deriving DecidableEq, Repr

/-- A sealed block written to a tier-1 or tier-2 slot (R250): its trailer; the content is the block's plaintext under
the seal of R250. -/
structure Sealed where
  srcchip : Nat
  tenant : Nat
  ctx : Nat
  block : Nat
  gen : Nat
  seq : Nat
  tier : Nat
  chip : Nat
  slot : Nat
  data : List Granule
  deriving DecidableEq, Repr

/-- A register of the region table (entry, register 0 to 3 for HBM_RGNA to HBM_RGND) or of the handle map (partition, handle). -/
inductive RegionReg where
  | rgn (r : Fin 1024) (j : Fin 4)
  | hmap (p : PartNo) (h : Fin 64)
  deriving DecidableEq, Repr

/-- The identity fields of a sealed block's trailer (R250). -/
structure SealId where
  srcchip : Nat
  tenant : Nat
  ctx : Nat
  block : Nat
  gen : Nat
  seq : Nat
  deriving DecidableEq, Repr

/-- The state of the HBM controllers apart from their registers. -/
structure HbmBlk where
  /-- Content of every granule, by granule number (R234), as plaintext (R239). -/
  mem : SMap Granule := []
  /-- Condition of a granule: 0 clean, 1 a correctable error, 2 an uncorrectable error, 3 the poison code (R243 to R245). -/
  cond : SMap Nat := []
  /-- Requests issued and not accepted, oldest first. -/
  reqs : List HbmReq := []
  /-- Reads accepted and not returned, with the content they return; writes accepted and not acknowledged. -/
  reads : List HbmReq := []
  writes : List HbmReq := []
  resps : List HbmResp := []
  arbs : SMap Arbiter := []
  /-- Corrected errors in the current one-second window, and whether its event was made (R246), by controller. -/
  ceWin : SMap Nat := []
  ceEv : SMap Bool := []
  patrol : SMap Nat := []
  /-- DRAM rows recorded for repair (R244), as (DRAM row x 256 + pseudo-channel), for granule g (g / 8192) x 256 + g mod 256: the
  key modulo 8 is the stack. -/
  repair : List Nat := []
  /-- Handles (partition x 64 + handle) whose region entry changed after the map entry was written (R236). -/
  stale : List Nat := []
  moves : List Move := []
  sealed : List Sealed := []
  /-- MOVESEQ of R251. -/
  moveseq : Nat := 0
  /-- The next identity of a descriptor or request. -/
  nextId : Nat := 0
  /-- Late fetches: wheel operations (core x 32 + unit) now waiting on a spill row (R248). -/
  late : List Nat := []
  deriving DecidableEq, Repr

/-- Stream states (R260). -/
inductive StreamState where
  | free | queued | prompt | run | paused | parking | parked | resuming | ended
  deriving DecidableEq, Repr

/-- The STATE code of a stream (R260). -/
def StreamState.code : StreamState → Nat
  | .free => 0 | .queued => 1 | .prompt => 2 | .run => 3 | .paused => 4 | .parking => 5 | .parked => 6
  | .resuming => 7 | .ended => 8

/-- A stream context (R258). Token positions and lengths are counts; `former` is the state before a pause, `cancel` a
host cancel waiting for a boundary, `seq` the order of admission. -/
structure Stream where
  state : StreamState := .free
  prio : Nat := 0
  pcnt : Bool := false
  tenant : Nat := 0
  part : Nat := 0
  aslot : Nat := 0
  abank : Nat := 0
  status : Nat := 0
  agen : Nat := 0
  gen : Nat := 0
  seed : Nat := 0
  pos : Nat := 0
  plen : Nat := 0
  maxtok : Nat := 0
  tokdl : Nat := 0
  tlast : Nat := 0
  tpause : Nat := 0
  parkt : Nat := 0
  ttl : Nat := 0
  temp : Nat := 0
  topk : Nat := 0
  topp : Nat := 0
  rep : Nat := 0
  pres : Nat := 0
  freq : Nat := 0
  stops : List Nat := []
  rcoff : Nat := 0
  rcreg : Nat := 0
  rcexp : Nat := 0
  nblk : Nat := 0
  tiers : Nat := 0
  plocOff : Nat := 0
  plocReg : Nat := 0
  former : StreamState := .prompt
  cancel : Bool := false
  pinned : Bool := false
  /-- The reset of the virtual function ends the stream (R555). -/
  flr : Bool := false
  lastTok : Nat := 0
  seq : Nat := 0
  deriving DecidableEq, Repr

/-- A KV block table entry (R258): tier, location, lender's chip, MOVESEQ. -/
structure KvEnt where
  tier : Nat
  off : Nat
  chip : Nat
  seq : Nat
  deriving DecidableEq, Repr

/-- An entry of a step's plan (R265) with the blocks that the step allocates (physical offsets). -/
structure PlanEnt where
  ctx : Nat
  kind : Nat
  last : Bool
  pos : Nat
  token : Nat
  ntok : Nat
  adp : Nat
  blocks : List Nat
  deriving DecidableEq, Repr

/-- A token that the sampler chose for an entry of the plan; none when fewer than one logit remains (R276). -/
structure Sampled where
  entry : Nat
  token : Option Nat
  deriving DecidableEq, Repr

/-- Serving state of a partition (R264, R267 to R271, R289 to R291). `step` is the number of the last plan made;
`plan` is the plan of that step, the next one or the open one; `planned` once its rows are formed; `opened` from STEP_START to the commit or failure; `failed` when the open step has
failed; `replay` when the plan is that of a failed step. -/
structure PartSrv where
  step : Nat := 0
  plan : List PlanEnt := []
  planned : Bool := false
  opened : Bool := false
  failed : Bool := false
  replay : Bool := false
  role : Nat := 0
  up : Nat := 0
  sinceChange : Nat := 0
  missHist : List Nat := []
  /-- Plan rows still to be written: core, shelf row, data (R264, R265). -/
  rows : List (Nat × Nat × Row) := []
  samples : List Sampled := []
  /-- The sampler has read the logits of the open step. -/
  sampled : Bool := false
  /-- Plan rows received from the lead part for the next step (R331). -/
  got : Nat := 0
  seqNext : Nat := 0
  /-- A stop in progress (R387): 0 none, 1 until the boundary of the open step, 2 until the tier moves have ended. -/
  stopping : Nat := 0
  /-- From the start of a forced reclaim to the restart the step counts as open (R226). -/
  held : Bool := false
  deriving DecidableEq, Repr

/-- An adapter slot apart from its registers (R284 to R287): loads running, pin deadlines of the banks (0 none). -/
structure AdpSlot where
  loading : Bool := false
  src : Nat := 0
  dl0 : Nat := 0
  dl1 : Nat := 0
  deriving DecidableEq, Repr

/-- The state of the serving engine apart from its registers. -/
structure SrvBlk where
  streams : SMap Stream := []
  kv : SMap (Option KvEnt) := []
  parts : SMap PartSrv := []
  adps : SMap AdpSlot := []
  deriving DecidableEq, Repr

end Sys2Proof.Machine
end

