-- ==== Sys2Proof/Machine/TypesLnk.lean ====
section
/-!
DEFINITION. The state of the Extur ports, of the cross-part message unit, of the weight flash and of the loads
(09_links.md, 10_weights.md).
-/
namespace Sys2Proof.Machine

/-- Flit types (R304). -/
inductive FlitType where
  | idle | row | pwrite | pread | prdata | pack | xctl | nak
  deriving DecidableEq, Repr

/-- A cross-part message (R329). `xtype`: 1 XDONE, 2 XCOMMIT, 3 XGO, 4 XINC. -/
structure XMsg where
  xtype : Nat
  job : Nat
  origin : Nat
  step : Nat
  arg : Nat
  deriving DecidableEq, Repr

/-- The transport content of a flit (R303 to R305): header fields and body. -/
inductive FlitBody where
  | none
  | row (schip part : Nat) (reduce poison : Bool) (wt drow step : Nat) (data : Row)
  | mem (schip off ngran status tag : Nat) (data : List Granule)
  | xctl (schip : Nat) (msgs : List XMsg)
  deriving DecidableEq, Repr

/-- A flit as sent (R303): `credits` are the credits returned (DATA, REQ, RSP, XCTL). -/
structure Flit where
  type : FlitType
  seq : Nat
  ack : Nat
  ksw : Bool
  credits : List Nat
  body : FlitBody
  deriving DecidableEq, Repr

/-- A row that waits for transmission with the partition that owns it, or another waiting flit (R318). -/
structure TxItem where
  type : FlitType
  part : Nat
  wt : Nat
  body : FlitBody
  /-- The mesh row that waits: its header is formed at transmission (R305, R315). -/
  row : Option MeshRow := none
  deriving DecidableEq, Repr

/-- A peer memory request outstanding at a port: TAG, the move it serves, read or write (R323). -/
structure PeerReq where
  tag : Nat
  stream : Nat
  block : Nat
  write : Bool
  deriving DecidableEq, Repr

/-- A peer's request that this part is serving (R324): its answer is sent when every granule is served. -/
structure PeerSrv where
  tag : Nat
  write : Bool
  off : Nat
  ngran : Nat
  got : List (Nat × Granule × Bool)
  refused : Bool := false
  deriving DecidableEq, Repr

/-- Received weight of one binding for the current step, and whether the step was declared incomplete (R333). -/
structure BindSum where
  step : Nat := 0
  sum : Nat := 0
  declared : Bool := false
  deriving DecidableEq, Repr

/-- The link part of a received flit (R303), as a command gives it: SEQ, ACK, whether its CHECK passes, KSW, the credits it returns, and the
codewords of the flit that were corrected and that could not be (R294). -/
structure FlitLink where
  seq : BitVec 12
  ack : BitVec 12
  check : Bool
  ksw : Bool
  data : BitVec 8
  req : BitVec 8
  rsp : BitVec 8
  xctl : BitVec 8
  fecCe : Nat
  fecUe : Nat
  deriving DecidableEq, Repr

/-- A row of the lead's commit (R331): context, NTOK, sampled token. -/
structure CommitRow where
  ctx : StreamNo
  ntok : BitVec 16
  token : Option (BitVec 32)
  deriving DecidableEq, Repr

/-- A port apart from its registers (R298 to R314, R318). `replay`: the flits not acknowledged, the first with sequence number `oldest`;
`resend` the place in it of the next flit to send again; `repFrom` and `repRun` count replays from one SEQ. `credits` are held at the partner,
`giveBack` is owed to it (DATA, REQ, RSP, XCTL). `noPayload`: slots since the last flit without payload; `prdataRun`: PRDATA flits
in a row. `epoch` and `slots` form the nonce of each direction (R308). `sent` is the flit sent last. -/
structure Port where
  nextSeq : Nat := 0
  expSeq : Nat := 0
  replay : List Flit := []
  oldest : Nat := 0
  resend : Option Nat := none
  nakFor : Option Nat := none
  sendNak : Bool := false
  repFrom : Option Nat := none
  repRun : Nat := 0
  credits : List Nat := [512, 64, 256, 16]
  giveBack : List Nat := [0, 0, 0, 0]
  tx : List TxItem := []
  rxData : List MeshRow := []
  arb : Arbiter := {}
  noPayload : Nat := 127
  prdataRun : Nat := 0
  epoch : Nat := 0
  slots : Nat := 0
  rxEpoch : Nat := 0
  rxSlots : Nat := 0
  outstanding : List PeerReq := []
  serving : List PeerSrv := []
  partnerChip : Nat := 0
  sent : Option Flit := none
  deriving DecidableEq, Repr

/-- A partition's state across parts (R331): chips whose XDONE for the open step is in, whether XINC is, the start tick of the step, a start
tick awaited, what this part repeats until the step has passed. -/
structure XPart where
  dones : List Nat := []
  inc : Bool := false
  tS : Nat := 0
  nextTick : Option Nat := none
  repeats : List XMsg := []
  deriving DecidableEq, Repr

/-- The state of the links apart from their registers. -/
structure LnkBlk where
  ports : SMap Port := []
  binds : SMap BindSum := []
  seen : List XMsg := []
  /-- Cross-part messages delivered to the serving engine and not yet taken (R330). -/
  inbox : List XMsg := []
  /-- The step clock has been loaded (R326). -/
  scLoaded : Bool := false
  xparts : SMap XPart := []
  deriving DecidableEq, Repr

/-- A tile chunk of a weight image (R345, R346). `readable`, `crcOk` and `pathOk` tell how its read ends (R359). -/
structure WTile where
  lcore : Nat
  lgroup : Nat
  tile : Nat
  fmt : Bool
  stepExp : Nat
  hdrOk : Bool
  readable : Bool
  crcOk : Bool
  pathOk : Bool
  scales : List Nat
  codes : List Nat
  deriving DecidableEq, Repr

/-- A spill entry of a weight image with its content (R347). -/
structure WSpill where
  lregion : Nat
  roff : Nat
  readable : Bool
  crcOk : Bool
  content : List Granule
  deriving DecidableEq, Repr

/-- A weight image in a slot of the flash (R344). `hdrOk`: MAGIC, HDR_BYTES, HDR_CRC, reserved fields, offsets and
lengths check (step 2 of R350); `tabOk`: TAB_CRC and the table fields check. -/
structure WImage where
  hdrOk : Bool
  major : Nat
  target : Nat
  enc : Bool
  imageId : Nat
  modelKey : Nat
  tabOk : Bool
  tiles : List WTile
  spills : List WSpill
  deriving DecidableEq, Repr

/-- The journal's partition record (R358). PLACE: one entry per logical core (core, context). -/
structure JPart where
  state : Nat := 0
  slot : Nat := 0
  imageId : Nat := 0
  serial : Nat := 0
  place : List (Option (Nat × Nat)) := []
  gmask : List Nat := []
  deriving DecidableEq, Repr

/-- A signed file that firmware is handed to load (R151, R214): its bytes, with the section contents as they are after decryption, and
Psikuster's verdict on the arithmetic of its signature (R158 step 4). -/
structure SignedFile where
  bytes : List Nat
  sigOk : Bool
  deriving DecidableEq, Repr

/-- How a load of a firing image or of a route set ends (R158, R215). -/
inductive ImageEnd where
  | loaded | invalidImage | unsupportedVersion | wrongTarget | signatureInvalid | sectionCrc | weightMismatch
  | exceedsAllocation | bufferOutsideRows | relocation | routeSetMismatch | writeRefused | notStopped
  deriving DecidableEq, Repr
/-- The number that the state holds for an end; 0 is no load yet. -/
def ImageEnd.code : ImageEnd → Nat
  | .loaded => 1 | .invalidImage => 2 | .unsupportedVersion => 3 | .wrongTarget => 4 | .signatureInvalid => 5 | .sectionCrc => 6
  | .weightMismatch => 7 | .exceedsAllocation => 8 | .bufferOutsideRows => 9 | .relocation => 10 | .routeSetMismatch => 11
  | .writeRefused => 12 | .notStopped => 13

/-- A tile record of the flash (R352). -/
structure TileRec where
  imageId : Nat
  tile : Nat
  degraded : Bool
  fmt : Bool
  unrep : Nat
  sparesUsed : Nat
  ok : Bool
  spares : List Nat
  unrepCols : List Nat
  deriving DecidableEq, Repr

/-- A record of the stuck-cell map (R84). -/
structure StuckRec where
  tile : Nat
  row : Nat
  pcol : Nat
  lcol : Nat
  cell : Nat
  level : Nat
  target : Int
  action : Nat
  spare : Nat
  deriving DecidableEq, Repr

/-- A load in progress (R350): image, slot, resume, tiles still to program, clear or restore (tile keys), spill entries
still to write, first failure reason; rows programmed so far of a tile are in `WtsBlk.bursts`. -/
structure LoadRun where
  part : Nat
  slot : Nat
  image : WImage
  place : List (Option (Nat × Nat))
  gmask : List Nat
  program : List (Nat × WTile)
  clear : List Nat
  restore : List (Nat × WTile)
  spills : List WSpill
  reason : Nat
  deriving DecidableEq, Repr

/-- A cell that fails verify within the pulse limit (R77): its pair, whether it is G-, and the level at which it is stuck; none off-level. -/
structure FoundCell where
  row : Fin 1024
  pcol : Fin 1104
  minus : Bool
  level : Option (Fin 16)
  deriving DecidableEq, Repr

/-- What the flash controller reports of a read (R364): codewords corrected, codewords uncorrectable, read-retry attempts. -/
structure FlashRead where
  ce : Nat
  ue : Nat
  retries : Nat
  deriving DecidableEq, Repr

/-- A tile in the hands of its program engine (R353): rows programmed, held by the window, cells found stuck, spares in use (R78), spares
found with a stuck cell (R79), columns unrepaired (R80). -/
structure Burst where
  next : Nat := 0
  held : Bool := false
  known : List FoundCell := []
  spareMap : List (Option Nat) := List.replicate 64 none
  unused : List Nat := []
  unrep : List Nat := []
  deriving DecidableEq, Repr

/-- The state of the weight flash and of the loads apart from their registers. -/
structure WtsBlk where
  /-- Whether each copy of the flash directory checks (R343). -/
  dir0 : Bool := false
  dir1 : Bool := false
  /-- Whether the directory has a stuck-cell map area (R84). -/
  mapArea : Bool := false
  /-- Lengths in bytes of slot 0, slot 1 and the test area (R343). -/
  lens : List Nat := [0, 0, 0]
  slot0 : Option WImage := none
  slot1 : Option WImage := none
  /-- Replacement pool of the flash controller, in blocks (R342). -/
  pool : Nat := 0
  recs : SMap (Option TileRec) := []
  stuck : List StuckRec := []
  stuckTotal : Nat := 0
  jparts : SMap JPart := []
  /-- Journal state of a tile (R358), by `tileKey`: JSTATE + 4 x PART. -/
  jtiles : SMap Nat := []
  /-- The tile entries that have reached the record store (R358). -/
  jstore : SMap Nat := []
  loads : List LoadRun := []
  bursts : SMap Burst := []
  /-- IMAGE_ID last loaded (R84). -/
  lastImage : Nat := 0
  /-- What the signature blocks of a partition's loaded firing images and route sets identify (R499): number of such loads. -/
  loadedSigs : SMap Nat := []
  /-- How the last load of a firing image, and of a route set, of a partition ended (R158, R215): `ImageEnd.code`. -/
  imageEnds : SMap Nat := []
  routeEnds : SMap Nat := []
  deriving DecidableEq, Repr

end Sys2Proof.Machine
end

