-- ==== Sys2Proof/Machine/TypesLog.lean ====
section
/-!
DEFINITION. The state of the log, of Psikuster, of the management controller (time base, meters, board I/O, MCTP) and
of the host interface (15_faults.md, 16_security.md, 17_management.md, 18_host.md).
-/
namespace Sys2Proof.Machine

/-- A sherd (R475) without VERSION and CRC. `unit` holds kind x 2^28 + index; `detail` the named 4-byte words of DETAIL
with their byte offsets. -/
structure Sherd where
  sev : Nat
  flags : Nat := 0
  code : Nat
  part : Nat := 255
  unit : Nat := 0
  boot : Nat := 0
  seq : Nat := 0
  secs : Nat := 0
  nanos : Nat := 0
  tenant : Nat := 0xFFFF
  count : Nat := 1
  step : Nat := 0
  detail : List (Nat × Nat) := []
  deriving DecidableEq, Repr

/-- The suppressed-events sherd in its holding slot (R478): count, highest SEV, first and last seconds. -/
structure Suppressed where
  seq : Nat
  count : Nat
  sev : Nat
  first : Nat
  last : Nat
  deriving DecidableEq, Repr

/-- Occurrences of an advisory code and unit in the current second, beyond its record (R467). -/
structure Advisory where
  code : Nat
  unit : Nat
  second : Nat
  more : Nat
  deriving DecidableEq, Repr

/-- How a write or a read of the record store ends (R480). -/
inductive StoreResult where
  | written
  | verifyFailed
  | uncorrectable (addr : Nat)
  deriving DecidableEq, Repr

/-- Control paths with parity (R465, R468): the sequencer, dispatch and queue paths of a core, a group accumulator, a
router island, a control-network hub. -/
inductive ParityUnit where
  | core (k : CoreNo) (group : Nat)
  | accumulator (k : CoreNo) (g : GroupNo)
  | router (k : CoreNo)
  | hub (n : Nat)
  deriving DecidableEq, Repr

/-- A set entry of the structural test content (R472). -/
structure TestSet where
  kind : Nat
  sig : Nat
  crcOk : Bool
  deriving DecidableEq, Repr

/-- The TYPE 3 area of the weight flash (R472): whether the header and the table check, and the sets. -/
structure TestContent where
  hdrOk : Bool
  tabOk : Bool
  sets : List TestSet
  deriving DecidableEq, Repr

/-- The state of the log, of the fences kept in the record store and of the structural test. -/
structure LogBlk where
  /-- Staging queue, oldest first (R478). -/
  queue : List Sherd := []
  hold : Option Suppressed := none
  /-- Sherds whose export has been made, oldest first, with the transports used: bit 0 Ethernet, bit 1 I3C (R477). -/
  exported : List (Sherd × Nat) := []
  ring : SMap (Option Sherd) := []
  ringNext : Nat := 0
  resv : SMap (Option Sherd) := []
  resvNext : Nat := 0
  /-- Erased entries ahead in the reserved log sector, and whether an erase runs (R481). -/
  resvErased : Nat := 2048
  erasing : Bool := false
  resvLast : Nat := 0
  advis : List Advisory := []
  /-- Fence causes (R470, R476): tiles by `tileKey`, groups by core x 16 + group, cores; 0 not fenced. -/
  fenceT : SMap Nat := []
  fenceG : SMap Nat := []
  fenceC : SMap Nat := []
  /-- Write failures at one record-store address (R480): address and count. -/
  failAt : Option (Nat × Nat) := none
  test : Option TestContent := none
  /-- The test in progress: cores still to test, cores of the round, bring-up test or not (R473, R474). -/
  testLeft : List Nat := []
  testRound : List Nat := []
  testBoot : Bool := false
  deriving DecidableEq, Repr

/-- A tenant that a valid KIND 1 entry registers (R494). -/
structure Tenant where
  id : Nat
  pmask : Nat
  deriving DecidableEq, Repr

/-- An entry of the TENANT configuration record (R494). `unwrapOk`: its unwrap succeeds under the key it names;
`resOk`: its reserved bytes are 0. -/
structure TenEnt where
  kind : Nat
  tenant : Nat
  id : Nat
  pmask : Nat
  unwrapOk : Bool
  resOk : Bool
  deriving DecidableEq, Repr

/-- The state of Psikuster apart from its registers (R486 to R507). Key material is not visible (R487); the state holds
which keys exist. -/
structure SecBlk where
  fwk : Bool := false
  tenants : List Tenant := []
  /-- Model keys: MODEL_KEY and tenant. -/
  models : List (Nat × Nat) := []
  /-- Signing keys: KEY_ID and tenant (0xFFFF the operator). -/
  signers : List (Nat × Nat) := []
  /-- Job link keys held: JOB and the identity of the key. -/
  links : List (Nat × Nat) := []
  /-- Engines that passed their known-answer test since the last bring-up or Deep exit: 0 to 7 HBM controllers, 8 flash
  controller, 16 to 31 port engines. -/
  engines : List Nat := []
  /-- A zeroisation that has not completed. -/
  zeroising : Bool := false
  /-- A challenge nonce that is valid (R503), by its number. -/
  nonce : Option Nat := none
  nonces : Nat := 0
  /-- Revocation fuses blown, one bit for each configuration key (R497). -/
  revoked : Nat := 0
  /-- Minimum SVN kept in the record store (R497). -/
  minSvn : Nat := 0
  deriving DecidableEq, Repr

/-- The two management transports (R513). -/
inductive Channel where
  | eth | i3c
  deriving DecidableEq, Repr

/-- An event for an event receiver (R515). -/
inductive MgmtEvent where
  /-- A sherd export, a PlatformEventMessage of the CPER class. -/
  | cper (seq : Nat)
  /-- A sensor event: kind and number of the sensor, its new state. -/
  | sensor (kind index state : Nat)
  deriving DecidableEq, Repr

/-- What a management datagram asks for, as far as R385 and R455 tell requests apart. -/
inductive DgKind where
  | request | configUpdate | restart
  deriving DecidableEq, Repr

/-- A frame on the management Ethernet that holds a UDP payload (R508, R509). -/
structure Datagram where
  port : Nat
  frameLen : Nat
  magic : Nat
  version : Nat
  mtype : Nat
  seq : Nat
  bodyLen : Nat
  kind : DgKind
  deriving DecidableEq, Repr

/-- Numeric sensors (R514). -/
inductive Sensor where
  | diode (i : Nat) | rail (i : Nat) | packagePower | arrayPower | board | stack (m : Nat)
  deriving DecidableEq, Repr

/-- State sensors (R514). -/
inductive StateSensor where
  | indicator (n : Nat) | rackStop | gpi (i : Nat)
  deriving DecidableEq, Repr

/-- The answer of a polled PMBus device (R518). -/
structure PmbusReading where
  addr : Nat
  vout : Nat
  iout : Nat
  temp : Nat
  status : Nat
  deriving DecidableEq, Repr

/-- Who asks for a restart (R366, R385). -/
inductive RestartVia where
  | register (v : BitVec 16)
  | management (chan : Channel) (session : Option Nat)
  deriving DecidableEq, Repr

/-- The completion of a management request as a response carries it. -/
inductive Completion where
  | success | unauthorised | notReady | unsupported | invalid | refused
  deriving DecidableEq, Repr

/-- A message that the part sends: request name, completion, data words. -/
structure Reply where
  chan : Channel
  seq : Nat := 0
  name : String
  code : Completion
  data : List Nat := []
  deriving DecidableEq, Repr

/-- An SPDM session (R517). -/
structure Session where
  id : Nat
  chan : Channel
  authed : Bool
  operator : Bool
  finished : Bool
  keyEpoch : Nat := 0
  deriving DecidableEq, Repr

/-- An SPDM connection of a transport before a session: how far negotiation has come (1 version, 2 capabilities,
3 algorithms). -/
structure SpdmConn where
  stage : Nat := 0
  deriving DecidableEq, Repr

/-- The firmware update in progress (R516): component identifier, bytes received, total; stage 1 requested, 2 component
table passed, 3 transferring, 4 transferred, 5 verified, 6 verify failed. -/
structure Update where
  chan : Channel
  stage : Nat
  comp : Nat := 0
  size : Nat := 0
  got : Nat := 0
  deriving DecidableEq, Repr

/-- A device of the PMBus (R518, R519). -/
structure PmbusDev where
  addr : Nat
  vout : Nat := 0
  iout : Nat := 0
  temp : Nat := 0
  status : Nat := 0
  missed : Nat := 0
  absent : Bool := false
  iocLimit : Nat := 0
  deriving DecidableEq, Repr

/-- A meter set (R524); `rem` is the energy below 1 mJ in pJ. -/
structure Meter where
  tokin : Nat := 0
  tokout : Nat := 0
  tread : Nat := 0
  wops : Nat := 0
  hbmb : Nat := 0
  energy : Nat := 0
  rem : Nat := 0
  deriving DecidableEq, Repr

/-- Usage of a partition since its last split (R525): tile reads, wheel block steps, granules. -/
structure Usage where
  tread : Nat := 0
  wops : Nat := 0
  gran : Nat := 0
  deriving DecidableEq, Repr

/-- A history record (R528) without its CRC. -/
structure HistRec where
  kind : Nat
  flags : Nat
  id : Nat
  seq : Nat
  start : Nat
  stop : Nat
  counts : List Nat
  deriving DecidableEq, Repr

/-- A generic input (R533): accepted level frozen. -/
structure Gpi where
  frozen : Bool := false
  deriving DecidableEq, Repr

/-- The state of the management controller apart from its registers. -/
structure MgmtBlk where
  /-- Restarting after a firmware watchdog expiry (R466). -/
  restarting : Bool := false
  eidEth : Nat := 0
  eidI3c : Nat := 0
  /-- I3C dynamic address, 0 none (R512). -/
  dynAddr : Nat := 0
  tid : Nat := 0
  rcvEth : Bool := false
  rcvI3c : Bool := false
  evEth : List MgmtEvent := []
  evI3c : List MgmtEvent := []
  /-- SEQ of the requests in work on the management Ethernet (R509), oldest first. -/
  ethReqs : List Nat := []
  /-- Messages that the part has sent, newest last. -/
  sent : List Reply := []
  connEth : SpdmConn := {}
  connI3c : SpdmConn := {}
  sessions : List Session := []
  nextSession : Nat := 1
  /-- In-band interrupts raised on I3C (R512). -/
  ibi : Nat := 0
  update : Option Update := none
  /-- Components whose last write failed its verify (R516). -/
  badComps : List Nat := []
  pmbus : List PmbusDev := []
  /-- Time base (R520): seconds and nanoseconds, the SET that waits, the value last persisted. -/
  secs : Nat := 0
  nanos : Nat := 0
  /-- Place in the five-cycle pattern of nanosecond steps (R520). -/
  tphase : Nat := 0
  setTo : Option Nat := none
  persisted : Nat := 0
  /-- Open billing period (R526). -/
  pstart : Nat := 0
  pend : Nat := 3600
  unsync : Bool := true
  loss : Bool := false
  meters : SMap Meter := []
  usage : SMap Usage := []
  /-- Meters as last persisted (R524). -/
  stored : SMap Meter := []
  snap : List Nat := []
  hist : SMap (Option HistRec) := []
  histNext : Nat := 0
  /-- Last diagnosis of each indicator: 0 none, 1 good, 2 open (R530). -/
  diag : List Nat := [0, 0, 0, 0]
  /-- The channel that changed first in a rack-stop disagreement (R531): 0 A, 1 B. -/
  rsFirst : Nat := 0
  gpi : List Gpi := List.replicate 8 {}
  deriving DecidableEq, Repr

/-- A submission entry (R543) as fetched: OP, FENCE, CID, whether reserved bytes are 0, and the operand fields. -/
structure SqEntry where
  op : Nat
  fence : Bool := false
  cid : Nat := 0
  resOk : Bool := true
  addr : Nat := 0
  ctx : Nat := 0
  gen : Nat := 0
  off : Nat := 0
  len : Nat := 0
  handle : Nat := 0
  deriving DecidableEq, Repr

/-- A configuration request of the host (R369): one that sets SR-IOV VF Enable, or any other. -/
inductive CfgReq where
  | vfEnable (on : Bool) | other
  deriving DecidableEq, Repr

/-- A completion entry (R545). -/
structure CqEntry where
  kind : Nat
  phase : Bool
  status : Nat
  cid : Nat
  gen : Nat := 0
  value : Nat := 0
  pos : Nat := 0
  deriving DecidableEq, Repr

/-- A command of a VF in flight (R544); a copy counts its granules done and its worst status. -/
structure VfCmd where
  entry : SqEntry
  started : Bool := false
  left : Nat := 0
  status : Nat := 0
  deriving DecidableEq, Repr

/-- A range of tier-2 slots (R553). -/
structure T2Range where
  index : Nat
  base : Nat
  slots : Nat
  used : List Nat := []
  deriving DecidableEq, Repr

/-- The rings of a VF apart from its registers (R547 to R551). -/
structure Vf where
  sqHead : Nat := 0
  cqTail : Nat := 0
  cqHead : Nat := 0
  phase : Bool := true
  /-- Entries written into the completion ring, oldest first, not yet passed by the head. -/
  cq : List CqEntry := []
  cmds : List VfCmd := []
  fetchOff : Bool := false
  /-- Stream-end entries reserved (contexts), token entries reserved. -/
  ends : List Nat := []
  toks : Nat := 0
  sinceIrq : Nat := 0
  ranges : List T2Range := []
  /-- MSI-X vectors: masked and pending bits. -/
  mask : Nat := 3
  pba : Nat := 0
  /-- Address and data words of the MSI-X table, by word. -/
  table : SMap Word := []
  /-- Messages sent on vectors 0 and 1. -/
  irqs : List Nat := []
  deriving DecidableEq, Repr

/-- The state of the host interface apart from its registers. -/
structure HostBlk where
  vfs : SMap Vf := []
  pfMask : Nat := 255
  pfPba : Nat := 0
  /-- Address and data words of the PF's MSI-X table, by word. -/
  pfTable : SMap Word := []
  /-- What the last read of a register by COUNTER_LOW_READ returned. -/
  readData : Nat := 0
  pfIrqs : List Nat := []
  vfEnable : Bool := false
  /-- ERR_NONFATAL messages sent (R557); Completer Aborts logged in AER (R538). -/
  errNonfatal : Nat := 0
  aerCa : Nat := 0
  /-- Poisoned and clean data written to the host by copies: VF, host address, data, poisoned. -/
  dmaOut : List (Nat × Nat × Granule × Bool) := []
  /-- Configuration requests answered while not ready, with Request Retry Status (R369). -/
  crs : Nat := 0
  deriving DecidableEq, Repr

end Sys2Proof.Machine
end

