-- ==== Sys2Proof/Machine/TypesSys.lean ====
section
/-!
DEFINITION. The state of bring-up and configuration, clocks, power states and hold-up, converters and thermal protection
(11_startup.md, 12_clocks.md, 13_power.md, 14_thermal_metrology.md).
-/
namespace Sys2Proof.Machine

/-- A PMBus entry of a configuration record (R382). -/
structure PmbusEnt where
  addr : Nat
  cmd : Nat
  kind : Nat
  data : Nat
  aux : Nat
  deriving DecidableEq, Repr

/-- A boot action (R383): 0 NONE, 1 RESTORE, 2 RESUME, 3 LOAD from slot 0, 4 LOAD from slot 1. -/
structure BootAct where
  part : Nat
  action : Nat
  start : Bool
  deriving DecidableEq, Repr

/-- The body of a configuration record (R380). -/
inductive RecBody where
  | firmware
  | ident (chip : Nat) (lock : Bool)
  | pmbus (ents : List PmbusEnt)
  /-- Register writes (R381): offset and value. -/
  | writes (ws : List (Nat × Nat))
  | tenant (dbgLock : Bool) (ents : List TenEnt)
  | test (cores : Nat) (failPart : Bool) (tmax : Nat)
  | bootact (acts : List BootAct)
  | opens (portEn : Nat)
  | other
  deriving DecidableEq, Repr

/-- A record of the configuration image (R380). -/
structure CfgRec where
  type : Nat
  crit : Bool
  body : RecBody
  deriving DecidableEq, Repr

/-- A configuration image (R378). `shape`: the checks of step 1 of R379 pass; `sigOk`: its signature verifies under the key
it names. -/
structure CfgImage where
  shape : Bool
  major : Nat
  target : Nat
  serial : Nat
  keyId : Nat
  sigOk : Bool
  configId : Nat
  svn : Nat
  recs : List CfgRec
  deriving DecidableEq, Repr

/-- A register as its bus address gives it: a word of the PF's control space (R539), or of the window of a VF (R542). -/
inductive RegAddr where
  | pf (word : Fin 0x1000000)
  | vf (p : PartNo) (word : Fin 0x40000)
  deriving DecidableEq, Repr
/-- The offset of a register (log entry 4). -/
def RegAddr.off : RegAddr → Nat
  | .pf w => 4 * w.val
  | .vf p w => 0x10000000 + p.val * 0x100000 + 4 * w.val

/-- The content of an updated component (R516) once its last data has arrived. -/
inductive FwContent where
  | config (img : CfgImage)
  | slot (img : WImage)
  | test (c : TestContent)
  deriving DecidableEq, Repr

/-- The flash devices as a board carries them, and the factory calibration record, when power first rises on them (log
entry 28): configuration copies; whether each directory copy checks, whether it has a stuck-cell map area, and the lengths in
bytes of slot 0, slot 1 and the test area (R343); slot contents; test content; calibration record. -/
structure Board where
  copy0 : Option CfgImage := none
  copy1 : Option CfgImage := none
  dir0 : Bool := true
  dir1 : Bool := true
  mapArea : Bool := true
  lens : List Nat := [0, 0, 0]
  slot0 : Option WImage := none
  slot1 : Option WImage := none
  test : Option TestContent := none
  calOk : Bool := true
  cal : List (Nat × CalTile) := []
  exc : List (Nat × CalExc) := []
  deriving DecidableEq, Repr

/-- The state of bring-up apart from its registers. -/
structure BootBlk where
  pwrgood : Bool := false
  /-- PWRGOOD has risen while banking still ran (R569). -/
  rise : Bool := false
  /-- Slow inputs taken as asserted: bit 0 PWRFAIL, 1 WAKE, 2 RACKSTOP_A, 3 RACKSTOP_B (R374). -/
  slow : Nat := 0
  /-- Strap pins that wait for their second reading (R373). -/
  recheck : Nat := 0
  /-- Straps and slow inputs have been sampled in this bring-up (R373). -/
  sampled : Bool := false
  selfOk : Bool := false
  copy0 : Option CfgImage := none
  copy1 : Option CfgImage := none
  /-- Copies read in this bring-up: 0, 1 or 2. -/
  tried : Nat := 0
  image : Option CfgImage := none
  /-- The next order of R380 to apply, 1 to 15. -/
  order : Nat := 1
  /-- PMBus entries still to be sent: record index, entry index, entry; of the first one, attempts that were not acknowledged and
  comparisons that failed (R382). -/
  pmbus : List (Nat × Nat × PmbusEnt) := []
  tries : Nat := 0
  fails : Nat := 0
  test : Option (Nat × Bool × Nat) := none
  acts : List BootAct := []
  /-- The boot actions have been ordered (R383). -/
  acted : Bool := false
  portEn : Nat := 0
  /-- Bring-up number (R475). -/
  bootNo : Nat := 0
  /-- Bring-up follows Off, Deep or a restart. -/
  warm : Bool := false
  /-- The service indicator: 0 as configured, 1 at 1 Hz, 2 on steadily (R369, R471). -/
  service : Nat := 0
  deriving DecidableEq, Repr

/-- Steps of the voltage-frequency sequencer (R397): `count` waits for the ring-oscillator counts of R448, `confirm` for the
readback of a lowered voltage, `write` to `slew` make a raise, `slewDown` and `lowerWrite` a lowering. -/
inductive SeqStage where
  | idle | count | confirm | write | readback | settle | slew | slewDown | lowerWrite
  deriving DecidableEq, Repr

/-- A quadrant: point of its frequency (0 with all cores in Idle), point it moves to, whether the readback has confirmed its
voltage, write tries, cores still to count (R448), boost running, resting (R399), ceilings of the power governor, of the
boost limit, of the regulator and of R448 (5 none), and for each source (PKG, POWER, THERM, BOOST, REG) the ceiling by
which it holds the quadrant now (6 not at all). -/
structure Quad where
  freq : Nat := 4
  target : Nat := 4
  confirmed : Bool := true
  stage : SeqStage := .idle
  tries : Nat := 0
  counting : List Nat := []
  boosting : Bool := false
  resting : Bool := false
  powCeil : Nat := 5
  boostCeil : Nat := 5
  regCeil : Nat := 5
  hotCeil : Nat := 5
  heldAt : List Nat := [6, 6, 6, 6, 6]
  deriving DecidableEq, Repr

/-- The state of the clocks apart from their registers. -/
structure ClkBlk where
  crystal : Bool := false
  xpll : Bool := false
  rack : Bool := false
  /-- A switch of SREF in progress: target source (0 rack reference, 1 XREF), whether a loss caused it (R402). -/
  switch : Option (Nat × Bool) := none
  windows : Nat := 0
  bypass : Nat := 0
  gated : Nat := 0
  quads : List Quad := List.replicate 4 {}
  /-- Second of the last clamp event of each source (R400); none made. -/
  clampEv : List (Option Nat) := List.replicate 5 none
  /-- Clamp events raised toward the management controller: source. -/
  events : List Nat := []
  deriving DecidableEq, Repr

/-- What a page of the hold-up save area holds (R433); an item stands in the page in which its last byte falls. -/
inductive SaveBody where
  | counters (moveseq logseq secs : Nat)
  | journal (ents : List (Nat × Nat))
  | faults (ds : List Sherd)
  /-- Meter sets with the values to which their deltas lead. -/
  | meters (ms : List (Nat × Meter))
  /-- SEQ of the newest entries of the log. -/
  | tail (seqs : List Nat)
  | header (count boot holdStat : Nat)
  /-- A disarm note (R431) with its reason. -/
  | note (reason : Nat)
  deriving DecidableEq, Repr

/-- A page of the hold-up save area (R433): banking sequence number, content, whether its CRC checks. -/
structure SavePage where
  seq : Nat
  body : SaveBody
  crcOk : Bool := true
  deriving DecidableEq, Repr

/-- The state of power management and hold-up apart from its registers. -/
structure PwrBlk where
  /-- Cores in Idle, and idle cores whose bias is applied (R411, R419). -/
  idle : Nat := 0
  bias : Nat := 0
  /-- The state being entered: 2 Sleep, 3 Deep, 4 Off; 0 none; entry steps done (R415). -/
  entering : Nat := 0
  entryStep : Nat := 0
  off : Bool := false
  /-- HBM stacks in self-refresh. -/
  selfRefresh : Bool := false
  saved : SMap Word := []
  /-- Time in 100 us that the average has been at or below CAP - MARGIN (R428). -/
  belowCap : Nat := 0
  /-- Read credits of each core, the shared pool, credits used in the interval (R429). -/
  credits : SMap Nat := []
  pool : Nat := 0
  used : Nat := 0
  /-- Charger at regulation; last full charge met TMIN (R431). -/
  regulated : Bool := false
  chargeOk : Bool := false
  erased0 : Bool := true
  erased1 : Bool := true
  half : Nat := 0
  notes : Nat := 0
  save0 : List SavePage := []
  save1 : List SavePage := []
  bankSeq : Nat := 0
  /-- A sag has been acted on; pages still to be written (R432); the part waits for power (R434). -/
  sag : Bool := false
  banking : List SavePage := []
  dead : Bool := false
  /-- The state before the loss was Deep or Off. -/
  rested : Bool := false
  /-- The next bring-up follows a session of this part (R435 result 0 otherwise). -/
  session : Bool := false
  deriving DecidableEq, Repr

/-- A shutdown record (R457). -/
structure ShutRec where
  seq : Nat
  secs : Nat
  nanos : Nat
  boot : Nat
  diode : Nat
  read1 : Int
  read2 : Int
  t3 : Nat
  diodes : List Int
  opstat : Nat
  pmeas : Nat
  board : Int
  prun : Nat
  deriving DecidableEq, Repr

/-- The state of the converters and of thermal protection apart from their registers. Diode results are in 2^-10 degree
Celsius, ring-oscillator readings in 1/4 degree Celsius. -/
structure ThmBlk where
  diodes : List (Option Int) := List.replicate 20 none
  /-- The previous valid result of a diode when it was above T3. -/
  above : List (Option Int) := List.replicate 20 none
  /-- Latest valid results of inputs 20 to 39. -/
  rails : SMap Int := []
  /-- Per converter: the conversion in progress started with REFRDY = 1. -/
  startRdy : Nat := 0
  /-- Per converter: an urgent conversion runs; it started with REFRDY = 1. -/
  urg : Nat := 0
  urgRdy : Nat := 0
  ro : SMap Int := []
  /-- Ring-oscillator counts that wait for the end of a slew (R447). -/
  roWait : List Nat := []
  /-- Shutdown step in progress (R454): 0 none, 4 record, 5 save set, 6 shut down. -/
  step : Nat := 0
  staged : Option ShutRec := none
  area : List ShutRec := []
  erasedPages : Nat := 2048
  nextSeq : Nat := 1
  reported : Nat := 0
  noRec : Bool := false
  /-- THERMTRIP_N driven low. -/
  tripPin : Bool := false
  deriving DecidableEq, Repr

end Sys2Proof.Machine
end

