-- ==== Sys2Proof/Syntax.lean ====
section
/-!
DEFINITION. The commands that the block takes (spec/opcode_table.json), with their operands: the unit they name and what
the outside world or a measurement hands over.
-/
namespace Sys2Proof

open Sys2Proof.Machine

/-- The commands of the block: one constructor for each row of the opcode table. -/
inductive Instr where
  /-- REGISTER_WRITE (R15). -/
  | registerWrite (r : RegAddr) (v : Word)
  /-- COUNTER_LOW_READ (R18). -/
  | counterLowRead (r : RegAddr)
  /-- LOG_QSTAT_READ (R485). -/
  | logQstatRead
  /-- BAR_MISALIGNED_ACCESS (R538). -/
  | barMisalignedAccess (off size : Nat)
  /-- LAYER_CLR (R42). -/
  | layerClr (k : CoreNo) (layer : Fin 256)
  /-- LTHR_WRITE (R43). -/
  | lthrWrite (k : CoreNo) (layer : Fin 256) (hi : Bool) (w : Word)
  /-- TILE_READ_START (R57). -/
  | tileReadStart (k : CoreNo) (t : TileNo)
  /-- TILE_CHECK (R66). -/
  | tileCheck (k : CoreNo) (t : TileNo)
  /-- TILE_DELIVER (R66). -/
  | tileDeliver (k : CoreNo) (t : TileNo)
  /-- FLAG_WINDOW_END (R70). -/
  | flagWindowEnd (k : CoreNo) (t : TileNo)
  /-- TILE_FLAGWIN_WRITE (R86). -/
  | tileFlagwinWrite (k : CoreNo) (t : TileNo) (v : Word)
  /-- TILE_CLR (R86). -/
  | tileClr (k : CoreNo) (t : TileNo)
  /-- ACCUMULATE (R73). -/
  | accumulate (k : CoreNo) (g : GroupNo)
  /-- REF_WINDOW_CLOSE (R95). -/
  | refWindowClose (k : CoreNo) (t : TileNo)
  /-- COL_WINDOW_CLOSE (R98). -/
  | colWindowClose (k : CoreNo) (t : TileNo)
  /-- ROUND_TIMER (R100). -/
  | roundTimer (k : CoreNo)
  /-- TEMP_ROUND_TRIGGER (R100). -/
  | tempRoundTrigger (k : CoreNo)
  /-- BUILD (R100). -/
  | build (k : CoreNo)
  /-- BUILD_COMPLETE (R104). -/
  | buildComplete (k : CoreNo)
  /-- ARM (R104). -/
  | arm (k : CoreNo)
  /-- DISCARD_SET (R104). -/
  | discardSet (k : CoreNo)
  /-- SHADOW_WORD_WRITE (R107). -/
  | shadowWordWrite (k : CoreNo) (v : Word)
  /-- IDLE_PERIOD_FLIP (R103). -/
  | idlePeriodFlip (p : Option PartNo)
  /-- DISPATCH (R167). -/
  | dispatch (k : CoreNo) (n : CtxNo)
  /-- NOP (R162). -/
  | nop (k : CoreNo) (n : CtxNo)
  /-- COPY (R174). -/
  | copy (k : CoreNo) (n : CtxNo)
  /-- COPYK (R174). -/
  | copyk (k : CoreNo) (n : CtxNo)
  /-- FILLZ (R174). -/
  | fillz (k : CoreNo) (n : CtxNo)
  /-- MMNT (R176). -/
  | mmnt (k : CoreNo) (n : CtxNo)
  /-- MMNN (R176). -/
  | mmnn (k : CoreNo) (n : CtxNo)
  /-- MERGE (R176). -/
  | merge (k : CoreNo) (n : CtxNo)
  /-- CONV (R176). -/
  | conv (k : CoreNo) (n : CtxNo)
  /-- FUNC (R176). -/
  | func (k : CoreNo) (n : CtxNo)
  /-- ADD (R176). -/
  | add (k : CoreNo) (n : CtxNo)
  /-- MUL (R176). -/
  | mul (k : CoreNo) (n : CtxNo)
  /-- REDUCE (R176). -/
  | reduce (k : CoreNo) (n : CtxNo)
  /-- BSCALE (R176). -/
  | bscale (k : CoreNo) (n : CtxNo)
  /-- SEND (R179). -/
  | send (k : CoreNo) (n : CtxNo)
  /-- SENDK (R179). -/
  | sendk (k : CoreNo) (n : CtxNo)
  /-- ENQ_T (R182). -/
  | enqT (k : CoreNo) (n : CtxNo)
  /-- ENQ_S (R182). -/
  | enqS (k : CoreNo) (n : CtxNo)
  /-- CLR (R142). -/
  | clr (k : CoreNo) (n : CtxNo)
  /-- JUMP (R183). -/
  | jump (k : CoreNo) (n : CtxNo)
  /-- LOOP (R183). -/
  | loop (k : CoreNo) (n : CtxNo)
  /-- SETL (R183). -/
  | setl (k : CoreNo) (n : CtxNo)
  /-- SETA (R183). -/
  | seta (k : CoreNo) (n : CtxNo)
  /-- ADDA (R183). -/
  | adda (k : CoreNo) (n : CtxNo)
  /-- WAIT_ABS (R140). -/
  | waitAbs (k : CoreNo) (n : CtxNo)
  /-- WAIT_OUT (R140). -/
  | waitOut (k : CoreNo) (n : CtxNo)
  /-- WAIT_SATISFIED (R140). -/
  | waitSatisfied (k : CoreNo) (n : CtxNo)
  /-- SWITCH (R129). -/
  | switch (k : CoreNo) (n : CtxNo)
  /-- SWITCH_COMPLETE (R129). -/
  | switchComplete (k : CoreNo) (n : CtxNo)
  /-- BARRIER (R184). -/
  | barrier (k : CoreNo) (n : CtxNo)
  /-- STEP (R185). -/
  | step (k : CoreNo) (n : CtxNo)
  /-- STEP_DRAINED (R185). -/
  | stepDrained (k : CoreNo) (n : CtxNo)
  /-- DRAIN (R183). -/
  | drain (k : CoreNo) (n : CtxNo)
  /-- DRAIN_COMPLETE (R183). -/
  | drainComplete (k : CoreNo) (n : CtxNo)
  /-- EVENT (R183). -/
  | event (k : CoreNo) (n : CtxNo)
  /-- HALT (R183). -/
  | halt (k : CoreNo) (n : CtxNo)
  /-- HALT_COMPLETE (R186). -/
  | haltComplete (k : CoreNo) (n : CtxNo)
  /-- WATCHDOG_EXPIRY (R143). -/
  | watchdogExpiry (k : CoreNo) (n : CtxNo)
  /-- BLOCKED_ACCESS_RETRY (R124). -/
  | blockedAccessRetry (k : CoreNo) (w : Waiter)
  /-- SCRUB_ROW (R122). -/
  | scrubRow (k : CoreNo) (found : Fin 3)
  /-- DESCRIPTOR_START (R136). -/
  | descriptorStart (k : CoreNo) (q : Fin 16)
  /-- DESCRIPTOR_ROW_LAND (R137). -/
  | descriptorRowLand (k : CoreNo) (q : Fin 16) (j : Fin 256) (i : Fin 4096) (cycles : Nat)
  /-- DESCRIPTOR_COMPLETE (R138). -/
  | descriptorComplete (k : CoreNo) (q : Fin 16)
  /-- ROUTER_FORWARD (R197). -/
  | routerForward (r : CoreNo) (o : Fin 8) (sb dat : Fin 3)
  /-- MESH_ROW_DELIVER (R180). -/
  | meshRowDeliver (k : CoreNo) (n : CtxNo)
  /-- REDUCE_ROW_ARRIVE (R206). -/
  | reduceRowArrive (k : CoreNo) (n : CtxNo)
  /-- BAR_ARRIVE (R220). -/
  | barArrive (k : CoreNo) (p : PartNo)
  /-- BAR_QUERY (R220). -/
  | barQuery (node : Fin 32) (p : PartNo)
  /-- BAR_COUNT (R220). -/
  | barCount (node : Fin 32) (p : PartNo)
  /-- BAR_REQUERY_TIMER (R220). -/
  | barRequeryTimer (p : PartNo)
  /-- BAR_RELEASE (R184). -/
  | barRelease (k : CoreNo) (p : PartNo)
  /-- STEP_DONE (R221). -/
  | stepDone (k : CoreNo) (p : PartNo)
  /-- BOUNDARY (R221). -/
  | boundary (k : CoreNo) (p : PartNo)
  /-- BOUNDARY_ACK (R221). -/
  | boundaryAck (k : CoreNo) (p : PartNo)
  /-- STEP_START (R221). -/
  | stepStart (k : CoreNo) (p : PartNo)
  /-- PSTOP (R387). -/
  | pstop (node : Fin 32) (p : PartNo)
  /-- PSTART (R388). -/
  | pstart (node : Fin 32) (p : PartNo)
  /-- FORCE_SCHED (R226). -/
  | forceSched (k : CoreNo) (n : CtxNo)
  /-- DISCARD (R224). -/
  | discard (node : Fin 32) (p : PartNo)
  /-- CREDIT_RECLAIM (R226). -/
  | creditReclaim (r : CoreNo) (p : PartNo)
  /-- TAG_RECLAIM (R226). -/
  | tagReclaim (k : CoreNo) (n : CtxNo)
  /-- RECLAIM_DONE (R226). -/
  | reclaimDone (node : Fin 32) (p : PartNo)
  /-- FAULT (R217). -/
  | fault (node : Fin 64) (p : PartNo) (taken : Nat) (bad : Bool)
  /-- INCOMPLETE (R289). -/
  | incomplete (i : PortNo) (p : PartNo) (taken : Nat)
  /-- CNET_EVENT (R217). -/
  | cnetEvent (k : CoreNo) (taken : Nat) (bad : Bool)
  /-- SCHED (R264). -/
  | sched (k : CoreNo) (p : PartNo)
  /-- TELEM (R217). -/
  | telem (node : Fin 64) (p : PartNo) (arg : BitVec 40) (taken : Nat) (bad : Bool)
  /-- RECLAIM (R226). -/
  | reclaim (p : PartNo) (dead : List (CoreNo × Fin 3))
  /-- RECLAIM_TIMEOUT (R226). -/
  | reclaimTimeout (p : PartNo)
  /-- FIRING_IMAGE_LOAD (R158). -/
  | firingImageLoad (p : PartNo) (image : SignedFile) (routes : SignedFile)
  /-- ROUTE_SET_LOAD (R215). -/
  | routeSetLoad (p : PartNo) (image : SignedFile) (routes : SignedFile)
  /-- REGION_WRITE (R237). -/
  | regionWrite (x : RegionReg) (w : Word)
  /-- INIT_FILL_COMPLETE (R237). -/
  | initFillComplete (r : Fin 1024)
  /-- HBM_REQUEST (R238). -/
  | hbmRequest (m : StackNo)
  /-- HBM_READ_DATA (R243). -/
  | hbmReadData (m : StackNo) (j : Fin 8192) (found : Fin 3)
  /-- HBM_WRITE_ACK (R241). -/
  | hbmWriteAck (m : StackNo)
  /-- PATROL_SCRUB (R243). -/
  | patrolScrub (m : StackNo) (found : Fin 3)
  /-- CE_WINDOW_END (R246). -/
  | ceWindowEnd (m : StackNo)
  /-- KV_MOVE_OUT (R252). -/
  | kvMoveOut (c : StreamNo) (b : Fin 1024) (found : List (Fin 2048 × Fin 3)) (lend : Option (BitVec 12 × BitVec 44))
  /-- KV_MOVE_OUT_CONFIRM (R252). -/
  | kvMoveOutConfirm (c : StreamNo) (b : Fin 1024) (result : Fin 3)
  /-- KV_MOVE_IN (R252). -/
  | kvMoveIn (c : StreamNo) (b : Fin 1024) (t : Option SealId)
  /-- KV_MOVE_IN_DONE (R252). -/
  | kvMoveInDone (c : StreamNo) (b : Fin 1024)
  /-- ADMIT (R262). -/
  | admitStream (p : PartNo) (cid : BitVec 16) (rec : Option (BitVec 1024)) (now : BitVec 64)
  /-- CANCEL (R260). -/
  | cancel (p : PartNo) (cid : BitVec 16)
  /-- STEP_COMMIT (R288). -/
  | stepCommit (p : PartNo) (now : BitVec 64)
  /-- STEP_GRANT (R264). -/
  | stepGrant (p : PartNo)
  /-- REPLAY (R290). -/
  | replay (p : PartNo)
  /-- PARK_TIMER (R272). -/
  | parkTimer (c : StreamNo) (now : BitVec 64)
  /-- PAUSE_EXPIRY (R273). -/
  | pauseExpiry (c : StreamNo) (now : BitVec 64)
  /-- ADP_STOP (R285). -/
  | adpStop (p : PartNo) (slot : Fin 64)
  /-- ADP_LOAD (R285). -/
  | adpLoad (p : PartNo) (slot : Fin 64)
  /-- ADP_LOAD_DONE (R285). -/
  | adpLoadDone (p : PartNo) (slot : Fin 64) (data : List Granule)
  /-- ADP_START (R285). -/
  | adpStart (p : PartNo) (slot : Fin 64)
  /-- PORT_ENABLE (R298). -/
  | portEnable (i : PortNo)
  /-- PORT_DISABLE (R298). -/
  | portDisable (i : PortNo)
  /-- PARTNER_DETECTED (R298). -/
  | partnerDetected (i : PortNo)
  /-- EQUALISE_DONE (R297). -/
  | equaliseDone (i : PortNo) (pass : BitVec 8)
  /-- LOCK_DONE (R298). -/
  | lockDone (i : PortNo)
  /-- RECORDS_AGREED (R300). -/
  | recordsAgreed (i : PortNo) (r : BitVec 256)
  /-- CREDITS_RECEIVED (R309). -/
  | creditsReceived (i : PortNo)
  /-- TRAIN_TIMEOUT (R298). -/
  | trainTimeout (i : PortNo)
  /-- FAILED_RETRY (R298). -/
  | failedRetry (i : PortNo)
  /-- RETRAIN_START (R312). -/
  | retrainStart (i : PortNo) (lost : Bool)
  /-- RETRAIN_DONE (R298). -/
  | retrainDone (i : PortNo) (r : BitVec 256)
  /-- RETRAIN_TIMEOUT (R298). -/
  | retrainTimeout (i : PortNo)
  /-- FLIT_TRANSMIT (R318). -/
  | flitTransmit (i : PortNo) (ksw : Bool)
  /-- ROW_FLIT (R316). -/
  | rowFlit (i : PortNo) (l : FlitLink) (sc : BitVec 64) (p : PartNo) (reduce poison : Bool) (wt : BitVec 10) (drow step : BitVec 16) (data : Row)
  /-- PWRITE_FLIT (R324). -/
  | pwriteFlit (i : PortNo) (l : FlitLink) (schip : BitVec 12) (off : BitVec 44) (ngran : Fin 18) (tag : BitVec 16) (data : List Granule)
  /-- PREAD_FLIT (R324). -/
  | preadFlit (i : PortNo) (l : FlitLink) (schip : BitVec 12) (off : BitVec 44) (ngran : Fin 18) (tag : BitVec 16)
  /-- PRDATA_FLIT (R323). -/
  | prdataFlit (i : PortNo) (l : FlitLink) (tag : BitVec 16) (status : Fin 3) (data : List Granule)
  /-- PACK_FLIT (R323). -/
  | packFlit (i : PortNo) (l : FlitLink) (tag : BitVec 16) (status : Fin 3)
  /-- XCTL_FLIT (R330). -/
  | xctlFlit (i : PortNo) (l : FlitLink) (ms : List XMsg)
  /-- NAK_FLIT (R310). -/
  | nakFlit (i : PortNo) (l : FlitLink)
  /-- IDLE_FLIT (R304). -/
  | idleFlit (i : PortNo) (l : FlitLink)
  /-- REPLAY_TIMEOUT (R311). -/
  | replayTimeout (i : PortNo)
  /-- STEP_DEADLINE (R333). -/
  | stepDeadline (i : PortNo) (e : Fin 64) (sc : BitVec 64)
  /-- RACK_SYNC (R327). -/
  | rackSync (sc : BitVec 64)
  /-- SC_ARM (R326). -/
  | scArm
  /-- XDONE (R331). -/
  | xdone (p : PartNo)
  /-- XCOMMIT (R331). -/
  | xcommit (p : PartNo) (rows : List CommitRow)
  /-- XGO (R331). -/
  | xgo (p : PartNo) (sc : BitVec 64)
  /-- XINC (R331). -/
  | xinc (p : PartNo)
  /-- LEAD_COMMIT_READY (R331). -/
  | leadCommitReady (p : PartNo) (sc now : BitVec 64)
  /-- START_TICK (R331). -/
  | startTick (p : PartNo) (sc : BitVec 64)
  /-- XMSG_REPEAT (R330). -/
  | xmsgRepeat (p : PartNo)
  /-- LOAD (R350). -/
  | load (p : PartNo) (slot : Fin 2) (r : FlashRead)
  /-- LOAD_RESUME (R360). -/
  | loadResume (p : PartNo) (slot : Fin 2) (r : FlashRead)
  /-- LOAD_ABORT (R359). -/
  | loadAbort (p : PartNo)
  /-- PROGRAM_BURST (R354). -/
  | programBurst (k : CoreNo) (t : TileNo) (found : List FoundCell) (r : FlashRead)
  /-- TILE_PROGRAM_DONE (R355). -/
  | tileProgramDone (k : CoreNo) (t : TileNo) (found : List FoundCell)
  /-- TILE_CLEAR_DONE (R356). -/
  | tileClearDone (k : CoreNo) (t : TileNo)
  /-- TILE_RESTORE (R361). -/
  | tileRestore (k : CoreNo) (t : TileNo) (r : FlashRead)
  /-- SPILL_WRITE (R350). -/
  | spillWrite (p : PartNo) (r : FlashRead)
  /-- LOAD_COMPLETE (R350). -/
  | loadComplete (p : PartNo)
  /-- PWRGOOD_RISE (R366). -/
  | pwrgoodRise (board : Board)
  /-- PWRGOOD_FALL (R567). -/
  | pwrgoodFall
  /-- CRYSTAL_DELAY_END (R394). -/
  | crystalDelayEnd
  /-- XPLL_LOCK_TIMEOUT (R394). -/
  | xpllLockTimeout
  /-- STRAP_LATCH (R373). -/
  | strapLatch (pins : BitVec 9) (band : BitVec 9) (slow : BitVec 4) (slowBand : BitVec 4)
  /-- STRAP_RECHECK (R373). -/
  | strapRecheck (pins : BitVec 9) (band : BitVec 9)
  /-- SLOW_INPUT_QUALIFIED (R374). -/
  | slowInputQualified (i : QuadNo) (asserted : Bool) (inBand : Bool)
  /-- PSIKUSTER_SELFTEST_PASS (R490). -/
  | psikusterSelftestPass (fail : Option Nat)
  /-- CONFIG_COPY_READ (R379). -/
  | configCopyRead
  /-- CONFIG_APPLY (R380). -/
  | configApply
  /-- PMBUS_TRANSACTION (R382). -/
  | pmbusTransaction (ack : Bool) (data : BitVec 16)
  /-- HBM_TRAINING_DONE (R231). -/
  | hbmTrainingDone (bad : BitVec 8) (repaired : List Nat)
  /-- TEST_PHASE_TIMEOUT (R384). -/
  | testPhaseTimeout
  /-- BOOT_ACTIONS (R383). -/
  | bootActions (reads : List FlashRead)
  /-- INTERFACES_OPEN (R369). -/
  | interfacesOpen
  /-- RESTART (R366). -/
  | restart (via : RestartVia)
  /-- PARTITION_STOP (R387). -/
  | partitionStop (p : PartNo)
  /-- PARTITION_START (R388). -/
  | partitionStart (p : PartNo) (remap : Bool)
  /-- STOP_TIMEOUT (R387). -/
  | stopTimeout (p : PartNo)
  /-- OP_REQUEST (R400). -/
  | opRequest (w : Word)
  /-- AVS_WRITE_ACK (R397). -/
  | avsWriteAck (q : QuadNo) (ack : Bool)
  /-- VOLTAGE_READBACK_OK (R397). -/
  | voltageReadbackOk (q : QuadNo)
  /-- SETTLE_ELAPSED (R397). -/
  | settleElapsed (q : QuadNo)
  /-- FREQUENCY_SLEW_DONE (R397). -/
  | frequencySlewDone (q : QuadNo)
  /-- RAISE_TIMEOUT (R398). -/
  | raiseTimeout (q : QuadNo)
  /-- BOOST_LIMIT (R399). -/
  | boostLimit (q : QuadNo)
  /-- BOOST_REST_END (R399). -/
  | boostRestEnd (q : QuadNo)
  /-- ISLAND_SWITCH (R401). -/
  | islandSwitch (w : Word)
  /-- RACK_REF_LOST (R403). -/
  | rackRefLost
  /-- REF_QUAL_WINDOW (R404). -/
  | refQualWindow (count : Nat) (missing : Bool)
  /-- REF_SWITCH_ORDER (R404). -/
  | refSwitchOrder
  /-- SREF_SWITCH_DONE (R402). -/
  | srefSwitchDone (edges : Nat)
  /-- PLL_RELOCK (R402). -/
  | pllRelock
  /-- CRYSTAL_LOST (R406). -/
  | crystalLost
  /-- CLOCK_GATE (R407). -/
  | clockGate (i : Fin 62)
  /-- CLOCK_UNGATE (R407). -/
  | clockUngate (i : Fin 62)
  /-- FREQ_MEASURE_START (R408). -/
  | freqMeasureStart (u : QuadNo) (w : Word)
  /-- FREQ_MEASURE_DONE (R408). -/
  | freqMeasureDone (u : QuadNo) (edges : Nat)
  /-- IDLE_ENTRY (R411). -/
  | idleEntry (k : CoreNo)
  /-- IDLE_BIAS (R419). -/
  | idleBias (k : CoreNo)
  /-- IDLE_EXIT (R412). -/
  | idleExit (k : CoreNo)
  /-- SLEEP (R413). -/
  | sleep
  /-- DEEP (R413). -/
  | deep
  /-- OFF (R413). -/
  | off
  /-- RUN (R414). -/
  | run
  /-- POWER_DOWN_DRAIN (R426). -/
  | powerDownDrain (timeout : Bool)
  /-- ENTRY_COMMIT (R414). -/
  | entryCommit
  /-- WAKE (R421). -/
  | wake (asserted lost : Bool)
  /-- LINK_ACTIVITY_WAKE (R421). -/
  | linkActivityWake (p : PortNo) (lost : Bool)
  /-- STOKE_PATTERN (R423). -/
  | stokePattern (p : PortNo) (bursts : Nat) (lost : Bool)
  /-- PCIE_WAKE (R421). -/
  | pcieWake (lost : Bool)
  /-- EXIT_COMPLETE (R417). -/
  | exitComplete
  /-- PAD_RELEASE (R420). -/
  | padRelease (mask : BitVec 6)
  /-- AUX_BROWNOUT (R425). -/
  | auxBrownout
  /-- POWER_GOVERNOR_TICK (R428). -/
  | powerGovernorTick (pkg array : BitVec 16)
  /-- READ_CREDIT_TICK (R429). -/
  | readCreditTick
  /-- CHARGE_COMPLETE (R431). -/
  | chargeComplete (ms : Option Nat)
  /-- SUPPLY_SAG (R432). -/
  | supplySag
  /-- BANK_PAGE_DONE (R433). -/
  | bankPageDone
  /-- POWER_RETURN (R434). -/
  | powerReturn
  /-- CONVERSION_DONE (R441). -/
  | conversionDone (c : QuadNo) (r : BitVec 24)
  /-- SHUTDOWN_RECORD_WRITTEN (R454). -/
  | shutdownRecordWritten
  /-- THROTTLE_STEP (R452). -/
  | throttleStep
  /-- RELEASE_STEP (R453). -/
  | releaseStep
  /-- URGENT_CONVERSION (R443). -/
  | urgentConversion (c : QuadNo) (w : Word)
  /-- URGENT_CONVERSION_DONE (R443). -/
  | urgentConversionDone (c : QuadNo) (r : BitVec 24)
  /-- REFEN (R442). -/
  | refen (on : Bool)
  /-- REF_READY (R442). -/
  | refReady
  /-- RO_COUNT (R447). -/
  | roCount (k : CoreNo) (cmd : Bool)
  /-- RO_BACKGROUND_COUNT (R447). -/
  | roBackgroundCount (k : CoreNo)
  /-- RO_COUNT_DONE (R447). -/
  | roCountDone (k : CoreNo) (t0 t1 t2 t3 : Int)
  /-- FW_WATCHDOG_EXPIRY (R466). -/
  | fwWatchdogExpiry
  /-- ADVISORY_REPEAT (R467). -/
  | advisoryRepeat (k : CoreNo)
  /-- PARITY_ERROR (R468). -/
  | parityError (u : ParityUnit)
  /-- FENCE (R468). -/
  | fence (kind : QuadNo) (k : CoreNo) (i : TileNo)
  /-- FENCE_CLEAR (R470). -/
  | fenceClear (kind : QuadNo) (k : CoreNo) (i : TileNo)
  /-- TEST_START (R473). -/
  | testStart (cores : BitVec 16)
  /-- TEST_ROUND_DONE (R473). -/
  | testRoundDone (obs : List (List Nat))
  /-- LOG_WRITE_DONE (R478). -/
  | logWriteDone (r : StoreResult)
  /-- LOG_WINDOW_FALLBACK (R479). -/
  | logWindowFallback (i : Fin 64)
  /-- LOG_SECTOR_ERASE_DONE (R481). -/
  | logSectorEraseDone
  /-- SELFTEST (R490). -/
  | selftest (ok : Bool)
  /-- LOADMK (R505). -/
  | loadmk (unwrapOk : Bool)
  /-- DROPMK (R505). -/
  | dropmk
  /-- SETLINK (R505). -/
  | setlink (unwrapOk : Bool)
  /-- DROPLINK (R505). -/
  | droplink
  /-- SVNRAISE (R497). -/
  | svnraise
  /-- ZEROISE (R492). -/
  | zeroise (session : Option Nat)
  /-- DBGCHAL (R503). -/
  | dbgchal
  /-- DBGRESP (R503). -/
  | dbgresp (keyOk sigOk : Bool)
  /-- SETFWK (R505). -/
  | setfwk (session : Nat)
  /-- REVOKE (R497). -/
  | revoke (session : Nat) (slot : QuadNo)
  /-- DEBUG_LOCK (R504). -/
  | debugLock
  /-- TAMPER_CHECK (R486). -/
  | tamperCheck (opened : Bool)
  /-- PERIODIC_SELFTEST (R490). -/
  | periodicSelftest (ok : Bool)
  /-- ENTROPY_TEST_FAIL (R491). -/
  | entropyTestFail (test : Fin 3)
  /-- ENTROPY_RESTART_PASS (R491). -/
  | entropyRestartPass
  /-- DEBUG_NONCE_EXPIRY (R503). -/
  | debugNonceExpiry
  /-- MGMT_DATAGRAM (R509). -/
  | mgmtDatagram (d : Datagram)
  /-- GETSTATUS (R512). -/
  | getstatus
  /-- SETDASA (R512). -/
  | setdasa (static dyn : BitVec 7)
  /-- ENTDAA (R512). -/
  | entdaa (dyn : BitVec 7)
  /-- SET_ENDPOINT_ID (R513). -/
  | setEndpointId (c : Channel) (eid : BitVec 8)
  /-- GET_ENDPOINT_ID (R513). -/
  | getEndpointId (c : Channel)
  /-- GET_ENDPOINT_UUID (R513). -/
  | getEndpointUuid (c : Channel)
  /-- GET_MCTP_VERSION_SUPPORT (R513). -/
  | getMctpVersionSupport (c : Channel)
  /-- GET_MESSAGE_TYPE_SUPPORT (R513). -/
  | getMessageTypeSupport (c : Channel)
  /-- GETTID (R514). -/
  | gettid (c : Channel) (sess : Option Nat)
  /-- SETTID (R514). -/
  | settid (c : Channel) (sess : Option Nat) (tid : BitVec 8)
  /-- GETPLDMVERSION (R514). -/
  | getpldmversion (c : Channel) (sess : Option Nat) (type : BitVec 8)
  /-- GETPLDMTYPES (R514). -/
  | getpldmtypes (c : Channel) (sess : Option Nat)
  /-- GETPLDMCOMMANDS (R514). -/
  | getpldmcommands (c : Channel) (sess : Option Nat) (type : BitVec 8)
  /-- GETPDRREPOSITORYINFO (R514). -/
  | getpdrrepositoryinfo (c : Channel) (sess : Option Nat)
  /-- GETPDR (R514). -/
  | getpdr (c : Channel) (sess : Option Nat) (rec : Nat)
  /-- GETSENSORREADING (R514). -/
  | getsensorreading (c : Channel) (sess : Option Nat) (x : Sensor)
  /-- GETSTATESENSORREADINGS (R514). -/
  | getstatesensorreadings (c : Channel) (sess : Option Nat) (x : StateSensor)
  /-- SETEVENTRECEIVER (R515). -/
  | seteventreceiver (c : Channel) (sess : Option Nat) (on : Bool)
  /-- POLLFORPLATFORMEVENTMESSAGE (R515). -/
  | pollforplatformeventmessage (c : Channel) (sess : Option Nat)
  /-- GETFRURECORDTABLEMETADATA (R514). -/
  | getfrurecordtablemetadata (c : Channel) (sess : Option Nat)
  /-- GETFRURECORDTABLE (R514). -/
  | getfrurecordtable (c : Channel) (sess : Option Nat)
  /-- QUERYDEVICEIDENTIFIERS (R514). -/
  | querydeviceidentifiers (c : Channel) (sess : Option Nat)
  /-- GETFIRMWAREPARAMETERS (R514). -/
  | getfirmwareparameters (c : Channel) (sess : Option Nat)
  /-- REQUESTUPDATE (R516). -/
  | requestupdate (c : Channel) (sess : Option Nat)
  /-- PASSCOMPONENTTABLE (R516). -/
  | passcomponenttable (c : Channel) (sess : Option Nat)
  /-- UPDATECOMPONENT (R516). -/
  | updatecomponent (c : Channel) (sess : Option Nat) (comp : BitVec 16) (size : Nat)
  /-- FIRMWARE_DATA_RECEIVED (R516). -/
  | firmwareDataReceived (bytes : Nat) (content : Option FwContent)
  /-- ACTIVATEFIRMWARE (R516). -/
  | activatefirmware (c : Channel) (sess : Option Nat)
  /-- GETSTATUS_PLDM (R514). -/
  | getstatusPldm (c : Channel) (sess : Option Nat)
  /-- CANCELUPDATECOMPONENT (R514). -/
  | cancelupdatecomponent (c : Channel) (sess : Option Nat)
  /-- CANCELUPDATE (R514). -/
  | cancelupdate (c : Channel) (sess : Option Nat)
  /-- READMETER (R514). -/
  | readmeter (c : Channel) (sess : Option Nat) (set : Fin 1088)
  /-- READHISTORY (R514). -/
  | readhistory (c : Channel) (sess : Option Nat) (entry : Fin 16384)
  /-- READLOG (R514). -/
  | readlog (c : Channel) (sess : Option Nat) (nor : Bool) (entry : Fin 16384)
  /-- READSTUCKMAP (R84). -/
  | readstuckmap (c : Channel) (sess : Option Nat)
  /-- READSHUTDOWNRECORDS (R514). -/
  | readshutdownrecords (c : Channel) (sess : Option Nat)
  /-- GET_VERSION (R517). -/
  | getVersion (c : Channel)
  /-- GET_CAPABILITIES (R517). -/
  | getCapabilities (c : Channel)
  /-- NEGOTIATE_ALGORITHMS (R517). -/
  | negotiateAlgorithms (c : Channel) (offered : Bool)
  /-- GET_DIGESTS (R517). -/
  | getDigests (c : Channel)
  /-- GET_CERTIFICATE (R498). -/
  | getCertificate (c : Channel) (slot : BitVec 4)
  /-- CHALLENGE (R517). -/
  | challenge (c : Channel)
  /-- GET_MEASUREMENTS (R499). -/
  | getMeasurements (c : Channel) (index : BitVec 8)
  /-- KEY_EXCHANGE (R517). -/
  | keyExchange (c : Channel) (root : Option Nat)
  /-- FINISH (R517). -/
  | finish (c : Channel) (id : Nat) (ok : Bool)
  /-- HEARTBEAT (R517). -/
  | heartbeat (c : Channel) (id : Nat)
  /-- KEY_UPDATE (R517). -/
  | keyUpdate (c : Channel) (id : Nat)
  /-- END_SESSION (R517). -/
  | endSession (c : Channel) (id : Nat)
  /-- RESPOND_IF_READY (R517). -/
  | respondIfReady (c : Channel)
  /-- SPDM_HEARTBEAT_EXPIRY (R517). -/
  | spdmHeartbeatExpiry (id : Nat)
  /-- PMBUS_POLL (R518). -/
  | pmbusPoll (answers : List PmbusReading)
  /-- SMBALERT (R518). -/
  | smbalert (answers : List PmbusReading)
  /-- SECOND_WRAP (R522). -/
  | secondWrap
  /-- TIME_SET (R522). -/
  | timeSet
  /-- TIME_READ (R521). -/
  | timeRead (nanos : Fin 1000000000)
  /-- METER_SNAPSHOT (R525). -/
  | meterSnapshot (w : Word)
  /-- METER_PERSIST (R524). -/
  | meterPersist
  /-- INDICATOR_DIAGNOSIS (R530). -/
  | indicatorDiagnosis (n : QuadNo) (opened dark : Bool)
  /-- RACKSTOP_ACCEPT (R531). -/
  | rackstopAccept (b : Bool) (asserted : Bool)
  /-- RACKSTOP_DISCREPANCY (R531). -/
  | rackstopDiscrepancy
  /-- GPI_ACCEPT (R533). -/
  | gpiAccept (i : Fin 8) (high : Bool)
  /-- GPI_STUCK (R533). -/
  | gpiStuck (i : Fin 8)
  /-- GPI_CHATTER_WINDOW (R533). -/
  | gpiChatterWindow (i : Fin 8) (edges : Nat)
  /-- SQ_DOORBELL (R549). -/
  | sqDoorbell (p : PartNo) (i : BitVec 16)
  /-- CQ_DOORBELL (R548). -/
  | cqDoorbell (p : PartNo) (i : BitVec 16)
  /-- SQ_ENTRY_FETCH (R544). -/
  | sqEntryFetch (p : PartNo) (e : Option SqEntry)
  /-- HOST_NOP (R543). -/
  | hostNop (p : PartNo) (cid : BitVec 16)
  /-- COPY_IN (R543). -/
  | copyIn (p : PartNo) (cid : BitVec 16) (data : List (Granule × Bool))
  /-- COPY_OUT (R543). -/
  | copyOut (p : PartNo) (cid : BitVec 16)
  /-- COPY_DONE (R546). -/
  | copyDone (p : PartNo) (cid : BitVec 16) (hostErr : Bool)
  /-- T2ADD (R553). -/
  | t2add (p : PartNo) (cid : BitVec 16)
  /-- T2DEL (R553). -/
  | t2del (p : PartNo) (cid : BitVec 16)
  /-- IRQ_TIMER (R551). -/
  | irqTimer (p : PartNo)
  /-- RING_ENABLE (R559). -/
  | ringEnable (p : PartNo) (on : Bool)
  /-- VF_FLR (R555). -/
  | vfFlr (p : PartNo)
  /-- PF_RESET (R556). -/
  | pfReset (link : BitVec 12)
  /-- PCIE_CONFIG_REQUEST (R369). -/
  | pcieConfigRequest (r : CfgReq)
  /-- XPLL_LOCK (R394). -/
  | xpllLock
  /-- XPLL_LOSS_TIMEOUT (R468). -/
  | xpllLossTimeout
  /-- ISLAND_SWITCH_DONE (R401). -/
  | islandSwitchDone
  /-- AGE_MAX_REACHED (R106). -/
  | ageMaxReached (k : CoreNo) (t : TileNo)
  /-- STACK_SENSOR_READING (R230). -/
  | stackSensorReading (m : StackNo) (t : Byte)
  /-- HBM_STACK_FAILURE (R231). -/
  | hbmStackFailure (m : StackNo)
  /-- ZEROISATION_COMPLETE (R492). -/
  | zeroisationComplete
  /-- MANAGEMENT_RESTART_DONE (R466). -/
  | managementRestartDone
  /-- BOARD_READING_STALE (R460). -/
  | boardReadingStale
  /-- MOVE_DRAIN_TIMEOUT (R254). -/
  | moveDrainTimeout (p : PartNo)
  deriving DecidableEq, Repr

end Sys2Proof
end

