-- ==== Sys2Proof/Decode.lean ====
section
/-!
DEFINITION. Table words. The opcode table gives none of its rows bits: a command reaches the block as an operation of one
of its interfaces (a register write, an event of a unit), not as a word.
-/
namespace Sys2Proof

/-- The command that a word of the opcode table spells: none, since no row has bits (log entry 27). -/
def decodeTableWord (_nbits _w : Nat) : Option Instr := none

end Sys2Proof
end

