-- ==== Sys2Proof/Config.lean ====
section
/-!
DEFINITION. What an implementation fixes (fuses) and the values the spec leaves open. An `opaque` constant has no body:
no proof can see its value.
-/
namespace Sys2Proof.Config

/-- Fused ordering code of the modelled part, R4/R6: 0b00 is LV9160-HA. DESIGN CHOICE (log entry 3). -/
def skuCode : Nat := 0
/-- Fused package power limit in watts of the modelled part, R4/R6. DESIGN CHOICE (log entry 3). -/
def powerLimitW : Nat := 1000
/-- Fused debug-port disable, R6. DESIGN CHOICE (log entry 3). -/
def debugFused : Nat := 0
/-- The 64-bit die serial number (a fuse); the spec gives no value. -/
opaque serial : BitVec 64
/-- The n-th value that the spec leaves open, as a natural number: nothing constrains it (log entry 1). -/
opaque freeNat : Nat → Nat
/-- The n-th signed value that the spec leaves open, such as the read noise of a conversion (R8). -/
opaque freeInt : Nat → Int

/-- A digest or other opaque block that an answer carries: by its kind and by what it is taken over. The spec gives no value. -/
opaque digest : Nat → Nat → Nat

/-- FPVAR of a column while the calibration record is invalid (R91): the spec states none. -/
opaque fpvarInvalid : Nat
/-- TCG of a tile while the calibration record is invalid (R91): the spec states none. -/
opaque tcgInvalid : Int
/-- TCO of a tile while the calibration record is invalid (R91): the spec states none. -/
opaque tcoInvalid : Int

/-- The choice that the error bounds of R47 leave to the functions of the wheel (FUNC code, BF16 operand code): which code near
the exact value is the result. -/
opaque wheelUlp : Nat → Nat → Nat
/-- Element codes of a block whose scale says NaN (R40 fixes the scale alone). -/
opaque nanCode : Nat → Nat

/-- A granule of a sealed block (R250): by tenant, MOVESEQ, place in the block and plaintext granule. The keys are outside the model. -/
opaque kvCipher : Nat → Nat → Nat → Granule → Granule
/-- The GCM tag of a sealed block (R250): by tenant, MOVESEQ and plaintext. -/
opaque kvTag : Nat → Nat → List Granule → Nat

/-- The choice that R279 leaves to the sampler's fixed exponential: by numerator and denominator of its operand. -/
opaque samplerBit : Int → Nat → Nat
/-- Member cores of a partition on the parts of its job with a lower, and with a higher chip number (R269). -/
opaque jobBefore : Nat → Nat
opaque jobAfter : Nat → Nat

end Sys2Proof.Config
end

