-- ==== Sys2Proof/Machine/Regs.lean ====
section
/-!
DEFINITION. The control registers (R14, R539): the offset of every register in the PF BAR0 control space, the place of
every field, and for each register its reset value and the access codes of its fields (R15). The VF windows (R542) lie
at 0x1000_0000 + vf x 0x10_0000 of this model's one register space (log entry 4). Instances are numbered in the offset.
-/
namespace Sys2Proof

/-- A field of a register: its lowest bit and its width. -/
structure Fld where
  lo : Nat
  width : Nat
  deriving DecidableEq, Repr

/-- A register of the map: first offset, (stride, count) of its instances, reset value, and the masks of the fields of
access code RW, W1C, W1S and LK (R15). Fields in no mask ignore a write. -/
structure RegRow where
  base : Nat
  strides : List (Nat × Nat)
  reset : Nat
  rw : Nat
  w1c : Nat
  w1s : Nat
  lk : Nat
  deriving DecidableEq, Repr

namespace Reg

/-- GCTL_ID (R6). -/
def GCTL_ID : Nat := 0x0000000
/-- GCTL_SKU (R6). -/
def GCTL_SKU : Nat := 0x0000004
/-- GCTL_STRAP (R390). -/
def GCTL_STRAP : Nat := 0x0000008
/-- GCTL_INPUT (R390). -/
def GCTL_INPUT : Nat := 0x000000C
/-- GCTL_CTL (R390). -/
def GCTL_CTL : Nat := 0x0000010
/-- GCTL_PCMD (R390). -/
def GCTL_PCMD : Nat := 0x0000014
/-- GCTL_PCSTAT (R390). -/
def GCTL_PCSTAT : Nat := 0x0000018
/-- GCTL_RESET (R390). -/
def GCTL_RESET : Nat := 0x000001C
/-- SEC_STAT (R507). -/
def SEC_STAT : Nat := 0x0200000
/-- SEC_ERR (R507). -/
def SEC_ERR : Nat := 0x0200004
/-- SEC_CMD (R507). -/
def SEC_CMD : Nat := 0x0200008
/-- SEC_CSTAT (R507). -/
def SEC_CSTAT : Nat := 0x020000C
/-- SEC_DBG (R507). -/
def SEC_DBG : Nat := 0x0200010
/-- SEC_MINSVN (R507). -/
def SEC_MINSVN : Nat := 0x0200014
/-- SEC_TENIDX (R507). -/
def SEC_TENIDX : Nat := 0x0200018
/-- SEC_TENPM_LO (R507). -/
def SEC_TENPM_LO : Nat := 0x020001C
/-- SEC_TENPM_HI (R507). -/
def SEC_TENPM_HI : Nat := 0x0200020
/-- SEC_TENSKIP (R507). -/
def SEC_TENSKIP : Nat := 0x0200024
/-- SEC_MBX (R507). -/
def SEC_MBX (i : Nat) : Nat := 0x0201000 + i * 0x4
/-- LOG_STAT (R484). -/
def LOG_STAT : Nat := 0x0300000
/-- LOG_CTL (R484). -/
def LOG_CTL : Nat := 0x0300004
/-- LOG_ESC (R484). -/
def LOG_ESC : Nat := 0x0300008
/-- LOG_SEQ_LO (R484). -/
def LOG_SEQ_LO : Nat := 0x030000C
/-- LOG_SEQ_HI (R484). -/
def LOG_SEQ_HI : Nat := 0x0300010
/-- LOG_QSTAT (R484). -/
def LOG_QSTAT : Nat := 0x0300014
/-- LOG_SUPCNT (R484). -/
def LOG_SUPCNT : Nat := 0x0300018
/-- LOG_RDIDX (R484). -/
def LOG_RDIDX : Nat := 0x030001C
/-- LOG_RDDATA (R484). -/
def LOG_RDDATA : Nat := 0x0300020
/-- LOG_FCMD (R484). -/
def LOG_FCMD : Nat := 0x0300024
/-- LOG_CFENCE (R484). -/
def LOG_CFENCE : Nat := 0x0300028
/-- LOG_TCMD (R484). -/
def LOG_TCMD : Nat := 0x030002C
/-- LOG_TSTAT (R484). -/
def LOG_TSTAT : Nat := 0x0300030
/-- LOG_PFAIL (R484). -/
def LOG_PFAIL : Nat := 0x0300034
/-- LOG_GFENCE (R484). -/
def LOG_GFENCE (i : Nat) : Nat := 0x0300100 + i * 0x4
/-- MTR_TNS (R534). -/
def MTR_TNS : Nat := 0x0380000
/-- MTR_TSEC_LO (R534). -/
def MTR_TSEC_LO : Nat := 0x0380004
/-- MTR_TSEC_HI (R534). -/
def MTR_TSEC_HI : Nat := 0x0380008
/-- MTR_TSET_LO (R534). -/
def MTR_TSET_LO : Nat := 0x038000C
/-- MTR_TSET_HI (R534). -/
def MTR_TSET_HI : Nat := 0x0380010
/-- MTR_TCMD (R534). -/
def MTR_TCMD : Nat := 0x0380014
/-- MTR_TSTAT (R534). -/
def MTR_TSTAT : Nat := 0x0380018
/-- MTR_TSLEW (R534). -/
def MTR_TSLEW : Nat := 0x038001C
/-- MTR_PCFG (R534). -/
def MTR_PCFG : Nat := 0x0380020
/-- MTR_ECFG (R534). -/
def MTR_ECFG : Nat := 0x0380024
/-- MTR_MIDX (R534). -/
def MTR_MIDX : Nat := 0x0380028
/-- MTR_MDATA (R534). -/
def MTR_MDATA : Nat := 0x038002C
/-- MTR_HIDX (R534). -/
def MTR_HIDX : Nat := 0x0380030
/-- MTR_HDATA (R534). -/
def MTR_HDATA : Nat := 0x0380034
/-- CLK_STAT (R409). -/
def CLK_STAT : Nat := 0x0400000
/-- CLK_OSCDLY (R409). -/
def CLK_OSCDLY : Nat := 0x0400004
/-- CLK_REFCTL (R409). -/
def CLK_REFCTL : Nat := 0x0400008
/-- CLK_REFSTAT (R409). -/
def CLK_REFSTAT : Nat := 0x040000C
/-- CLK_SWCNT (R409). -/
def CLK_SWCNT : Nat := 0x0400010
/-- CLK_OPREQ (R409). -/
def CLK_OPREQ : Nat := 0x0400014
/-- CLK_OPSTAT (R409). -/
def CLK_OPSTAT : Nat := 0x0400018
/-- CLK_BOOST (R409). -/
def CLK_BOOST : Nat := 0x040001C
/-- CLK_SEQ (R409). -/
def CLK_SEQ : Nat := 0x0400020
/-- CLK_AVS (R409). -/
def CLK_AVS : Nat := 0x0400024
/-- CLK_LIMSTAT (R409). -/
def CLK_LIMSTAT : Nat := 0x0400028
/-- CLK_LIMCNT0 (R409). -/
def CLK_LIMCNT0 : Nat := 0x040002C
/-- CLK_LIMCNT1 (R409). -/
def CLK_LIMCNT1 : Nat := 0x0400030
/-- CLK_LIMCNT2 (R409). -/
def CLK_LIMCNT2 : Nat := 0x0400034
/-- CLK_LIMCNT3 (R409). -/
def CLK_LIMCNT3 : Nat := 0x0400038
/-- CLK_LIMCNT4 (R409). -/
def CLK_LIMCNT4 : Nat := 0x040003C
/-- CLK_ISW (R409). -/
def CLK_ISW : Nat := 0x0400040
/-- CLK_FMCTL (R409). -/
def CLK_FMCTL (i : Nat) : Nat := 0x0400100 + i * 0x10
/-- CLK_FMRES (R409). -/
def CLK_FMRES (i : Nat) : Nat := 0x0400104 + i * 0x10
/-- PWR_STAT (R437). -/
def PWR_STAT : Nat := 0x0480000
/-- PWR_CMD (R437). -/
def PWR_CMD : Nat := 0x0480004
/-- PWR_CFG (R437). -/
def PWR_CFG : Nat := 0x0480008
/-- PWR_WAKECFG (R437). -/
def PWR_WAKECFG : Nat := 0x048000C
/-- PWR_WAKESRC (R437). -/
def PWR_WAKESRC : Nat := 0x0480010
/-- PWR_PADREL (R437). -/
def PWR_PADREL : Nat := 0x0480014
/-- PWR_CAP (R437). -/
def PWR_CAP : Nat := 0x0480018
/-- PWR_ABUDGET (R437). -/
def PWR_ABUDGET : Nat := 0x048001C
/-- PWR_GOV (R437). -/
def PWR_GOV : Nat := 0x0480020
/-- PWR_PMEAS (R437). -/
def PWR_PMEAS : Nat := 0x0480024
/-- PWR_ABORTCNT (R437). -/
def PWR_ABORTCNT : Nat := 0x0480028
/-- PWR_RSTCAUSE (R437). -/
def PWR_RSTCAUSE : Nat := 0x048002C
/-- HOLD_CFG (R437). -/
def HOLD_CFG : Nat := 0x0480100
/-- HOLD_STAT (R437). -/
def HOLD_STAT : Nat := 0x0480104
/-- HOLD_LAST (R437). -/
def HOLD_LAST : Nat := 0x0480108
/-- MADC_CTL (R462). -/
def MADC_CTL : Nat := 0x0500000
/-- MADC_STAT (R462). -/
def MADC_STAT : Nat := 0x0500004
/-- MADC_DROPCNT (R462). -/
def MADC_DROPCNT : Nat := 0x0500008
/-- MADC_CCTL (R462). -/
def MADC_CCTL (i : Nat) : Nat := 0x0500100 + i * 0x100
/-- MADC_CSTAT (R462). -/
def MADC_CSTAT (i : Nat) : Nat := 0x0500104 + i * 0x100
/-- MADC_URG (R462). -/
def MADC_URG (i : Nat) : Nat := 0x0500108 + i * 0x100
/-- MADC_URES (R462). -/
def MADC_URES (i : Nat) : Nat := 0x050010C + i * 0x100
/-- MADC_SEQ (R462). -/
def MADC_SEQ (i : Nat) (j : Nat) : Nat := 0x0500140 + i * 0x100 + j * 0x4
/-- MADC_RES (R462). -/
def MADC_RES (i : Nat) (j : Nat) : Nat := 0x0500180 + i * 0x100 + j * 0x4
/-- THM_STAT (R463). -/
def THM_STAT : Nat := 0x0580000
/-- THM_CONE1 (R463). -/
def THM_CONE1 : Nat := 0x0580004
/-- THM_CONE2 (R463). -/
def THM_CONE2 : Nat := 0x0580008
/-- THM_CONE3 (R463). -/
def THM_CONE3 : Nat := 0x058000C
/-- THM_THROT (R463). -/
def THM_THROT : Nat := 0x0580010
/-- THM_HOT (R463). -/
def THM_HOT : Nat := 0x0580014
/-- THM_ROCMD (R463). -/
def THM_ROCMD : Nat := 0x0580018
/-- THM_RORES (R463). -/
def THM_RORES : Nat := 0x058001C
/-- THM_BT0 (R463). -/
def THM_BT0 : Nat := 0x0580020
/-- THM_BT1 (R463). -/
def THM_BT1 : Nat := 0x0580024
/-- THM_BTEMP (R463). -/
def THM_BTEMP : Nat := 0x0580028
/-- THM_C1CNT (R463). -/
def THM_C1CNT : Nat := 0x058002C
/-- THM_C2CNT (R463). -/
def THM_C2CNT : Nat := 0x0580030
/-- THM_CEIL (R463). -/
def THM_CEIL : Nat := 0x0580034
/-- IND_STAT (R534). -/
def IND_STAT : Nat := 0x0600000
/-- IND_CFG (R534). -/
def IND_CFG (i : Nat) : Nat := 0x0600010 + i * 0x4
/-- IND_RSCFG (R534). -/
def IND_RSCFG : Nat := 0x0600020
/-- IND_RSSTAT (R534). -/
def IND_RSSTAT : Nat := 0x0600024
/-- IND_GPICFG (R534). -/
def IND_GPICFG : Nat := 0x0600030
/-- IND_GPISTAT (R534). -/
def IND_GPISTAT : Nat := 0x0600034
/-- PCI_STAT (R559). -/
def PCI_STAT : Nat := 0x0700000
/-- PCI_PFIRQEN (R559). -/
def PCI_PFIRQEN : Nat := 0x0700004
/-- PCI_VFERR_LO (R559). -/
def PCI_VFERR_LO : Nat := 0x0700008
/-- PCI_VFERR_HI (R559). -/
def PCI_VFERR_HI : Nat := 0x070000C
/-- SRV_STAT (R293). -/
def SRV_STAT : Nat := 0x0800000
/-- SRV_MT_LO (R293). -/
def SRV_MT_LO : Nat := 0x0800008
/-- SRV_MT_HI (R293). -/
def SRV_MT_HI : Nat := 0x080000C
/-- SRV_CTXIDX (R293). -/
def SRV_CTXIDX : Nat := 0x0800010
/-- SRV_CTXDATA (R293). -/
def SRV_CTXDATA : Nat := 0x0800014
/-- SRV_COMMITCNT (R293). -/
def SRV_COMMITCNT : Nat := 0x0800020
/-- SRV_REPLAYCNT (R293). -/
def SRV_REPLAYCNT : Nat := 0x0800024
/-- SRV_MISSCNT (R293). -/
def SRV_MISSCNT : Nat := 0x0800028
/-- SRV_INVLCNT (R293). -/
def SRV_INVLCNT : Nat := 0x080002C
/-- SRV_RCOVFCNT (R293). -/
def SRV_RCOVFCNT : Nat := 0x0800030
/-- SRV_KVWAITCNT (R293). -/
def SRV_KVWAITCNT : Nat := 0x0800034
/-- SRV_LATEINC (R293). -/
def SRV_LATEINC : Nat := 0x0800038
/-- SRV_EXPCNT (R293). -/
def SRV_EXPCNT : Nat := 0x080003C
/-- SRV_PCFG (R293). -/
def SRV_PCFG (i : Nat) : Nat := 0x0801000 + i * 0x100
/-- SRV_PCTX (R293). -/
def SRV_PCTX (i : Nat) : Nat := 0x0801004 + i * 0x100
/-- SRV_PPLAN (R293). -/
def SRV_PPLAN (i : Nat) : Nat := 0x0801008 + i * 0x100
/-- SRV_PLOG (R293). -/
def SRV_PLOG (i : Nat) : Nat := 0x080100C + i * 0x100
/-- SRV_PSCHED (R293). -/
def SRV_PSCHED (i : Nat) : Nat := 0x0801010 + i * 0x100
/-- SRV_PBAL (R293). -/
def SRV_PBAL (i : Nat) : Nat := 0x0801014 + i * 0x100
/-- SRV_PMODEL0 (R293). -/
def SRV_PMODEL0 (i : Nat) : Nat := 0x0801018 + i * 0x100
/-- SRV_PMODEL1 (R293). -/
def SRV_PMODEL1 (i : Nat) : Nat := 0x080101C + i * 0x100
/-- SRV_PCMD (R293). -/
def SRV_PCMD (i : Nat) : Nat := 0x0801020 + i * 0x100
/-- SRV_PSTAT (R293). -/
def SRV_PSTAT (i : Nat) : Nat := 0x0801024 + i * 0x100
/-- SRV_PDT (R133). -/
def SRV_PDT (i : Nat) (j : Nat) : Nat := 0x0801040 + i * 0x100 + j * 0x4
/-- ADP_SCTL (R293). -/
def ADP_SCTL (i : Nat) : Nat := 0x0840000 + i * 0x20
/-- ADP_SSTAT (R293). -/
def ADP_SSTAT (i : Nat) : Nat := 0x0840004 + i * 0x20
/-- ADP_SCMD (R293). -/
def ADP_SCMD (i : Nat) : Nat := 0x0840008 + i * 0x20
/-- ADP_BANK0 (R293). -/
def ADP_BANK0 (i : Nat) : Nat := 0x084000C + i * 0x20
/-- ADP_BANK1 (R293). -/
def ADP_BANK1 (i : Nat) : Nat := 0x0840010 + i * 0x20
/-- ADP_GEN0 (R293). -/
def ADP_GEN0 (i : Nat) : Nat := 0x0840014 + i * 0x20
/-- ADP_GEN1 (R293). -/
def ADP_GEN1 (i : Nat) : Nat := 0x0840018 + i * 0x20
/-- ADP_PINTTL (R293). -/
def ADP_PINTTL (i : Nat) : Nat := 0x084001C + i * 0x20
/-- ADP_SRC_LO (R293). -/
def ADP_SRC_LO (i : Nat) : Nat := 0x0860000 + i * 0x10
/-- ADP_SRC_HI (R293). -/
def ADP_SRC_HI (i : Nat) : Nat := 0x0860004 + i * 0x10
/-- ADP_SRCLEN (R293). -/
def ADP_SRCLEN (i : Nat) : Nat := 0x0860008 + i * 0x10
/-- CORE_STAT (R146). -/
def CORE_STAT (i : Nat) : Nat := 0x1000000 + i * 0x100000
/-- CORE_WDOG (R146). -/
def CORE_WDOG (i : Nat) : Nat := 0x1000004 + i * 0x100000
/-- CORE_PMCE (R160). -/
def CORE_PMCE (i : Nat) : Nat := 0x1000008 + i * 0x100000
/-- CORE_CTXCTL (R146). -/
def CORE_CTXCTL (i : Nat) (j : Nat) : Nat := 0x1000100 + i * 0x100000 + j * 0x20
/-- CORE_CTXROW (R146). -/
def CORE_CTXROW (i : Nat) (j : Nat) : Nat := 0x1000104 + i * 0x100000 + j * 0x20
/-- CORE_CTXQ (R146). -/
def CORE_CTXQ (i : Nat) (j : Nat) : Nat := 0x1000108 + i * 0x100000 + j * 0x20
/-- CORE_CTXCTR_LO (R146). -/
def CORE_CTXCTR_LO (i : Nat) (j : Nat) : Nat := 0x100010C + i * 0x100000 + j * 0x20
/-- CORE_CTXCTR_HI (R146). -/
def CORE_CTXCTR_HI (i : Nat) (j : Nat) : Nat := 0x1000110 + i * 0x100000 + j * 0x20
/-- CORE_CTXDESC (R146). -/
def CORE_CTXDESC (i : Nat) (j : Nat) : Nat := 0x1000114 + i * 0x100000 + j * 0x20
/-- CORE_CTXBUF (R146). -/
def CORE_CTXBUF (i : Nat) (j : Nat) : Nat := 0x1000118 + i * 0x100000 + j * 0x20
/-- CORE_CTXPROG (R160). -/
def CORE_CTXPROG (i : Nat) (j : Nat) : Nat := 0x1000200 + i * 0x100000 + j * 0x20
/-- CORE_CTXTG (R160). -/
def CORE_CTXTG (i : Nat) (j : Nat) : Nat := 0x1000204 + i * 0x100000 + j * 0x20
/-- CORE_CTXDT (R160). -/
def CORE_CTXDT (i : Nat) (j : Nat) : Nat := 0x1000208 + i * 0x100000 + j * 0x20
/-- CORE_CTXWT (R160). -/
def CORE_CTXWT (i : Nat) (j : Nat) : Nat := 0x100020C + i * 0x100000 + j * 0x20
/-- CORE_CTXST (R160). -/
def CORE_CTXST (i : Nat) (j : Nat) : Nat := 0x1000210 + i * 0x100000 + j * 0x20
/-- CORE_CTXPC (R160). -/
def CORE_CTXPC (i : Nat) (j : Nat) : Nat := 0x1000214 + i * 0x100000 + j * 0x20
/-- CORE_FLTINFO (R190). -/
def CORE_FLTINFO (i : Nat) (j : Nat) : Nat := 0x1000400 + i * 0x100000 + j * 0x40
/-- CORE_FLTOPND (R190). -/
def CORE_FLTOPND (i : Nat) (j : Nat) (k : Nat) : Nat := 0x1000404 + i * 0x100000 + j * 0x40 + k * 0x4
/-- CORE_FLTBW (R190). -/
def CORE_FLTBW (i : Nat) (j : Nat) (k : Nat) : Nat := 0x1000414 + i * 0x100000 + j * 0x40 + k * 0x4
/-- CORE_ASUM (R42). -/
def CORE_ASUM (i : Nat) (j : Nat) : Nat := 0x100BF00 + i * 0x100000 + j * 0x4
/-- CORE_LZERO_LO (R42). -/
def CORE_LZERO_LO (i : Nat) (j : Nat) : Nat := 0x100C000 + i * 0x100000 + j * 0x40
/-- CORE_LZERO_HI (R42). -/
def CORE_LZERO_HI (i : Nat) (j : Nat) : Nat := 0x100C004 + i * 0x100000 + j * 0x40
/-- CORE_LCSAT (R42). -/
def CORE_LCSAT (i : Nat) (j : Nat) : Nat := 0x100C008 + i * 0x100000 + j * 0x40
/-- CORE_LOSAT (R42). -/
def CORE_LOSAT (i : Nat) (j : Nat) : Nat := 0x100C00C + i * 0x100000 + j * 0x40
/-- CORE_LOZERO (R42). -/
def CORE_LOZERO (i : Nat) (j : Nat) : Nat := 0x100C010 + i * 0x100000 + j * 0x40
/-- CORE_LFLAG (R42). -/
def CORE_LFLAG (i : Nat) (j : Nat) : Nat := 0x100C014 + i * 0x100000 + j * 0x40
/-- CORE_LRANGE (R42). -/
def CORE_LRANGE (i : Nat) (j : Nat) : Nat := 0x100C018 + i * 0x100000 + j * 0x40
/-- CORE_LINVAL (R42). -/
def CORE_LINVAL (i : Nat) (j : Nat) : Nat := 0x100C01C + i * 0x100000 + j * 0x40
/-- CORE_LTHR0 (R42). -/
def CORE_LTHR0 (i : Nat) (j : Nat) : Nat := 0x100C020 + i * 0x100000 + j * 0x40
/-- CORE_LTHR1 (R42). -/
def CORE_LTHR1 (i : Nat) (j : Nat) : Nat := 0x100C024 + i * 0x100000 + j * 0x40
/-- CORE_LSTAT (R42). -/
def CORE_LSTAT (i : Nat) (j : Nat) : Nat := 0x100C028 + i * 0x100000 + j * 0x40
/-- CORE_LCMD (R42). -/
def CORE_LCMD (i : Nat) (j : Nat) : Nat := 0x100C02C + i * 0x100000 + j * 0x40
/-- SHELF_ECCSTAT (R146). -/
def SHELF_ECCSTAT (i : Nat) : Nat := 0x1010000 + i * 0x100000
/-- SHELF_CECNT (R146). -/
def SHELF_CECNT (i : Nat) : Nat := 0x1010004 + i * 0x100000
/-- SHELF_UECNT (R146). -/
def SHELF_UECNT (i : Nat) : Nat := 0x1010008 + i * 0x100000
/-- SHELF_LASTUE (R146). -/
def SHELF_LASTUE (i : Nat) : Nat := 0x101000C + i * 0x100000
/-- SHELF_SCRUB (R146). -/
def SHELF_SCRUB (i : Nat) : Nat := 0x1010010 + i * 0x100000
/-- SHELF_TAGIDX (R146). -/
def SHELF_TAGIDX (i : Nat) : Nat := 0x1010014 + i * 0x100000
/-- SHELF_TAGDATA (R146). -/
def SHELF_TAGDATA (i : Nat) : Nat := 0x1010018 + i * 0x100000
/-- SHELF_BUFA (R146). -/
def SHELF_BUFA (i : Nat) (j : Nat) : Nat := 0x1011000 + i * 0x100000 + j * 0x8
/-- SHELF_BUFB (R146). -/
def SHELF_BUFB (i : Nat) (j : Nat) : Nat := 0x1011004 + i * 0x100000 + j * 0x8
/-- QUE_QSTAT (R147). -/
def QUE_QSTAT (i : Nat) (j : Nat) : Nat := 0x1020000 + i * 0x100000 + j * 0x4
/-- QUE_LATECNT (R255). -/
def QUE_LATECNT (i : Nat) (j : Nat) : Nat := 0x1020040 + i * 0x100000 + j * 0x8
/-- QUE_LATETIME (R255). -/
def QUE_LATETIME (i : Nat) (j : Nat) : Nat := 0x1020044 + i * 0x100000 + j * 0x8
/-- QUE_LATESTAT (R255). -/
def QUE_LATESTAT (i : Nat) : Nat := 0x1020060 + i * 0x100000
/-- QUE_CENQ (R147). -/
def QUE_CENQ (i : Nat) (j : Nat) : Nat := 0x1020100 + i * 0x100000 + j * 0x10
/-- QUE_CDONE (R147). -/
def QUE_CDONE (i : Nat) (j : Nat) : Nat := 0x1020104 + i * 0x100000 + j * 0x10
/-- QUE_CSTAT (R147). -/
def QUE_CSTAT (i : Nat) (j : Nat) : Nat := 0x1020108 + i * 0x100000 + j * 0x10
/-- QUE_DESC (R133). -/
def QUE_DESC (i : Nat) (j : Nat) : Nat := 0x1028000 + i * 0x100000 + j * 0x4
/-- CORE_DTPL (R173). -/
def CORE_DTPL (i : Nat) (j : Nat) : Nat := 0x1030000 + i * 0x100000 + j * 0x4
/-- CORE_WTPL (R178). -/
def CORE_WTPL (i : Nat) (j : Nat) : Nat := 0x1031000 + i * 0x100000 + j * 0x4
/-- CORE_SENT (R181). -/
def CORE_SENT (i : Nat) (j : Nat) : Nat := 0x1032000 + i * 0x100000 + j * 0x4
/-- CORE_PMEM (R159). -/
def CORE_PMEM (i : Nat) (j : Nat) : Nat := 0x1040000 + i * 0x100000 + j * 0x4
/-- CORE_DCTL (R110). -/
def CORE_DCTL (i : Nat) : Nat := 0x1070000 + i * 0x100000
/-- CORE_DWIN (R110). -/
def CORE_DWIN (i : Nat) : Nat := 0x1070004 + i * 0x100000
/-- CORE_DLIM (R110). -/
def CORE_DLIM (i : Nat) : Nat := 0x1070008 + i * 0x100000
/-- CORE_DTOL (R110). -/
def CORE_DTOL (i : Nat) : Nat := 0x107000C + i * 0x100000
/-- CORE_DTIME (R110). -/
def CORE_DTIME (i : Nat) : Nat := 0x1070010 + i * 0x100000
/-- CORE_DSTAT (R110). -/
def CORE_DSTAT (i : Nat) : Nat := 0x1070014 + i * 0x100000
/-- CORE_DCMD (R110). -/
def CORE_DCMD (i : Nat) : Nat := 0x1070018 + i * 0x100000
/-- CORE_DCIDX (R110). -/
def CORE_DCIDX (i : Nat) : Nat := 0x107001C + i * 0x100000
/-- CORE_DCDATA (R110). -/
def CORE_DCDATA (i : Nat) : Nat := 0x1070020 + i * 0x100000
/-- CORE_DTSEL (R110). -/
def CORE_DTSEL (i : Nat) : Nat := 0x1070024 + i * 0x100000
/-- CORE_DTRES (R110). -/
def CORE_DTRES (i : Nat) : Nat := 0x1070028 + i * 0x100000
/-- CORE_DTINFO (R110). -/
def CORE_DTINFO (i : Nat) : Nat := 0x107002C + i * 0x100000
/-- CORE_DTHINCNT (R110). -/
def CORE_DTHINCNT (i : Nat) : Nat := 0x1070030 + i * 0x100000
/-- CORE_DCTHINCNT (R110). -/
def CORE_DCTHINCNT (i : Nat) : Nat := 0x1070034 + i * 0x100000
/-- CORE_DOUTLCNT (R110). -/
def CORE_DOUTLCNT (i : Nat) : Nat := 0x1070038 + i * 0x100000
/-- CORE_DCOMMITCNT (R110). -/
def CORE_DCOMMITCNT (i : Nat) : Nat := 0x107003C + i * 0x100000
/-- CORE_DCLAMPCNT (R110). -/
def CORE_DCLAMPCNT (i : Nat) : Nat := 0x1070040 + i * 0x100000
/-- CORE_DEVCNT (R110). -/
def CORE_DEVCNT (i : Nat) : Nat := 0x1070044 + i * 0x100000
/-- RTR_STAT (R228). -/
def RTR_STAT (i : Nat) : Nat := 0x1078000 + i * 0x100000
/-- RTR_MERGECNT (R228). -/
def RTR_MERGECNT (i : Nat) : Nat := 0x1078004 + i * 0x100000
/-- RTR_UNLISTCNT (R228). -/
def RTR_UNLISTCNT (i : Nat) : Nat := 0x1078008 + i * 0x100000
/-- RTR_NOREDCNT (R228). -/
def RTR_NOREDCNT (i : Nat) : Nat := 0x107800C + i * 0x100000
/-- RTR_SPILLCNT (R228). -/
def RTR_SPILLCNT (i : Nat) : Nat := 0x1078010 + i * 0x100000
/-- RTR_OVERCNT (R228). -/
def RTR_OVERCNT (i : Nat) : Nat := 0x1078014 + i * 0x100000
/-- RTR_SHORTCNT (R228). -/
def RTR_SHORTCNT (i : Nat) : Nat := 0x1078018 + i * 0x100000
/-- RTR_MMCNT (R228). -/
def RTR_MMCNT (i : Nat) : Nat := 0x107801C + i * 0x100000
/-- RTR_DISCNT (R228). -/
def RTR_DISCNT (i : Nat) : Nat := 0x1078020 + i * 0x100000
/-- RTR_CECNT (R228). -/
def RTR_CECNT (i : Nat) : Nat := 0x1078024 + i * 0x100000
/-- RTR_DISC_LO (R228). -/
def RTR_DISC_LO (i : Nat) : Nat := 0x1078028 + i * 0x100000
/-- RTR_DISC_HI (R228). -/
def RTR_DISC_HI (i : Nat) : Nat := 0x107802C + i * 0x100000
/-- RTR_SHARE (R228). -/
def RTR_SHARE (i : Nat) (j : Nat) (k : Nat) : Nat := 0x1078100 + i * 0x100000 + j * 0x40 + k * 0x4
/-- RTR_RLSEG (R228). -/
def RTR_RLSEG (i : Nat) (j : Nat) : Nat := 0x1078300 + i * 0x100000 + j * 0x4
/-- RTR_RLIST (R228). -/
def RTR_RLIST (i : Nat) (j : Nat) : Nat := 0x1079000 + i * 0x100000 + j * 0x4
/-- RTR_REDA (R228). -/
def RTR_REDA (i : Nat) (j : Nat) : Nat := 0x107C000 + i * 0x100000 + j * 0x20
/-- RTR_REDB (R228). -/
def RTR_REDB (i : Nat) (j : Nat) : Nat := 0x107C004 + i * 0x100000 + j * 0x20
/-- RTR_REDC (R228). -/
def RTR_REDC (i : Nat) (j : Nat) : Nat := 0x107C008 + i * 0x100000 + j * 0x20
/-- RTR_REDSP_LO (R228). -/
def RTR_REDSP_LO (i : Nat) (j : Nat) : Nat := 0x107C00C + i * 0x100000 + j * 0x20
/-- RTR_REDSP_HI (R228). -/
def RTR_REDSP_HI (i : Nat) (j : Nat) : Nat := 0x107C010 + i * 0x100000 + j * 0x20
/-- TILE_CTL (R86). -/
def TILE_CTL (i : Nat) (j : Nat) : Nat := 0x1080000 + i * 0x100000 + j * 0x200
/-- TILE_STAT (R86). -/
def TILE_STAT (i : Nat) (j : Nat) : Nat := 0x1080004 + i * 0x100000 + j * 0x200
/-- TILE_RANGE (R86). -/
def TILE_RANGE (i : Nat) (j : Nat) : Nat := 0x1080008 + i * 0x100000 + j * 0x200
/-- TILE_WIN0 (R86). -/
def TILE_WIN0 (i : Nat) (j : Nat) : Nat := 0x108000C + i * 0x100000 + j * 0x200
/-- TILE_WIN1 (R86). -/
def TILE_WIN1 (i : Nat) (j : Nat) : Nat := 0x1080010 + i * 0x100000 + j * 0x200
/-- TILE_REFCFG (R86). -/
def TILE_REFCFG (i : Nat) (j : Nat) : Nat := 0x1080014 + i * 0x100000 + j * 0x200
/-- TILE_FLAGWIN (R86). -/
def TILE_FLAGWIN (i : Nat) (j : Nat) : Nat := 0x1080018 + i * 0x100000 + j * 0x200
/-- TILE_RDCNT_LO (R86). -/
def TILE_RDCNT_LO (i : Nat) (j : Nat) : Nat := 0x108001C + i * 0x100000 + j * 0x200
/-- TILE_RDCNT_HI (R86). -/
def TILE_RDCNT_HI (i : Nat) (j : Nat) : Nat := 0x1080020 + i * 0x100000 + j * 0x200
/-- TILE_REFIRECNT (R86). -/
def TILE_REFIRECNT (i : Nat) (j : Nat) : Nat := 0x1080024 + i * 0x100000 + j * 0x200
/-- TILE_FLAGCNT (R86). -/
def TILE_FLAGCNT (i : Nat) (j : Nat) : Nat := 0x1080028 + i * 0x100000 + j * 0x200
/-- TILE_UNCHKCNT (R86). -/
def TILE_UNCHKCNT (i : Nat) (j : Nat) : Nat := 0x108002C + i * 0x100000 + j * 0x200
/-- TILE_CLIPCNT (R86). -/
def TILE_CLIPCNT (i : Nat) (j : Nat) : Nat := 0x1080030 + i * 0x100000 + j * 0x200
/-- TILE_WINFLAG (R86). -/
def TILE_WINFLAG (i : Nat) (j : Nat) : Nat := 0x1080034 + i * 0x100000 + j * 0x200
/-- TILE_LAST0 (R86). -/
def TILE_LAST0 (i : Nat) (j : Nat) : Nat := 0x1080038 + i * 0x100000 + j * 0x200
/-- TILE_LAST1 (R86). -/
def TILE_LAST1 (i : Nat) (j : Nat) : Nat := 0x108003C + i * 0x100000 + j * 0x200
/-- TILE_LAST2 (R86). -/
def TILE_LAST2 (i : Nat) (j : Nat) : Nat := 0x1080040 + i * 0x100000 + j * 0x200
/-- TILE_CSIDX (R86). -/
def TILE_CSIDX (i : Nat) (j : Nat) : Nat := 0x1080044 + i * 0x100000 + j * 0x200
/-- TILE_CSDATA (R86). -/
def TILE_CSDATA (i : Nat) (j : Nat) : Nat := 0x1080048 + i * 0x100000 + j * 0x200
/-- TILE_DEGR (R86). -/
def TILE_DEGR (i : Nat) (j : Nat) : Nat := 0x108004C + i * 0x100000 + j * 0x200
/-- TILE_CMD (R86). -/
def TILE_CMD (i : Nat) (j : Nat) : Nat := 0x1080050 + i * 0x100000 + j * 0x200
/-- TILE_LASTBLK (R86). -/
def TILE_LASTBLK (i : Nat) (j : Nat) (k : Nat) : Nat := 0x1080080 + i * 0x100000 + j * 0x200 + k * 0x4
/-- TILE_SPARE (R83). -/
def TILE_SPARE (i : Nat) (j : Nat) (k : Nat) : Nat := 0x1080100 + i * 0x100000 + j * 0x200 + k * 0x4
/-- LNK_CTL (R340). -/
def LNK_CTL (i : Nat) : Nat := 0x2000000 + i * 0x10000
/-- LNK_STAT (R340). -/
def LNK_STAT (i : Nat) : Nat := 0x2000004 + i * 0x10000
/-- LNK_NEG (R340). -/
def LNK_NEG (i : Nat) : Nat := 0x2000008 + i * 0x10000
/-- LNK_PEER (R340). -/
def LNK_PEER (i : Nat) : Nat := 0x200000C + i * 0x10000
/-- LNK_FLUEID (R340). -/
def LNK_FLUEID (i : Nat) : Nat := 0x2000010 + i * 0x10000
/-- LNK_TMO (R340). -/
def LNK_TMO (i : Nat) : Nat := 0x2000014 + i * 0x10000
/-- LNK_FECCE (R340). -/
def LNK_FECCE (i : Nat) : Nat := 0x2000018 + i * 0x10000
/-- LNK_FECUE (R340). -/
def LNK_FECUE (i : Nat) : Nat := 0x200001C + i * 0x10000
/-- LNK_CRCCNT (R340). -/
def LNK_CRCCNT (i : Nat) : Nat := 0x2000020 + i * 0x10000
/-- LNK_REPLAYCNT (R340). -/
def LNK_REPLAYCNT (i : Nat) : Nat := 0x2000024 + i * 0x10000
/-- LNK_RETRAINCNT (R340). -/
def LNK_RETRAINCNT (i : Nat) : Nat := 0x2000028 + i * 0x10000
/-- LNK_LATECNT (R340). -/
def LNK_LATECNT (i : Nat) : Nat := 0x200002C + i * 0x10000
/-- LNK_INCCNT (R340). -/
def LNK_INCCNT (i : Nat) : Nat := 0x2000030 + i * 0x10000
/-- LNK_REFCNT (R340). -/
def LNK_REFCNT (i : Nat) : Nat := 0x2000034 + i * 0x10000
/-- LNK_MERGECNT (R340). -/
def LNK_MERGECNT (i : Nat) : Nat := 0x2000038 + i * 0x10000
/-- LNK_PBA (R340). -/
def LNK_PBA (i : Nat) (j : Nat) : Nat := 0x2000100 + i * 0x10000 + j * 0x10
/-- LNK_PBB (R340). -/
def LNK_PBB (i : Nat) (j : Nat) : Nat := 0x2000104 + i * 0x10000 + j * 0x10
/-- LNK_PBC (R340). -/
def LNK_PBC (i : Nat) (j : Nat) : Nat := 0x2000108 + i * 0x10000 + j * 0x10
/-- LNK_LWA (R340). -/
def LNK_LWA (i : Nat) (j : Nat) : Nat := 0x2000800 + i * 0x10000 + j * 0x8
/-- LNK_LWB (R340). -/
def LNK_LWB (i : Nat) (j : Nat) : Nat := 0x2000804 + i * 0x10000 + j * 0x8
/-- LNK_CHIP (R340). -/
def LNK_CHIP : Nat := 0x2100000
/-- LNK_SCCTL (R340). -/
def LNK_SCCTL : Nat := 0x2100004
/-- LNK_SC_LO (R340). -/
def LNK_SC_LO : Nat := 0x2100008
/-- LNK_SC_HI (R340). -/
def LNK_SC_HI : Nat := 0x210000C
/-- LNK_SCLOAD (R340). -/
def LNK_SCLOAD : Nat := 0x2100010
/-- LNK_SCSTAT (R340). -/
def LNK_SCSTAT : Nat := 0x2100014
/-- LNK_XTIME (R340). -/
def LNK_XTIME : Nat := 0x2100018
/-- LNK_XDROPCNT (R340). -/
def LNK_XDROPCNT : Nat := 0x210001C
/-- HBM_STAT (R255). -/
def HBM_STAT (i : Nat) : Nat := 0x2800000 + i * 0x10000
/-- HBM_CECNT (R255). -/
def HBM_CECNT (i : Nat) : Nat := 0x2800004 + i * 0x10000
/-- HBM_UECNT (R255). -/
def HBM_UECNT (i : Nat) : Nat := 0x2800008 + i * 0x10000
/-- HBM_POISCNT (R255). -/
def HBM_POISCNT (i : Nat) : Nat := 0x280000C + i * 0x10000
/-- HBM_REFCNT (R255). -/
def HBM_REFCNT (i : Nat) : Nat := 0x2800010 + i * 0x10000
/-- HBM_LASTUE_LO (R255). -/
def HBM_LASTUE_LO (i : Nat) : Nat := 0x2800014 + i * 0x10000
/-- HBM_LASTUE_HI (R255). -/
def HBM_LASTUE_HI (i : Nat) : Nat := 0x2800018 + i * 0x10000
/-- HBM_CETHR (R255). -/
def HBM_CETHR (i : Nat) : Nat := 0x280001C + i * 0x10000
/-- HBM_TEMP (R255). -/
def HBM_TEMP (i : Nat) : Nat := 0x2800020 + i * 0x10000
/-- HBM_RDG_LO (R255). -/
def HBM_RDG_LO (i : Nat) : Nat := 0x2800024 + i * 0x10000
/-- HBM_RDG_HI (R255). -/
def HBM_RDG_HI (i : Nat) : Nat := 0x2800028 + i * 0x10000
/-- HBM_WRG_LO (R255). -/
def HBM_WRG_LO (i : Nat) : Nat := 0x280002C + i * 0x10000
/-- HBM_WRG_HI (R255). -/
def HBM_WRG_HI (i : Nat) : Nat := 0x2800030 + i * 0x10000
/-- HBM_MVCNT (R255). -/
def HBM_MVCNT (i : Nat) : Nat := 0x2800034 + i * 0x10000
/-- HBM_MVFAIL (R255). -/
def HBM_MVFAIL (i : Nat) : Nat := 0x2800038 + i * 0x10000
/-- HBM_SHARE (R255). -/
def HBM_SHARE (i : Nat) (j : Nat) : Nat := 0x2800100 + i * 0x10000 + j * 0x4
/-- HBM_RGNA (R255). -/
def HBM_RGNA (i : Nat) : Nat := 0x2804000 + i * 0x10
/-- HBM_RGNB (R255). -/
def HBM_RGNB (i : Nat) : Nat := 0x2804004 + i * 0x10
/-- HBM_RGNC (R255). -/
def HBM_RGNC (i : Nat) : Nat := 0x2804008 + i * 0x10
/-- HBM_RGND (R255). -/
def HBM_RGND (i : Nat) : Nat := 0x280400C + i * 0x10
/-- HBM_HMAP (R255). -/
def HBM_HMAP (i : Nat) : Nat := 0x2808000 + i * 0x4
/-- CNET_STAT (R229). -/
def CNET_STAT : Nat := 0x3000000
/-- CNET_OVFCNT (R229). -/
def CNET_OVFCNT : Nat := 0x3000004
/-- CNET_BDROPCNT (R229). -/
def CNET_BDROPCNT : Nat := 0x3000008
/-- CNET_ERRCNT (R229). -/
def CNET_ERRCNT : Nat := 0x300000C
/-- CNET_RECLTO (R229). -/
def CNET_RECLTO : Nat := 0x3000010
/-- CNET_PMEM (R229). -/
def CNET_PMEM (i : Nat) : Nat := 0x3000100 + i * 0x8
/-- CNET_PSTAT (R229). -/
def CNET_PSTAT (i : Nat) : Nat := 0x3000104 + i * 0x8
/-- FLS_STAT (R364). -/
def FLS_STAT : Nat := 0x3800000
/-- FLS_PCTL (R364). -/
def FLS_PCTL : Nat := 0x3800004
/-- FLS_LCMD (R364). -/
def FLS_LCMD : Nat := 0x3800008
/-- FLS_CECNT (R364). -/
def FLS_CECNT : Nat := 0x380000C
/-- FLS_UECNT (R364). -/
def FLS_UECNT : Nat := 0x3800010
/-- FLS_RETRYCNT (R364). -/
def FLS_RETRYCNT : Nat := 0x3800014
/-- FLS_TGATECNT (R364). -/
def FLS_TGATECNT : Nat := 0x3800018
/-- FLS_TSEL (R364). -/
def FLS_TSEL : Nat := 0x380001C
/-- FLS_TINFO (R364). -/
def FLS_TINFO : Nat := 0x3800020
/-- FLS_PLOAD (R364). -/
def FLS_PLOAD (i : Nat) : Nat := 0x3800100 + i * 0x4
/-- CFG_BOOT (R390). -/
def CFG_BOOT : Nat := 0x3801000
/-- CFG_BOOTREC (R390). -/
def CFG_BOOTREC : Nat := 0x3801004
/-- CFG_ID (R390). -/
def CFG_ID : Nat := 0x3801008
/-- CFG_SVN (R390). -/
def CFG_SVN : Nat := 0x380100C
/-- CFG_SKIPCNT (R390). -/
def CFG_SKIPCNT : Nat := 0x3801010
/-- CFG_TIME (R390). -/
def CFG_TIME : Nat := 0x3801014
/-- PCI_VID (R559). -/
def PCI_VID (i : Nat) : Nat := 0x10000000 + i * 0x100000
/-- PCI_VSTAT (R559). -/
def PCI_VSTAT (i : Nat) : Nat := 0x10000004 + i * 0x100000
/-- PCI_VCTL (R559). -/
def PCI_VCTL (i : Nat) : Nat := 0x10000008 + i * 0x100000
/-- PCI_VSQBASE_LO (R559). -/
def PCI_VSQBASE_LO (i : Nat) : Nat := 0x10000010 + i * 0x100000
/-- PCI_VSQBASE_HI (R559). -/
def PCI_VSQBASE_HI (i : Nat) : Nat := 0x10000014 + i * 0x100000
/-- PCI_VSQSIZE (R559). -/
def PCI_VSQSIZE (i : Nat) : Nat := 0x10000018 + i * 0x100000
/-- PCI_VCQBASE_LO (R559). -/
def PCI_VCQBASE_LO (i : Nat) : Nat := 0x10000020 + i * 0x100000
/-- PCI_VCQBASE_HI (R559). -/
def PCI_VCQBASE_HI (i : Nat) : Nat := 0x10000024 + i * 0x100000
/-- PCI_VCQSIZE (R559). -/
def PCI_VCQSIZE (i : Nat) : Nat := 0x10000028 + i * 0x100000
/-- PCI_VIRQ (R559). -/
def PCI_VIRQ (i : Nat) : Nat := 0x10000030 + i * 0x100000
/-- PCI_VCQWAIT (R559). -/
def PCI_VCQWAIT (i : Nat) : Nat := 0x10000034 + i * 0x100000
/-- PCI_VSQDB (R559). -/
def PCI_VSQDB (i : Nat) : Nat := 0x10001000 + i * 0x100000
/-- PCI_VCQDB (R559). -/
def PCI_VCQDB (i : Nat) : Nat := 0x10001004 + i * 0x100000
/-- PCI_VCTXIDX (R542). -/
def PCI_VCTXIDX (i : Nat) : Nat := 0x10010010 + i * 0x100000
/-- PCI_VCTXDATA (R542). -/
def PCI_VCTXDATA (i : Nat) : Nat := 0x10010014 + i * 0x100000

end Reg

namespace Fld

def GCTL_ID_PART : Fld := ⟨16, 16⟩
def GCTL_ID_STEP_LETTER : Fld := ⟨4, 4⟩
def GCTL_ID_STEP_DIGIT : Fld := ⟨0, 4⟩
def GCTL_SKU_POWER_LIMIT_W : Fld := ⟨16, 16⟩
def GCTL_SKU_DEBUG_FUSED : Fld := ⟨2, 1⟩
def GCTL_SKU_CODE : Fld := ⟨0, 2⟩
def GCTL_STRAP_BAND : Fld := ⟨16, 9⟩
def GCTL_STRAP_NOLOAD : Fld := ⟨8, 1⟩
def GCTL_STRAP_I3CADDR : Fld := ⟨6, 2⟩
def GCTL_STRAP_MGMT : Fld := ⟨5, 1⟩
def GCTL_STRAP_COPY : Fld := ⟨4, 1⟩
def GCTL_STRAP_NORMODE : Fld := ⟨3, 1⟩
def GCTL_STRAP_OSC : Fld := ⟨0, 3⟩
def GCTL_INPUT_HELD : Fld := ⟨8, 4⟩
def GCTL_INPUT_BAND : Fld := ⟨0, 4⟩
def GCTL_CTL_STOPTO : Fld := ⟨8, 16⟩
def GCTL_CTL_HOLD : Fld := ⟨0, 1⟩
def GCTL_PCMD_OP : Fld := ⟨30, 2⟩
def GCTL_PCMD_PART : Fld := ⟨0, 6⟩
def GCTL_PCSTAT_RESULT : Fld := ⟨30, 2⟩
def GCTL_PCSTAT_REASON : Fld := ⟨24, 3⟩
def GCTL_PCSTAT_PART : Fld := ⟨0, 6⟩
def GCTL_RESET_RESTART : Fld := ⟨0, 16⟩
def SEC_STAT_WREJ : Fld := ⟨8, 1⟩
def SEC_STAT_FWK : Fld := ⟨7, 1⟩
def SEC_STAT_DBGOPEN : Fld := ⟨6, 1⟩
def SEC_STAT_TAMPER : Fld := ⟨5, 1⟩
def SEC_STAT_APPROVED : Fld := ⟨4, 1⟩
def SEC_STAT_STATE : Fld := ⟨0, 4⟩
def SEC_ERR_TEST : Fld := ⟨8, 8⟩
def SEC_ERR_SOFTN : Fld := ⟨0, 8⟩
def SEC_CMD_OP : Fld := ⟨0, 8⟩
def SEC_CSTAT_RESULT : Fld := ⟨0, 4⟩
def SEC_DBG_FUSED : Fld := ⟨1, 1⟩
def SEC_DBG_LOCK : Fld := ⟨0, 1⟩
def SEC_MINSVN_VALUE : Fld := ⟨0, 32⟩
def SEC_TENIDX_TENANT : Fld := ⟨0, 10⟩
def SEC_TENPM_LO_PMASK : Fld := ⟨0, 32⟩
def SEC_TENPM_HI_PMASK : Fld := ⟨0, 32⟩
def SEC_TENSKIP_VALUE : Fld := ⟨0, 32⟩
def SEC_MBX_WORD : Fld := ⟨0, 32⟩
def LOG_STAT_WREJ : Fld := ⟨4, 1⟩
def LOG_STAT_SUPP : Fld := ⟨3, 1⟩
def LOG_STAT_WAITWIN : Fld := ⟨2, 1⟩
def LOG_STAT_PFAIL : Fld := ⟨1, 1⟩
def LOG_STAT_RSFAIL : Fld := ⟨0, 1⟩
def LOG_CTL_MINSEV : Fld := ⟨2, 3⟩
def LOG_CTL_MCTPEN : Fld := ⟨1, 1⟩
def LOG_CTL_ETHEN : Fld := ⟨0, 1⟩
def LOG_ESC_PARTN : Fld := ⟨24, 8⟩
def LOG_ESC_COREN : Fld := ⟨16, 8⟩
def LOG_ESC_GRPN : Fld := ⟨8, 8⟩
def LOG_ESC_DEVN : Fld := ⟨0, 8⟩
def LOG_SEQ_LO_COUNT : Fld := ⟨0, 32⟩
def LOG_SEQ_HI_COUNT : Fld := ⟨0, 32⟩
def LOG_QSTAT_MAX : Fld := ⟨16, 7⟩
def LOG_QSTAT_CUR : Fld := ⟨0, 7⟩
def LOG_SUPCNT_COUNT : Fld := ⟨0, 32⟩
def LOG_RDIDX_NOR : Fld := ⟨31, 1⟩
def LOG_RDIDX_ENTRY : Fld := ⟨5, 14⟩
def LOG_RDIDX_WORD : Fld := ⟨0, 5⟩
def LOG_RDDATA_VALUE : Fld := ⟨0, 32⟩
def LOG_FCMD_OP : Fld := ⟨30, 2⟩
def LOG_FCMD_KIND : Fld := ⟨28, 2⟩
def LOG_FCMD_CORE : Fld := ⟨10, 4⟩
def LOG_FCMD_INDEX : Fld := ⟨0, 10⟩
def LOG_CFENCE_TEST : Fld := ⟨16, 16⟩
def LOG_CFENCE_FAULT : Fld := ⟨0, 16⟩
def LOG_TCMD_GO : Fld := ⟨31, 1⟩
def LOG_TCMD_CORES : Fld := ⟨0, 16⟩
def LOG_TSTAT_BUSY : Fld := ⟨31, 1⟩
def LOG_TSTAT_RESULT : Fld := ⟨29, 2⟩
def LOG_TSTAT_FAILED : Fld := ⟨0, 16⟩
def LOG_PFAIL_FAILED : Fld := ⟨31, 1⟩
def LOG_PFAIL_CODE : Fld := ⟨0, 16⟩
def LOG_GFENCE_GROUPS : Fld := ⟨0, 16⟩
def MTR_TNS_VALUE : Fld := ⟨0, 32⟩
def MTR_TSEC_LO_VALUE : Fld := ⟨0, 32⟩
def MTR_TSEC_HI_VALUE : Fld := ⟨0, 32⟩
def MTR_TSET_LO_VALUE : Fld := ⟨0, 32⟩
def MTR_TSET_HI_VALUE : Fld := ⟨0, 32⟩
def MTR_TCMD_SET : Fld := ⟨0, 1⟩
def MTR_TSTAT_WREJ : Fld := ⟨3, 1⟩
def MTR_TSTAT_DISC : Fld := ⟨2, 1⟩
def MTR_TSTAT_PEND : Fld := ⟨1, 1⟩
def MTR_TSTAT_SYNC : Fld := ⟨0, 1⟩
def MTR_TSLEW_PPB : Fld := ⟨0, 32⟩
def MTR_PCFG_LEN : Fld := ⟨0, 17⟩
def MTR_ECFG_EGRAN : Fld := ⟨16, 16⟩
def MTR_ECFG_EWOP : Fld := ⟨0, 16⟩
def MTR_MIDX_SET : Fld := ⟨16, 14⟩
def MTR_MIDX_WORD : Fld := ⟨0, 5⟩
def MTR_MDATA_VALUE : Fld := ⟨0, 32⟩
def MTR_HIDX_SET : Fld := ⟨16, 14⟩
def MTR_HIDX_WORD : Fld := ⟨0, 5⟩
def MTR_HDATA_VALUE : Fld := ⟨0, 32⟩
def CLK_STAT_XLOSS : Fld := ⟨7, 1⟩
def CLK_STAT_REFLOSS : Fld := ⟨6, 1⟩
def CLK_STAT_SWDONE : Fld := ⟨5, 1⟩
def CLK_STAT_WREJ : Fld := ⟨4, 1⟩
def CLK_STAT_SWITCHING : Fld := ⟨1, 1⟩
def CLK_STAT_SRC : Fld := ⟨0, 1⟩
def CLK_OSCDLY_DLY : Fld := ⟨0, 3⟩
def CLK_REFCTL_AUTORET : Fld := ⟨2, 1⟩
def CLK_REFCTL_ORDER : Fld := ⟨1, 1⟩
def CLK_REFCTL_TARGET : Fld := ⟨0, 1⟩
def CLK_REFSTAT_QUALMS : Fld := ⟨16, 16⟩
def CLK_REFSTAT_QUALOK : Fld := ⟨1, 1⟩
def CLK_REFSTAT_LOCKED : Fld := ⟨0, 1⟩
def CLK_SWCNT_COUNT : Fld := ⟨0, 32⟩
def CLK_OPREQ_Q3 : Fld := ⟨9, 3⟩
def CLK_OPREQ_Q2 : Fld := ⟨6, 3⟩
def CLK_OPREQ_Q1 : Fld := ⟨3, 3⟩
def CLK_OPREQ_Q0 : Fld := ⟨0, 3⟩
def CLK_OPSTAT_BUSY : Fld := ⟨16, 4⟩
def CLK_OPSTAT_EFF : Fld := ⟨0, 12⟩
def CLK_BOOST_REST : Fld := ⟨16, 16⟩
def CLK_BOOST_MAX : Fld := ⟨0, 16⟩
def CLK_SEQ_SETTLE : Fld := ⟨16, 8⟩
def CLK_SEQ_VTOL : Fld := ⟨8, 8⟩
def CLK_SEQ_VTO : Fld := ⟨0, 8⟩
def CLK_AVS_RAIL3 : Fld := ⟨12, 4⟩
def CLK_AVS_RAIL2 : Fld := ⟨8, 4⟩
def CLK_AVS_RAIL1 : Fld := ⟨4, 4⟩
def CLK_AVS_RAIL0 : Fld := ⟨0, 4⟩
def CLK_LIMSTAT_REG : Fld := ⟨4, 1⟩
def CLK_LIMSTAT_BOOST : Fld := ⟨3, 1⟩
def CLK_LIMSTAT_THERM : Fld := ⟨2, 1⟩
def CLK_LIMSTAT_POWER : Fld := ⟨1, 1⟩
def CLK_LIMSTAT_PKG : Fld := ⟨0, 1⟩
def CLK_LIMCNT0_COUNT : Fld := ⟨0, 32⟩
def CLK_LIMCNT1_COUNT : Fld := ⟨0, 32⟩
def CLK_LIMCNT2_COUNT : Fld := ⟨0, 32⟩
def CLK_LIMCNT3_COUNT : Fld := ⟨0, 32⟩
def CLK_LIMCNT4_COUNT : Fld := ⟨0, 32⟩
def CLK_ISW_GO : Fld := ⟨31, 1⟩
def CLK_ISW_BUSY : Fld := ⟨30, 1⟩
def CLK_ISW_TARGET : Fld := ⟨7, 1⟩
def CLK_ISW_ISLAND : Fld := ⟨0, 7⟩
def CLK_FMCTL_START : Fld := ⟨31, 1⟩
def CLK_FMCTL_BUSY : Fld := ⟨30, 1⟩
def CLK_FMCTL_OVF : Fld := ⟨29, 1⟩
def CLK_FMCTL_WIN : Fld := ⟨24, 5⟩
def CLK_FMCTL_TSEL : Fld := ⟨16, 7⟩
def CLK_FMCTL_RSEL : Fld := ⟨0, 7⟩
def CLK_FMRES_COUNT : Fld := ⟨0, 32⟩
def PWR_STAT_REASON : Fld := ⟨12, 4⟩
def PWR_STAT_SLPACC : Fld := ⟨10, 1⟩
def PWR_STAT_ENTREF : Fld := ⟨9, 1⟩
def PWR_STAT_WREJ : Fld := ⟨8, 1⟩
def PWR_STAT_IDLE : Fld := ⟨4, 4⟩
def PWR_STAT_STATE : Fld := ⟨0, 3⟩
def PWR_CMD_OP : Fld := ⟨0, 3⟩
def PWR_CFG_DRAIN_TIMEOUT : Fld := ⟨8, 16⟩
def PWR_CFG_IDLE_DLY : Fld := ⟨0, 8⟩
def PWR_WAKECFG_STOKE : Fld := ⟨16, 16⟩
def PWR_WAKECFG_PEN : Fld := ⟨2, 1⟩
def PWR_WAKECFG_WLEVEL : Fld := ⟨1, 1⟩
def PWR_WAKECFG_WEN : Fld := ⟨0, 1⟩
def PWR_WAKESRC_PORT : Fld := ⟨16, 4⟩
def PWR_WAKESRC_SRC : Fld := ⟨0, 4⟩
def PWR_PADREL_LATCHED : Fld := ⟨16, 6⟩
def PWR_PADREL_RELEASE : Fld := ⟨0, 6⟩
def PWR_CAP_CAP : Fld := ⟨0, 16⟩
def PWR_ABUDGET_EREAD : Fld := ⟨16, 16⟩
def PWR_ABUDGET_ABUDGET : Fld := ⟨0, 16⟩
def PWR_GOV_AFLOOR : Fld := ⟨8, 16⟩
def PWR_GOV_MARGIN : Fld := ⟨0, 8⟩
def PWR_PMEAS_ARRAY : Fld := ⟨16, 16⟩
def PWR_PMEAS_PKG : Fld := ⟨0, 16⟩
def PWR_ABORTCNT_COUNT : Fld := ⟨0, 32⟩
def PWR_RSTCAUSE_RETLOST : Fld := ⟨5, 1⟩
def PWR_RSTCAUSE_DEEPEXIT : Fld := ⟨4, 1⟩
def PWR_RSTCAUSE_RESTART : Fld := ⟨3, 1⟩
def PWR_RSTCAUSE_OFFEXIT : Fld := ⟨2, 1⟩
def PWR_RSTCAUSE_BROWNOUT : Fld := ⟨1, 1⟩
def PWR_RSTCAUSE_COLD : Fld := ⟨0, 1⟩
def HOLD_CFG_TMIN : Fld := ⟨8, 8⟩
def HOLD_CFG_EN : Fld := ⟨0, 1⟩
def HOLD_STAT_VHOLD : Fld := ⟨10, 10⟩
def HOLD_STAT_DISARM : Fld := ⟨4, 3⟩
def HOLD_STAT_CLOW : Fld := ⟨3, 1⟩
def HOLD_STAT_WINDOW : Fld := ⟨2, 1⟩
def HOLD_STAT_CHARGING : Fld := ⟨1, 1⟩
def HOLD_STAT_ARMED : Fld := ⟨0, 1⟩
def HOLD_LAST_PAGES : Fld := ⟨16, 8⟩
def HOLD_LAST_NOTES : Fld := ⟨12, 4⟩
def HOLD_LAST_RESULT : Fld := ⟨0, 3⟩
def MADC_CTL_REFEN : Fld := ⟨0, 1⟩
def MADC_STAT_REFERR : Fld := ⟨3, 1⟩
def MADC_STAT_DROP : Fld := ⟨2, 1⟩
def MADC_STAT_WREJ : Fld := ⟨1, 1⟩
def MADC_STAT_REFRDY : Fld := ⟨0, 1⟩
def MADC_DROPCNT_COUNT : Fld := ⟨0, 32⟩
def MADC_CCTL_EN : Fld := ⟨31, 1⟩
def MADC_CCTL_LAST : Fld := ⟨16, 4⟩
def MADC_CSTAT_BUSY : Fld := ⟨31, 1⟩
def MADC_CSTAT_CUR : Fld := ⟨16, 4⟩
def MADC_CSTAT_PERIOD : Fld := ⟨0, 16⟩
def MADC_URG_GO : Fld := ⟨31, 1⟩
def MADC_URG_CORE : Fld := ⟨24, 4⟩
def MADC_URG_RATE : Fld := ⟨20, 4⟩
def MADC_URG_GAIN : Fld := ⟨16, 2⟩
def MADC_URG_INPUT : Fld := ⟨0, 6⟩
def MADC_URES_INVAL : Fld := ⟨31, 1⟩
def MADC_URES_COUNT : Fld := ⟨24, 7⟩
def MADC_URES_RESULT : Fld := ⟨0, 24⟩
def MADC_SEQ_CORE : Fld := ⟨24, 4⟩
def MADC_SEQ_RATE : Fld := ⟨20, 4⟩
def MADC_SEQ_GAIN : Fld := ⟨16, 2⟩
def MADC_SEQ_INPUT : Fld := ⟨0, 6⟩
def MADC_RES_INVAL : Fld := ⟨31, 1⟩
def MADC_RES_COUNT : Fld := ⟨24, 7⟩
def MADC_RES_RESULT : Fld := ⟨0, 24⟩
def THM_STAT_C2Q : Fld := ⟨16, 4⟩
def THM_STAT_NOREC : Fld := ⟨6, 1⟩
def THM_STAT_WREJ : Fld := ⟨5, 1⟩
def THM_STAT_BTFAULT : Fld := ⟨4, 1⟩
def THM_STAT_C2EV : Fld := ⟨3, 1⟩
def THM_STAT_C1EV : Fld := ⟨2, 1⟩
def THM_STAT_C2 : Fld := ⟨1, 1⟩
def THM_STAT_C1 : Fld := ⟨0, 1⟩
def THM_CONE1_THR : Fld := ⟨16, 10⟩
def THM_CONE1_HYST : Fld := ⟨0, 6⟩
def THM_CONE2_THR : Fld := ⟨16, 10⟩
def THM_CONE2_HYST : Fld := ⟨0, 6⟩
def THM_CONE3_THR : Fld := ⟨16, 10⟩
def THM_CONE3_HYST : Fld := ⟨0, 6⟩
def THM_THROT_BMARGIN : Fld := ⟨24, 8⟩
def THM_THROT_RELSTEP : Fld := ⟨16, 8⟩
def THM_THROT_THSTEP : Fld := ⟨0, 8⟩
def THM_HOT_DIODE : Fld := ⟨24, 5⟩
def THM_HOT_TEMP : Fld := ⟨0, 16⟩
def THM_ROCMD_GO : Fld := ⟨31, 1⟩
def THM_ROCMD_BUSY : Fld := ⟨30, 1⟩
def THM_ROCMD_CORE : Fld := ⟨0, 4⟩
def THM_RORES_CORE : Fld := ⟨16, 4⟩
def THM_RORES_TEMP : Fld := ⟨0, 16⟩
def THM_BT0_RNOM : Fld := ⟨0, 32⟩
def THM_BT1_BETA : Fld := ⟨16, 16⟩
def THM_BT1_RFIX : Fld := ⟨0, 16⟩
def THM_BTEMP_VALID : Fld := ⟨31, 1⟩
def THM_BTEMP_AGE : Fld := ⟨16, 15⟩
def THM_BTEMP_TEMP : Fld := ⟨0, 16⟩
def THM_C1CNT_COUNT : Fld := ⟨0, 32⟩
def THM_C2CNT_COUNT : Fld := ⟨0, 32⟩
def THM_CEIL_ATH : Fld := ⟨16, 16⟩
def THM_CEIL_CEIL : Fld := ⟨0, 12⟩
def IND_STAT_OPEV : Fld := ⟨16, 4⟩
def IND_STAT_WREJ : Fld := ⟨8, 1⟩
def IND_STAT_STATE : Fld := ⟨0, 8⟩
def IND_CFG_STRETCH : Fld := ⟨31, 1⟩
def IND_CFG_BLINK : Fld := ⟨30, 1⟩
def IND_CFG_MODE : Fld := ⟨28, 2⟩
def IND_CFG_ISET : Fld := ⟨20, 5⟩
def IND_CFG_DUTY : Fld := ⟨8, 9⟩
def IND_CFG_PERIOD : Fld := ⟨0, 8⟩
def IND_RSCFG_DISC : Fld := ⟨16, 10⟩
def IND_RSCFG_DEB : Fld := ⟨0, 8⟩
def IND_RSSTAT_DFAULT : Fld := ⟨3, 1⟩
def IND_RSSTAT_STOP : Fld := ⟨2, 1⟩
def IND_RSSTAT_B : Fld := ⟨1, 1⟩
def IND_RSSTAT_A : Fld := ⟨0, 1⟩
def IND_GPICFG_DEB : Fld := ⟨16, 8⟩
def IND_GPICFG_EN : Fld := ⟨8, 8⟩
def IND_GPICFG_POL : Fld := ⟨0, 8⟩
def IND_GPISTAT_CHATTER : Fld := ⟨16, 8⟩
def IND_GPISTAT_STUCK : Fld := ⟨8, 8⟩
def IND_GPISTAT_LEVEL : Fld := ⟨0, 8⟩
def PCI_STAT_WIDTH : Fld := ⟨7, 5⟩
def PCI_STAT_SPEED : Fld := ⟨4, 3⟩
def PCI_STAT_FLIT : Fld := ⟨3, 1⟩
def PCI_STAT_LINKUP : Fld := ⟨2, 1⟩
def PCI_STAT_WREJ : Fld := ⟨0, 1⟩
def PCI_PFIRQEN_EN : Fld := ⟨0, 5⟩
def PCI_VFERR_LO_VF : Fld := ⟨0, 32⟩
def PCI_VFERR_HI_VF : Fld := ⟨0, 32⟩
def SRV_STAT_WREJ : Fld := ⟨0, 1⟩
def SRV_MT_LO_COUNT : Fld := ⟨0, 32⟩
def SRV_MT_HI_COUNT : Fld := ⟨0, 32⟩
def SRV_CTXIDX_CTX : Fld := ⟨5, 14⟩
def SRV_CTXIDX_WORD : Fld := ⟨0, 5⟩
def SRV_CTXDATA_VALUE : Fld := ⟨0, 32⟩
def SRV_COMMITCNT_COUNT : Fld := ⟨0, 32⟩
def SRV_REPLAYCNT_COUNT : Fld := ⟨0, 32⟩
def SRV_MISSCNT_COUNT : Fld := ⟨0, 32⟩
def SRV_INVLCNT_COUNT : Fld := ⟨0, 32⟩
def SRV_RCOVFCNT_COUNT : Fld := ⟨0, 32⟩
def SRV_KVWAITCNT_COUNT : Fld := ⟨0, 32⟩
def SRV_LATEINC_COUNT : Fld := ⟨0, 32⟩
def SRV_EXPCNT_COUNT : Fld := ⟨0, 32⟩
def SRV_PCFG_JOBPARTS : Fld := ⟨20, 12⟩
def SRV_PCFG_REPMAX : Fld := ⟨16, 4⟩
def SRV_PCFG_LEAD : Fld := ⟨9, 1⟩
def SRV_PCFG_EXTREP : Fld := ⟨8, 1⟩
def SRV_PCFG_TIER1 : Fld := ⟨7, 1⟩
def SRV_PCTX_COUNT : Fld := ⟨16, 16⟩
def SRV_PCTX_BASE : Fld := ⟨0, 14⟩
def SRV_PPLAN_DPE : Fld := ⟨24, 8⟩
def SRV_PPLAN_NSLOT : Fld := ⟨16, 8⟩
def SRV_PPLAN_PROW : Fld := ⟨0, 16⟩
def SRV_PLOG_CORE : Fld := ⟨28, 4⟩
def SRV_PLOG_V : Fld := ⟨0, 19⟩
def SRV_PSCHED_TOKBUD : Fld := ⟨16, 16⟩
def SRV_PSCHED_CHUNK : Fld := ⟨0, 16⟩
def SRV_PBAL_UNITS : Fld := ⟨26, 6⟩
def SRV_PBAL_SMIN : Fld := ⟨20, 6⟩
def SRV_PBAL_SMAX : Fld := ⟨14, 6⟩
def SRV_PBAL_HYST : Fld := ⟨8, 6⟩
def SRV_PBAL_PAGE : Fld := ⟨0, 8⟩
def SRV_PMODEL0_BASE : Fld := ⟨16, 16⟩
def SRV_PMODEL0_PERGEN : Fld := ⟨0, 16⟩
def SRV_PMODEL1_PTOKU : Fld := ⟨16, 16⟩
def SRV_PMODEL1_PERPTOK : Fld := ⟨0, 16⟩
def SRV_PCMD_REPLAY : Fld := ⟨0, 1⟩
def SRV_PSTAT_UP : Fld := ⟨26, 6⟩
def SRV_PSTAT_FAILS : Fld := ⟨22, 4⟩
def SRV_PSTAT_PEND : Fld := ⟨21, 1⟩
def SRV_PSTAT_STEP : Fld := ⟨0, 16⟩
def SRV_PDT_WORD : Fld := ⟨0, 32⟩
def ADP_SCTL_CFG : Fld := ⟨3, 1⟩
def ADP_SCTL_ACTIVE : Fld := ⟨2, 1⟩
def ADP_SCTL_STATE : Fld := ⟨0, 2⟩
def ADP_SSTAT_PIN1 : Fld := ⟨17, 15⟩
def ADP_SSTAT_PIN0 : Fld := ⟨2, 15⟩
def ADP_SSTAT_LOADED : Fld := ⟨1, 1⟩
def ADP_SSTAT_REF : Fld := ⟨0, 1⟩
def ADP_SCMD_START : Fld := ⟨2, 1⟩
def ADP_SCMD_LOAD : Fld := ⟨1, 1⟩
def ADP_SCMD_STOP : Fld := ⟨0, 1⟩
def ADP_BANK0_HANDLE : Fld := ⟨26, 6⟩
def ADP_BANK0_OFF : Fld := ⟨0, 26⟩
def ADP_BANK1_HANDLE : Fld := ⟨26, 6⟩
def ADP_BANK1_OFF : Fld := ⟨0, 26⟩
def ADP_GEN0_GEN : Fld := ⟨0, 32⟩
def ADP_GEN1_GEN : Fld := ⟨0, 32⟩
def ADP_PINTTL_MS : Fld := ⟨0, 32⟩
def ADP_SRC_LO_VALUE : Fld := ⟨0, 32⟩
def ADP_SRC_HI_VALUE : Fld := ⟨0, 32⟩
def ADP_SRCLEN_VALUE : Fld := ⟨0, 32⟩
def CORE_STAT_WREJ : Fld := ⟨8, 1⟩
def CORE_STAT_CTX_FAULT : Fld := ⟨0, 4⟩
def CORE_WDOG_EN : Fld := ⟨31, 1⟩
def CORE_WDOG_TIMEOUT : Fld := ⟨0, 16⟩
def CORE_PMCE_COUNT : Fld := ⟨0, 32⟩
def CORE_CTXCTL_RUN : Fld := ⟨18, 2⟩
def CORE_CTXCTL_MODE : Fld := ⟨16, 1⟩
def CORE_CTXCTL_PART : Fld := ⟨8, 6⟩
def CORE_CTXCTL_EN : Fld := ⟨0, 1⟩
def CORE_CTXROW_COUNT : Fld := ⟨16, 16⟩
def CORE_CTXROW_BASE : Fld := ⟨0, 16⟩
def CORE_CTXQ_QMASK : Fld := ⟨0, 16⟩
def CORE_CTXCTR_LO_CMASK : Fld := ⟨0, 32⟩
def CORE_CTXCTR_HI_CMASK : Fld := ⟨0, 32⟩
def CORE_CTXDESC_DCOUNT : Fld := ⟨16, 11⟩
def CORE_CTXDESC_DBASE : Fld := ⟨0, 10⟩
def CORE_CTXBUF_BCOUNT : Fld := ⟨16, 9⟩
def CORE_CTXBUF_BBASE : Fld := ⟨0, 8⟩
def CORE_CTXPROG_PCOUNT : Fld := ⟨16, 16⟩
def CORE_CTXPROG_PBASE : Fld := ⟨0, 16⟩
def CORE_CTXTG_WSHARE : Fld := ⟨16, 7⟩
def CORE_CTXTG_GMASK : Fld := ⟨0, 16⟩
def CORE_CTXDT_COUNT : Fld := ⟨16, 9⟩
def CORE_CTXDT_BASE : Fld := ⟨0, 8⟩
def CORE_CTXWT_COUNT : Fld := ⟨16, 9⟩
def CORE_CTXWT_BASE : Fld := ⟨0, 8⟩
def CORE_CTXST_COUNT : Fld := ⟨16, 9⟩
def CORE_CTXST_BASE : Fld := ⟨0, 8⟩
def CORE_CTXPC_STEP : Fld := ⟨16, 16⟩
def CORE_CTXPC_PC : Fld := ⟨0, 16⟩
def CORE_FLTINFO_VALID : Fld := ⟨31, 1⟩
def CORE_FLTINFO_MORE : Fld := ⟨30, 1⟩
def CORE_FLTINFO_SLOT : Fld := ⟨27, 3⟩
def CORE_FLTINFO_REASON : Fld := ⟨16, 8⟩
def CORE_FLTINFO_PC : Fld := ⟨0, 16⟩
def CORE_FLTOPND_VALUE : Fld := ⟨0, 32⟩
def CORE_FLTBW_VALUE : Fld := ⟨0, 32⟩
def CORE_ASUM_LAYER : Fld := ⟨0, 32⟩
def CORE_LZERO_LO_COUNT : Fld := ⟨0, 32⟩
def CORE_LZERO_HI_COUNT : Fld := ⟨0, 32⟩
def CORE_LCSAT_COUNT : Fld := ⟨0, 32⟩
def CORE_LOSAT_COUNT : Fld := ⟨0, 32⟩
def CORE_LOZERO_COUNT : Fld := ⟨0, 32⟩
def CORE_LFLAG_COUNT : Fld := ⟨0, 32⟩
def CORE_LRANGE_COUNT : Fld := ⟨0, 32⟩
def CORE_LINVAL_COUNT : Fld := ⟨0, 32⟩
def CORE_LTHR0_OZERO_EN : Fld := ⟨31, 1⟩
def CORE_LTHR0_OZERO_EXP : Fld := ⟨24, 5⟩
def CORE_LTHR0_OSAT_EN : Fld := ⟨23, 1⟩
def CORE_LTHR0_OSAT_EXP : Fld := ⟨16, 5⟩
def CORE_LTHR0_CSAT_EN : Fld := ⟨15, 1⟩
def CORE_LTHR0_CSAT_EXP : Fld := ⟨8, 5⟩
def CORE_LTHR0_ZERO_EN : Fld := ⟨7, 1⟩
def CORE_LTHR0_ZERO_EXP : Fld := ⟨0, 5⟩
def CORE_LTHR1_INVAL_EN : Fld := ⟨23, 1⟩
def CORE_LTHR1_INVAL_EXP : Fld := ⟨16, 5⟩
def CORE_LTHR1_RANGE_EN : Fld := ⟨15, 1⟩
def CORE_LTHR1_RANGE_EXP : Fld := ⟨8, 5⟩
def CORE_LTHR1_FLAG_EN : Fld := ⟨7, 1⟩
def CORE_LTHR1_FLAG_EXP : Fld := ⟨0, 5⟩
def CORE_LSTAT_INVAL : Fld := ⟨6, 1⟩
def CORE_LSTAT_RANGE : Fld := ⟨5, 1⟩
def CORE_LSTAT_FLAG : Fld := ⟨4, 1⟩
def CORE_LSTAT_OZERO : Fld := ⟨3, 1⟩
def CORE_LSTAT_OSAT : Fld := ⟨2, 1⟩
def CORE_LSTAT_CSAT : Fld := ⟨1, 1⟩
def CORE_LSTAT_ZERO : Fld := ⟨0, 1⟩
def CORE_LCMD_CLR : Fld := ⟨0, 1⟩
def SHELF_ECCSTAT_UE : Fld := ⟨1, 1⟩
def SHELF_ECCSTAT_CE : Fld := ⟨0, 1⟩
def SHELF_CECNT_COUNT : Fld := ⟨0, 32⟩
def SHELF_UECNT_COUNT : Fld := ⟨0, 32⟩
def SHELF_LASTUE_ROW : Fld := ⟨0, 16⟩
def SHELF_SCRUB_EN : Fld := ⟨31, 1⟩
def SHELF_SCRUB_PERIOD : Fld := ⟨0, 16⟩
def SHELF_TAGIDX_ROW : Fld := ⟨0, 16⟩
def SHELF_TAGDATA_POISON : Fld := ⟨1, 1⟩
def SHELF_TAGDATA_TAG : Fld := ⟨0, 1⟩
def SHELF_BUFA_VALID : Fld := ⟨31, 1⟩
def SHELF_BUFA_BASE : Fld := ⟨0, 16⟩
def SHELF_BUFB_CONS : Fld := ⟨21, 5⟩
def SHELF_BUFB_PROD : Fld := ⟨16, 5⟩
def SHELF_BUFB_LEN : Fld := ⟨0, 16⟩
def QUE_QSTAT_INFLIGHT : Fld := ⟨0, 9⟩
def QUE_LATECNT_COUNT : Fld := ⟨0, 32⟩
def QUE_LATETIME_CYCLES : Fld := ⟨0, 32⟩
def QUE_LATESTAT_LATE : Fld := ⟨0, 4⟩
def QUE_CENQ_COUNT : Fld := ⟨0, 32⟩
def QUE_CDONE_COUNT : Fld := ⟨0, 32⟩
def QUE_CSTAT_ERRQ : Fld := ⟨8, 4⟩
def QUE_CSTAT_ERR : Fld := ⟨0, 1⟩
def QUE_DESC_WORD : Fld := ⟨0, 32⟩
def CORE_DTPL_WORD : Fld := ⟨0, 32⟩
def CORE_WTPL_WORD : Fld := ⟨0, 32⟩
def CORE_SENT_WORD : Fld := ⟨0, 32⟩
def CORE_PMEM_WORD : Fld := ⟨0, 32⟩
def CORE_DCTL_TEMP_EN : Fld := ⟨3, 1⟩
def CORE_DCTL_COL_EN : Fld := ⟨2, 1⟩
def CORE_DCTL_MODE : Fld := ⟨0, 2⟩
def CORE_DWIN_XSPREAD : Fld := ⟨24, 8⟩
def CORE_DWIN_OUTLIER_K : Fld := ⟨16, 8⟩
def CORE_DWIN_COL_WIN_EXP : Fld := ⟨8, 5⟩
def CORE_DWIN_REF_WIN_EXP : Fld := ⟨0, 5⟩
def CORE_DLIM_MIN_COL : Fld := ⟨16, 16⟩
def CORE_DLIM_MIN_REF : Fld := ⟨0, 16⟩
def CORE_DTOL_RES_OFS : Fld := ⟨24, 8⟩
def CORE_DTOL_RES_GAIN : Fld := ⟨16, 8⟩
def CORE_DTOL_COL_STEP : Fld := ⟨8, 8⟩
def CORE_DTOL_COL_DEAD : Fld := ⟨0, 8⟩
def CORE_DTIME_ROUND : Fld := ⟨24, 8⟩
def CORE_DTIME_AGE_MAX : Fld := ⟨16, 8⟩
def CORE_DTIME_TEMP_STALE : Fld := ⟨8, 8⟩
def CORE_DTIME_TEMP_REQ : Fld := ⟨0, 8⟩
def CORE_DSTAT_DONE : Fld := ⟨10, 1⟩
def CORE_DSTAT_CLAMP : Fld := ⟨9, 1⟩
def CORE_DSTAT_WREJ : Fld := ⟨8, 1⟩
def CORE_DSTAT_ARMED : Fld := ⟨4, 1⟩
def CORE_DSTAT_READY : Fld := ⟨3, 1⟩
def CORE_DSTAT_BUILD : Fld := ⟨2, 1⟩
def CORE_DSTAT_STATE : Fld := ⟨0, 2⟩
def CORE_DCMD_DISCARD : Fld := ⟨2, 1⟩
def CORE_DCMD_BUILD : Fld := ⟨1, 1⟩
def CORE_DCMD_ARM : Fld := ⟨0, 1⟩
def CORE_DCIDX_BANK : Fld := ⟨28, 1⟩
def CORE_DCIDX_TILE : Fld := ⟨16, 10⟩
def CORE_DCIDX_PCOL : Fld := ⟨0, 11⟩
def CORE_DCDATA_GC : Fld := ⟨16, 16⟩
def CORE_DCDATA_OC : Fld := ⟨0, 16⟩
def CORE_DTSEL_TILE : Fld := ⟨0, 10⟩
def CORE_DTRES_GRES : Fld := ⟨16, 16⟩
def CORE_DTRES_ORES : Fld := ⟨0, 16⟩
def CORE_DTINFO_AGE : Fld := ⟨16, 16⟩
def CORE_DTINFO_TCOMMIT : Fld := ⟨4, 12⟩
def CORE_DTINFO_QUAL : Fld := ⟨2, 1⟩
def CORE_DTINFO_STATE : Fld := ⟨0, 2⟩
def CORE_DTHINCNT_COUNT : Fld := ⟨0, 32⟩
def CORE_DCTHINCNT_COUNT : Fld := ⟨0, 32⟩
def CORE_DOUTLCNT_COUNT : Fld := ⟨0, 32⟩
def CORE_DCOMMITCNT_COUNT : Fld := ⟨0, 32⟩
def CORE_DCLAMPCNT_COUNT : Fld := ⟨0, 32⟩
def CORE_DEVCNT_COUNT : Fld := ⟨0, 32⟩
def RTR_STAT_DOWN : Fld := ⟨4, 3⟩
def RTR_STAT_SBUE : Fld := ⟨2, 1⟩
def RTR_STAT_WREJ : Fld := ⟨1, 1⟩
def RTR_STAT_FENCED : Fld := ⟨0, 1⟩
def RTR_MERGECNT_COUNT : Fld := ⟨0, 32⟩
def RTR_UNLISTCNT_COUNT : Fld := ⟨0, 32⟩
def RTR_NOREDCNT_COUNT : Fld := ⟨0, 32⟩
def RTR_SPILLCNT_COUNT : Fld := ⟨0, 32⟩
def RTR_OVERCNT_COUNT : Fld := ⟨0, 32⟩
def RTR_SHORTCNT_COUNT : Fld := ⟨0, 32⟩
def RTR_MMCNT_COUNT : Fld := ⟨0, 32⟩
def RTR_DISCNT_COUNT : Fld := ⟨0, 32⟩
def RTR_CECNT_COUNT : Fld := ⟨0, 32⟩
def RTR_DISC_LO_PMASK : Fld := ⟨0, 32⟩
def RTR_DISC_HI_PMASK : Fld := ⟨0, 32⟩
def RTR_SHARE_SHARE3 : Fld := ⟨24, 7⟩
def RTR_SHARE_SHARE2 : Fld := ⟨16, 7⟩
def RTR_SHARE_SHARE1 : Fld := ⟨8, 7⟩
def RTR_SHARE_SHARE0 : Fld := ⟨0, 7⟩
def RTR_RLSEG_COUNT : Fld := ⟨16, 12⟩
def RTR_RLSEG_BASE : Fld := ⟨0, 11⟩
def RTR_RLIST_SNODE : Fld := ⟨26, 6⟩
def RTR_RLIST_STE : Fld := ⟨18, 8⟩
def RTR_RLIST_COUNT : Fld := ⟨0, 16⟩
def RTR_REDA_VALID : Fld := ⟨31, 1⟩
def RTR_REDA_PART : Fld := ⟨8, 6⟩
def RTR_REDA_NROWS : Fld := ⟨0, 7⟩
def RTR_REDB_RID : Fld := ⟨16, 16⟩
def RTR_REDB_DROW : Fld := ⟨0, 16⟩
def RTR_REDC_EXPECT : Fld := ⟨0, 32⟩
def RTR_REDSP_LO_SPILL : Fld := ⟨0, 32⟩
def RTR_REDSP_HI_SPILL : Fld := ⟨0, 32⟩
def TILE_CTL_DEGR_ACCEPT : Fld := ⟨4, 1⟩
def TILE_CTL_REFIRE_MAX : Fld := ⟨2, 2⟩
def TILE_STAT_HOT : Fld := ⟨10, 1⟩
def TILE_STAT_DRIFT_EV : Fld := ⟨9, 1⟩
def TILE_STAT_WREJ : Fld := ⟨8, 1⟩
def TILE_STAT_STATE : Fld := ⟨0, 3⟩
def TILE_RANGE_STEP_EXP : Fld := ⟨0, 4⟩
def TILE_WIN0_GAIN_TOL : Fld := ⟨8, 8⟩
def TILE_WIN0_OFS_TOL : Fld := ⟨0, 8⟩
def TILE_WIN1_SIGMA_HOT : Fld := ⟨16, 8⟩
def TILE_WIN1_SIGMA_COOL : Fld := ⟨8, 8⟩
def TILE_WIN1_CONF_K : Fld := ⟨0, 8⟩
def TILE_REFCFG_REF_MIN : Fld := ⟨16, 5⟩
def TILE_REFCFG_REF_MASK : Fld := ⟨0, 16⟩
def TILE_FLAGWIN_FLAG_THR : Fld := ⟨8, 8⟩
def TILE_FLAGWIN_WIN_EXP : Fld := ⟨0, 5⟩
def TILE_RDCNT_LO_COUNT : Fld := ⟨0, 32⟩
def TILE_RDCNT_HI_COUNT : Fld := ⟨0, 32⟩
def TILE_REFIRECNT_COUNT : Fld := ⟨0, 32⟩
def TILE_FLAGCNT_COUNT : Fld := ⟨0, 32⟩
def TILE_UNCHKCNT_COUNT : Fld := ⟨0, 32⟩
def TILE_CLIPCNT_COUNT : Fld := ⟨0, 32⟩
def TILE_WINFLAG_COUNT : Fld := ⟨0, 8⟩
def TILE_LAST0_REF_FAIL : Fld := ⟨8, 16⟩
def TILE_LAST0_HOT : Fld := ⟨6, 1⟩
def TILE_LAST0_UNCHK : Fld := ⟨5, 1⟩
def TILE_LAST0_FLAGGED : Fld := ⟨4, 1⟩
def TILE_LAST0_N : Fld := ⟨0, 4⟩
def TILE_LAST1_CLIPPED : Fld := ⟨16, 11⟩
def TILE_LAST1_ZEROED : Fld := ⟨0, 11⟩
def TILE_LAST2_IBLK : Fld := ⟨0, 32⟩
def TILE_CSIDX_LCOL : Fld := ⟨0, 10⟩
def TILE_CSDATA_SCALE : Fld := ⟨8, 8⟩
def TILE_CSDATA_GAIN : Fld := ⟨0, 8⟩
def TILE_DEGR_UNREPAIRED : Fld := ⟨16, 11⟩
def TILE_DEGR_SPARES_USED : Fld := ⟨0, 7⟩
def TILE_CMD_CLR : Fld := ⟨0, 1⟩
def TILE_LASTBLK_XBLK : Fld := ⟨8, 6⟩
def TILE_LASTBLK_ZBLK : Fld := ⟨0, 6⟩
def TILE_SPARE_VALID : Fld := ⟨15, 1⟩
def TILE_SPARE_LCOL : Fld := ⟨0, 10⟩
def LNK_CTL_EN : Fld := ⟨31, 1⟩
def LNK_CTL_LOOP : Fld := ⟨30, 1⟩
def LNK_CTL_X4OK : Fld := ⟨29, 1⟩
def LNK_CTL_VMAX : Fld := ⟨12, 2⟩
def LNK_CTL_VMIN : Fld := ⟨10, 2⟩
def LNK_CTL_FREQ : Fld := ⟨4, 3⟩
def LNK_CTL_FOFF : Fld := ⟨0, 3⟩
def LNK_STAT_STATE : Fld := ⟨28, 4⟩
def LNK_STAT_REASON : Fld := ⟨24, 4⟩
def LNK_STAT_LANES : Fld := ⟨16, 8⟩
def LNK_STAT_WREJ : Fld := ⟨2, 1⟩
def LNK_STAT_DOWNEV : Fld := ⟨1, 1⟩
def LNK_STAT_RETRAINEV : Fld := ⟨0, 1⟩
def LNK_NEG_VER : Fld := ⟨8, 2⟩
def LNK_NEG_FEAT : Fld := ⟨0, 3⟩
def LNK_PEER_PPORT : Fld := ⟨28, 4⟩
def LNK_PEER_PMEMBER : Fld := ⟨12, 16⟩
def LNK_PEER_PCHIP : Fld := ⟨0, 12⟩
def LNK_FLUEID_FLUEID : Fld := ⟨0, 32⟩
def LNK_TMO_RPTO : Fld := ⟨24, 8⟩
def LNK_TMO_RETRAIN_TO : Fld := ⟨16, 8⟩
def LNK_TMO_TRAIN_TO : Fld := ⟨8, 8⟩
def LNK_FECCE_COUNT : Fld := ⟨0, 32⟩
def LNK_FECUE_COUNT : Fld := ⟨0, 32⟩
def LNK_CRCCNT_COUNT : Fld := ⟨0, 32⟩
def LNK_REPLAYCNT_COUNT : Fld := ⟨0, 32⟩
def LNK_RETRAINCNT_COUNT : Fld := ⟨0, 32⟩
def LNK_LATECNT_COUNT : Fld := ⟨0, 32⟩
def LNK_INCCNT_COUNT : Fld := ⟨0, 32⟩
def LNK_REFCNT_COUNT : Fld := ⟨0, 32⟩
def LNK_MERGECNT_COUNT : Fld := ⟨0, 32⟩
def LNK_PBA_VALID : Fld := ⟨31, 1⟩
def LNK_PBA_SHARE : Fld := ⟨16, 7⟩
def LNK_PBA_RPART : Fld := ⟨6, 6⟩
def LNK_PBA_PART : Fld := ⟨0, 6⟩
def LNK_PBB_JOB : Fld := ⟨16, 16⟩
def LNK_PBB_DLX : Fld := ⟨0, 16⟩
def LNK_PBC_EXPW : Fld := ⟨0, 24⟩
def LNK_LWA_VALID : Fld := ⟨31, 1⟩
def LNK_LWA_PART : Fld := ⟨16, 6⟩
def LNK_LWA_BASE : Fld := ⟨0, 16⟩
def LNK_LWB_COUNT : Fld := ⟨16, 16⟩
def LNK_LWB_NODE : Fld := ⟨0, 6⟩
def LNK_CHIP_LOCK : Fld := ⟨31, 1⟩
def LNK_CHIP_CHIP : Fld := ⟨0, 12⟩
def LNK_SCCTL_ARM : Fld := ⟨31, 1⟩
def LNK_SCCTL_TOL : Fld := ⟨0, 4⟩
def LNK_SC_LO_COUNT : Fld := ⟨0, 32⟩
def LNK_SC_HI_COUNT : Fld := ⟨0, 32⟩
def LNK_SCLOAD_PULSE : Fld := ⟨0, 32⟩
def LNK_SCSTAT_MISS : Fld := ⟨16, 16⟩
def LNK_SCSTAT_ERR : Fld := ⟨1, 1⟩
def LNK_SCSTAT_QUAL : Fld := ⟨0, 1⟩
def LNK_XTIME_XMARGIN : Fld := ⟨16, 16⟩
def LNK_XTIME_GOLEAD : Fld := ⟨0, 16⟩
def LNK_XDROPCNT_COUNT : Fld := ⟨0, 32⟩
def HBM_STAT_CETHR : Fld := ⟨7, 1⟩
def HBM_STAT_WREJ : Fld := ⟨6, 1⟩
def HBM_STAT_UE : Fld := ⟨5, 1⟩
def HBM_STAT_CE : Fld := ⟨4, 1⟩
def HBM_STAT_HOT : Fld := ⟨1, 1⟩
def HBM_STAT_TRAINED : Fld := ⟨0, 1⟩
def HBM_CECNT_COUNT : Fld := ⟨0, 32⟩
def HBM_UECNT_COUNT : Fld := ⟨0, 32⟩
def HBM_POISCNT_COUNT : Fld := ⟨0, 32⟩
def HBM_REFCNT_COUNT : Fld := ⟨0, 32⟩
def HBM_LASTUE_LO_OFFSET : Fld := ⟨0, 32⟩
def HBM_LASTUE_HI_OFFSET : Fld := ⟨0, 32⟩
def HBM_CETHR_EN : Fld := ⟨31, 1⟩
def HBM_CETHR_THR : Fld := ⟨0, 16⟩
def HBM_TEMP_TEMP : Fld := ⟨0, 8⟩
def HBM_RDG_LO_COUNT : Fld := ⟨0, 32⟩
def HBM_RDG_HI_COUNT : Fld := ⟨0, 32⟩
def HBM_WRG_LO_COUNT : Fld := ⟨0, 32⟩
def HBM_WRG_HI_COUNT : Fld := ⟨0, 32⟩
def HBM_MVCNT_COUNT : Fld := ⟨0, 32⟩
def HBM_MVFAIL_COUNT : Fld := ⟨0, 32⟩
def HBM_SHARE_SHARE3 : Fld := ⟨24, 7⟩
def HBM_SHARE_SHARE2 : Fld := ⟨16, 7⟩
def HBM_SHARE_SHARE1 : Fld := ⟨8, 7⟩
def HBM_SHARE_SHARE0 : Fld := ⟨0, 7⟩
def HBM_RGNA_VALID : Fld := ⟨31, 1⟩
def HBM_RGNA_HOST : Fld := ⟨30, 1⟩
def HBM_RGNA_TYPE : Fld := ⟨27, 3⟩
def HBM_RGNA_TENANT : Fld := ⟨16, 10⟩
def HBM_RGNA_PART : Fld := ⟨0, 6⟩
def HBM_RGNB_VALUE : Fld := ⟨0, 18⟩
def HBM_RGNC_VALUE : Fld := ⟨0, 18⟩
def HBM_RGND_INIT : Fld := ⟨31, 1⟩
def HBM_RGND_PEERCHIP : Fld := ⟨0, 12⟩
def HBM_HMAP_VALID : Fld := ⟨31, 1⟩
def HBM_HMAP_RGN : Fld := ⟨0, 10⟩
def CNET_STAT_OVF : Fld := ⟨1, 1⟩
def CNET_STAT_WREJ : Fld := ⟨0, 1⟩
def CNET_OVFCNT_COUNT : Fld := ⟨0, 32⟩
def CNET_BDROPCNT_COUNT : Fld := ⟨0, 32⟩
def CNET_ERRCNT_COUNT : Fld := ⟨0, 32⟩
def CNET_RECLTO_TIMEOUT : Fld := ⟨0, 16⟩
def CNET_PMEM_PORTS : Fld := ⟨16, 16⟩
def CNET_PMEM_CORES : Fld := ⟨0, 16⟩
def CNET_PSTAT_RUN : Fld := ⟨26, 2⟩
def CNET_PSTAT_BAR : Fld := ⟨25, 1⟩
def CNET_PSTAT_DISC : Fld := ⟨24, 1⟩
def CNET_PSTAT_BARID : Fld := ⟨16, 8⟩
def CNET_PSTAT_STEP : Fld := ⟨0, 16⟩
def FLS_STAT_DIRONE : Fld := ⟨4, 1⟩
def FLS_STAT_UE : Fld := ⟨3, 1⟩
def FLS_STAT_CE : Fld := ⟨2, 1⟩
def FLS_STAT_WREJ : Fld := ⟨1, 1⟩
def FLS_STAT_DIRVALID : Fld := ⟨0, 1⟩
def FLS_PCTL_RETRY : Fld := ⟨12, 4⟩
def FLS_PCTL_SWEEPS : Fld := ⟨8, 2⟩
def FLS_PCTL_PULSE_MAX : Fld := ⟨0, 6⟩
def FLS_LCMD_OP : Fld := ⟨30, 2⟩
def FLS_LCMD_RESUME : Fld := ⟨29, 1⟩
def FLS_LCMD_SLOT : Fld := ⟨8, 1⟩
def FLS_LCMD_PART : Fld := ⟨0, 6⟩
def FLS_CECNT_COUNT : Fld := ⟨0, 32⟩
def FLS_UECNT_COUNT : Fld := ⟨0, 32⟩
def FLS_RETRYCNT_COUNT : Fld := ⟨0, 32⟩
def FLS_TGATECNT_COUNT : Fld := ⟨0, 32⟩
def FLS_TSEL_CORE : Fld := ⟨10, 4⟩
def FLS_TSEL_TILE : Fld := ⟨0, 10⟩
def FLS_TINFO_PART : Fld := ⟨8, 6⟩
def FLS_TINFO_FORMAT : Fld := ⟨4, 1⟩
def FLS_TINFO_JSTATE : Fld := ⟨0, 2⟩
def FLS_PLOAD_STATE : Fld := ⟨30, 2⟩
def FLS_PLOAD_REASON : Fld := ⟨25, 5⟩
def FLS_PLOAD_TDONE : Fld := ⟨10, 15⟩
def FLS_PLOAD_SLOT : Fld := ⟨9, 1⟩
def CFG_BOOT_PHASE : Fld := ⟨28, 4⟩
def CFG_BOOT_FALLBACK : Fld := ⟨21, 1⟩
def CFG_BOOT_COPY : Fld := ⟨20, 1⟩
def CFG_BOOT_REASON1 : Fld := ⟨8, 8⟩
def CFG_BOOT_REASON0 : Fld := ⟨0, 8⟩
def CFG_BOOTREC_RECORD : Fld := ⟨20, 12⟩
def CFG_BOOTREC_ENTRY : Fld := ⟨0, 20⟩
def CFG_ID_VALUE : Fld := ⟨0, 32⟩
def CFG_SVN_VALUE : Fld := ⟨0, 32⟩
def CFG_SKIPCNT_COUNT : Fld := ⟨0, 12⟩
def CFG_TIME_MS : Fld := ⟨0, 32⟩
def PCI_VID_PART : Fld := ⟨16, 16⟩
def PCI_VID_PARTITION : Fld := ⟨0, 6⟩
def PCI_VSTAT_PFAIL : Fld := ⟨31, 1⟩
def PCI_VSTAT_PRUN : Fld := ⟨26, 2⟩
def PCI_VSTAT_RCAUSE : Fld := ⟨4, 4⟩
def PCI_VSTAT_RERR : Fld := ⟨2, 1⟩
def PCI_VSTAT_PSTEV : Fld := ⟨1, 1⟩
def PCI_VSTAT_WREJ : Fld := ⟨0, 1⟩
def PCI_VCTL_EN : Fld := ⟨0, 1⟩
def PCI_VSQBASE_LO_ADDR : Fld := ⟨0, 32⟩
def PCI_VSQBASE_HI_ADDR : Fld := ⟨0, 32⟩
def PCI_VSQSIZE_ENTRIES : Fld := ⟨0, 17⟩
def PCI_VCQBASE_LO_ADDR : Fld := ⟨0, 32⟩
def PCI_VCQBASE_HI_ADDR : Fld := ⟨0, 32⟩
def PCI_VCQSIZE_ENTRIES : Fld := ⟨0, 17⟩
def PCI_VIRQ_TIME : Fld := ⟨8, 8⟩
def PCI_VIRQ_CNT : Fld := ⟨0, 8⟩
def PCI_VCQWAIT_COUNT : Fld := ⟨0, 32⟩
def PCI_VSQDB_INDEX : Fld := ⟨0, 16⟩
def PCI_VCQDB_INDEX : Fld := ⟨0, 16⟩
def PCI_VCTXIDX_CTX : Fld := ⟨5, 14⟩
def PCI_VCTXIDX_WORD : Fld := ⟨0, 5⟩
def PCI_VCTXDATA_VALUE : Fld := ⟨0, 32⟩

end Fld

/-- Registers of the GCTL block. -/
def rowsGCTL : List RegRow := [
  ⟨0x0000000, [], 0x916000A1, 0, 0, 0, 0⟩ /- GCTL_ID -/,
  ⟨0x0000004, [], 0x0 + Config.powerLimitW * 0x10000 + Config.debugFused * 0x4 + Config.skuCode * 0x1, 0, 0, 0, 0⟩ /- GCTL_SKU -/,
  ⟨0x0000008, [], 0x5, 0, 0, 0, 0⟩ /- GCTL_STRAP -/,
  ⟨0x000000C, [], 0, 0, 0xf, 0, 0⟩ /- GCTL_INPUT -/,
  ⟨0x0000010, [], 0x6400, 0xffff01, 0, 0, 0⟩ /- GCTL_CTL -/,
  ⟨0x0000014, [], 0, 0, 0, 0, 0⟩ /- GCTL_PCMD -/,
  ⟨0x0000018, [], 0, 0, 0, 0, 0⟩ /- GCTL_PCSTAT -/,
  ⟨0x000001C, [], 0, 0, 0, 0, 0⟩ /- GCTL_RESET -/]

/-- Registers of the SEC block. -/
def rowsSEC : List RegRow := [
  ⟨0x0200000, [], 0, 0, 0x100, 0, 0⟩ /- SEC_STAT -/,
  ⟨0x0200004, [], 0, 0, 0, 0, 0⟩ /- SEC_ERR -/,
  ⟨0x0200008, [], 0, 0, 0, 0, 0⟩ /- SEC_CMD -/,
  ⟨0x020000C, [], 0, 0, 0, 0, 0⟩ /- SEC_CSTAT -/,
  ⟨0x0200010, [], 0x0 + Config.debugFused * 0x2, 0, 0, 0x1, 0⟩ /- SEC_DBG -/,
  ⟨0x0200014, [], 0, 0, 0, 0, 0⟩ /- SEC_MINSVN -/,
  ⟨0x0200018, [], 0, 0x3ff, 0, 0, 0⟩ /- SEC_TENIDX -/,
  ⟨0x020001C, [], 0, 0, 0, 0, 0⟩ /- SEC_TENPM_LO -/,
  ⟨0x0200020, [], 0, 0, 0, 0, 0⟩ /- SEC_TENPM_HI -/,
  ⟨0x0200024, [], 0, 0, 0, 0, 0⟩ /- SEC_TENSKIP -/,
  ⟨0x0201000, [(0x4, 1024)], 0, 0xffffffff, 0, 0, 0⟩ /- SEC_MBX -/]

/-- Registers of the LOG block. -/
def rowsLOG : List RegRow := [
  ⟨0x0300000, [], 0, 0, 0x18, 0, 0⟩ /- LOG_STAT -/,
  ⟨0x0300004, [], 0x3, 0x1f, 0, 0, 0⟩ /- LOG_CTL -/,
  ⟨0x0300008, [], 0x4040804, 0xffffffff, 0, 0, 0⟩ /- LOG_ESC -/,
  ⟨0x030000C, [], 0, 0, 0, 0, 0⟩ /- LOG_SEQ_LO -/,
  ⟨0x0300010, [], 0, 0, 0, 0, 0⟩ /- LOG_SEQ_HI -/,
  ⟨0x0300014, [], 0, 0, 0, 0, 0⟩ /- LOG_QSTAT -/,
  ⟨0x0300018, [], 0, 0, 0, 0, 0⟩ /- LOG_SUPCNT -/,
  ⟨0x030001C, [], 0, 0x8007ffff, 0, 0, 0⟩ /- LOG_RDIDX -/,
  ⟨0x0300020, [], 0, 0, 0, 0, 0⟩ /- LOG_RDDATA -/,
  ⟨0x0300024, [], 0, 0, 0, 0, 0⟩ /- LOG_FCMD -/,
  ⟨0x0300028, [], 0, 0, 0, 0, 0⟩ /- LOG_CFENCE -/,
  ⟨0x030002C, [], 0, 0xffff, 0, 0x80000000, 0⟩ /- LOG_TCMD -/,
  ⟨0x0300030, [], 0, 0, 0, 0, 0⟩ /- LOG_TSTAT -/,
  ⟨0x0300034, [], 0, 0, 0, 0, 0⟩ /- LOG_PFAIL -/,
  ⟨0x0300100, [(0x4, 16)], 0, 0, 0, 0, 0⟩ /- LOG_GFENCE -/]

/-- Registers of the MTR block. -/
def rowsMTR : List RegRow := [
  ⟨0x0380000, [], 0, 0, 0, 0, 0⟩ /- MTR_TNS -/,
  ⟨0x0380004, [], 0, 0, 0, 0, 0⟩ /- MTR_TSEC_LO -/,
  ⟨0x0380008, [], 0, 0, 0, 0, 0⟩ /- MTR_TSEC_HI -/,
  ⟨0x038000C, [], 0, 0xffffffff, 0, 0, 0⟩ /- MTR_TSET_LO -/,
  ⟨0x0380010, [], 0, 0xffffffff, 0, 0, 0⟩ /- MTR_TSET_HI -/,
  ⟨0x0380014, [], 0, 0, 0, 0, 0⟩ /- MTR_TCMD -/,
  ⟨0x0380018, [], 0, 0, 0xc, 0, 0⟩ /- MTR_TSTAT -/,
  ⟨0x038001C, [], 0, 0xffffffff, 0, 0, 0⟩ /- MTR_TSLEW -/,
  ⟨0x0380020, [], 0xE10, 0x1ffff, 0, 0, 0⟩ /- MTR_PCFG -/,
  ⟨0x0380024, [], 0x2800010, 0xffffffff, 0, 0, 0⟩ /- MTR_ECFG -/,
  ⟨0x0380028, [], 0, 0x3fff001f, 0, 0, 0⟩ /- MTR_MIDX -/,
  ⟨0x038002C, [], 0, 0, 0, 0, 0⟩ /- MTR_MDATA -/,
  ⟨0x0380030, [], 0, 0x3fff001f, 0, 0, 0⟩ /- MTR_HIDX -/,
  ⟨0x0380034, [], 0, 0, 0, 0, 0⟩ /- MTR_HDATA -/]

/-- Registers of the CLK block. -/
def rowsCLK : List RegRow := [
  ⟨0x0400000, [], 0x1, 0, 0xf0, 0, 0⟩ /- CLK_STAT -/,
  ⟨0x0400004, [], 0x5, 0x7, 0, 0, 0⟩ /- CLK_OSCDLY -/,
  ⟨0x0400008, [], 0x4, 0x5, 0, 0x2, 0⟩ /- CLK_REFCTL -/,
  ⟨0x040000C, [], 0, 0, 0, 0, 0⟩ /- CLK_REFSTAT -/,
  ⟨0x0400010, [], 0, 0, 0, 0, 0⟩ /- CLK_SWCNT -/,
  ⟨0x0400014, [], 0x924, 0xfff, 0, 0, 0⟩ /- CLK_OPREQ -/,
  ⟨0x0400018, [], 0x924, 0, 0, 0, 0⟩ /- CLK_OPSTAT -/,
  ⟨0x040001C, [], 0xC80032, 0xffffffff, 0, 0, 0⟩ /- CLK_BOOST -/,
  ⟨0x0400020, [], 0x20A0A, 0xffffff, 0, 0, 0⟩ /- CLK_SEQ -/,
  ⟨0x0400024, [], 0x3210, 0xffff, 0, 0, 0⟩ /- CLK_AVS -/,
  ⟨0x0400028, [], 0, 0, 0x1f, 0, 0⟩ /- CLK_LIMSTAT -/,
  ⟨0x040002C, [], 0, 0, 0, 0, 0⟩ /- CLK_LIMCNT0 -/,
  ⟨0x0400030, [], 0, 0, 0, 0, 0⟩ /- CLK_LIMCNT1 -/,
  ⟨0x0400034, [], 0, 0, 0, 0, 0⟩ /- CLK_LIMCNT2 -/,
  ⟨0x0400038, [], 0, 0, 0, 0, 0⟩ /- CLK_LIMCNT3 -/,
  ⟨0x040003C, [], 0, 0, 0, 0, 0⟩ /- CLK_LIMCNT4 -/,
  ⟨0x0400040, [], 0, 0xff, 0, 0x80000000, 0⟩ /- CLK_ISW -/,
  ⟨0x0400100, [(0x10, 4)], 0x1000003F, 0x1f7f007f, 0, 0x80000000, 0⟩ /- CLK_FMCTL -/,
  ⟨0x0400104, [(0x10, 4)], 0, 0, 0, 0, 0⟩ /- CLK_FMRES -/]

/-- Registers of the PWR block. -/
def rowsPWR : List RegRow := [
  ⟨0x0480000, [], 0, 0, 0x700, 0, 0⟩ /- PWR_STAT -/,
  ⟨0x0480004, [], 0, 0, 0, 0, 0⟩ /- PWR_CMD -/,
  ⟨0x0480008, [], 0x6408, 0xffffff, 0, 0, 0⟩ /- PWR_CFG -/,
  ⟨0x048000C, [], 0xFFFF0005, 0xffff0007, 0, 0, 0⟩ /- PWR_WAKECFG -/,
  ⟨0x0480010, [], 0, 0, 0, 0, 0⟩ /- PWR_WAKESRC -/,
  ⟨0x0480014, [], 0, 0, 0, 0x3f, 0⟩ /- PWR_PADREL -/,
  ⟨0x0480018, [], 0x0 + Config.powerLimitW * 0x1, 0xffff, 0, 0, 0⟩ /- PWR_CAP -/,
  ⟨0x048001C, [], 0xC4A012C, 0xffffffff, 0, 0, 0⟩ /- PWR_ABUDGET -/,
  ⟨0x0480020, [], 0x3214, 0xffffff, 0, 0, 0⟩ /- PWR_GOV -/,
  ⟨0x0480024, [], 0, 0, 0, 0, 0⟩ /- PWR_PMEAS -/,
  ⟨0x0480028, [], 0, 0, 0, 0, 0⟩ /- PWR_ABORTCNT -/,
  ⟨0x048002C, [], 0, 0, 0, 0, 0⟩ /- PWR_RSTCAUSE -/]

/-- Registers of the HOLD block. -/
def rowsHOLD : List RegRow := [
  ⟨0x0480100, [], 0x3901, 0xff01, 0, 0, 0⟩ /- HOLD_CFG -/,
  ⟨0x0480104, [], 0, 0, 0, 0, 0⟩ /- HOLD_STAT -/,
  ⟨0x0480108, [], 0, 0, 0, 0, 0⟩ /- HOLD_LAST -/]

/-- Registers of the MADC block. -/
def rowsMADC : List RegRow := [
  ⟨0x0500000, [], 0, 0x1, 0, 0, 0⟩ /- MADC_CTL -/,
  ⟨0x0500004, [], 0, 0, 0xe, 0, 0⟩ /- MADC_STAT -/,
  ⟨0x0500008, [], 0, 0, 0, 0, 0⟩ /- MADC_DROPCNT -/,
  ⟨0x0500100, [(0x100, 4)], 0, 0x800f0000, 0, 0, 0⟩ /- MADC_CCTL -/,
  ⟨0x0500104, [(0x100, 4)], 0, 0, 0, 0, 0⟩ /- MADC_CSTAT -/,
  ⟨0x0500108, [(0x100, 4)], 0, 0xff3003f, 0, 0x80000000, 0⟩ /- MADC_URG -/,
  ⟨0x050010C, [(0x100, 4)], 0x80000000, 0, 0, 0, 0⟩ /- MADC_URES -/,
  ⟨0x0500140, [(0x100, 4), (0x4, 16)], 0, 0xff3003f, 0, 0, 0⟩ /- MADC_SEQ -/,
  ⟨0x0500180, [(0x100, 4), (0x4, 16)], 0x80000000, 0, 0, 0, 0⟩ /- MADC_RES -/]

/-- Registers of the THM block. -/
def rowsTHM : List RegRow := [
  ⟨0x0580000, [], 0, 0, 0x6c, 0, 0⟩ /- THM_STAT -/,
  ⟨0x0580004, [], 0x17C0014, 0x3ff003f, 0, 0, 0⟩ /- THM_CONE1 -/,
  ⟨0x0580008, [], 0x1A40014, 0x3ff003f, 0, 0, 0⟩ /- THM_CONE2 -/,
  ⟨0x058000C, [], 0x1CC0014, 0x3ff003f, 0, 0, 0⟩ /- THM_CONE3 -/,
  ⟨0x0580010, [], 0xA140002, 0xffff00ff, 0, 0, 0⟩ /- THM_THROT -/,
  ⟨0x0580014, [], 0, 0, 0, 0, 0⟩ /- THM_HOT -/,
  ⟨0x0580018, [], 0, 0xf, 0, 0x80000000, 0⟩ /- THM_ROCMD -/,
  ⟨0x058001C, [], 0, 0, 0, 0, 0⟩ /- THM_RORES -/,
  ⟨0x0580020, [], 0x2710, 0xffffffff, 0, 0, 0⟩ /- THM_BT0 -/,
  ⟨0x0580024, [], 0xD6B03E8, 0xffffffff, 0, 0, 0⟩ /- THM_BT1 -/,
  ⟨0x0580028, [], 0x7FFF0000, 0, 0, 0, 0⟩ /- THM_BTEMP -/,
  ⟨0x058002C, [], 0, 0, 0, 0, 0⟩ /- THM_C1CNT -/,
  ⟨0x0580030, [], 0, 0, 0, 0, 0⟩ /- THM_C2CNT -/,
  ⟨0x0580034, [], 0x12C0B6D, 0, 0, 0, 0⟩ /- THM_CEIL -/]

/-- Registers of the IND block. -/
def rowsIND : List RegRow := [
  ⟨0x0600000, [], 0, 0, 0xf0100, 0, 0⟩ /- IND_STAT -/,
  ⟨0x0600010, [(0x4, 4)], 0x80A08064, 0xf1f1ffff, 0, 0, 0⟩ /- IND_CFG -/,
  ⟨0x0600020, [], 0x320002, 0x3ff00ff, 0, 0, 0⟩ /- IND_RSCFG -/,
  ⟨0x0600024, [], 0x7, 0, 0x8, 0, 0⟩ /- IND_RSSTAT -/,
  ⟨0x0600030, [], 0xA0000, 0xffffff, 0, 0, 0⟩ /- IND_GPICFG -/,
  ⟨0x0600034, [], 0, 0, 0xff0000, 0, 0⟩ /- IND_GPISTAT -/]

/-- Registers of the PCI block. -/
def rowsPCI : List RegRow := [
  ⟨0x0700000, [], 0, 0, 0x1, 0, 0⟩ /- PCI_STAT -/,
  ⟨0x0700004, [], 0, 0x1f, 0, 0, 0⟩ /- PCI_PFIRQEN -/,
  ⟨0x0700008, [], 0, 0, 0xffffffff, 0, 0⟩ /- PCI_VFERR_LO -/,
  ⟨0x070000C, [], 0, 0, 0xffffffff, 0, 0⟩ /- PCI_VFERR_HI -/,
  ⟨0x10000000, [(0x100000, 64)], 0x91600000, 0, 0, 0, 0⟩ /- PCI_VID -/,
  ⟨0x10000004, [(0x100000, 64)], 0, 0, 0x3, 0, 0⟩ /- PCI_VSTAT -/,
  ⟨0x10000008, [(0x100000, 64)], 0, 0x1, 0, 0, 0⟩ /- PCI_VCTL -/,
  ⟨0x10000010, [(0x100000, 64)], 0, 0xffffffff, 0, 0, 0⟩ /- PCI_VSQBASE_LO -/,
  ⟨0x10000014, [(0x100000, 64)], 0, 0xffffffff, 0, 0, 0⟩ /- PCI_VSQBASE_HI -/,
  ⟨0x10000018, [(0x100000, 64)], 0x40, 0x1ffff, 0, 0, 0⟩ /- PCI_VSQSIZE -/,
  ⟨0x10000020, [(0x100000, 64)], 0, 0xffffffff, 0, 0, 0⟩ /- PCI_VCQBASE_LO -/,
  ⟨0x10000024, [(0x100000, 64)], 0, 0xffffffff, 0, 0, 0⟩ /- PCI_VCQBASE_HI -/,
  ⟨0x10000028, [(0x100000, 64)], 0x40, 0x1ffff, 0, 0, 0⟩ /- PCI_VCQSIZE -/,
  ⟨0x10000030, [(0x100000, 64)], 0x1408, 0xffff, 0, 0, 0⟩ /- PCI_VIRQ -/,
  ⟨0x10000034, [(0x100000, 64)], 0, 0, 0, 0, 0⟩ /- PCI_VCQWAIT -/,
  ⟨0x10001000, [(0x100000, 64)], 0, 0xffff, 0, 0, 0⟩ /- PCI_VSQDB -/,
  ⟨0x10001004, [(0x100000, 64)], 0, 0xffff, 0, 0, 0⟩ /- PCI_VCQDB -/,
  ⟨0x10010010, [(0x100000, 64)], 0, 0x7ffff, 0, 0, 0⟩ /- PCI_VCTXIDX -/,
  ⟨0x10010014, [(0x100000, 64)], 0, 0, 0, 0, 0⟩ /- PCI_VCTXDATA -/]

/-- Registers of the SRV block. -/
def rowsSRV : List RegRow := [
  ⟨0x0800000, [], 0, 0, 0x1, 0, 0⟩ /- SRV_STAT -/,
  ⟨0x0800008, [], 0, 0, 0, 0, 0⟩ /- SRV_MT_LO -/,
  ⟨0x080000C, [], 0, 0, 0, 0, 0⟩ /- SRV_MT_HI -/,
  ⟨0x0800010, [], 0, 0x7ffff, 0, 0, 0⟩ /- SRV_CTXIDX -/,
  ⟨0x0800014, [], 0, 0, 0, 0, 0⟩ /- SRV_CTXDATA -/,
  ⟨0x0800020, [], 0, 0, 0, 0, 0⟩ /- SRV_COMMITCNT -/,
  ⟨0x0800024, [], 0, 0, 0, 0, 0⟩ /- SRV_REPLAYCNT -/,
  ⟨0x0800028, [], 0, 0, 0, 0, 0⟩ /- SRV_MISSCNT -/,
  ⟨0x080002C, [], 0, 0, 0, 0, 0⟩ /- SRV_INVLCNT -/,
  ⟨0x0800030, [], 0, 0, 0, 0, 0⟩ /- SRV_RCOVFCNT -/,
  ⟨0x0800034, [], 0, 0, 0, 0, 0⟩ /- SRV_KVWAITCNT -/,
  ⟨0x0800038, [], 0, 0, 0, 0, 0⟩ /- SRV_LATEINC -/,
  ⟨0x080003C, [], 0, 0, 0, 0, 0⟩ /- SRV_EXPCNT -/,
  ⟨0x0801000, [(0x100, 64)], 0x30280, 0xffff0380, 0, 0, 0⟩ /- SRV_PCFG -/,
  ⟨0x0801004, [(0x100, 64)], 0, 0xffff3fff, 0, 0, 0⟩ /- SRV_PCTX -/,
  ⟨0x0801008, [(0x100, 64)], 0x3010000, 0xffffffff, 0, 0, 0⟩ /- SRV_PPLAN -/,
  ⟨0x080100C, [(0x100, 64)], 0x2, 0xf007ffff, 0, 0, 0⟩ /- SRV_PLOG -/,
  ⟨0x0801010, [(0x100, 64)], 0x1000080, 0xffffffff, 0, 0, 0⟩ /- SRV_PSCHED -/,
  ⟨0x0801014, [(0x100, 64)], 0x8104832, 0xffffffff, 0, 0, 0⟩ /- SRV_PBAL -/,
  ⟨0x0801018, [(0x100, 64)], 0x7D00014, 0xffffffff, 0, 0, 0⟩ /- SRV_PMODEL0 -/,
  ⟨0x080101C, [(0x100, 64)], 0x2000004, 0xffffffff, 0, 0, 0⟩ /- SRV_PMODEL1 -/,
  ⟨0x0801020, [(0x100, 64)], 0, 0, 0, 0, 0⟩ /- SRV_PCMD -/,
  ⟨0x0801024, [(0x100, 64)], 0, 0, 0, 0, 0⟩ /- SRV_PSTAT -/,
  ⟨0x0801040, [(0x100, 64), (0x4, 24)], 0, 0xffffffff, 0, 0, 0⟩ /- SRV_PDT -/]

/-- Registers of the ADP block. -/
def rowsADP : List RegRow := [
  ⟨0x0840000, [(0x20, 4096)], 0, 0x8, 0, 0, 0⟩ /- ADP_SCTL -/,
  ⟨0x0840004, [(0x20, 4096)], 0, 0, 0x1, 0, 0⟩ /- ADP_SSTAT -/,
  ⟨0x0840008, [(0x20, 4096)], 0, 0, 0, 0, 0⟩ /- ADP_SCMD -/,
  ⟨0x084000C, [(0x20, 4096)], 0, 0xffffffff, 0, 0, 0⟩ /- ADP_BANK0 -/,
  ⟨0x0840010, [(0x20, 4096)], 0, 0xffffffff, 0, 0, 0⟩ /- ADP_BANK1 -/,
  ⟨0x0840014, [(0x20, 4096)], 0, 0, 0, 0, 0⟩ /- ADP_GEN0 -/,
  ⟨0x0840018, [(0x20, 4096)], 0, 0, 0, 0, 0⟩ /- ADP_GEN1 -/,
  ⟨0x084001C, [(0x20, 4096)], 0xEA60, 0xffffffff, 0, 0, 0⟩ /- ADP_PINTTL -/,
  ⟨0x0860000, [(0x10, 64)], 0, 0xffffffff, 0, 0, 0⟩ /- ADP_SRC_LO -/,
  ⟨0x0860004, [(0x10, 64)], 0, 0xffffffff, 0, 0, 0⟩ /- ADP_SRC_HI -/,
  ⟨0x0860008, [(0x10, 64)], 0, 0xffffffff, 0, 0, 0⟩ /- ADP_SRCLEN -/]

/-- Registers of the CORE block. -/
def rowsCORE : List RegRow := [
  ⟨0x1000000, [(0x100000, 16)], 0, 0, 0x100, 0, 0⟩ /- CORE_STAT -/,
  ⟨0x1000004, [(0x100000, 16)], 0x800003E8, 0x8000ffff, 0, 0, 0⟩ /- CORE_WDOG -/,
  ⟨0x1000008, [(0x100000, 16)], 0, 0, 0, 0, 0⟩ /- CORE_PMCE -/,
  ⟨0x1000100, [(0x100000, 16), (0x20, 4)], 0, 0x3f01, 0, 0, 0⟩ /- CORE_CTXCTL -/,
  ⟨0x1000104, [(0x100000, 16), (0x20, 4)], 0, 0xffffffff, 0, 0, 0⟩ /- CORE_CTXROW -/,
  ⟨0x1000108, [(0x100000, 16), (0x20, 4)], 0, 0xffff, 0, 0, 0⟩ /- CORE_CTXQ -/,
  ⟨0x100010C, [(0x100000, 16), (0x20, 4)], 0, 0xffffffff, 0, 0, 0⟩ /- CORE_CTXCTR_LO -/,
  ⟨0x1000110, [(0x100000, 16), (0x20, 4)], 0, 0xffffffff, 0, 0, 0⟩ /- CORE_CTXCTR_HI -/,
  ⟨0x1000114, [(0x100000, 16), (0x20, 4)], 0, 0x7ff03ff, 0, 0, 0⟩ /- CORE_CTXDESC -/,
  ⟨0x1000118, [(0x100000, 16), (0x20, 4)], 0, 0x1ff00ff, 0, 0, 0⟩ /- CORE_CTXBUF -/,
  ⟨0x1000200, [(0x100000, 16), (0x20, 4)], 0, 0xffffffff, 0, 0, 0⟩ /- CORE_CTXPROG -/,
  ⟨0x1000204, [(0x100000, 16), (0x20, 4)], 0, 0x7fffff, 0, 0, 0⟩ /- CORE_CTXTG -/,
  ⟨0x1000208, [(0x100000, 16), (0x20, 4)], 0, 0x1ff00ff, 0, 0, 0⟩ /- CORE_CTXDT -/,
  ⟨0x100020C, [(0x100000, 16), (0x20, 4)], 0, 0x1ff00ff, 0, 0, 0⟩ /- CORE_CTXWT -/,
  ⟨0x1000210, [(0x100000, 16), (0x20, 4)], 0, 0x1ff00ff, 0, 0, 0⟩ /- CORE_CTXST -/,
  ⟨0x1000214, [(0x100000, 16), (0x20, 4)], 0, 0, 0, 0, 0⟩ /- CORE_CTXPC -/,
  ⟨0x1000400, [(0x100000, 16), (0x40, 4)], 0, 0, 0, 0, 0⟩ /- CORE_FLTINFO -/,
  ⟨0x1000404, [(0x100000, 16), (0x40, 4), (0x4, 4)], 0, 0, 0, 0, 0⟩ /- CORE_FLTOPND -/,
  ⟨0x1000414, [(0x100000, 16), (0x40, 4), (0x4, 8)], 0, 0, 0, 0, 0⟩ /- CORE_FLTBW -/,
  ⟨0x100BF00, [(0x100000, 16), (0x4, 8)], 0, 0, 0, 0, 0⟩ /- CORE_ASUM -/,
  ⟨0x100C000, [(0x100000, 16), (0x40, 256)], 0, 0, 0, 0, 0⟩ /- CORE_LZERO_LO -/,
  ⟨0x100C004, [(0x100000, 16), (0x40, 256)], 0, 0, 0, 0, 0⟩ /- CORE_LZERO_HI -/,
  ⟨0x100C008, [(0x100000, 16), (0x40, 256)], 0, 0, 0, 0, 0⟩ /- CORE_LCSAT -/,
  ⟨0x100C00C, [(0x100000, 16), (0x40, 256)], 0, 0, 0, 0, 0⟩ /- CORE_LOSAT -/,
  ⟨0x100C010, [(0x100000, 16), (0x40, 256)], 0, 0, 0, 0, 0⟩ /- CORE_LOZERO -/,
  ⟨0x100C014, [(0x100000, 16), (0x40, 256)], 0, 0, 0, 0, 0⟩ /- CORE_LFLAG -/,
  ⟨0x100C018, [(0x100000, 16), (0x40, 256)], 0, 0, 0, 0, 0⟩ /- CORE_LRANGE -/,
  ⟨0x100C01C, [(0x100000, 16), (0x40, 256)], 0, 0, 0, 0, 0⟩ /- CORE_LINVAL -/,
  ⟨0x100C020, [(0x100000, 16), (0x40, 256)], 0, 0x9f9f9f9f, 0, 0, 0⟩ /- CORE_LTHR0 -/,
  ⟨0x100C024, [(0x100000, 16), (0x40, 256)], 0, 0x9f9f9f, 0, 0, 0⟩ /- CORE_LTHR1 -/,
  ⟨0x100C028, [(0x100000, 16), (0x40, 256)], 0, 0, 0x7f, 0, 0⟩ /- CORE_LSTAT -/,
  ⟨0x100C02C, [(0x100000, 16), (0x40, 256)], 0, 0, 0, 0, 0⟩ /- CORE_LCMD -/,
  ⟨0x1030000, [(0x100000, 16), (0x4, 1024)], 0, 0xffffffff, 0, 0, 0⟩ /- CORE_DTPL -/,
  ⟨0x1031000, [(0x100000, 16), (0x4, 1024)], 0, 0xffffffff, 0, 0, 0⟩ /- CORE_WTPL -/,
  ⟨0x1032000, [(0x100000, 16), (0x4, 512)], 0, 0xffffffff, 0, 0, 0⟩ /- CORE_SENT -/,
  ⟨0x1040000, [(0x100000, 16), (0x4, 49152)], 0, 0xffffffff, 0, 0, 0⟩ /- CORE_PMEM -/,
  ⟨0x1070000, [(0x100000, 16)], 0xC, 0xf, 0, 0, 0⟩ /- CORE_DCTL -/,
  ⟨0x1070004, [(0x100000, 16)], 0x8201410, 0xffff1f1f, 0, 0, 0⟩ /- CORE_DWIN -/,
  ⟨0x1070008, [(0x100000, 16)], 0x40001000, 0xffffffff, 0, 0, 0⟩ /- CORE_DLIM -/,
  ⟨0x107000C, [(0x100000, 16)], 0x8A4290A, 0xffffffff, 0, 0, 0⟩ /- CORE_DTOL -/,
  ⟨0x1070010, [(0x100000, 16)], 0xA3C2810, 0xffffffff, 0, 0, 0⟩ /- CORE_DTIME -/,
  ⟨0x1070014, [(0x100000, 16)], 0x3, 0, 0x700, 0, 0⟩ /- CORE_DSTAT -/,
  ⟨0x1070018, [(0x100000, 16)], 0, 0, 0, 0, 0⟩ /- CORE_DCMD -/,
  ⟨0x107001C, [(0x100000, 16)], 0, 0x13ff07ff, 0, 0, 0⟩ /- CORE_DCIDX -/,
  ⟨0x1070020, [(0x100000, 16)], 0, 0xffffffff, 0, 0, 0⟩ /- CORE_DCDATA -/,
  ⟨0x1070024, [(0x100000, 16)], 0, 0x3ff, 0, 0, 0⟩ /- CORE_DTSEL -/,
  ⟨0x1070028, [(0x100000, 16)], 0, 0, 0, 0, 0⟩ /- CORE_DTRES -/,
  ⟨0x107002C, [(0x100000, 16)], 0x3, 0, 0, 0, 0⟩ /- CORE_DTINFO -/,
  ⟨0x1070030, [(0x100000, 16)], 0, 0, 0, 0, 0⟩ /- CORE_DTHINCNT -/,
  ⟨0x1070034, [(0x100000, 16)], 0, 0, 0, 0, 0⟩ /- CORE_DCTHINCNT -/,
  ⟨0x1070038, [(0x100000, 16)], 0, 0, 0, 0, 0⟩ /- CORE_DOUTLCNT -/,
  ⟨0x107003C, [(0x100000, 16)], 0, 0, 0, 0, 0⟩ /- CORE_DCOMMITCNT -/,
  ⟨0x1070040, [(0x100000, 16)], 0, 0, 0, 0, 0⟩ /- CORE_DCLAMPCNT -/,
  ⟨0x1070044, [(0x100000, 16)], 0, 0, 0, 0, 0⟩ /- CORE_DEVCNT -/]

/-- Registers of the SHELF block. -/
def rowsSHELF : List RegRow := [
  ⟨0x1010000, [(0x100000, 16)], 0, 0, 0x3, 0, 0⟩ /- SHELF_ECCSTAT -/,
  ⟨0x1010004, [(0x100000, 16)], 0, 0, 0, 0, 0⟩ /- SHELF_CECNT -/,
  ⟨0x1010008, [(0x100000, 16)], 0, 0, 0, 0, 0⟩ /- SHELF_UECNT -/,
  ⟨0x101000C, [(0x100000, 16)], 0, 0, 0, 0, 0⟩ /- SHELF_LASTUE -/,
  ⟨0x1010010, [(0x100000, 16)], 0x800003E8, 0x8000ffff, 0, 0, 0⟩ /- SHELF_SCRUB -/,
  ⟨0x1010014, [(0x100000, 16)], 0, 0xffff, 0, 0, 0⟩ /- SHELF_TAGIDX -/,
  ⟨0x1010018, [(0x100000, 16)], 0, 0, 0, 0, 0⟩ /- SHELF_TAGDATA -/,
  ⟨0x1011000, [(0x100000, 16), (0x8, 256)], 0, 0x8000ffff, 0, 0, 0⟩ /- SHELF_BUFA -/,
  ⟨0x1011004, [(0x100000, 16), (0x8, 256)], 0, 0x3ffffff, 0, 0, 0⟩ /- SHELF_BUFB -/]

/-- Registers of the QUE block. -/
def rowsQUE : List RegRow := [
  ⟨0x1020000, [(0x100000, 16), (0x4, 16)], 0, 0, 0, 0, 0⟩ /- QUE_QSTAT -/,
  ⟨0x1020040, [(0x100000, 16), (0x8, 4)], 0, 0, 0, 0, 0⟩ /- QUE_LATECNT -/,
  ⟨0x1020044, [(0x100000, 16), (0x8, 4)], 0, 0, 0, 0, 0⟩ /- QUE_LATETIME -/,
  ⟨0x1020060, [(0x100000, 16)], 0, 0, 0xf, 0, 0⟩ /- QUE_LATESTAT -/,
  ⟨0x1020100, [(0x100000, 16), (0x10, 64)], 0, 0, 0, 0, 0⟩ /- QUE_CENQ -/,
  ⟨0x1020104, [(0x100000, 16), (0x10, 64)], 0, 0, 0, 0, 0⟩ /- QUE_CDONE -/,
  ⟨0x1020108, [(0x100000, 16), (0x10, 64)], 0, 0, 0, 0, 0⟩ /- QUE_CSTAT -/,
  ⟨0x1028000, [(0x100000, 16), (0x4, 8192)], 0, 0xffffffff, 0, 0, 0⟩ /- QUE_DESC -/]

/-- Registers of the RTR block. -/
def rowsRTR : List RegRow := [
  ⟨0x1078000, [(0x100000, 16)], 0, 0, 0x76, 0, 0⟩ /- RTR_STAT -/,
  ⟨0x1078004, [(0x100000, 16)], 0, 0, 0, 0, 0⟩ /- RTR_MERGECNT -/,
  ⟨0x1078008, [(0x100000, 16)], 0, 0, 0, 0, 0⟩ /- RTR_UNLISTCNT -/,
  ⟨0x107800C, [(0x100000, 16)], 0, 0, 0, 0, 0⟩ /- RTR_NOREDCNT -/,
  ⟨0x1078010, [(0x100000, 16)], 0, 0, 0, 0, 0⟩ /- RTR_SPILLCNT -/,
  ⟨0x1078014, [(0x100000, 16)], 0, 0, 0, 0, 0⟩ /- RTR_OVERCNT -/,
  ⟨0x1078018, [(0x100000, 16)], 0, 0, 0, 0, 0⟩ /- RTR_SHORTCNT -/,
  ⟨0x107801C, [(0x100000, 16)], 0, 0, 0, 0, 0⟩ /- RTR_MMCNT -/,
  ⟨0x1078020, [(0x100000, 16)], 0, 0, 0, 0, 0⟩ /- RTR_DISCNT -/,
  ⟨0x1078024, [(0x100000, 16)], 0, 0, 0, 0, 0⟩ /- RTR_CECNT -/,
  ⟨0x1078028, [(0x100000, 16)], 0, 0, 0, 0, 0⟩ /- RTR_DISC_LO -/,
  ⟨0x107802C, [(0x100000, 16)], 0, 0, 0, 0, 0⟩ /- RTR_DISC_HI -/,
  ⟨0x1078100, [(0x100000, 16), (0x40, 8), (0x4, 16)], 0, 0x7f7f7f7f, 0, 0, 0⟩ /- RTR_SHARE -/,
  ⟨0x1078300, [(0x100000, 16), (0x4, 64)], 0, 0xfff07ff, 0, 0, 0⟩ /- RTR_RLSEG -/,
  ⟨0x1079000, [(0x100000, 16), (0x4, 2048)], 0, 0xfffcffff, 0, 0, 0⟩ /- RTR_RLIST -/,
  ⟨0x107C000, [(0x100000, 16), (0x20, 256)], 0, 0x80003f7f, 0, 0, 0⟩ /- RTR_REDA -/,
  ⟨0x107C004, [(0x100000, 16), (0x20, 256)], 0, 0xffffffff, 0, 0, 0⟩ /- RTR_REDB -/,
  ⟨0x107C008, [(0x100000, 16), (0x20, 256)], 0, 0xffffffff, 0, 0, 0⟩ /- RTR_REDC -/,
  ⟨0x107C00C, [(0x100000, 16), (0x20, 256)], 0, 0, 0, 0, 0⟩ /- RTR_REDSP_LO -/,
  ⟨0x107C010, [(0x100000, 16), (0x20, 256)], 0, 0, 0, 0, 0⟩ /- RTR_REDSP_HI -/]

/-- Registers of the TILE block. -/
def rowsTILE : List RegRow := [
  ⟨0x1080000, [(0x100000, 16), (0x200, 1024)], 0xC, 0x1c, 0, 0, 0⟩ /- TILE_CTL -/,
  ⟨0x1080004, [(0x100000, 16), (0x200, 1024)], 0, 0, 0x300, 0, 0⟩ /- TILE_STAT -/,
  ⟨0x1080008, [(0x100000, 16), (0x200, 1024)], 0x6, 0xf, 0, 0, 0⟩ /- TILE_RANGE -/,
  ⟨0x108000C, [(0x100000, 16), (0x200, 1024)], 0x610, 0xffff, 0, 0, 0⟩ /- TILE_WIN0 -/,
  ⟨0x1080010, [(0x100000, 16), (0x200, 1024)], 0x252012, 0xffffff, 0, 0, 0⟩ /- TILE_WIN1 -/,
  ⟨0x1080014, [(0x100000, 16), (0x200, 1024)], 0xC0000, 0x1fffff, 0, 0, 0⟩ /- TILE_REFCFG -/,
  ⟨0x1080018, [(0x100000, 16), (0x200, 1024)], 0x1014, 0xff1f, 0, 0, 0⟩ /- TILE_FLAGWIN -/,
  ⟨0x108001C, [(0x100000, 16), (0x200, 1024)], 0, 0, 0, 0, 0⟩ /- TILE_RDCNT_LO -/,
  ⟨0x1080020, [(0x100000, 16), (0x200, 1024)], 0, 0, 0, 0, 0⟩ /- TILE_RDCNT_HI -/,
  ⟨0x1080024, [(0x100000, 16), (0x200, 1024)], 0, 0, 0, 0, 0⟩ /- TILE_REFIRECNT -/,
  ⟨0x1080028, [(0x100000, 16), (0x200, 1024)], 0, 0, 0, 0, 0⟩ /- TILE_FLAGCNT -/,
  ⟨0x108002C, [(0x100000, 16), (0x200, 1024)], 0, 0, 0, 0, 0⟩ /- TILE_UNCHKCNT -/,
  ⟨0x1080030, [(0x100000, 16), (0x200, 1024)], 0, 0, 0, 0, 0⟩ /- TILE_CLIPCNT -/,
  ⟨0x1080034, [(0x100000, 16), (0x200, 1024)], 0, 0, 0, 0, 0⟩ /- TILE_WINFLAG -/,
  ⟨0x1080038, [(0x100000, 16), (0x200, 1024)], 0, 0, 0, 0, 0⟩ /- TILE_LAST0 -/,
  ⟨0x108003C, [(0x100000, 16), (0x200, 1024)], 0, 0, 0, 0, 0⟩ /- TILE_LAST1 -/,
  ⟨0x1080040, [(0x100000, 16), (0x200, 1024)], 0, 0, 0, 0, 0⟩ /- TILE_LAST2 -/,
  ⟨0x1080044, [(0x100000, 16), (0x200, 1024)], 0, 0x3ff, 0, 0, 0⟩ /- TILE_CSIDX -/,
  ⟨0x1080048, [(0x100000, 16), (0x200, 1024)], 0x7F00, 0xffff, 0, 0, 0⟩ /- TILE_CSDATA -/,
  ⟨0x108004C, [(0x100000, 16), (0x200, 1024)], 0, 0, 0, 0, 0⟩ /- TILE_DEGR -/,
  ⟨0x1080050, [(0x100000, 16), (0x200, 1024)], 0, 0, 0, 0, 0⟩ /- TILE_CMD -/,
  ⟨0x1080080, [(0x100000, 16), (0x200, 1024), (0x4, 32)], 0, 0, 0, 0, 0⟩ /- TILE_LASTBLK -/,
  ⟨0x1080100, [(0x100000, 16), (0x200, 1024), (0x4, 64)], 0, 0x83ff, 0, 0, 0⟩ /- TILE_SPARE -/]

/-- Registers of the LNK block. -/
def rowsLNK : List RegRow := [
  ⟨0x2000000, [(0x10000, 16)], 0x20002007, 0xe0003c77, 0, 0, 0⟩ /- LNK_CTL -/,
  ⟨0x2000004, [(0x10000, 16)], 0, 0, 0x7, 0, 0⟩ /- LNK_STAT -/,
  ⟨0x2000008, [(0x10000, 16)], 0, 0, 0, 0, 0⟩ /- LNK_NEG -/,
  ⟨0x200000C, [(0x10000, 16)], 0, 0, 0, 0, 0⟩ /- LNK_PEER -/,
  ⟨0x2000010, [(0x10000, 16)], 0, 0xffffffff, 0, 0, 0⟩ /- LNK_FLUEID -/,
  ⟨0x2000014, [(0x10000, 16)], 0xA643200, 0xffffff00, 0, 0, 0⟩ /- LNK_TMO -/,
  ⟨0x2000018, [(0x10000, 16)], 0, 0, 0, 0, 0⟩ /- LNK_FECCE -/,
  ⟨0x200001C, [(0x10000, 16)], 0, 0, 0, 0, 0⟩ /- LNK_FECUE -/,
  ⟨0x2000020, [(0x10000, 16)], 0, 0, 0, 0, 0⟩ /- LNK_CRCCNT -/,
  ⟨0x2000024, [(0x10000, 16)], 0, 0, 0, 0, 0⟩ /- LNK_REPLAYCNT -/,
  ⟨0x2000028, [(0x10000, 16)], 0, 0, 0, 0, 0⟩ /- LNK_RETRAINCNT -/,
  ⟨0x200002C, [(0x10000, 16)], 0, 0, 0, 0, 0⟩ /- LNK_LATECNT -/,
  ⟨0x2000030, [(0x10000, 16)], 0, 0, 0, 0, 0⟩ /- LNK_INCCNT -/,
  ⟨0x2000034, [(0x10000, 16)], 0, 0, 0, 0, 0⟩ /- LNK_REFCNT -/,
  ⟨0x2000038, [(0x10000, 16)], 0, 0, 0, 0, 0⟩ /- LNK_MERGECNT -/,
  ⟨0x2000100, [(0x10000, 16), (0x10, 64)], 0, 0x807f0fff, 0, 0, 0⟩ /- LNK_PBA -/,
  ⟨0x2000104, [(0x10000, 16), (0x10, 64)], 0, 0xffffffff, 0, 0, 0⟩ /- LNK_PBB -/,
  ⟨0x2000108, [(0x10000, 16), (0x10, 64)], 0, 0xffffff, 0, 0, 0⟩ /- LNK_PBC -/,
  ⟨0x2000800, [(0x10000, 16), (0x8, 64)], 0, 0x803fffff, 0, 0, 0⟩ /- LNK_LWA -/,
  ⟨0x2000804, [(0x10000, 16), (0x8, 64)], 0, 0xffff003f, 0, 0, 0⟩ /- LNK_LWB -/,
  ⟨0x2100000, [], 0, 0, 0, 0x80000000, 0xfff⟩ /- LNK_CHIP -/,
  ⟨0x2100004, [], 0x4, 0xf, 0, 0x80000000, 0⟩ /- LNK_SCCTL -/,
  ⟨0x2100008, [], 0, 0, 0, 0, 0⟩ /- LNK_SC_LO -/,
  ⟨0x210000C, [], 0, 0, 0, 0, 0⟩ /- LNK_SC_HI -/,
  ⟨0x2100010, [], 0, 0xffffffff, 0, 0, 0⟩ /- LNK_SCLOAD -/,
  ⟨0x2100014, [], 0, 0, 0x2, 0, 0⟩ /- LNK_SCSTAT -/,
  ⟨0x2100018, [], 0x80004, 0xffffffff, 0, 0, 0⟩ /- LNK_XTIME -/,
  ⟨0x210001C, [], 0, 0, 0, 0, 0⟩ /- LNK_XDROPCNT -/]

/-- Registers of the HBM block. -/
def rowsHBM : List RegRow := [
  ⟨0x2800000, [(0x10000, 8)], 0, 0, 0xf0, 0, 0⟩ /- HBM_STAT -/,
  ⟨0x2800004, [(0x10000, 8)], 0, 0, 0, 0, 0⟩ /- HBM_CECNT -/,
  ⟨0x2800008, [(0x10000, 8)], 0, 0, 0, 0, 0⟩ /- HBM_UECNT -/,
  ⟨0x280000C, [(0x10000, 8)], 0, 0, 0, 0, 0⟩ /- HBM_POISCNT -/,
  ⟨0x2800010, [(0x10000, 8)], 0, 0, 0, 0, 0⟩ /- HBM_REFCNT -/,
  ⟨0x2800014, [(0x10000, 8)], 0, 0, 0, 0, 0⟩ /- HBM_LASTUE_LO -/,
  ⟨0x2800018, [(0x10000, 8)], 0, 0, 0, 0, 0⟩ /- HBM_LASTUE_HI -/,
  ⟨0x280001C, [(0x10000, 8)], 0x800003E8, 0x8000ffff, 0, 0, 0⟩ /- HBM_CETHR -/,
  ⟨0x2800020, [(0x10000, 8)], 0xFF, 0, 0, 0, 0⟩ /- HBM_TEMP -/,
  ⟨0x2800024, [(0x10000, 8)], 0, 0, 0, 0, 0⟩ /- HBM_RDG_LO -/,
  ⟨0x2800028, [(0x10000, 8)], 0, 0, 0, 0, 0⟩ /- HBM_RDG_HI -/,
  ⟨0x280002C, [(0x10000, 8)], 0, 0, 0, 0, 0⟩ /- HBM_WRG_LO -/,
  ⟨0x2800030, [(0x10000, 8)], 0, 0, 0, 0, 0⟩ /- HBM_WRG_HI -/,
  ⟨0x2800034, [(0x10000, 8)], 0, 0, 0, 0, 0⟩ /- HBM_MVCNT -/,
  ⟨0x2800038, [(0x10000, 8)], 0, 0, 0, 0, 0⟩ /- HBM_MVFAIL -/,
  ⟨0x2800100, [(0x10000, 8), (0x4, 16)], 0, 0x7f7f7f7f, 0, 0, 0⟩ /- HBM_SHARE -/,
  ⟨0x2804000, [(0x10, 1024)], 0, 0xfbff003f, 0, 0, 0⟩ /- HBM_RGNA -/,
  ⟨0x2804004, [(0x10, 1024)], 0, 0x3ffff, 0, 0, 0⟩ /- HBM_RGNB -/,
  ⟨0x2804008, [(0x10, 1024)], 0, 0x3ffff, 0, 0, 0⟩ /- HBM_RGNC -/,
  ⟨0x280400C, [(0x10, 1024)], 0, 0xfff, 0, 0, 0⟩ /- HBM_RGND -/,
  ⟨0x2808000, [(0x4, 4096)], 0, 0x800003ff, 0, 0, 0⟩ /- HBM_HMAP -/]

/-- Registers of the CNET block. -/
def rowsCNET : List RegRow := [
  ⟨0x3000000, [], 0, 0, 0x3, 0, 0⟩ /- CNET_STAT -/,
  ⟨0x3000004, [], 0, 0, 0, 0, 0⟩ /- CNET_OVFCNT -/,
  ⟨0x3000008, [], 0, 0, 0, 0, 0⟩ /- CNET_BDROPCNT -/,
  ⟨0x300000C, [], 0, 0, 0, 0, 0⟩ /- CNET_ERRCNT -/,
  ⟨0x3000010, [], 0x64, 0xffff, 0, 0, 0⟩ /- CNET_RECLTO -/,
  ⟨0x3000100, [(0x8, 64)], 0, 0xffffffff, 0, 0, 0⟩ /- CNET_PMEM -/,
  ⟨0x3000104, [(0x8, 64)], 0, 0, 0, 0, 0⟩ /- CNET_PSTAT -/]

/-- Registers of the FLS block. -/
def rowsFLS : List RegRow := [
  ⟨0x3800000, [], 0, 0, 0xe, 0, 0⟩ /- FLS_STAT -/,
  ⟨0x3800004, [], 0x4220, 0xf33f, 0, 0, 0⟩ /- FLS_PCTL -/,
  ⟨0x3800008, [], 0, 0, 0, 0, 0⟩ /- FLS_LCMD -/,
  ⟨0x380000C, [], 0, 0, 0, 0, 0⟩ /- FLS_CECNT -/,
  ⟨0x3800010, [], 0, 0, 0, 0, 0⟩ /- FLS_UECNT -/,
  ⟨0x3800014, [], 0, 0, 0, 0, 0⟩ /- FLS_RETRYCNT -/,
  ⟨0x3800018, [], 0, 0, 0, 0, 0⟩ /- FLS_TGATECNT -/,
  ⟨0x380001C, [], 0, 0x3fff, 0, 0, 0⟩ /- FLS_TSEL -/,
  ⟨0x3800020, [], 0, 0, 0, 0, 0⟩ /- FLS_TINFO -/,
  ⟨0x3800100, [(0x4, 64)], 0, 0, 0, 0, 0⟩ /- FLS_PLOAD -/]

/-- Registers of the CFG block. -/
def rowsCFG : List RegRow := [
  ⟨0x3801000, [], 0, 0, 0, 0, 0⟩ /- CFG_BOOT -/,
  ⟨0x3801004, [], 0, 0, 0, 0, 0⟩ /- CFG_BOOTREC -/,
  ⟨0x3801008, [], 0, 0, 0, 0, 0⟩ /- CFG_ID -/,
  ⟨0x380100C, [], 0, 0, 0, 0, 0⟩ /- CFG_SVN -/,
  ⟨0x3801010, [], 0, 0, 0, 0, 0⟩ /- CFG_SKIPCNT -/,
  ⟨0x3801014, [], 0, 0, 0, 0, 0⟩ /- CFG_TIME -/]

/-- Offset within one instance set: `some r` when `a` is one of the instances that the strides span. -/
def stridesHit : List (Nat × Nat) → Nat → Bool
  | [], x => x == 0
  | (s, n) :: rest, x => decide (x / s < n) && stridesHit rest (x % s)

/-- Whether the offset `a` is an instance of the register row. -/
def RegRow.hit (r : RegRow) (a : Nat) : Bool := decide (r.base ≤ a) && stridesHit r.strides (a - r.base)

/-- The rows among which the offset `a` is to be found, by the block map of R539. -/
def rowsAt (a : Nat) : List RegRow :=
  if 0x0 ≤ a ∧ a < 0x1000 then rowsGCTL
  else if 0x200000 ≤ a ∧ a < 0x202000 then rowsSEC
  else if 0x300000 ≤ a ∧ a < 0x301000 then rowsLOG
  else if 0x380000 ≤ a ∧ a < 0x381000 then rowsMTR
  else if 0x400000 ≤ a ∧ a < 0x401000 then rowsCLK
  else if 0x480000 ≤ a ∧ a < 0x480100 then rowsPWR
  else if 0x480100 ≤ a ∧ a < 0x481000 then rowsHOLD
  else if 0x500000 ≤ a ∧ a < 0x501000 then rowsMADC
  else if 0x580000 ≤ a ∧ a < 0x581000 then rowsTHM
  else if 0x600000 ≤ a ∧ a < 0x601000 then rowsIND
  else if 0x700000 ≤ a ∧ a < 0x701000 then rowsPCI
  else if 0x800000 ≤ a ∧ a < 0x840000 then rowsSRV
  else if 0x840000 ≤ a ∧ a < 0x870000 then rowsADP
  else if 0x2000000 ≤ a ∧ a < 0x2101000 then rowsLNK
  else if 0x2800000 ≤ a ∧ a < 0x2880000 then rowsHBM
  else if 0x3000000 ≤ a ∧ a < 0x3001000 then rowsCNET
  else if 0x3800000 ≤ a ∧ a < 0x3801000 then rowsFLS
  else if 0x3801000 ≤ a ∧ a < 0x3802000 then rowsCFG
  else if 0x1000000 ≤ a ∧ a < 0x2000000 then
    let c := a % 0x100000
    if c < 0x10000 then rowsCORE
    else if c < 0x20000 then rowsSHELF
    else if c < 0x30000 then rowsQUE
    else if c < 0x78000 then rowsCORE
    else if c < 0x80000 then rowsRTR
    else rowsTILE
  else if 0x10000000 ≤ a then rowsPCI
  else []

/-- The register row that holds the offset `a`; none where the map assigns no register (R539). -/
def regRow (a : Nat) : Option RegRow := (rowsAt a).find? fun r => r.hit a

/-- Reset values that depend on the instance: the converter sequences of R444 and PCI_VID.PARTITION (R559). -/
def resetSpecial (a : Nat) : Option Nat :=
  if a = 0x500100 then some (0x80000000 + 15 * 0x10000)
  else if a = 0x500200 then some (0x80000000 + 5 * 0x10000)
  else if a = 0x500300 then some (0x80000000 + 8 * 0x10000)
  else if 0x500140 ≤ a ∧ a < 0x500180 then some (0x100000 + (a - 0x500140) / 4)
  else if 0x500240 ≤ a ∧ a < 0x500250 then some (0x100000 + 16 + (a - 0x500240) / 4)
  else if a = 0x500250 then some (0x100000 + 29)
  else if a = 0x500254 then some (0x100000 + 32)
  else if 0x500340 ≤ a ∧ a < 0x500364 then some (20 + (a - 0x500340) / 4)
  else if 0x10000000 ≤ a ∧ a % 0x100000 = 0 ∧ a < 0x14000000 then some (0x91600000 + (a - 0x10000000) / 0x100000)
  else none

/-- The reset value of the register at offset `a`; an offset with no register reads 0 (R539). -/
def resetWord (a : Nat) : Word :=
  match resetSpecial a with
  | some v => BitVec.ofNat 32 v
  | none =>
    match regRow a with
    | some r => BitVec.ofNat 32 r.reset
    | none => 0

end Sys2Proof
end

