-- ==== Sys2Proof/Machine/State.lean ====
section
/-!
DEFINITION. The state of the block, the reasons a step can stop, and the state after reset.
-/
namespace Sys2Proof.Machine

/-- The whole state: the control registers (R14) by offset, and block by block what the rules name beside them. -/
structure State where
  /-- Control registers, by offset in the control space; an unlisted one holds its reset value. -/
  regs : SMap Word := []
  /-- High words of 64-bit counters latched by a read of the low word (R18), by offset of the high word. -/
  latches : SMap Word := []
  core : CoreBlk := {}
  mesh : MeshBlk := {}
  hbm : HbmBlk := {}
  srv : SrvBlk := {}
  lnk : LnkBlk := {}
  wts : WtsBlk := {}
  boot : BootBlk := {}
  clk : ClkBlk := {}
  pwr : PwrBlk := {}
  thm : ThmBlk := {}
  log : LogBlk := {}
  sec : SecBlk := {}
  mgmt : MgmtBlk := {}
  host : HostBlk := {}
  /-- How many free values have been taken (log entry 1): the model's own counter, no state of the spec. -/
  free : Nat := 0
  /-- The commands that wait, first in first out. -/
  pending : List Instr := []
  deriving DecidableEq, Repr

/-- Reasons a command can stop the model with a fault. No rule of the spec stops the block: every command has an effect
that is a next state, so no command raises one. -/
inductive Fault where
  /-- Never raised; it keeps the type inhabited. Safe. -/
  | none
  deriving DecidableEq, Repr

/-- Reasons a command can be refused by the model. -/
inductive Refusal where
  /-- The command has no meaning in the model; raised by its arm of `exec`. Safe: nothing is said of it. -/
  | notModelled (mnemonic : String)
  deriving DecidableEq, Repr

/-- The block with PWRGOOD low before the first bring-up: every register at its reset value, every store at what an
unlisted entry reads as, nothing in flight (R14, R365 code 0; values that the spec does not give: log entries 2, 3). -/
def State.reset : State := {}

end Sys2Proof.Machine
end

