-- ==== Sys2Proof/Machine/Ops.lean ====
section
/-!
DEFINITION. Named operations on the state: control registers and their fields (R14, R18), free values, partitions, and
the records and signals that every block raises (sherds R475 to R482, interrupts R551 and R552, management events R515).
-/
namespace Sys2Proof.Machine

/-! ### Registers -/

/-- The word that the register at offset `a` holds. -/
def State.rd (s : State) (a : Nat) : Nat := (SMap.get resetWord s.regs a).toNat
/-- Write a whole register. -/
def State.wr (s : State) (a v : Nat) : State := { s with regs := SMap.set resetWord s.regs a (BitVec.ofNat 32 v) }
/-- A word with field `f` replaced by `v`. -/
def putFld (f : Fld) (w v : Nat) : Nat := w - bits w f.lo f.width * 2 ^ f.lo + v % 2 ^ f.width * 2 ^ f.lo
/-- A field of a register. -/
def State.fld (s : State) (a : Nat) (f : Fld) : Nat := bits (s.rd a) f.lo f.width
/-- Set a field of a register. -/
def State.setF (s : State) (a : Nat) (f : Fld) (v : Nat) : State := s.wr a (putFld f (s.rd a) v)
/-- Add to a 32-bit event counter, which saturates. -/
def State.inc (s : State) (a n : Nat) : State := s.wr a (satAdd 0xFFFFFFFF (s.rd a) n)
/-- A 64-bit counter of two registers, the low word first (R18). -/
def State.rd64 (s : State) (a : Nat) : Nat := s.rd a + 2 ^ 32 * s.rd (a + 4)
/-- Write a 64-bit counter. -/
def State.wr64 (s : State) (a v : Nat) : State := (s.wr a (v % 2 ^ 32)).wr (a + 4) (v / 2 ^ 32)
/-- Add to a 64-bit counter (modulo 2^64; the spec names no saturation for it). -/
def State.inc64 (s : State) (a n : Nat) : State := s.wr64 a ((s.rd64 a + n) % 2 ^ 64)
/-- Return a register to its reset value. -/
def State.resetReg (s : State) (a : Nat) : State := { s with regs := SMap.del a s.regs }
/-- Return every register in a range of offsets to its reset value. -/
def State.resetRange (s : State) (lo hi : Nat) : State :=
  { s with regs := s.regs.filter fun e => !(decide (lo ≤ e.1) && decide (e.1 < hi)) }
/-- Apply an operation for each element of a list, in order. -/
def State.forEach {α : Type} (s : State) (l : List α) (f : State → α → State) : State := l.foldl f s
/-- Apply an operation when a condition holds. -/
def State.when (s : State) (c : Bool) (f : State → State) : State := if c then f s else s

/-! ### Free values -/

/-- The next value that the spec leaves open (log entry 1). -/
def State.freshNat (s : State) : Nat × State := (Config.freeNat s.free, { s with free := s.free + 1 })
/-- The next signed value that the spec leaves open (log entry 1). -/
def State.freshInt (s : State) : Int × State := (Config.freeInt s.free, { s with free := s.free + 1 })

/-! ### Partitions -/

/-- CNET_PSTAT.RUN of a partition (R227): 0 stopped, 1 step open, 2 step boundary, 3 reclaim. -/
def State.run (s : State) (p : Nat) : Nat := s.fld (Reg.CNET_PSTAT p) Fld.CNET_PSTAT_RUN
/-- The step number of a partition. -/
def State.stepNo (s : State) (p : Nat) : Nat := s.fld (Reg.CNET_PSTAT p) Fld.CNET_PSTAT_STEP
/-- Every partition is stopped. -/
def State.allStopped (s : State) : Bool := (List.range 64).all fun p => s.run p == 0
/-- GCTL_CTL.HOLD = 1. -/
def State.hold (s : State) : Bool := s.fld Reg.GCTL_CTL Fld.GCTL_CTL_HOLD == 1
/-- The bring-up phase (R365). -/
def State.phase (s : State) : Nat := s.fld Reg.CFG_BOOT Fld.CFG_BOOT_PHASE
/-- Every partition is stopped and GCTL_CTL.HOLD = 1: the condition of the whole-part settings. Phases 4 to 7 meet it without HOLD, since
records of register writes are applied then and no record can write GCTL_CTL (R380, R381; log entry 29). -/
def State.quiet (s : State) : Bool := s.allStopped && (s.hold || (decide (4 ≤ s.phase) && decide (s.phase < 8)))
/-- The part has failed (R471). -/
def State.failed (s : State) : Bool := s.fld Reg.LOG_PFAIL Fld.LOG_PFAIL_FAILED == 1
/-- The voltage quadrant of a core (R396). -/
def quadOf (k : Nat) : Nat := k % 4 / 2 + 2 * (k / 8)
/-- The cores of a quadrant (R396). -/
def quadCores (q : Nat) : List Nat := (List.range 16).filter fun k => quadOf k == q

/-! ### Interrupts and management events -/

/-- Raise a PF vector (R552): enabled by PCI_PFIRQEN; a masked vector sets its PBA bit. -/
def State.raisePf (s : State) (v : Nat) : State :=
  if !bitAt (s.rd Reg.PCI_PFIRQEN) v then s
  else if bitAt s.host.pfMask v then { s with host := { s.host with pfPba := putBit s.host.pfPba v true } }
  else { s with host := { s.host with pfIrqs := s.host.pfIrqs ++ [v] } }

/-- The rings of a virtual function. -/
def State.vf (s : State) (p : Nat) : Vf := SMap.get (fun _ => {}) s.host.vfs p
/-- Set the rings of a virtual function. -/
def State.setVf (s : State) (p : Nat) (v : Vf) : State :=
  { s with host := { s.host with vfs := SMap.set (fun _ => ({} : Vf)) s.host.vfs p v } }
/-- Raise vector 0 or 1 of a VF (R551): a masked vector sets its PBA bit. -/
def State.raiseVf (s : State) (p v : Nat) : State :=
  let f := s.vf p
  if bitAt f.mask v then s.setVf p { f with pba := putBit f.pba v true }
  else s.setVf p { f with irqs := f.irqs ++ [v] }

/-- Send a management message. -/
def State.reply (s : State) (r : Reply) : State := { s with mgmt := { s.mgmt with sent := s.mgmt.sent ++ [r] } }

/-- The message that carries an event (R515): datagrams with EVENT = 1 on Ethernet. -/
def eventReply (c : Channel) (e : MgmtEvent) : Reply :=
  match e with
  | .cper q => { chan := c, name := "PlatformEventMessage", code := .success, data := [0, q] }
  | .sensor k i v => { chan := c, name := "PlatformEventMessage", code := .success, data := [1, k, i, v] }

/-- Hand an event to the event receiver of the Ethernet transport (R515): asynchronous; it waits while the management
island restarts (R466). -/
def State.eventEth (s : State) (e : MgmtEvent) : State :=
  if !s.mgmt.rcvEth then s
  else if s.mgmt.restarting then
    if s.mgmt.evEth.length < 64 then { s with mgmt := { s.mgmt with evEth := s.mgmt.evEth ++ [e] } } else s
  else s.reply (eventReply .eth e)
/-- Hand an event to the event receiver of I3C (R515, R512): polling, with an in-band interrupt. -/
def State.eventI3c (s : State) (e : MgmtEvent) : State :=
  if !s.mgmt.rcvI3c then s
  else if s.mgmt.evI3c.length < 64 then
    { s with mgmt := { s.mgmt with evI3c := s.mgmt.evI3c ++ [e], ibi := s.mgmt.ibi + 1 } }
  else s
/-- Send a sensor event on both transports (R515). -/
def State.sensorEvent (s : State) (kind index state : Nat) : State :=
  (s.eventEth (.sensor kind index state)).eventI3c (.sensor kind index state)

/-! ### Sherds -/

/-- Units of a sherd (R475). -/
def unitPart : Nat := 0
def unitCore (k : Nat) : Nat := 1 * 2 ^ 28 + k
def unitGroup (k g : Nat) : Nat := 2 * 2 ^ 28 + k * 16 + g
def unitTile (k t : Nat) : Nat := 3 * 2 ^ 28 + k * 1024 + t
def unitRouter (k : Nat) : Nat := 4 * 2 ^ 28 + k
def unitPort (p : Nat) : Nat := 5 * 2 ^ 28 + p
def unitHbm (m : Nat) : Nat := 6 * 2 ^ 28 + m
def unitQuad (q : Nat) : Nat := 7 * 2 ^ 28 + q
def unitPartition (p : Nat) : Nat := 8 * 2 ^ 28 + p
def unitFlash : Nat := 9 * 2 ^ 28
def unitStore : Nat := 10 * 2 ^ 28
def unitPsik : Nat := 12 * 2 ^ 28
def unitBoard : Nat := 13 * 2 ^ 28

/-- What a block hands over to make a sherd: code, severity, partition (255 none), unit, DETAIL words, tenant. -/
structure Event where
  code : Nat
  sev : Nat
  part : Nat := 255
  unit : Nat := 0
  detail : List (Nat × Nat) := []
  tenant : Nat := 0xFFFF
  deriving DecidableEq, Repr

/-- Take the next value of LOG_SEQ (R475). -/
def State.takeSeq (s : State) : Nat × State := (s.rd64 Reg.LOG_SEQ_LO, s.inc64 Reg.LOG_SEQ_LO 1)

/-- Update LOG_QSTAT after a change of the staging queue. -/
def State.qstat (s : State) : State :=
  let n := s.log.queue.length
  (s.setF Reg.LOG_QSTAT Fld.LOG_QSTAT_CUR n).setF Reg.LOG_QSTAT Fld.LOG_QSTAT_MAX
    (max n (s.fld Reg.LOG_QSTAT Fld.LOG_QSTAT_MAX))

/-- Export a sherd on the transports that LOG_CTL selects and that are up (R477, R515); one that finds both down is not
repeated. -/
def State.export (s : State) (d : Sherd) : State :=
  if d.sev < s.fld Reg.LOG_CTL Fld.LOG_CTL_MINSEV then s
  else
    let e := s.fld Reg.LOG_CTL Fld.LOG_CTL_ETHEN == 1 && s.mgmt.rcvEth
    let m := s.fld Reg.LOG_CTL Fld.LOG_CTL_MCTPEN == 1 && s.mgmt.rcvI3c
    let s := s.when e fun s => s.eventEth (.cper d.seq)
    let s := s.when m fun s => s.eventI3c (.cper d.seq)
    if e || m then { s with log := { s.log with exported := s.log.exported ++ [(d, b2n e + 2 * b2n m)] } } else s

/-- Suppress a sherd (R478): count it and keep the suppressed-events sherd up to date. -/
def State.suppress (s : State) (d : Sherd) : State :=
  let s := (s.inc Reg.LOG_SUPCNT 1).setF Reg.LOG_STAT Fld.LOG_STAT_SUPP 1
  match s.log.hold with
  | some h => { s with log := { s.log with hold := some { h with count := h.count + 1, sev := max h.sev d.sev, last := s.mgmt.secs } } }
  | none =>
    let (q, s) := s.takeSeq
    { s with log := { s.log with hold := some ⟨q, 1, d.sev, s.mgmt.secs, s.mgmt.secs⟩ } }

/-- Write a sherd to the reserved log sector with NORLOG (R479, R481); false when no erased entry is free. -/
def State.toReserved (s : State) (d : Sherd) : Bool × State :=
  if s.log.erasing || s.log.resvErased == 0 then (false, s)
  else
    let l := s.log
    let left := l.resvErased - 1
    (true, { s with log := { l with
      resv := SMap.set (fun _ => none) l.resv l.resvNext (some { d with flags := d.flags ||| 4 })
      resvNext := (l.resvNext + 1) % 2048
      resvErased := left
      erasing := decide (left < 512) } })

/-- Put a sherd into the staging queue and export it (R477, R478). -/
def State.enqueueSherd (s : State) (d : Sherd) : State :=
  ({ s with log := { s.log with queue := s.log.queue ++ [d] } }).qstat.export d

/-- The place of the newest staging entry of SEV 0 to 2 (R478). -/
def newestLow (q : List Sherd) : Option Nat :=
  (List.range q.length).foldl (fun r i => match q[i]? with
    | some d => if d.sev ≤ 2 then some i else r
    | none => r) none

/-- A sherd enters the staging queue and is exported, or is suppressed (R478); with the record store failed it goes to the
reserved log sector (R480). -/
def State.stageSherd (s : State) (d : Sherd) : State :=
  if s.fld Reg.LOG_STAT Fld.LOG_STAT_RSFAIL == 1 && (s.toReserved d).1 then (s.toReserved d).2.export d
  else
    let q := s.log.queue
    if d.sev ≤ 2 then
      if 60 ≤ q.length then s.suppress d else s.enqueueSherd d
    else if q.length < 64 then s.enqueueSherd d
    else
      match newestLow q with
      | some i =>
        let old := nth d q i
        (({ s with log := { s.log with queue := q.eraseIdx i } }).suppress old).enqueueSherd d
      | none => s.suppress d

/-- Create a sherd (R475): it takes the next SEQ, the time, the bring-up number and the partition's step; one of SEV 2 or
above raises PF vector 2 (R552). -/
def State.sherdN (s : State) (e : Event) (count : Nat) : State :=
  let (q, s) := s.takeSeq
  let d : Sherd := { sev := e.sev, code := e.code, part := e.part, unit := e.unit, boot := s.boot.bootNo, seq := q,
                     secs := s.mgmt.secs, nanos := s.mgmt.nanos, tenant := e.tenant, count := count,
                     step := if e.part < 64 then s.stepNo e.part else 0, detail := e.detail, flags := 1 }
  (s.stageSherd d).when (decide (2 ≤ e.sev)) fun s => s.raisePf 2

/-- Create a sherd for one occurrence. -/
def State.sherd (s : State) (e : Event) : State := s.sherdN e 1

/-- An advisory event (R467): at most one record for each code and unit in each second; later occurrences are counted into
the next record. -/
def State.advise (s : State) (e : Event) : State :=
  match s.log.advis.find? fun a => a.code == e.code && a.unit == e.unit with
  | none =>
    ({ s with log := { s.log with advis := ⟨e.code, e.unit, s.mgmt.secs, 0⟩ :: s.log.advis } }).sherd e
  | some a =>
    let rest := s.log.advis.filter fun a => !(a.code == e.code && a.unit == e.unit)
    if a.second == s.mgmt.secs then { s with log := { s.log with advis := { a with more := a.more + 1 } :: rest } }
    else ({ s with log := { s.log with advis := { a with second := s.mgmt.secs, more := 0 } :: rest } }).sherdN e
      (min 65535 (1 + a.more))

end Sys2Proof.Machine
end

