-- ==== Sys2Proof/Machine/Flags.lean ====
section
/-!
DEFINITION. Every flag computation of the arithmetic: layer counters, their thresholds and the arithmetic event (R41 to
R44).
-/
namespace Sys2Proof.Machine

/-- The seven counters of a layer set in the order of the CORE_LSTAT bits (R42, R43). -/
inductive LCnt where
  | zero | csat | osat | ozero | flag | range | inval
  deriving DecidableEq, Repr

/-- The CORE_LSTAT bit of a counter; thresholds 0 to 3 lie in CORE_LTHR0, 4 to 6 in CORE_LTHR1, one byte each. -/
def LCnt.bit : LCnt → Nat
  | .zero => 0 | .csat => 1 | .osat => 2 | .ozero => 3 | .flag => 4 | .range => 5 | .inval => 6
/-- All counters. -/
def LCnt.all : List LCnt := [.zero, .csat, .osat, .ozero, .flag, .range, .inval]
/-- The register of a 32-bit counter of a set. -/
def LCnt.reg (c : LCnt) (k l : Nat) : Nat :=
  match c with
  | .zero => Reg.CORE_LZERO_LO k l | .csat => Reg.CORE_LCSAT k l | .osat => Reg.CORE_LOSAT k l
  | .ozero => Reg.CORE_LOZERO k l | .flag => Reg.CORE_LFLAG k l | .range => Reg.CORE_LRANGE k l
  | .inval => Reg.CORE_LINVAL k l
/-- The count of a layer counter; CORE_LZERO has 64 bits. -/
def State.lget (s : State) (k l : Nat) (c : LCnt) : Nat :=
  match c with
  | .zero => s.rd64 (Reg.CORE_LZERO_LO k l)
  | c => s.rd (c.reg k l)
/-- Write a layer counter. -/
def State.lput (s : State) (k l : Nat) (c : LCnt) (v : Nat) : State :=
  match c with
  | .zero => s.wr64 (Reg.CORE_LZERO_LO k l) v
  | c => s.wr (c.reg k l) v
/-- The counter after an increment: 32-bit counters saturate (R42), the 64-bit one counts on (R18). -/
def LCnt.add (c : LCnt) (v n : Nat) : Nat :=
  match c with
  | .zero => (v + n) % 2 ^ 64
  | _ => satAdd 0xFFFFFFFF v n
/-- The threshold byte of a counter: EN in bit 7, EXP in bits 4:0. -/
def State.lthr (s : State) (k l : Nat) (c : LCnt) : Nat :=
  bits (s.rd (if c.bit < 4 then Reg.CORE_LTHR0 k l else Reg.CORE_LTHR1 k l)) (8 * (c.bit % 4)) 8

/-- CORE_ASUM word i of a core: bit j is 1 while CORE_LSTAT of layer 32i + j is non-zero (R42). -/
def State.asum (s : State) (k i : Nat) : Nat := maskOf 32 fun j => s.rd (Reg.CORE_LSTAT k (32 * i + j)) != 0
/-- The arithmetic event of a core is raised (R43). -/
def State.arithRaised (s : State) (k : Nat) : Bool := (List.range 8).any fun i => s.asum k i != 0
/-- The advisory record 0x0002 while the arithmetic event is raised (R467). -/
def State.arithAdvise (s : State) (k : Nat) : State :=
  if s.arithRaised k then
    s.advise { code := 2, sev := 1, unit := unitCore k, detail := (List.range 8).map fun i => (48 + 4 * i, s.asum k i) }
  else s
/-- Set a CORE_LSTAT bit; the record is created when the event rises (R467). -/
def State.lraise (s : State) (k l : Nat) (c : LCnt) : State :=
  let was := s.arithRaised k
  let s := s.setF (Reg.CORE_LSTAT k l) ⟨c.bit, 1⟩ 1
  s.when (!was) fun s => s.arithAdvise k

/-- Add to a layer counter; the increment that takes it to or above an enabled threshold sets the bit (R43). -/
def State.lcount (s : State) (k l : Nat) (c : LCnt) (n : Nat) : State :=
  let v := s.lget k l c
  let w := c.add v n
  let t := s.lthr k l c
  let s := s.lput k l c w
  s.when (bitAt t 7 && decide (v < 2 ^ bits t 0 5) && decide (2 ^ bits t 0 5 ≤ w)) fun s => s.lraise k l c

/-- The write of one threshold byte makes it count against the counter at once (R43). -/
def thrReached (old new count : Nat) : Bool :=
  bitAt new 7 && (!bitAt old 7 || bits old 0 5 != bits new 0 5) && decide (2 ^ bits new 0 5 ≤ count)

/-- The writable bits of the threshold registers (R42). -/
def lthrMask (hi : Bool) : Nat := if hi then 0x009F9F9F else 0x9F9F9F9F

/-- LTHR_WRITE (R43): a write of CORE_LTHR0 or CORE_LTHR1. -/
def State.lthrWrite (s : State) (k l : Nat) (hi : Bool) (w : Nat) : State :=
  let a := if hi then Reg.CORE_LTHR1 k l else Reg.CORE_LTHR0 k l
  let old := s.rd a
  let new := w &&& lthrMask hi
  let s := s.wr a new
  s.forEach (LCnt.all.filter fun c => decide (c.bit / 4 = b2n hi)) fun s c =>
    s.when (thrReached (bits old (8 * (c.bit % 4)) 8) (bits new (8 * (c.bit % 4)) 8) (s.lget k l c)) fun s => s.lraise k l c

def execLthrWrite (k : CoreNo) (layer : Fin 256) (hi : Bool) (w : Word) (s : State) : Host.Outcome State Fault Refusal := .next (s.lthrWrite k layer hi w.toNat)

/-- LAYER_CLR (R42): all seven counters of a set become 0; CORE_LSTAT stays. -/
def State.layerClr (s : State) (k l : Nat) : State := s.forEach LCnt.all fun s c => s.lput k l c 0

def execLayerClr (k : CoreNo) (layer : Fin 256) (s : State) : Host.Outcome State Fault Refusal := .next (s.layerClr k layer)

end Sys2Proof.Machine
end

