-- ==== Sys2Proof/Machine/Ctx.lean ====
section
/-!
DEFINITION. Program contexts: their registers and ownership (R111, R145, R159), fault reports (R187 to R190), control
messages (R216 to R219), and the failure of a step (R289).
-/
namespace Sys2Proof.Machine

/-! ### Contexts -/

/-- The program registers of a context. -/
def State.ctx (s : State) (k n : Nat) : CtxState := SMap.get (fun _ => {}) s.core.ctxs (ctxKey k n)
/-- Set the program registers of a context. -/
def State.setCtx (s : State) (k n : Nat) (c : CtxState) : State :=
  { s with core := { s.core with ctxs := SMap.set (fun _ => ({} : CtxState)) s.core.ctxs (ctxKey k n) c } }
/-- CORE_CTXCTL.RUN: 0 stopped, 1 running, 2 switching mode, 3 faulted. -/
def State.ctxRun (s : State) (k n : Nat) : Nat := s.fld (Reg.CORE_CTXCTL k n) Fld.CORE_CTXCTL_RUN
/-- Set CORE_CTXCTL.RUN. -/
def State.setRun (s : State) (k n v : Nat) : State := s.setF (Reg.CORE_CTXCTL k n) Fld.CORE_CTXCTL_RUN v
/-- A context is enabled. -/
def State.ctxEn (s : State) (k n : Nat) : Bool := s.fld (Reg.CORE_CTXCTL k n) Fld.CORE_CTXCTL_EN == 1
/-- The partition of a context. -/
def State.ctxPart (s : State) (k n : Nat) : Nat := s.fld (Reg.CORE_CTXCTL k n) Fld.CORE_CTXCTL_PART
/-- The context is in tagged mode. -/
def State.tagged (s : State) (k n : Nat) : Bool := s.fld (Reg.CORE_CTXCTL k n) Fld.CORE_CTXCTL_MODE == 1
/-- The row range of a context: first row and count. -/
def State.rowBase (s : State) (k n : Nat) : Nat := s.fld (Reg.CORE_CTXROW k n) Fld.CORE_CTXROW_BASE
/-- Rows owned by a context. -/
def State.rowCount (s : State) (k n : Nat) : Nat := s.fld (Reg.CORE_CTXROW k n) Fld.CORE_CTXROW_COUNT
/-- A row lies in the context's row range (R127). -/
def State.inRows (s : State) (k n r : Nat) : Bool :=
  decide (s.rowBase k n ≤ r) && decide (r < s.rowBase k n + s.rowCount k n)
/-- The buffer range of a context. -/
def State.bufBase (s : State) (k n : Nat) : Nat := s.fld (Reg.CORE_CTXBUF k n) Fld.CORE_CTXBUF_BBASE
/-- Buffer entries owned by a context. -/
def State.bufCount (s : State) (k n : Nat) : Nat := s.fld (Reg.CORE_CTXBUF k n) Fld.CORE_CTXBUF_BCOUNT
/-- A queue is owned by the context. -/
def State.ownsQueue (s : State) (k n q : Nat) : Bool := bitAt (s.rd (Reg.CORE_CTXQ k n)) q
/-- The counter mask of a context, 64 bits. -/
def State.ctrMask (s : State) (k n : Nat) : Nat := s.rd (Reg.CORE_CTXCTR_LO k n) + 2 ^ 32 * s.rd (Reg.CORE_CTXCTR_HI k n)
/-- The tile groups of a context. -/
def State.gmask (s : State) (k n : Nat) : Nat := s.fld (Reg.CORE_CTXTG k n) Fld.CORE_CTXTG_GMASK
/-- Every (core, context). -/
def allCtxs : List (Nat × Nat) := (List.range 16).flatMap fun k => (List.range 4).map fun n => (k, n)
/-- The enabled contexts of a partition on a core. -/
def State.ctxsOn (s : State) (p k : Nat) : List Nat := (List.range 4).filter fun n => s.ctxEn k n && s.ctxPart k n == p
/-- The enabled contexts of a partition. -/
def State.ctxsOf (s : State) (p : Nat) : List (Nat × Nat) :=
  allCtxs.filter fun c => s.ctxEn c.1 c.2 && s.ctxPart c.1 c.2 == p
/-- The member cores of a partition (CNET_PMEM). -/
def State.memberCores (s : State) (p : Nat) : List Nat :=
  (List.range 16).filter fun k => bitAt (s.fld (Reg.CNET_PMEM p) Fld.CNET_PMEM_CORES) k
/-- The member ports of a partition, as nodes (R191). -/
def State.memberPorts (s : State) (p : Nat) : List Nat :=
  ((List.range 16).filter fun i => bitAt (s.fld (Reg.CNET_PMEM p) Fld.CNET_PMEM_PORTS) i).map fun i => 16 + i
/-- The member nodes of a partition. -/
def State.members (s : State) (p : Nat) : List Nat := s.memberCores p ++ s.memberPorts p
/-- Partitions that own a tile group of a core. -/
def State.ownersOfGroup (s : State) (k g : Nat) : List Nat :=
  (((List.range 4).filter fun n => s.ctxEn k n && bitAt (s.gmask k n) g).map fun n => s.ctxPart k n).eraseDups
/-- The first partition that owns a tile group; 255 none. -/
def State.groupPart (s : State) (k g : Nat) : Nat := (s.ownersOfGroup k g).headD 255
/-- The first partition whose contexts on a core own a shelf row; 255 none. -/
def State.rowPart (s : State) (k r : Nat) : Nat :=
  (((List.range 4).filter fun n => s.ctxEn k n && s.inRows k n r).map fun n => s.ctxPart k n).headD 255
/-- Partitions with an enabled context on a core. -/
def State.ownersOfCore (s : State) (k : Nat) : List Nat :=
  (((List.range 4).filter fun n => s.ctxEn k n).map fun n => s.ctxPart k n).eraseDups
/-- The words of a bundle of program memory. -/
def State.bundleWords (s : State) (k b : Nat) : List Nat := (List.range 8).map fun j => s.rd (Reg.CORE_PMEM k (8 * b + j))
/-- The words of the bundle at a program-relative address of a context. -/
def State.progWords (s : State) (k n pc : Nat) : List Nat :=
  s.bundleWords k (s.fld (Reg.CORE_CTXPROG k n) Fld.CORE_CTXPROG_PBASE + pc)

/-! ### Partition state of the serving engine -/

/-- The serving state of a partition. -/
def State.part (s : State) (p : Nat) : PartSrv := SMap.get (fun _ => {}) s.srv.parts p
/-- Set the serving state of a partition. -/
def State.setPart (s : State) (p : Nat) (x : PartSrv) : State :=
  { s with srv := { s.srv with parts := SMap.set (fun _ => ({} : PartSrv)) s.srv.parts p x } }
/-- Count usage of a partition's step (R525): tile reads, wheel block steps, granules. -/
def State.addUsage (s : State) (p tread wops gran : Nat) : State :=
  let u := SMap.get (fun _ => {}) s.mgmt.usage p
  let v : Usage := { tread := u.tread + tread, wops := u.wops + wops, gran := u.gran + gran }
  { s with mgmt := { s.mgmt with usage := SMap.set (fun _ => ({} : Usage)) s.mgmt.usage p v } }
/-- The step of a partition fails when it is open and its commit has not begun (R289). -/
def State.failStep (s : State) (p : Nat) : State :=
  if (s.part p).opened then s.setPart p { s.part p with failed := true } else s

/-! ### Control messages -/

/-- The node of the root hub and of the management controller (R191). -/
def mgmtNode : Nat := 42
/-- Put a control message on its way (R216). -/
def State.post (s : State) (t : MsgType) (from_ to_ p arg : Nat) : State :=
  { s with mesh := { s.mesh with msgs := s.mesh.msgs ++ [⟨t, from_, to_, p, arg⟩] } }
/-- Take the first message of a kind between two nodes for a partition. -/
def State.takeMsg (s : State) (t : MsgType) (from_ to_ p : Nat) : Option (Msg × State) :=
  match findIdx1 (fun (m : Msg) => m.type == t && m.snode == from_ && m.dnode == to_ && m.part == p) s.mesh.msgs with
  | some (i, m) => some (m, { s with mesh := { s.mesh with msgs := s.mesh.msgs.eraseIdx i } })
  | none => none

/-! ### Faults -/

/-- A fault of a context (R187, R188, R190): it stops, its report is filled and sent as sherd 0x0001 and message FAULT, and
the open step of its partition fails (R289). A fault after a report sets MORE. `bw` are the words of the bundle. -/
def State.ctxFault (s : State) (k n pc slot reason : Nat) (op bw : List Nat) : State :=
  if s.ctxRun k n = 0 then s
  else if s.fld (Reg.CORE_FLTINFO k n) Fld.CORE_FLTINFO_VALID = 1 then
    (s.setRun k n 3).setF (Reg.CORE_FLTINFO k n) Fld.CORE_FLTINFO_MORE 1
  else
    let p := s.ctxPart k n
    let s := (s.setRun k n 3).setF (Reg.CORE_STAT k) ⟨n, 1⟩ 1
    let s := s.wr (Reg.CORE_FLTINFO k n) (2 ^ 31 + slot % 8 * 2 ^ 27 + reason % 256 * 2 ^ 16 + pc % 65536)
    let s := s.forEach (List.range 4) fun s i => s.wr (Reg.CORE_FLTOPND k n i) (nth 0 op i % 2 ^ 32)
    let s := s.forEach (List.range 8) fun s i => s.wr (Reg.CORE_FLTBW k n i) (nth 0 bw i % 2 ^ 32)
    let s := s.sherd { code := 1, sev := 2, part := p, unit := unitCore k,
                       detail := [(48, n), (52, s.rd (Reg.CORE_FLTINFO k n))] ++
                         ((List.range 4).map fun i => (56 + 4 * i, s.rd (Reg.CORE_FLTOPND k n i))) ++
                         (List.range 8).map fun i => (72 + 4 * i, s.rd (Reg.CORE_FLTBW k n i)) }
    (s.post .fault k mgmtNode p (reason % 256 * 2 ^ 16 + pc % 65536)).failStep p

/-- A fault of a bundle at a program-relative address. -/
def State.bundleFault (s : State) (k n pc slot reason : Nat) (op : List Nat) : State :=
  s.ctxFault k n pc slot reason op (s.progWords k n pc)

/-- All ones, the operand of R190 that names no source. -/
def noNode : Nat := 0xFFFFFFFF

/-! ### Unit operations -/

/-- The operation a unit of a core performs. Units: 0 dispatch, 1 move, 2 + n wheel of context n, 6 mesh send, 8 + n
enqueues of context n, 16 + g accumulator of group g. -/
def State.op (s : State) (k u : Nat) : Option UnitOp := SMap.get (fun _ => none) s.core.ops (k * 32 + u)
/-- Set the operation of a unit. -/
def State.setOp (s : State) (k u : Nat) (o : Option UnitOp) : State :=
  { s with core := { s.core with ops := SMap.set (fun _ => none) s.core.ops (k * 32 + u) o } }
/-- The read engine of a tile. -/
def State.eng (s : State) (k t : Nat) : TileEng := SMap.get (fun _ => {}) s.core.eng (tileKey k t)
/-- Set the read engine of a tile. -/
def State.setEng (s : State) (k t : Nat) (e : TileEng) : State :=
  { s with core := { s.core with eng := SMap.set (fun _ => ({} : TileEng)) s.core.eng (tileKey k t) e } }
/-- The descriptors of a queue in enqueue order. -/
def State.queue (s : State) (k q : Nat) : List QDesc := SMap.get (fun _ => []) s.core.queues (k * 16 + q)
/-- Set the descriptors of a queue; QUE_QSTAT shows their number. -/
def State.setQueue (s : State) (k q : Nat) (l : List QDesc) : State :=
  ({ s with core := { s.core with queues := SMap.set (fun _ => []) s.core.queues (k * 16 + q) l } }).setF
    (Reg.QUE_QSTAT k q) Fld.QUE_QSTAT_INFLIGHT l.length
/-- The delivered reads of a tile group. -/
def State.group (s : State) (k g : Nat) : List Delivered := SMap.get (fun _ => []) s.core.groups (k * 16 + g)
/-- Set the delivered reads of a tile group. -/
def State.setGroup (s : State) (k g : Nat) (l : List Delivered) : State :=
  { s with core := { s.core with groups := SMap.set (fun _ => []) s.core.groups (k * 16 + g) l } }
/-- The drift state of a tile. -/
def State.drift (s : State) (k t : Nat) : DriftTile := SMap.get (fun _ => {}) s.core.drift (tileKey k t)
/-- Set the drift state of a tile. -/
def State.setDrift (s : State) (k t : Nat) (d : DriftTile) : State :=
  { s with core := { s.core with drift := SMap.set (fun _ => ({} : DriftTile)) s.core.drift (tileKey k t) d } }
/-- TILE_STAT.STATE: 0 unprogrammed, 1 loading, 2 ready, 3 degraded, 4 fenced (R75). -/
def State.tileState (s : State) (k t : Nat) : Nat := s.fld (Reg.TILE_STAT k t) Fld.TILE_STAT_STATE
/-- Set the state of a tile. -/
def State.setTileState (s : State) (k t v : Nat) : State := s.setF (Reg.TILE_STAT k t) Fld.TILE_STAT_STATE v

end Sys2Proof.Machine
end

