-- ==== Sys2Proof/Machine/Correct.lean ====
section
/-!
DEFINITION. Correction words, the factory calibration record and the drift state of a tile (R88 to R93, R101, R102, R106).
-/
namespace Sys2Proof.Machine

/-! ### Binary64 -/

/-- The nearest integer of a rational, ties to even (R19). -/
def rneRat (x : Rat) : Int := rneDiv x.num x.den
/-- Floor of the base-2 logarithm of a non-zero rational's magnitude. -/
def ratLog2 (x : Rat) : Int :=
  let n := x.num.natAbs
  let e : Int := (n.log2 : Int) - x.den.log2
  if (if 0 ≤ e then decide (n < x.den * 2 ^ e.toNat) else decide (n * 2 ^ (-e).toNat < x.den)) then e - 1 else e
/-- Round to IEEE 754 binary64: 53 significant bits, nearest, ties to even. -/
def b64 (x : Rat) : Rat :=
  if x = 0 then 0
  else
    let u := max (ratLog2 x - 52) (-1074)
    if 0 ≤ u then ((rneDiv x.num (x.den * 2 ^ u.toNat) * (2 ^ u.toNat : Nat) : Int) : Rat)
    else ((rneDiv (x.num * (2 ^ (-u).toNat : Nat)) x.den : Int) : Rat) / ((2 ^ (-u).toNat : Nat) : Rat)

/-- The square root in binary64, of a value above 0. -/
def sqrtB64 (x : Rat) : Rat :=
  let e := (120 - ratLog2 x).toNat / 2 + 1
  let n := x.num.toNat * 4 ^ e
  let r := (n / x.den).sqrt
  let sticky := b2n (decide (r * r * x.den ≠ n))
  b64 (((2 * r + sticky : Nat) : Rat) / ((2 ^ (e + 1) : Nat) : Rat))

/-! ### Correction words -/

/-- GC of a correction word (R88). -/
def wordGc (w : Word) : Int := signed 16 (w.toNat / 65536)
/-- OC of a correction word (R88). -/
def wordOc (w : Word) : Int := signed 16 w.toNat
/-- The word of GC and OC. -/
def corrWord (gc oc : Int) : Word := BitVec.ofNat 32 (unsign 16 gc * 65536 + unsign 16 oc)
/-- The corrected code of a raw code (R88). -/
def correctCode (w : Word) (p : Int) : Int :=
  clampInt (-512) 511 (rneDiv (p * (65536 + wordGc w) + wordOc w * 1024) 65536)

/-- A new word from an old one for residual gain G and offset O (R101), with the number of its fields that were clamped. The
order of the binary64 operations is that of the formulas. -/
def newWord (old : Word) (g o : Rat) : Word × Nat :=
  let c := b64 (b64 (1 + b64 ((wordGc old : Rat) / 65536)) / g)
  let n := b64 (b64 (b64 ((wordOc old : Rat) / 64) - o) / g)
  let gc := rneRat (b64 ((c - 1) * 65536))
  let oc := rneRat (b64 (n * 64))
  let lim := clampInt (-32768) 32767
  (corrWord (lim gc) (lim oc), b2n (lim gc != gc) + b2n (lim oc != oc))

/-- The temperature factor 1 + TCG x 10^-6 x dT of R101. -/
def tempGain (tcg : Int) (dt : Rat) : Rat := b64 (1 + b64 (b64 ((tcg : Rat) * b64 (1 / 1000000)) * dt))
/-- The temperature offset TCO / 1,024 x dT of R101. -/
def tempOffset (tco : Int) (dt : Rat) : Rat := b64 (b64 ((tco : Rat) / 1024) * dt)

/-- The ring-oscillator reading of a core in 1/4 degree Celsius (R447). -/
def State.roOf (s : State) (k : Nat) : Int := SMap.get (fun _ => (0 : Int)) s.thm.ro k
/-- The factory calibration record of a tile (R89). -/
def State.calOf (s : State) (k t : Nat) : CalTile := SMap.get (fun _ => {}) s.core.cal (tileKey k t)
/-- Factory word of a physical column (R90); zero while R91 applies. -/
def State.factoryWord (s : State) (k t c : Nat) : Word :=
  if s.core.calInvalid then 0
  else
    match SMap.get (fun _ => none) s.core.exc (colKey k t c) with
    | some e => corrWord e.gc e.oc
    | none => corrWord (s.calOf k t).gc (s.calOf k t).oc
/-- Fingerprint variance of a physical column, in LSB squared (R89, R90). -/
def State.fpvar (s : State) (k t c : Nat) : Rat :=
  (((if s.core.calInvalid then Config.fpvarInvalid
    else match SMap.get (fun _ => none) s.core.exc (colKey k t c) with
      | some e => e.fpvar
      | none => (s.calOf k t).fpvar : Nat) : Rat)) / 1024

/-- The active correction word of a physical column. -/
def State.actWord (s : State) (k t c : Nat) : Word := SMap.get (fun _ => 0) s.core.act (colKey k t c)
/-- The shadow correction word of a physical column. -/
def State.shdWord (s : State) (k t c : Nat) : Word := SMap.get (fun _ => 0) s.core.shd (colKey k t c)
/-- Write the active words of a tile. -/
def State.setActs (s : State) (k t : Nat) (f : Nat → Word) : State :=
  { s with core := { s.core with act := SMap.setRange (fun _ => 0) s.core.act (colKey k t 0) 1104 f } }
/-- Write the shadow words of a tile. -/
def State.setShds (s : State) (k t : Nat) (f : Nat → Word) : State :=
  { s with core := { s.core with shd := SMap.setRange (fun _ => 0) s.core.shd (colKey k t 0) 1104 f } }
/-- Count clamped correction fields (R101). -/
def State.countClamps (s : State) (k n : Nat) : State :=
  s.when (n != 0) fun s => (s.setF (Reg.CORE_DSTAT k) Fld.CORE_DSTAT_CLAMP 1).inc (Reg.CORE_DCLAMPCNT k) n

/-- Initialise both banks of a tile (R93, R102): factory values carried to the present temperature; estimates, windows and
baselines cleared; age 0; REF_MASK from the tile record. -/
def State.initTile (s : State) (k t : Nat) : State :=
  let cal := s.calOf k t
  let dt : Rat := ((s.roOf k - 180 : Int) : Rat) / 4
  let g := tempGain cal.tcg dt
  let o := tempOffset cal.tco dt
  let ws := (List.range 1104).map fun c =>
    if s.core.calInvalid then ((0 : Word), 0) else newWord (s.factoryWord k t c) g o
  let n := ws.foldl (fun a w => a + w.2) 0
  let s := (s.setActs k t fun c => (nth (0, 0) ws c).1).setShds k t fun c => (nth (0, 0) ws c).1
  let s := { s with core := { s.core with cols := s.core.cols.filter fun e => e.1 / 2048 != tileKey k t } }
  let s := s.setDrift k t { tcommit := s.roOf k, tbuild := s.roOf k, clampAct := n != 0 }
  let s := s.countClamps k n
  s.setF (Reg.TILE_REFCFG k t) Fld.TILE_REFCFG_REF_MASK (if s.core.calInvalid then 0 else cal.refMask)

/-! ### Drift state -/

/-- The drift state of a tile (R106): 0 corrected, 1 stale, 2 out of bound, 3 none. -/
def State.driftState (s : State) (k t : Nat) : Nat :=
  let d := s.drift k t
  let st := s.tileState k t
  let gainLim : Rat := (s.fld (Reg.CORE_DTOL k) Fld.CORE_DTOL_RES_GAIN : Rat) / 65536
  let ofsLim : Rat := (s.fld (Reg.CORE_DTOL k) Fld.CORE_DTOL_RES_OFS : Rat) / 64
  let far := match d.last with
    | some e => d.qual && (decide (gainLim < (e.g - 1).abs) || decide (ofsLim < e.o.abs))
    | none => false
  if st ≠ 2 ∧ st ≠ 3 then 3
  else if s.core.calInvalid || d.clampAct || far then 2
  else if s.fld (Reg.CORE_DTIME k) Fld.CORE_DTIME_AGE_MAX * 100 ≤ d.age ∨
    s.fld (Reg.CORE_DTIME k) Fld.CORE_DTIME_TEMP_STALE ≤ (s.roOf k - d.tcommit).natAbs then 1
  else 0
/-- The drift state of a core (R106): the highest among its tiles in states 2 and 3, or none. -/
def State.coreDrift (s : State) (k : Nat) : Nat :=
  let l := ((List.range 1024).map fun t => s.driftState k t).filter fun v => v != 3
  if l = [] then 3 else l.foldl max 0
/-- CORE_DTRES of a tile (R109): the last estimate, saturating. -/
def State.dtres (s : State) (k t : Nat) : Nat :=
  match (s.drift k t).last with
  | none => 0
  | some e => unsign 16 (clampInt (-32768) 32767 (rneRat ((e.g - 1) * 65536))) * 65536 +
      unsign 16 (clampInt (-32768) 32767 (rneRat (e.o * 64)))
/-- CORE_DTINFO of a tile (R109). -/
def State.dtinfo (s : State) (k t : Nat) : Nat :=
  let d := s.drift k t
  min 0xFFFF d.age * 65536 + unsign 12 d.tcommit * 16 + b2n d.qual * 4 + s.driftState k t
/-- The advisory record 0x0003 of a tile that is out of bound (R106, R476). -/
def State.driftAdvise (s : State) (k t : Nat) : State :=
  s.advise { code := 3, sev := 1, part := s.groupPart k (t / 64), unit := unitTile k t, detail := [(48, s.dtres k t), (52, s.dtinfo k t)] }
/-- Change the state of a tile's drift; the record is created when its drift state becomes out of bound. -/
def State.driftChange (s : State) (k t : Nat) (f : State → State) : State :=
  let r := f s
  if s.driftState k t ≠ 2 ∧ r.driftState k t = 2 then r.driftAdvise k t else r

/-- Tiles of a core still armed (R103). -/
def State.armedTiles (s : State) (k : Nat) : List Nat :=
  (s.core.drift.filter fun e => e.1 / 1024 == k && e.2.armed).map fun e => e.1 % 1024
/-- With no armed tile left the commit is done (R103). -/
def State.commitDone (s : State) (k : Nat) : State :=
  if s.fld (Reg.CORE_DSTAT k) Fld.CORE_DSTAT_ARMED = 1 ∧ s.armedTiles k = [] then
    (s.setF (Reg.CORE_DSTAT k) Fld.CORE_DSTAT_ARMED 0).setF (Reg.CORE_DSTAT k) Fld.CORE_DSTAT_DONE 1
  else s
/-- A tile is dropped from the armed set (R105). -/
def State.dropArmed (s : State) (k t : Nat) : State :=
  if (s.drift k t).armed then (s.setDrift k t { s.drift k t with armed := false, built := false }).commitDone k else s

end Sys2Proof.Machine
end

