-- ==== Sys2Proof/Machine/Rings.lean ====
section
/-!
DEFINITION. The rings of the virtual functions: reservations, completion entries, commands in flight (R543 to R551).
-/
namespace Sys2Proof.Machine

/-- Entries of the completion ring that no reservation and no unconsumed entry takes (R547). -/
def State.cqFree (s : State) (p : Nat) : Nat :=
  let f := s.vf p
  let admits := (f.cmds.filter fun c => c.entry.op == 1).length
  s.fld (Reg.PCI_VCQSIZE p) Fld.PCI_VCQSIZE_ENTRIES - (f.cmds.length + admits + f.ends.length + f.toks) - f.cq.length

/-- Write an entry into the completion ring (R545, R551): PHASE inverts at each wrap; the CNT-th entry since the last raise
raises vector 0. A failed part writes nothing (R557). -/
def State.writeCq (s : State) (p kind status cid gen value pos : Nat) : State :=
  if s.failed then s
  else
    let f := s.vf p
    let size := s.fld (Reg.PCI_VCQSIZE p) Fld.PCI_VCQSIZE_ENTRIES
    let e : CqEntry := { kind := kind, phase := f.phase, status := status, cid := cid, gen := gen, value := value, pos := pos }
    let wrap := decide (size ≤ f.cqTail + 1)
    let n := f.sinceIrq + 1
    let due := decide (s.fld (Reg.PCI_VIRQ p) Fld.PCI_VIRQ_CNT ≤ n)
    let s := s.setVf p { f with
      cq := f.cq ++ [e]
      cqTail := if wrap then 0 else f.cqTail + 1
      phase := f.phase != wrap
      sinceIrq := if due then 0 else n }
    s.when due fun s => s.raiseVf p 0

/-- Complete a command (R544 to R546): it leaves the commands in flight and its entry is written. -/
def State.complete (s : State) (p cid status gen value : Nat) : State :=
  let f := s.vf p
  match findIdx1 (fun c => c.entry.cid == cid) f.cmds with
  | some (i, _) => (s.setVf p { f with cmds := f.cmds.eraseIdx i }).writeCq p 1 status cid gen value 0
  | none => s

/-- The first command in flight with this CID and OP that has not started and may start (R544): a fenced command, and ADMIT,
CANCEL and T2DEL, wait for every earlier one. -/
def State.startable (s : State) (p cid op : Nat) : Option VfCmd :=
  match findIdx1 (fun (c : VfCmd) => c.entry.cid == cid && c.entry.op == op && !c.started) (s.vf p).cmds with
  | some (i, c) => if (c.entry.fence || op == 1 || op == 2 || op == 6) && i != 0 then none else some c
  | none => none

/-- Change the first command in flight with this CID. -/
def State.setCmd (s : State) (p cid : Nat) (g : VfCmd → VfCmd) : State :=
  let f := s.vf p
  match findIdx1 (fun (c : VfCmd) => c.entry.cid == cid) f.cmds with
  | some (i, c) => s.setVf p { f with cmds := setNth f.cmds i (g c) }
  | none => s

/-- A ring error (R549): RERR, RCAUSE, the VF's bit of PCI_VFERR, vectors; fetching stops. -/
def State.ringError (s : State) (p cause : Nat) : State :=
  let a := if p < 32 then Reg.PCI_VFERR_LO else Reg.PCI_VFERR_HI
  let up := !bitAt (s.rd a) (p % 32)
  let s := (s.setF (Reg.PCI_VSTAT p) Fld.PCI_VSTAT_RERR 1).setF (Reg.PCI_VSTAT p) Fld.PCI_VSTAT_RCAUSE cause
  let s := (s.setF a ⟨p % 32, 1⟩ 1).when up fun s => s.raisePf 4
  (s.setVf p { s.vf p with fetchOff := true }).raiseVf p 1

end Sys2Proof.Machine
end

