-- ==== Sys2Proof/Machine/Streams.lean ====
section
/-!
DEFINITION. Regions (R233 to R238), KV blocks and tiers (R249 to R254), and the end of a stream (R260).
-/
namespace Sys2Proof.Machine

/-! ### Regions -/

/-- A region entry is valid. -/
def State.rgnValid (s : State) (r : Nat) : Bool := s.fld (Reg.HBM_RGNA r) Fld.HBM_RGNA_VALID == 1
/-- The partition of a region. -/
def State.rgnPart (s : State) (r : Nat) : Nat := s.fld (Reg.HBM_RGNA r) Fld.HBM_RGNA_PART
/-- The type of a region (R235): 0 GEN, 1 SPILL, 2 KV, 3 ADAPTER, 4 LEND, 5 COUNTS. -/
def State.rgnType (s : State) (r : Nat) : Nat := s.fld (Reg.HBM_RGNA r) Fld.HBM_RGNA_TYPE
/-- The tenant of a region. -/
def State.rgnTenant (s : State) (r : Nat) : Nat := s.fld (Reg.HBM_RGNA r) Fld.HBM_RGNA_TENANT
/-- The first granule of a region (BASE counts 2 MiB). -/
def State.regionBase (s : State) (r : Nat) : Nat := s.fld (Reg.HBM_RGNB r) Fld.HBM_RGNB_VALUE * 65536
/-- The granules of a region. -/
def State.regionSize (s : State) (r : Nat) : Nat := s.fld (Reg.HBM_RGNC r) Fld.HBM_RGNC_VALUE * 65536
/-- The initialisation fill of a region runs (R237). -/
def State.rgnInit (s : State) (r : Nat) : Bool := s.fld (Reg.HBM_RGND r) Fld.HBM_RGND_INIT == 1
/-- A partition runs, or loads: its regions, tiles and groups are not to be written (R236, R363). -/
def State.inUse (s : State) (p : Nat) : Bool := s.run p != 0 || s.fld (Reg.FLS_PLOAD p) Fld.FLS_PLOAD_STATE == 1
/-- The region that a handle of a partition names (R236): none when its map entry is not valid, or its region has since been
made not valid or given away. -/
def State.handleRegion (s : State) (p h : Nat) : Option Nat :=
  let a := Reg.HBM_HMAP (p * 64 + h)
  let r := s.fld a Fld.HBM_HMAP_RGN
  if s.fld a Fld.HBM_HMAP_VALID = 1 ∧ s.rgnValid r ∧ s.rgnPart r = p ∧ !s.hbm.stale.contains (p * 64 + h) then some r else none
/-- The valid regions. -/
def State.validRegions (s : State) : List Nat := (List.range 1024).filter fun r => s.rgnValid r
/-- The valid region that holds a granule. -/
def State.regionAt (s : State) (g : Nat) : Option Nat :=
  s.validRegions.find? fun r => decide (s.regionBase r ≤ g) && decide (g < s.regionBase r + s.regionSize r)

/-! ### KV blocks -/

/-- The content of a granule. -/
def State.gran (s : State) (g : Nat) : Granule := SMap.get (fun _ => 0) s.hbm.mem g
/-- The condition of a granule: 0 clean, 1 a correctable error, 2 an uncorrectable error, 3 the poison code. -/
def State.granCond (s : State) (g : Nat) : Nat := SMap.get (fun _ => 0) s.hbm.cond g
/-- Store a granule with new check bits, or with the poison code (R244, R245). -/
def State.setGran (s : State) (g : Nat) (v : Granule) (poison : Bool) : State :=
  { s with hbm := { s.hbm with
    mem := SMap.set (fun _ => 0) s.hbm.mem g v
    cond := SMap.set (fun _ => 0) s.hbm.cond g (if poison then 3 else 0) } }

/-- The KV block table entry of block b of a stream (R258). -/
def State.kv (s : State) (c b : Nat) : Option KvEnt := SMap.get (fun _ => none) s.srv.kv (c * 1024 + b)
/-- Set a KV block table entry. -/
def State.setKv (s : State) (c b : Nat) (e : Option KvEnt) : State :=
  { s with srv := { s.srv with kv := SMap.set (fun _ => none) s.srv.kv (c * 1024 + b) e } }

/-- Insert a region in the order of its base. -/
def State.insRegion (s : State) (r : Nat) : List Nat → List Nat
  | [] => [r]
  | q :: l => if s.regionBase r ≤ s.regionBase q then r :: q :: l else q :: State.insRegion s r l
/-- The KV regions of a partition in ascending order of offset (R274). -/
def State.kvRegions (s : State) (p : Nat) : List Nat :=
  (s.validRegions.filter fun r => s.rgnPart r == p && s.rgnType r == 2).foldr (fun r l => s.insRegion r l) []
/-- The pad block of a partition (R266): the first block of its lowest KV region, as a physical offset. -/
def State.padBlock (s : State) (p : Nat) : Option Nat := (s.kvRegions p).head?.map fun r => 32 * s.regionBase r
/-- Tier-0 blocks in use: in the block tables, and allocated by open plans. -/
def State.usedBlocks (s : State) : List Nat :=
  (s.srv.kv.filterMap fun e => match e.2 with
    | some k => if k.tier = 0 then some k.off else none
    | none => none) ++
  s.srv.parts.flatMap fun e => e.2.plan.flatMap (·.blocks)
/-- The lowest free tier-0 block of a partition outside `more`, in a KV region of tenant t (R274, R501). -/
def State.freeBlock (s : State) (p t : Nat) (more : List Nat) : Option Nat :=
  let used := s.usedBlocks ++ more ++ (s.padBlock p).toList
  ((s.kvRegions p).filter fun r => s.rgnTenant r == t).findSome? fun r =>
    ((List.range (min (s.regionSize r / 2048) (used.length + 1))).find? fun i =>
      !used.contains (32 * s.regionBase r + 65536 * i)).map fun i => 32 * s.regionBase r + 65536 * i

/-- The controller whose mover moves a block: the one of its first granule (R249, R234). -/
def blockCtl (off : Nat) : Nat := off / 32 % 8
/-- The tier-2 slots of a partition in use (R553), as range x 16384 + slot. -/
def State.freeSlot2 (s : State) (p : Nat) : Option Nat :=
  (s.vf p).ranges.findSome? fun r =>
    ((List.range (min r.slots (r.used.length + 1))).find? fun i => !r.used.contains i).map fun i => r.index * 16384 + i
/-- Take or free a tier-2 slot. -/
def State.slot2 (s : State) (p slot : Nat) (take : Bool) : State :=
  let f := s.vf p
  s.setVf p { f with ranges := f.ranges.map fun r =>
    if r.index = slot / 16384 then
      { r with used := if take then r.used ++ [slot % 16384] else r.used.filter fun u => u != slot % 16384 }
    else r }

/-- A stream context. -/
def State.stream (s : State) (c : Nat) : Stream := SMap.get (fun _ => {}) s.srv.streams c
/-- Set a stream context. -/
def State.setStream (s : State) (c : Nat) (x : Stream) : State :=
  { s with srv := { s.srv with streams := SMap.set (fun _ => ({} : Stream)) s.srv.streams c x } }
/-- The tiers in which the blocks of a stream lie (the TIERS field of R258). -/
def State.tiersOf (s : State) (c : Nat) : Nat :=
  maskOf 3 fun t => (List.range (s.stream c).nblk).any fun b => match s.kv c b with
    | some e => e.tier == t
    | none => false
/-- Record a block's place, with NBLK and TIERS as they follow. -/
def State.placeBlock (s : State) (c b : Nat) (e : KvEnt) : State :=
  let s := s.setKv c b (some e)
  s.setStream c { s.stream c with tiers := s.tiersOf c }

/-- A move of a block is in flight: begun and not ended. -/
def State.moving (s : State) (c b : Nat) : Bool :=
  s.hbm.moves.any fun m => m.stream == c && m.block == b && m.step != 0 && m.step != 9
/-- A sealed block gives its slot back. -/
def State.unseal (s : State) (seq : Nat) : State :=
  { s with hbm := { s.hbm with sealed := s.hbm.sealed.filter fun d => d.seq != seq } }
/-- Free the block that the table names: a tier-0 block returns to the free list, a slot of another tier is free again. -/
def State.freeEntry (s : State) (p c b : Nat) : State :=
  match s.kv c b with
  | none => s
  | some e => ((s.when (e.tier == 2) fun s => s.slot2 p e.off false).when (e.tier != 0) fun s => s.unseal e.seq).setKv c b none
/-- Free the KV of a stream (R254): ordered moves are cancelled; a block whose move is in flight is freed when it ends. -/
def State.freeKv (s : State) (c : Nat) : State :=
  let x := s.stream c
  let s := { s with hbm := { s.hbm with moves := s.hbm.moves.filter fun m => m.stream != c || (m.step != 0 && m.step != 9) } }
  s.forEach (List.range x.nblk) fun s b => if s.moving c b then s else s.freeEntry x.part c b

/-! ### The end of a stream -/

/-- The PIN count of a bank of an adapter slot (R284). -/
def pinFld (bank : Nat) : Fld := if bank = 0 then Fld.ADP_SSTAT_PIN0 else Fld.ADP_SSTAT_PIN1
/-- Add to, or take from, the PIN count of the bank that a stream is pinned to. -/
def State.pin (s : State) (p slot bank : Nat) (up : Bool) : State :=
  let a := Reg.ADP_SSTAT (p * 64 + slot)
  let n := s.fld a (pinFld bank)
  s.setF a (pinFld bank) (if up then n + 1 else n - 1)
/-- Release the pin of a stream (R284 to R286). -/
def State.unpin (s : State) (c : Nat) : State :=
  let x := s.stream c
  if x.pinned then (s.pin x.part x.aslot x.abank false).setStream c { x with pinned := false } else s

/-- End a stream (R260): its pin and its KV are released, and its stream-end entry is written (R545). A stream ended by a reset
of its virtual function becomes FREE without an entry (R555). -/
def State.endStream (s : State) (c status : Nat) : State :=
  let x := s.stream c
  if x.state = .free ∨ x.state = .ended then s
  else
    let s := (s.unpin c).freeKv c
    let y := s.stream c
    if x.flr then s.setStream c { gen := x.gen }
    else
      let s := s.setStream c { y with
        state := .ended
        status := status
        nblk := 0
        tiers := 0
        cancel := false }
      let f := s.vf x.part
      (s.setVf x.part { f with ends := f.ends.erase c }).writeCq x.part 3 status c x.gen 0 x.pos

/-- The streams of a partition that are neither FREE nor ENDED, in context order. -/
def State.liveStreams (s : State) (p : Nat) : List Nat :=
  (s.srv.streams.filter fun e => e.2.part == p && e.2.state != .free && e.2.state != .ended).map (·.1)

/-- A reset of the virtual function of p (R555): an ended stream is FREE; every other one ends with status 3 at the next
boundary and becomes FREE without an entry. -/
def State.flrStreams (s : State) (p : Nat) : State :=
  s.forEach ((s.srv.streams.filter fun e => e.2.part == p && e.2.state != .free).map (·.1)) fun s c =>
    let x := s.stream c
    if x.state = .ended then s.setStream c { gen := x.gen }
    else s.setStream c { x with cancel := true, flr := true }

/-! ### Tier moves that fail -/

/-- A move leaves the list of moves. -/
def State.dropMove (s : State) (m : Move) : State :=
  { s with hbm := { s.hbm with moves := s.hbm.moves.filter fun n => !(n.stream == m.stream && n.block == m.block) } }
/-- The slot that an outward move had taken and not confirmed is free again. -/
def State.freeDest (s : State) (m : Move) : State :=
  s.when (m.out && m.step == 3) fun s => (s.when (m.tier == 2) fun s => s.slot2 m.part m.slot false).unseal m.seq
/-- A move in flight fails without an end of the stream (R253): it is counted, the context names the source, and it is ordered
again at the next boundary. The block of a stream that has ended is freed (R254). -/
def State.failMove (s : State) (m : Move) : State :=
  let s := (s.dropMove m).inc (Reg.HBM_MVFAIL (blockCtl 0)) 1
  let s := s.freeDest m
  let x := s.stream m.stream
  if x.state = .free ∨ x.state = .ended then s.freeEntry m.part m.stream m.block
  else if m.out ∧ x.state ≠ .parking then s
  else { s with hbm := { s.hbm with moves := s.hbm.moves ++ [{ m with step := 9, data := [] }] } }
/-- Abort every move of a partition (R253). -/
def State.abortMoves (s : State) (p : Nat) : State :=
  s.forEach (s.hbm.moves.filter fun m => m.part == p && m.step != 0 && m.step != 9) State.failMove

end Sys2Proof.Machine
end

