-- ==== Sys2Proof/Machine/Fences.lean ====
section
/-!
DEFINITION. Rows that leave the mesh (R213, R224), the stop of a partition (R387, R471), ports (R298), fences (R468 to R470)
and the failure of the part (R471, R557).
-/
namespace Sys2Proof.Machine

/-! ### Rows that leave the mesh -/

/-- A node has ejected weight for a partition (R220). -/
def State.eject (s : State) (node p wt : Nat) : State :=
  let key := node * 64 + p
  { s with mesh := { s.mesh with ejected := SMap.set (fun _ => 0) s.mesh.ejected key (SMap.get (fun _ => 0) s.mesh.ejected key + wt) } }
/-- The sends that a row holds are written at their destination (R213): they count toward the barrier; rows that entered at a port
or came from the serving engine hold none (R317). -/
def State.rowWritten (s : State) (node : Nat) (r : MeshRow) : State :=
  let un := r.srcs.foldl (fun (m : SMap Nat) c => SMap.set (fun _ => 0) m c (SMap.get (fun _ => 0) m c - 1)) s.mesh.unwritten
  ({ s with mesh := { s.mesh with unwritten := un } }).eject node r.part r.srcs.length
/-- A row goes to the discard sink of its partition at a router (R224); `node` is the node it was bound for. -/
def State.sink (s : State) (router node : Nat) (r : MeshRow) : State := (s.inc (Reg.RTR_DISCNT router) 1).rowWritten node r
/-- The delivery queue of a context. -/
def State.deliv (s : State) (c : Nat) : List MeshRow := SMap.get (fun _ => []) s.mesh.deliv c
/-- Set the delivery queue of a context. -/
def State.setDeliv (s : State) (c : Nat) (l : List MeshRow) : State :=
  { s with mesh := { s.mesh with deliv := SMap.set (fun _ => []) s.mesh.deliv c l } }
/-- The parking store of a context. -/
def State.parked (s : State) (c : Nat) : List MeshRow := SMap.get (fun _ => []) s.mesh.parked c
/-- Set the parking store of a context. -/
def State.setParked (s : State) (c : Nat) (l : List MeshRow) : State :=
  { s with mesh := { s.mesh with parked := SMap.set (fun _ => []) s.mesh.parked c l } }
/-- The reduction slots of a context, oldest merge first. -/
def State.slots (s : State) (c : Nat) : List RedSlot := SMap.get (fun _ => []) s.mesh.slots c
/-- Set the reduction slots of a context. -/
def State.setSlots (s : State) (c : Nat) (l : List RedSlot) : State :=
  { s with mesh := { s.mesh with slots := SMap.set (fun _ => []) s.mesh.slots c l } }
/-- Delivery queue, parking store and slots of a context empty into the discard sink (R225, R226). The weight of a row in a
slot was counted at its merge (R213). -/
def State.discardCtx (s : State) (k n : Nat) : State :=
  let c := ctxKey k n
  let s := s.forEach (s.deliv c ++ s.parked c) fun s r => s.sink k k r
  let s := s.inc (Reg.RTR_DISCNT k) (s.slots c).length
  ((s.setDeliv c []).setParked c []).setSlots c []

/-! ### The stop of a partition -/

/-- Set CNET_PSTAT.RUN, shown as PCI_VSTAT.PRUN; a change sets PSTEV and raises vector 1 of the VF (R551, R559). -/
def State.setPRun (s : State) (p v : Nat) : State :=
  let was := s.fld (Reg.PCI_VSTAT p) Fld.PCI_VSTAT_PRUN
  let s := (s.setF (Reg.CNET_PSTAT p) Fld.CNET_PSTAT_RUN v).setF (Reg.PCI_VSTAT p) Fld.PCI_VSTAT_PRUN v
  s.when ((was == 0) != (v == 0)) fun s => (s.setF (Reg.PCI_VSTAT p) Fld.PCI_VSTAT_PSTEV 1).raiseVf p 1

/-- An entry of a store of lists, filtered; none when nothing is left of it. -/
def keepIn {α : Type} (mine : Nat → Bool) (keep : α → Bool) (e : Nat × List α) : Option (Nat × List α) :=
  if !mine e.1 then some e else if (e.2.filter keep).isEmpty then none else some (e.1, e.2.filter keep)
/-- Drop the waiters that `gone` names from every row of a core. -/
def State.dropWaiters (s : State) (k : Nat) (gone : Nat → Bool) : State :=
  let ws := s.core.waiters.filterMap (keepIn (fun (i : Nat) => i / 65536 == k) fun (w : Nat × Bool) => !gone w.1)
  { s with core := { s.core with waiters := ws } }
/-- A read engine without the reads of a context. -/
def TileEng.without (x : TileEng) (n : Nat) : TileEng :=
  let idle := match x.bufs[x.drains.length]? with
    | some j => j.ctx == n
    | none => false
  { x with
    bufs := x.bufs.filter fun j => j.ctx != n
    drains := x.drains.filter fun d => d.job.ctx != n
    phase := if idle then .idle else x.phase }
/-- The mesh send of a core ends with rows not sent: they no longer count for its context's barrier (R220, R226). -/
def State.unsend (s : State) (k : Nat) : State :=
  match s.op k 6 with
  | some o => match o.job with
    | .send _ _ _ _ _ n _ =>
      let c := s.ctx k o.ctx
      s.setCtx k o.ctx { c with sent := c.sent - (n - o.i) }
    | _ => s
  | none => s
/-- Nothing of a context is left in its units, queues, tiles and delivery. -/
def State.emptyCtx (s : State) (k n : Nat) : State :=
  let mine (e : Nat × Option UnitOp) : Bool := e.1 / 32 == k && (match e.2 with
    | some o => o.ctx == n
    | none => false)
  let units := (s.core.ops.filter mine).map fun e => e.1 % 32
  let s := s.when (units.contains 6) fun s => s.unsend k
  let s := { s with core := { s.core with ops := s.core.ops.filter fun e => !mine e } }
  let s := s.dropWaiters k fun w => units.contains w || (decide (32 ≤ w) && decide (w < 48) && s.ownsQueue k n (w - 32)) || w == 64 + n
  let s := s.forEach ((List.range 16).filter fun q => s.ownsQueue k n q) fun s q => s.setQueue k q []
  let gs := s.core.groups.filterMap (keepIn (fun (i : Nat) => i / 16 == k) fun (d : Delivered) => d.job.ctx != n)
  let es : SMap TileEng := (s.core.eng.map fun e => if e.1 / 1024 = k then (e.1, e.2.without n) else e).filter fun e => e.2 != {}
  let s := { s with core := { s.core with groups := gs, eng := es } }
  s.discardCtx k n
/-- A context stops (R387 step 5). -/
def State.stopCtx (s : State) (k n : Nat) : State := ((s.setRun k n 0).setCtx k n {}).emptyCtx k n

/-- The barrier and step unit of a partition at the root. -/
def State.root (s : State) (p : Nat) : RootPart := SMap.get (fun _ => {}) s.mesh.root p
/-- Set the barrier and step unit of a partition. -/
def State.setRoot (s : State) (p : Nat) (x : RootPart) : State :=
  { s with mesh := { s.mesh with root := SMap.set (fun _ => ({} : RootPart)) s.mesh.root p x } }
/-- The forced reclaim of a partition. -/
def State.recl (s : State) (p : Nat) : Reclaim := SMap.get (fun _ => {}) s.mesh.reclaim p
/-- Set the forced reclaim of a partition. -/
def State.setRecl (s : State) (p : Nat) (x : Reclaim) : State :=
  { s with mesh := { s.mesh with reclaim := SMap.set (fun _ => ({} : Reclaim)) s.mesh.reclaim p x } }

/-- Streams end with status 10 and adapter slots return to STOPPED (R260, R287, R387 step 4). -/
def State.endPart (s : State) (p status : Nat) : State :=
  let s := s.forEach (s.liveStreams p) fun s c => s.endStream c status
  s.forEach (List.range 64) fun s i =>
    s.when (s.fld (Reg.ADP_SCTL (p * 64 + i)) Fld.ADP_SCTL_STATE != 0) fun s => s.setF (Reg.ADP_SCTL (p * 64 + i)) Fld.ADP_SCTL_STATE 0
/-- Contexts of a partition stop, its step is over, and its state reads stopped (R387 step 5). The messages of its barrier and
step unit are dropped. -/
def State.stopPart (s : State) (p : Nat) : State :=
  let s := s.forEach (s.ctxsOf p) fun s c => s.stopCtx c.1 c.2
  let s := { s with mesh := { s.mesh with
    root := SMap.del p s.mesh.root
    reclaim := SMap.del p s.mesh.reclaim
    msgs := s.mesh.msgs.filter fun (m : Msg) => m.part != p || (m.dnode == mgmtNode && !([MsgType.barArrive, .barCount, .stepDone, .boundaryAck].contains m.type))
    ejected := s.mesh.ejected.filter fun e => e.1 % 64 != p
    reported := s.mesh.reported.filter fun e => e.1 % 64 != p } }
  let s := (s.setF (Reg.CNET_PSTAT p) Fld.CNET_PSTAT_BAR 0).setPRun p 0
  let f := s.vf p
  let s := s.setVf p { f with toks := 0 }
  let x := s.part p
  s.setPart p { x with
    opened := false
    planned := false
    rows := []
    samples := []
    sampled := false
    got := 0
    stopping := 0 }
/-- The command status of GCTL_PCSTAT leaves pending (R390, R552). -/
def State.pcDone (s : State) (p : Nat) : State :=
  if s.fld Reg.GCTL_PCSTAT Fld.GCTL_PCSTAT_RESULT = 3 ∧ s.fld Reg.GCTL_PCSTAT Fld.GCTL_PCSTAT_PART = p then
    (s.setF Reg.GCTL_PCSTAT Fld.GCTL_PCSTAT_RESULT 1).raisePf 0
  else s
/-- A stop completes (R387): the plan of a failed step goes with the streams it names. -/
def State.finishStop (s : State) (p : Nat) : State :=
  let s := s.stopPart p
  (s.setPart p { s.part p with planned := false, plan := [], replay := false, failed := false }).pcDone p
/-- A stop goes on (R387, R254): PSTOP has reached every member and the open step is over, so streams and adapter slots end;
with no tier move of the partition left it completes. -/
def State.tryStop (s : State) (p : Nat) : State :=
  let x := s.part p
  if x.stopping = 0 ∨ s.run p = 3 ∨ x.opened ∨ s.mesh.msgs.any (fun m => m.type == .pstop && m.part == p) then s
  else
    let s := if x.stopping = 1 then (s.endPart p 10).setPart p { s.part p with stopping := 2 } else s
    if s.hbm.moves.any fun m => m.part == p && m.step != 0 && m.step != 9 then s else s.finishStop p
/-- Order the stop of a partition (R387): PSTOP goes to its members. -/
def State.orderStop (s : State) (p : Nat) : State :=
  if s.run p = 0 ∨ (s.part p).stopping ≠ 0 then s
  else
    let s := s.setPart p { s.part p with stopping := 1 }
    (s.forEach (s.members p) fun s m => s.post .pstop mgmtNode m p 0).tryStop p
/-- A partition stops at once, without commit (R471, R454). -/
def State.stopForced (s : State) (p : Nat) : State :=
  if s.run p = 0 then s else ((s.endPart p 10).abortMoves p).finishStop p

/-! ### Ports -/

/-- The port apart from its registers. -/
def State.port (s : State) (i : Nat) : Port := SMap.get (fun _ => {}) s.lnk.ports i
/-- Set a port. -/
def State.setPort (s : State) (i : Nat) (x : Port) : State :=
  { s with lnk := { s.lnk with ports := SMap.set (fun _ => ({} : Port)) s.lnk.ports i x } }
/-- LNK_STAT.STATE of a port (R298). -/
def State.portState (s : State) (i : Nat) : Nat := s.fld (Reg.LNK_STAT i) Fld.LNK_STAT_STATE
/-- Set the state of a port. -/
def State.setPortState (s : State) (i v : Nat) : State := s.setF (Reg.LNK_STAT i) Fld.LNK_STAT_STATE v
/-- The router and output of an Extur port (R192). -/
def portOut (p : Nat) : Nat × Nat := (if p < 8 then p / 2 else 12 + (p - 8) / 2, 5 + p % 2)
/-- Set the credits of an output toward its attachment. -/
def State.setCredit (s : State) (r o vc n : Nat) : State :=
  { s with mesh := { s.mesh with credits := SMap.set (fun _ => 8) s.mesh.credits ((r * 8 + o) * 4 + vc) n } }
/-- A port's buffers are discarded and its peer requests end with "link lost" (R298, R336). -/
def State.dropPort (s : State) (i : Nat) : State :=
  let x := s.port i
  let reqs := x.outstanding
  let s := (s.setPort i { epoch := x.epoch, rxEpoch := x.rxEpoch }).setCredit (portOut i).1 (portOut i).2 0 8
  s.forEach reqs fun s r =>
    match s.hbm.moves.find? fun m => m.stream == r.stream && m.block == r.block && m.step != 0 && m.step != 9 with
    | some m => (s.failMove m).tryStop m.part
    | none => s
/-- A port in UP has a valid binding of a job (R505). -/
def State.portUpWithJob (s : State) (job : Nat) : Bool :=
  (List.range 16).any fun i => s.portState i == 6 && (List.range 64).any fun e =>
    s.fld (Reg.LNK_PBA i e) Fld.LNK_PBA_VALID == 1 && s.fld (Reg.LNK_PBB i e) Fld.LNK_PBB_JOB == job
/-- LNK_CTL.EN of a port is written 0 (R298). -/
def State.disablePort (s : State) (i : Nat) : State :=
  let s := ((s.setF (Reg.LNK_CTL i) Fld.LNK_CTL_EN 0).dropPort i).setPortState i 0
  s.setF (Reg.LNK_STAT i) Fld.LNK_STAT_LANES 0

/-! ### The failure of the part -/

/-- The part fails for the cause of a sherd's code (R471, R557), once. -/
def State.partFail (s : State) (code : Nat) : State :=
  if s.failed then s
  else
    let s := (s.setF Reg.LOG_PFAIL Fld.LOG_PFAIL_FAILED 1).setF Reg.LOG_PFAIL Fld.LOG_PFAIL_CODE code
    let s := s.setF Reg.LOG_STAT Fld.LOG_STAT_PFAIL 1
    let s := s.forEach (List.range 64) State.stopForced
    let s := s.forEach (List.range 16) State.disablePort
    let s := s.forEach (List.range 64) fun s p => (s.setF (Reg.PCI_VSTAT p) Fld.PCI_VSTAT_PFAIL 1).raiseVf p 1
    let s := { s with host := { s.host with errNonfatal := s.host.errNonfatal + 1 }, boot := { s.boot with service := 2 } }
    s.sherd { code := 0x13, sev := 4, unit := unitPart, detail := [(48, code)] }

/-! ### Fences -/

/-- The cause by which a tile is fenced (R476); 0 not fenced. -/
def State.tileFence (s : State) (k t : Nat) : Nat := SMap.get (fun _ => 0) s.log.fenceT (tileKey k t)
/-- Contexts with a read in progress on a tile, or with a dispatch that names it and has not handed it its segment, with the
address of the dispatch (R469). -/
def State.tileReaders (s : State) (k t : Nat) : List (Nat × Nat) :=
  let e := s.eng k t
  let d : List (Nat × Nat) := match s.op k 0 with
    | some o => match o.job with
      | .dispatch g t0 n _ _ _ _ => if g = t / 64 ∧ t0 + o.i ≤ t % 64 ∧ t % 64 < t0 + n then [(o.ctx, o.pc)] else []
      | _ => []
    | none => []
  ((e.bufs.map fun j => (j.ctx, j.pc)) ++ d).eraseDups
/-- A load in progress records a tile as failed (R359); reason 11 "tile failed". -/
def State.loadTileFailed (s : State) (key reason : Nat) : State :=
  let w := s.wts
  let inLoad (r : LoadRun) : Bool := (r.program.any fun e => e.1 == key) || (r.restore.any fun e => e.1 == key) || r.clear.contains key
  match w.loads.find? inLoad with
  | none => s
  | some r =>
    { s with wts := { w with
      jtiles := SMap.set (fun _ => 0) w.jtiles key (3 + 4 * r.part)
      bursts := SMap.del key w.bursts
      loads := w.loads.map fun r => if inLoad r then { r with
          program := r.program.filter fun e => e.1 != key
          restore := r.restore.filter fun e => e.1 != key
          clear := r.clear.filter fun c => c != key
          reason := if r.reason = 0 then reason else r.reason } else r } }

/-- Fence one tile without judging its group (R468, R469): its read is abandoned, contexts that use it fault unless the core is
fenced, it is dropped from the armed set, and the open steps of its owners fail. -/
def State.fenceTileOnly (s : State) (k t cause : Nat) (report : Bool) : State :=
  if s.tileFence k t ≠ 0 then s
  else
    let readers := s.tileReaders k t
    let e := s.eng k t
    let s := s.setEng k t { e with bufs := [], drains := [], phase := .idle }
    let s := s.setTileState k t 4
    let s := { s with log := { s.log with fenceT := SMap.set (fun _ => 0) s.log.fenceT (tileKey k t) cause } }
    let s := (s.dropArmed k t).loadTileFailed (tileKey k t) 11
    let s := s.when report fun s => s.forEach readers fun s r => s.bundleFault k r.1 r.2 0 0x0B [t, 4]
    let s := match s.op k 0 with
      | some o => match o.job with
        | .dispatch g t0 n _ _ _ _ => if g = t / 64 ∧ t0 + o.i ≤ t % 64 ∧ t % 64 < t0 + n then s.setOp k 0 none else s
        | _ => s
      | none => s
    let s := s.forEach (s.ownersOfGroup k (t / 64)) State.failStep
    s.sherd { code := 0x10, sev := 3, part := s.groupPart k (t / 64), unit := unitTile k t, detail := [(48, cause)] }
/-- Fence a tile group without judging its core (R468). -/
def State.fenceGroupOnly (s : State) (k g cause : Nat) (report : Bool) : State :=
  if SMap.get (fun _ => 0) s.log.fenceG (k * 16 + g) ≠ 0 then s
  else
    let s := s.setF (Reg.LOG_GFENCE k) ⟨g, 1⟩ 1
    let s := { s with log := { s.log with fenceG := SMap.set (fun _ => 0) s.log.fenceG (k * 16 + g) cause } }
    let s := s.sherd { code := 0x11, sev := 3, part := s.groupPart k g, unit := unitGroup k g, detail := [(48, cause)] }
    s.forEach (List.range 64) fun s i => s.fenceTileOnly k (64 * g + i) 3 report
/-- Fence a core without judging the part (R225, R468): contexts stop with no report, and what waits for the core is
discarded. -/
def State.fenceCoreOnly (s : State) (k cause set sig : Nat) : State :=
  if bitAt (s.fld Reg.LOG_CFENCE Fld.LOG_CFENCE_FAULT) k then s
  else
    let s := s.setF Reg.LOG_CFENCE ⟨k, 1⟩ 1
    let s := { s with log := { s.log with fenceC := SMap.set (fun _ => 0) s.log.fenceC k cause } }
    let s := s.setF (Reg.RTR_STAT k) Fld.RTR_STAT_FENCED 1
    let s := s.forEach (s.ownersOfCore k) State.failStep
    let s := s.forEach ((List.range 4).filter fun n => s.ctxRun k n != 0) fun s n => (s.emptyCtx k n).setRun k n 3
    let s := s.sherd { code := 0x12, sev := 3, unit := unitCore k,
                       detail := [(48, cause), (52, set), (56, sig % 2 ^ 32), (60, sig / 2 ^ 32)] }
    s.forEach (List.range 16) fun s g => s.fenceGroupOnly k g 4 false
/-- Fault-fenced cores. -/
def State.fencedCores (s : State) : Nat := popCount 16 (s.fld Reg.LOG_CFENCE Fld.LOG_CFENCE_FAULT)
/-- The fence set reaches LOG_ESC.PARTN cores (R468). -/
def State.partnReached (s : State) : Bool := decide (s.fld Reg.LOG_ESC Fld.LOG_ESC_PARTN ≤ s.fencedCores)
/-- Fence a core (R468): PARTN fault-fenced cores fail the part. -/
def State.fenceCore (s : State) (k cause set sig : Nat) : State :=
  let r := s.fenceCoreOnly k cause set sig
  if s.phase = 9 ∧ r.partnReached ∧ !s.partnReached then r.partFail 0x12 else r
/-- Fence a tile group (R468): COREN fenced groups fence the core. -/
def State.fenceGroup (s : State) (k g cause : Nat) : State :=
  let s := s.fenceGroupOnly k g cause true
  if s.fld Reg.LOG_ESC Fld.LOG_ESC_COREN ≤ popCount 16 (s.rd (Reg.LOG_GFENCE k)) then s.fenceCore k 1 0 0 else s
/-- Fence a tile (R468): GRPN fenced tiles of a group fence the group. -/
def State.fenceTile (s : State) (k t cause : Nat) : State :=
  let s := s.fenceTileOnly k t cause true
  let n := ((List.range 64).filter fun i => s.tileFence k (t / 64 * 64 + i) != 0).length
  if s.fld Reg.LOG_ESC Fld.LOG_ESC_GRPN ≤ n then s.fenceGroup k (t / 64) 1 else s

/-- A core is fenced for test (R473 step 2): its tiles read state 4; this counts toward no level. -/
def State.testFence (s : State) (k : Nat) : State := s.forEach (List.range 1024) fun s t => s.setTileState k t 4
/-- What a test leaves of a core (R473 step 6): shelf, program memory, descriptor and buffer tables and templates hold zeros, and
the tile registers return to reset. -/
def State.wipeCore (s : State) (k : Nat) : State :=
  let s := { s with core := { s.core with
      shelf := s.core.shelf.filter fun e => e.1 / 65536 != k
      pmEcc := s.core.pmEcc.filter fun e => e.1 / 32768 != k
      scales := s.core.scales.filter fun e => e.1 / 1024 / 1024 != k
      eng := s.core.eng.filter fun e => e.1 / 1024 != k } }
  let s := (s.resetRange (Reg.CORE_PMEM k 0) (Reg.CORE_PMEM k 49152)).resetRange (Reg.QUE_DESC k 0) (Reg.QUE_DESC k 8192)
  let s := (s.resetRange (Reg.SHELF_BUFA k 0) (Reg.QUE_QSTAT k 0)).resetRange (Reg.CORE_DTPL k 0) (Reg.CORE_SENT k 0)
  s.resetRange (Reg.TILE_CTL k 0) (Reg.TILE_CTL k 1024)

end Sys2Proof.Machine
end

