-- ==== Sys2Proof/Machine/Shared.lean ====
section
/-!
DEFINITION. Tile records and restores (R352, R361), loads that end early (R359), what power states keep and lose (R415 to
R418, R426), and the start of a bring-up (R366).
-/
namespace Sys2Proof.Machine

/-! ### Weight images and tiles -/

/-- The journal's partition record (R358). -/
def State.jpart (s : State) (p : Nat) : JPart := SMap.get (fun _ => {}) s.wts.jparts p
/-- Set the journal's partition record. -/
def State.setJpart (s : State) (p : Nat) (j : JPart) : State :=
  { s with wts := { s.wts with jparts := SMap.set (fun _ => ({} : JPart)) s.wts.jparts p j } }
/-- The journal entry of a tile: JSTATE + 4 x PART (R358). -/
def State.setJtile (s : State) (key p v : Nat) : State :=
  { s with wts := { s.wts with jtiles := SMap.set (fun _ => 0) s.wts.jtiles key (v + 4 * p) } }
/-- The image in a slot (R344). -/
def State.slotImage (s : State) (slot : Nat) : Option WImage := if slot = 0 then s.wts.slot0 else s.wts.slot1
/-- The i-th set bit of a mask, counted from the lowest (R351). -/
def nthBit (mask i : Nat) : Option Nat := ((List.range 16).filter fun b => bitAt mask b)[i]?
/-- The physical tile of a tile table entry under a mapping (R351). -/
def physTile (place : List (Option (Nat × Nat))) (gmask : List Nat) (w : WTile) : Option Nat :=
  match nth none place w.lcore with
  | some c => (nthBit (nth 0 gmask w.lcore) w.lgroup).map fun g => tileKey c.1 (64 * g + w.tile)
  | none => none
/-- Write a tile's converter step, column scale words and spare map (R361). -/
def State.writeTileCfg (s : State) (key : Nat) (w : WTile) (spares : List Nat) : State :=
  let k := key / 1024
  let t := key % 1024
  let s := s.setF (Reg.TILE_RANGE k t) Fld.TILE_RANGE_STEP_EXP w.stepExp
  let s := { s with core := { s.core with
      scales := SMap.setRange (fun _ => 0x7F00) s.core.scales (key * 1024) 1024 fun c => BitVec.ofNat 32 (nth 0x7F00 w.scales c) } }
  s.forEach (List.range 64) fun s i => s.wr (Reg.TILE_SPARE k t i) (nth 0 spares i % 2 ^ 16)
/-- A tile takes the state, the counts and the corrections of its record (R355, R361, R80). -/
def State.tileReady (s : State) (key : Nat) (r : TileRec) : State :=
  let k := key / 1024
  let t := key % 1024
  let s := s.setEng k t { s.eng k t with fmt := r.fmt, unrep := r.unrepCols }
  let s := (s.setF (Reg.TILE_DEGR k t) Fld.TILE_DEGR_UNREPAIRED r.unrep).setF (Reg.TILE_DEGR k t) Fld.TILE_DEGR_SPARES_USED r.sparesUsed
  (s.setTileState k t (if r.degraded then 3 else 2)).initTile k t
/-- The tile record of a tile when its IMAGE_ID, TILE and CRC check (R361). -/
def State.goodRec (s : State) (key imageId : Nat) : Option TileRec :=
  match SMap.get (fun _ => none) s.wts.recs key with
  | some r => if r.ok ∧ r.imageId = imageId ∧ r.tile = key then some r else none
  | none => none
/-- Restore a tile from its chunk and record (R361); a fenced tile stays in state 4 (R470). -/
def State.restoreTile (s : State) (key : Nat) (w : WTile) (r : TileRec) : State :=
  if s.tileFence (key / 1024) (key % 1024) ≠ 0 then s else (s.writeTileCfg key w r.spares).tileReady key r

/-- Set FLS_PLOAD.STATE; a change raises PF vector 1 (R552). -/
def State.setPload (s : State) (p v : Nat) : State :=
  let was := s.fld (Reg.FLS_PLOAD p) Fld.FLS_PLOAD_STATE
  (s.setF (Reg.FLS_PLOAD p) Fld.FLS_PLOAD_STATE v).when (was != v) fun s => s.raisePf 1
/-- A load ends failed with a reason (R359): the partition record, FLS_PLOAD and sherd 0x0062. -/
def State.failLoad (s : State) (p reason : Nat) : State :=
  let s := { s with wts := { s.wts with loads := s.wts.loads.filter fun r => r.part != p } }
  let s := s.setJpart p { s.jpart p with state := 3 }
  let s := (s.setF (Reg.FLS_PLOAD p) Fld.FLS_PLOAD_REASON reason).setPload p 3
  s.sherd { code := 0x62, sev := 2, part := p, unit := unitPartition p, detail := [(48, s.rd (Reg.FLS_PLOAD p))] }
/-- A load is aborted (R359): tiles in progress enter state 0 with entry not started, as do the others still in state 1. -/
def State.abortLoad (s : State) (r : LoadRun) : State :=
  let keys := r.program.map (·.1) ++ r.clear ++ r.restore.map (·.1)
  let s := s.forEach keys fun s key =>
    let s := s.when (s.tileState (key / 1024) (key % 1024) == 1) fun s => s.setTileState (key / 1024) (key % 1024) 0
    s.when (SMap.get (fun _ => 0) s.wts.jtiles key % 4 == 1) fun s => s.setJtile key r.part 0
  let s := { s with wts := { s.wts with bursts := s.wts.bursts.filter fun e => !keys.contains e.1 } }
  s.failLoad r.part (if r.reason = 0 then 12 else r.reason)
/-- Every load in progress ends with "aborted" (R506, R531). -/
def State.abortLoads (s : State) : State := s.forEach s.wts.loads State.abortLoad
/-- Restore the tiles of a partition whose record is loaded (R361); a tile without a good record is programmed instead. -/
def State.restorePart (s : State) (p : Nat) : State :=
  let j := s.jpart p
  match s.slotImage j.slot with
  | none => s
  | some img =>
    if j.state ≠ 2 ∨ img.imageId ≠ j.imageId ∨ !img.hdrOk then s
    else
      let ents := img.tiles.filterMap fun w => (physTile j.place j.gmask w).map fun key => (key, w)
      let good := ents.filter fun e => (s.goodRec e.1 j.imageId).isSome && e.2.readable
      let bad := ents.filter fun e => !((s.goodRec e.1 j.imageId).isSome && e.2.readable) && s.tileFence (e.1 / 1024) (e.1 % 1024) == 0
      let s := s.forEach good fun s e => match s.goodRec e.1 j.imageId with
        | some r => s.restoreTile e.1 e.2 r
        | none => s
      let s := (s.setF (Reg.FLS_PLOAD p) Fld.FLS_PLOAD_SLOT j.slot).setF (Reg.FLS_PLOAD p) Fld.FLS_PLOAD_TDONE good.length
      if bad = [] then s.setPload p 2
      else
        let s := s.forEach bad fun s e => s.setTileState (e.1 / 1024) (e.1 % 1024) 1
        let run : LoadRun := { part := p, slot := j.slot, image := img, place := j.place, gmask := j.gmask, program := bad,
                               clear := [], restore := [], spills := [], reason := 0 }
        ({ s with wts := { s.wts with loads := s.wts.loads ++ [run] } }).setPload p 1
/-- Restore every partition whose record is loaded. -/
def State.restoreAll (s : State) : State := s.forEach (List.range 64) State.restorePart
/-- The tiles of a core of loaded partitions are restored after a test, the others are left in state 0 (R473 step 7). -/
def State.restoreCore (s : State) (k : Nat) : State :=
  let s := s.forEach (List.range 1024) fun s t => s.setTileState k t (if s.tileFence k t = 0 then 0 else 4)
  s.forEach (List.range 64) fun s p =>
    let j := s.jpart p
    match s.slotImage j.slot with
    | none => s
    | some img =>
      if j.state ≠ 2 ∨ img.imageId ≠ j.imageId then s
      else s.forEach img.tiles fun s w => match physTile j.place j.gmask w with
        | some key => if key / 1024 ≠ k then s else match s.goodRec key j.imageId with
          | some r => s.restoreTile key w r
          | none => s
        | none => s
/-- Length in bytes of the flash area that a firmware component is written to (R343, R516). -/
def State.flashArea (s : State) (comp : Nat) : Nat :=
  if comp = 0x10 then nth 0 s.wts.lens 0 else if comp = 0x11 then nth 0 s.wts.lens 1 else if comp = 0x20 then nth 0 s.wts.lens 2 else 0

/-! ### Shutdown and power states -/

/-- Program the staged shutdown record into the next page of the shutdown area (R454 step 4, R458); with no erased page
nothing is written and NOREC shows at the next bring-up. -/
def State.programShutRec (s : State) : State :=
  match s.thm.staged with
  | none => s
  | some r =>
    if s.thm.erasedPages = 0 then { s with thm := { s.thm with staged := none, noRec := true } }
    else { s with thm := { s.thm with
      staged := none
      area := s.thm.area ++ [r]
      erasedPages := s.thm.erasedPages - 1 } }
/-- Every read of a tile is abandoned (R454, R69). -/
def State.abandonReads (s : State) : State :=
  let es : SMap TileEng := (s.core.eng.map fun e => (e.1, { e.2 with bufs := [], drains := [], phase := .idle })).filter fun e => e.2 != {}
  { s with core := { s.core with eng := es, groups := [] } }

/-- Transfers still in flight at the drain timeout end with abort status and are counted (R426): descriptors, tier moves,
peer requests served, initialisation fills, copies. -/
def State.abortTransfers (s : State) : State :=
  let nq := (s.core.queues.map fun e => e.2.length).foldl (· + ·) 0
  let ms := s.hbm.moves.filter fun m => m.step != 0 && m.step != 9
  let np := (s.lnk.ports.map fun e => e.2.serving.length).foldl (· + ·) 0
  let nf := ((List.range 1024).filter fun r => s.rgnInit r).length
  let cs := s.host.vfs.flatMap fun e => (e.2.cmds.filter (·.started)).map fun c => (e.1, c.entry.cid)
  let s := s.inc Reg.PWR_ABORTCNT (nq + ms.length + np + nf + cs.length)
  let s := s.forEach ms State.failMove
  let s := s.forEach cs fun s c => s.complete c.1 c.2 8 0 0
  let s := { s with core := { s.core with queues := [] }, hbm := { s.hbm with reqs := [], reads := [], writes := [], resps := [] } }
  s.forEach (List.range 16) fun s i =>
    let x := s.port i
    let refuse (r : PeerSrv) : TxItem :=
      { type := if r.write then .pack else .prdata, part := 0, wt := 0,
        body := .mem (s.fld Reg.LNK_CHIP Fld.LNK_CHIP_CHIP) r.off r.ngran 1 r.tag [] }
    s.setPort i { x with serving := [], tx := x.tx ++ x.serving.map refuse }
/-- Ports in UP enter SLEEP (R415 step 3). -/
def State.portsSleep (s : State) : State := s.forEach (List.range 16) fun s i => s.when (s.portState i == 6) fun s => s.setPortState i 10
/-- Ports in SLEEP return to LOCK (R416). -/
def State.portsWake (s : State) : State := s.forEach (List.range 16) fun s i => s.when (s.portState i == 10) fun s => s.setPortState i 3

/-- An offset lies in [lo, hi). -/
def inSpan (a lo hi : Nat) : Bool := decide (lo ≤ a) && decide (a < hi)
/-- Registers of the always-on domain and of the record store, which keep their values when other domains lose power. -/
def alwaysOn (a : Nat) : Bool :=
  [Reg.PWR_STAT, Reg.PWR_WAKESRC, Reg.PWR_PADREL, Reg.PWR_RSTCAUSE, Reg.CLK_OSCDLY, Reg.GCTL_STRAP, Reg.GCTL_INPUT, Reg.SRV_MT_LO,
    Reg.SRV_MT_HI, Reg.LOG_SEQ_LO, Reg.LOG_SEQ_HI, Reg.HOLD_LAST].contains a
/-- The writable fields of a register (R15). -/
def writable (a : Nat) : Nat :=
  match regRow a with
  | some r => r.rw ||| r.lk
  | none => 0
/-- The bits of a register that retention SRAM holds in Deep (R418). -/
def savedMask (a : Nat) : Nat :=
  let c := a % 0x100000
  if a = Reg.CLK_REFCTL then 2 ^ Fld.CLK_REFCTL_AUTORET.lo + 2 ^ Fld.CLK_REFCTL_TARGET.lo
  else if [Reg.GCTL_CTL, Reg.CLK_OPREQ, Reg.CLK_BOOST, Reg.PWR_CFG, Reg.PWR_WAKECFG, Reg.PWR_CAP, Reg.PWR_ABUDGET, Reg.PWR_GOV,
      Reg.HOLD_CFG, Reg.CNET_RECLTO, Reg.LNK_CHIP, Reg.LNK_XTIME, Reg.FLS_PCTL, Reg.CLK_SEQ, Reg.CLK_AVS].contains a then writable a
  else if a = Reg.LNK_SCCTL then 15
  else if inSpan a 0x500000 0x610000 then writable a
  else if inSpan a 0x1000000 0x2000000 then
    if [0x4, 0x10010, 0x70000, 0x70004, 0x70008, 0x7000C, 0x70010].contains c || inSpan c 0x78100 0x78400 then writable a else 0
  else if inSpan a 0x2800000 0x2880000 then
    if inSpan (a % 0x10000) 0x100 0x200 || a % 0x10000 = 0x1C || inSpan a 0x2804000 0x2810000 then writable a else 0
  else if inSpan a 0x3000100 0x3001000 then (if a % 8 = 0 then writable a else 0)
  else if inSpan a 0x801000 0x805000 then (if a % 0x100 < 0x20 ∨ 0x40 ≤ a % 0x100 then writable a else 0)
  else if inSpan a 0x2000000 0x2100000 then
    if [0x0, 0x10, 0x14].contains (a % 0x10000) || inSpan (a % 0x10000) 0x100 0xA00 then writable a else 0
  else 0
/-- Registers keep the bits of a mask; the others return to reset. -/
def State.keepRegs (s : State) (m : Nat → Nat) : State :=
  let keep (e : Nat × Word) : Option (Nat × Word) :=
    let k := BitVec.ofNat 32 (m e.1)
    let v := (e.2 &&& k) ||| (resetWord e.1 &&& ~~~k)
    if v = resetWord e.1 then none else some (e.1, v)
  { s with regs := s.regs.filterMap keep }

/-- Fences of the record store show again and their tiles read state 4 (R470). -/
def State.applyFences (s : State) : State :=
  let s := s.forEach s.log.fenceC fun s e => (s.setF Reg.LOG_CFENCE ⟨e.1, 1⟩ 1).setF (Reg.RTR_STAT e.1) Fld.RTR_STAT_FENCED 1
  let s := s.forEach s.log.fenceG fun s e => s.setF (Reg.LOG_GFENCE (e.1 / 16)) ⟨e.1 % 16, 1⟩ 1
  s.forEach s.log.fenceT fun s e => s.setTileState (e.1 / 1024) (e.1 % 1024) 4

/-- What a loss of the domains outside the always-on island and the retention rails leaves (R415 step 6): cells, the record
store, the flash devices and the save areas. -/
def State.losePower (s : State) : State :=
  { s with
    latches := []
    core := { cells := s.core.cells, cal := s.core.cal, exc := s.core.exc, calInvalid := s.core.calInvalid }
    mesh := {}
    hbm := { moveseq := s.hbm.moveseq, repair := s.hbm.repair, nextId := s.hbm.nextId }
    srv := {}
    lnk := {}
    wts := { s.wts with
      loads := []
      bursts := []
      loadedSigs := []
      imageEnds := []
      routeEnds := [] }
    clk := {}
    thm := { area := s.thm.area, erasedPages := s.thm.erasedPages, nextSeq := s.thm.nextSeq, reported := s.thm.reported,
             staged := s.thm.staged, noRec := s.thm.noRec }
    mgmt := { s.mgmt with sessions := [], connEth := {}, connI3c := {} }
    host := { pfIrqs := s.host.pfIrqs, errNonfatal := s.host.errNonfatal, aerCa := s.host.aerCa, dmaOut := s.host.dmaOut,
              crs := s.host.crs } }
/-- Entry to Deep (R415 step 6, R418): the saved register set is kept, with the registers of the retained management and
Psikuster memories and of bring-up. -/
def State.saveAndLose (s : State) : State :=
  let m (a : Nat) : Nat :=
    if alwaysOn a || inSpan a 0x200000 0x280000 || inSpan a 0x3801000 0x3801018 then 0xFFFFFFFF else savedMask a
  (s.losePower).keepRegs m
/-- Entry to Off (R415 steps 7 and 8): no register set is saved; the always-on latches hold the wake enables (log entry 31). -/
def State.loseDomains (s : State) : State :=
  (s.losePower).keepRegs fun a => if alwaysOn a || a == Reg.PWR_WAKECFG then 0xFFFFFFFF else 0
/-- A stack has trained, with its first temperature reading, a value of the device (R231). -/
def State.stackTrained (s : State) (m : Nat) : State :=
  let (v, s) := s.freshNat
  let t := v % 128
  let s := (s.setF (Reg.HBM_TEMP m) Fld.HBM_TEMP_TEMP t).setF (Reg.HBM_STAT m) Fld.HBM_STAT_HOT (b2n (decide (85 ≤ t)))
  s.setF (Reg.HBM_STAT m) Fld.HBM_STAT_TRAINED 1
/-- A port with EN = 1 sends its training pattern and enters DETECT (R298). -/
def State.startPort (s : State) (i : Nat) : State := (((s.dropPort i).setPortState i 1).setF (Reg.LNK_STAT i) Fld.LNK_STAT_REASON 0).setF (Reg.LNK_STAT i) Fld.LNK_STAT_LANES 0
/-- Exit from Deep, steps 4 to 8 of R417: stacks trained, a fill of every valid region, tiles of loaded partitions restored,
enabled ports train. -/
def State.deepRestore (s : State) : State :=
  let s := s.applyFences
  let s := s.forEach (List.range 8) State.stackTrained
  let s := s.forEach s.validRegions fun s r => s.setF (Reg.HBM_RGND r) Fld.HBM_RGND_INIT 1
  let s := { s with pwr := { s.pwr with selfRefresh := false } }
  let s := s.setF Reg.FLS_STAT Fld.FLS_STAT_DIRVALID (b2n (s.wts.dir0 || s.wts.dir1))
  let s := s.setF Reg.FLS_STAT Fld.FLS_STAT_DIRONE (b2n (s.wts.dir0 != s.wts.dir1))
  let s := s.forEach (List.range 64) fun s p => s.when ((s.jpart p).state != 2) fun s => s.setF (Reg.FLS_PLOAD p) Fld.FLS_PLOAD_STATE (s.jpart p).state
  let s := s.restoreAll
  s.forEach ((List.range 16).filter fun i => s.fld (Reg.LNK_CTL i) Fld.LNK_CTL_EN == 1) State.startPort

/-! ### Bring-up -/

/-- A bring-up starts (R366) in phase 1 or 2. Causes, in the order of PWR_RSTCAUSE: 0 cold, 1 brown-out, 2 exit from Off, 3
restart. A restart keeps the latched straps, the clock sources and the always-on registers; an exit from Off keeps the
always-on registers; any other start keeps LOG_SEQ alone (the record store). Journal entries that had not reached the record
store are lost (R358). -/
def State.bringUp (s : State) (phase cause : Nat) : State :=
  let keep (a : Nat) : Nat :=
    if a = Reg.LOG_SEQ_LO ∨ a = Reg.LOG_SEQ_HI then 0xFFFFFFFF
    else if a = Reg.PWR_STAT ∨ a = Reg.PWR_RSTCAUSE ∨ a = Reg.HOLD_LAST then 0
    else if a = Reg.GCTL_STRAP ∨ a = Reg.GCTL_INPUT then (if cause = 3 then 0xFFFFFFFF else 0)
    else if 2 ≤ cause ∧ alwaysOn a then 0xFFFFFFFF
    else 0
  let c := s.clk
  let q := s.log.queue
  let s := (s.losePower).keepRegs keep
  let s := { s with
    log := { s.log with
      queue := if cause = 3 then q else []
      hold := none
      advis := []
      testLeft := []
      testRound := []
      testBoot := false }
    wts := { s.wts with jtiles := s.wts.jstore }
    clk := if cause = 3 then { crystal := c.crystal, xpll := c.xpll, rack := c.rack } else {}
    pwr := { save0 := s.pwr.save0, save1 := s.pwr.save1, bankSeq := s.pwr.bankSeq, half := s.pwr.half, erased0 := s.pwr.erased0,
             erased1 := s.pwr.erased1, rested := s.pwr.rested, session := s.pwr.session }
    sec := { revoked := s.sec.revoked, minSvn := s.sec.minSvn, nonces := s.sec.nonces, zeroising := s.sec.zeroising }
    mgmt := { s.mgmt with
      restarting := false
      update := none
      rcvEth := false
      rcvI3c := false
      evEth := []
      evI3c := []
      ethReqs := []
      meters := if cause = 3 then s.mgmt.meters else s.mgmt.stored
      usage := []
      snap := []
      diag := [0, 0, 0, 0]
      gpi := List.replicate 8 {} }
    boot := { s.boot with
      recheck := 0
      rise := false
      sampled := false
      selfOk := false
      tried := 0
      image := none
      order := 1
      pmbus := []
      tries := 0
      fails := 0
      test := none
      acts := []
      acted := false
      portEn := 0
      bootNo := s.boot.bootNo + 1
      warm := decide (2 ≤ cause)
      service := 1 } }
  let s := s.setF Reg.PWR_RSTCAUSE (nth Fld.PWR_RSTCAUSE_COLD [Fld.PWR_RSTCAUSE_COLD, Fld.PWR_RSTCAUSE_BROWNOUT, Fld.PWR_RSTCAUSE_OFFEXIT,
    Fld.PWR_RSTCAUSE_RESTART] cause) 1
  s.setF Reg.CFG_BOOT Fld.CFG_BOOT_PHASE phase
/-- The time of bring-up in CFG_TIME, which no rule states: a free value. -/
def State.stampTime (s : State) : State :=
  let (v, s) := s.freshNat
  s.wr Reg.CFG_TIME (v % 2 ^ 32)
/-- Bring-up enters FAILED from phases 2 to 7 (R365, R384). -/
def State.bootFail (s : State) (reason : Nat) : State :=
  if s.phase < 2 ∨ 7 < s.phase then s
  else
    let s := (s.setF Reg.CFG_BOOT Fld.CFG_BOOT_REASON1 reason).setF Reg.CFG_BOOT Fld.CFG_BOOT_PHASE 15
    ({ s with boot := { s.boot with service := 2 } }).stampTime

end Sys2Proof.Machine
end

