-- ==== Sys2Proof/Machine/Clock.lean ====
section
/-!
DEFINITION. Clock islands, operating points, reference switching and frequency measurement (12_clocks.md).
-/
namespace Sys2Proof.Machine

/-! ### Operating points -/

/-- A quadrant of the sequencer. -/
def State.quad (s : State) (q : Nat) : Quad := nth {} s.clk.quads q
/-- Set a quadrant of the sequencer. -/
def State.setQuad (s : State) (q : Nat) (x : Quad) : State :=
  { s with clk := { s.clk with quads := setNth s.clk.quads q x } }
/-- Raise a clamp event toward the management controller, at most once per second and source (R400). -/
def State.clampEvent (s : State) (src : Nat) : State :=
  if nth none s.clk.clampEv src == some s.mgmt.secs then s
  else { s with clk := { s.clk with clampEv := setNth s.clk.clampEv src (some s.mgmt.secs), events := s.clk.events ++ [src] } }
/-- A clamp of one source takes hold (R400): count it, set its CLK_LIMSTAT bit (PF vector 3 when the bit rises, R552). -/
def State.clamp (s : State) (src : Nat) : State :=
  let up := !bitAt (s.rd Reg.CLK_LIMSTAT) src
  let s := s.inc (Reg.CLK_LIMCNT0 + 4 * src) 1
  let s := s.setF Reg.CLK_LIMSTAT ⟨src, 1⟩ 1
  (s.when up fun s => s.raisePf 3).clampEvent src

/-- The requested point of a quadrant. -/
def State.opReq (s : State) (q : Nat) : Nat := s.fld Reg.CLK_OPREQ ⟨3 * q, 3⟩
/-- The thermal ceiling of a quadrant (R452). -/
def State.thermCeil (s : State) (q : Nat) : Nat := s.fld Reg.THM_CEIL ⟨3 * q, 3⟩
/-- Show the point of a quadrant in CLK_OPSTAT.EFF. -/
def State.setEff (s : State) (q v : Nat) : State := s.setF Reg.CLK_OPSTAT ⟨3 * q, 3⟩ v
/-- Show whether the sequencer moves a quadrant. -/
def State.setBusy (s : State) (q v : Nat) : State := s.setF Reg.CLK_OPSTAT ⟨16 + q, 1⟩ v
/-- The ceilings of a quadrant by source: PKG and POWER both come from the governor, THERM is the lower of the cone-2
ceiling and of R448. -/
def State.ceilings (s : State) (q : Nat) : List Nat :=
  let x := s.quad q
  [5, x.powCeil, min (s.thermCeil q) x.hotCeil, x.boostCeil, x.regCeil]
/-- The effective point (R400): the lowest of the request and the limits. -/
def State.effective (s : State) (q : Nat) : Nat := (s.ceilings q).foldl min (s.opReq q)

/-- Judge which limits hold the effective point below the request, and count each that has taken hold or has dropped
further while holding (R400). A limit holds when it is the lowest (log entry 20). -/
def State.judgeClamps (s : State) (q : Nat) : State :=
  let e := s.effective q
  let cs := s.ceilings q
  let old := (s.quad q).heldAt
  let now := cs.map fun c => if c < s.opReq q ∧ c = e then c else 6
  let s := s.setQuad q { s.quad q with heldAt := now }
  s.forEach (List.range 5) fun s i => s.when (decide (nth 6 now i < nth 6 old i)) fun s => s.clamp i

/-- Start the next move of a quadrant when it is at rest and not at its effective point (R397). A raise to OP5 first counts
the ring oscillators of its cores (R448); a raise after a lowering first waits for the readback. -/
def State.startMove (s : State) (q : Nat) : State :=
  let x := s.quad q
  let e := s.effective q
  if x.stage ≠ .idle ∨ x.freq = 0 ∨ x.freq = e then s
  else
    let s := s.setBusy q 1
    if e < x.freq then s.setQuad q { x with target := e, stage := .slewDown }
    else if e = 5 then
      { s.setQuad q { x with target := e, stage := .count, counting := quadCores q } with
        thm := { s.thm with roWait := s.thm.roWait ++ (quadCores q).filter fun k => !s.thm.roWait.contains k } }
    else if x.confirmed then s.setQuad q { x with target := e, stage := .write, tries := 0 }
    else s.setQuad q { x with target := e, stage := .confirm }

/-- Judge the limits of a quadrant and move it. -/
def State.replan (s : State) (q : Nat) : State := (s.judgeClamps q).startMove q
/-- Judge and move every quadrant. -/
def State.replanAll (s : State) : State := s.forEach (List.range 4) State.replan

/-- A quadrant leaves or enters OP5 (R399). -/
def boostAfter (x : Quad) (point : Nat) : Quad :=
  if point = 5 then { x with boosting := true }
  else if x.boosting then { x with boosting := false, resting := true, boostCeil := 4 } else x

/-- The regulator fails to confirm a raise (R398): back to the old voltage, REG clamp, sherd 0x0050. -/
def State.raiseFailed (s : State) (q : Nat) : State :=
  let x := s.quad q
  let s := s.setQuad q { x with regCeil := x.freq, target := x.freq, stage := .lowerWrite, confirmed := false, tries := 0 }
  (s.judgeClamps q).sherd { code := 0x50, sev := 2, unit := unitQuad q, detail := [(48, s.rd Reg.CLK_OPSTAT)] }

/-- A legal CLK_OPREQ value: each field 1 to 5. -/
def opReqLegal (w : Nat) : Bool := (List.range 4).all fun q => decide (1 ≤ bits w (3 * q) 3) && decide (bits w (3 * q) 3 ≤ 5)

/-- OP_REQUEST (R400, R406, R409). -/
def State.opRequest (s : State) (w : Nat) : State :=
  if !opReqLegal w then s.setF Reg.CLK_STAT Fld.CLK_STAT_WREJ 1
  else
    let s := s.wr Reg.CLK_OPREQ (w % 2 ^ 12)
    let s := s.forEach (List.range 4) fun s q => s.setQuad q { s.quad q with regCeil := 5, hotCeil := 5 }
    s.replanAll

def execOpRequest (w : Word) (s : State) : Host.Outcome State Fault Refusal := .next (s.opRequest w.toNat)

/-- AVS_WRITE_ACK (R397, R398): an acknowledged voltage write leads to the readback; a lowering is complete; the third
write without acknowledgement fails a raise. -/
def execAvsWriteAck (q : QuadNo) (ack : Bool) (s : State) : Host.Outcome State Fault Refusal :=
  let x := s.quad q
  .next (
    if x.stage = .write then
      if ack then s.setQuad q { x with stage := .readback, tries := 0 }
      else if x.tries + 1 < 3 then s.setQuad q { x with tries := x.tries + 1 }
      else s.raiseFailed q
    else if x.stage = .lowerWrite then
      if ack then ((s.setQuad q { x with stage := .idle, confirmed := false }).setBusy q 0).replan q
      else s.setQuad q { x with tries := x.tries + 1 }
    else s)

/-- VOLTAGE_READBACK_OK (R397). -/
def execVoltageReadbackOk (q : QuadNo) (s : State) : Host.Outcome State Fault Refusal :=
  let x := s.quad q
  .next (
    if x.stage = .readback then s.setQuad q { x with stage := .settle, confirmed := true }
    else if x.stage = .confirm then s.setQuad q { x with stage := .write, tries := 0, confirmed := true }
    else s.setQuad q { x with confirmed := true })

/-- SETTLE_ELAPSED (R397). -/
def execSettleElapsed (q : QuadNo) (s : State) : Host.Outcome State Fault Refusal :=
  let x := s.quad q
  .next (if x.stage = .settle then s.setQuad q { x with stage := .slew } else s)

/-- FREQUENCY_SLEW_DONE (R397, R402): held until LOCKED = 1; the quadrant runs at its new point. -/
def State.slewDone (s : State) (q : Nat) : State :=
  let x := s.quad q
  if s.fld Reg.CLK_REFSTAT Fld.CLK_REFSTAT_LOCKED = 0 then s
  else if x.stage = .slew then
    (((s.setQuad q { boostAfter x x.target with freq := x.target, stage := .idle }).setEff q x.target).setBusy q 0).replan q
  else if x.stage = .slewDown then
    (s.setQuad q { boostAfter x x.target with freq := x.target, stage := .lowerWrite, tries := 0 }).setEff q x.target
  else s

def execFrequencySlewDone (q : QuadNo) (s : State) : Host.Outcome State Fault Refusal := .next (s.slewDone q)

/-- RAISE_TIMEOUT (R398). -/
def execRaiseTimeout (q : QuadNo) (s : State) : Host.Outcome State Fault Refusal :=
  let x := s.quad q
  .next (if x.stage = .readback ∨ x.stage = .write then s.raiseFailed q else s)

/-- BOOST_LIMIT (R399): MAX ms at OP5 have passed. -/
def execBoostLimit (q : QuadNo) (s : State) : Host.Outcome State Fault Refusal :=
  let x := s.quad q
  .next (if x.boosting then (s.setQuad q { x with boostCeil := 4 }).replan q else s)

/-- BOOST_REST_END (R399). -/
def execBoostRestEnd (q : QuadNo) (s : State) : Host.Outcome State Fault Refusal :=
  let x := s.quad q
  .next (if x.resting then (s.setQuad q { x with resting := false, boostCeil := 5 }).replan q else s)

/-- The last counted core of a quadrant that waits to enter OP5 has its reading (R448): refuse the raise when any reading is
at or above T2 - BMARGIN, else go on. -/
def State.roCounted (s : State) (q k : Nat) : State :=
  let x := s.quad q
  if x.stage ≠ .count then s
  else
    let left := x.counting.filter fun j => j != k
    if left ≠ [] then s.setQuad q { x with counting := left }
    else
      let lim : Int := s.fld Reg.THM_CONE2 Fld.THM_CONE2_THR - 4 * (s.fld Reg.THM_THROT Fld.THM_THROT_BMARGIN : Int)
      let hot := (quadCores q).any fun j => decide (lim ≤ SMap.get (fun _ => (0 : Int)) s.thm.ro j)
      if hot then
        ((s.setQuad q { x with counting := [], stage := .idle, hotCeil := 4 }).setBusy q 0).replan q
      else s.setQuad q { x with counting := [], stage := if x.confirmed then .write else .confirm, tries := 0 }

/-! ### Sources -/

/-- Nanoseconds of k steps of the five-cycle pattern 6, 7, 6, 7, 6 (R520). -/
def nsAt (k : Nat) : Nat := 32 * (k / 5) + nth 0 [0, 6, 13, 19, 26] (k % 5)
/-- Nanoseconds that n SREF cycles add from a place in the pattern. -/
def nsSteps (ph n : Nat) : Nat := nsAt (ph + n) - nsAt ph

/-- Start a switch of SREF (R402). -/
def State.startSwitch (s : State) (target : Nat) (loss : Bool) : State :=
  { s.setF Reg.CLK_STAT Fld.CLK_STAT_SWITCHING 1 with clk := { s.clk with switch := some (target, loss) } }
/-- Restart the qualification time (R404). -/
def State.requalify (s : State) (w : Nat) : State :=
  let s := { s with clk := { s.clk with windows := w } }
  (s.setF Reg.CLK_REFSTAT Fld.CLK_REFSTAT_QUALMS (min 65535 (w / 10))).setF Reg.CLK_REFSTAT Fld.CLK_REFSTAT_QUALOK
    (b2n (decide (1000 ≤ w)))
/-- Automatic return to the rack reference (R404, R406). -/
def State.autoReturn (s : State) : State :=
  if s.clk.windows ≥ 1000 ∧ s.fld Reg.CLK_REFCTL Fld.CLK_REFCTL_AUTORET = 1 ∧ s.fld Reg.CLK_STAT Fld.CLK_STAT_SRC = 1 ∧
     s.clk.switch = none ∧ s.clk.xpll then s.startSwitch 0 false
  else s

/-- The rack reference is declared lost (R403, R406). -/
def State.rackLost (s : State) : State :=
  match s.clk.switch with
  | some (0, _) =>
    { s.setF Reg.CLK_STAT Fld.CLK_STAT_REFLOSS 1 with clk := { s.clk with switch := some (1, true) } }
  | some _ => s
  | none =>
    if s.fld Reg.CLK_STAT Fld.CLK_STAT_SRC = 0 then
      let s := (s.setF Reg.CLK_STAT Fld.CLK_STAT_REFLOSS 1).startSwitch 1 true
      s.advise { code := 0x51, sev := 1, unit := unitPart, detail := [(48, s.rd Reg.CLK_STAT)] }
    else s.requalify 0

/-- RACK_REF_LOST (R403): five XREF cycles without an edge. -/
def execRackRefLost (s : State) : Host.Outcome State Fault Refusal :=
  .next ({ s with clk := { s.clk with rack := false } }).rackLost

/-- REF_QUAL_WINDOW (R403, R404): a window ends with its count and whether edges were missing. -/
def execRefQualWindow (count : Nat) (missing : Bool) (s : State) : Host.Outcome State Fault Refusal :=
  .next (
    if s.clk.switch ≠ none then s
    else if missing ∨ count < 15618 ∨ 15632 < count then s.rackLost
    else
      let s := { s with clk := { s.clk with rack := true } }
      if 15624 ≤ count ∧ count ≤ 15626 then (s.requalify (s.clk.windows + 1)).autoReturn else s.requalify 0)

/-- REF_SWITCH_ORDER (R404, R406): CLK_REFCTL.ORDER with TARGET as held. -/
def State.refOrder (s : State) : State :=
  let t := s.fld Reg.CLK_REFCTL Fld.CLK_REFCTL_TARGET
  if s.clk.switch ≠ none ∨ (t = 0 ∧ s.fld Reg.CLK_REFSTAT Fld.CLK_REFSTAT_QUALOK = 0) then
    s.setF Reg.CLK_STAT Fld.CLK_STAT_WREJ 1
  else (s.setF Reg.CLK_REFCTL Fld.CLK_REFCTL_ORDER 1).startSwitch t false

def execRefSwitchOrder (s : State) : Host.Outcome State Fault Refusal := .next s.refOrder

/-- SREF_SWITCH_DONE (R402): `edges` XREF cycles from the last rack edge to the start of a switch caused by a loss. SC, the
time base and MT make up their counts. MT advances by the same steps (R520). -/
def execSrefSwitchDone (edges : Nat) (s : State) : Host.Outcome State Fault Refusal :=
  .next (
    match s.clk.switch with
    | none => s
    | some (t, loss) =>
      let n := 96 + (if loss then edges else 0)
      let s := { s with clk := { s.clk with switch := none } }
      let s := s.setF Reg.CLK_STAT Fld.CLK_STAT_SRC t
      let s := s.setF Reg.CLK_STAT Fld.CLK_STAT_SWITCHING 0
      let s := s.setF Reg.CLK_STAT Fld.CLK_STAT_SWDONE 1
      let s := s.setF Reg.CLK_REFCTL Fld.CLK_REFCTL_ORDER 0
      let s := (s.inc Reg.CLK_SWCNT 1).requalify 0
      let s := s.setF Reg.CLK_REFSTAT Fld.CLK_REFSTAT_LOCKED 0
      let s := s.inc64 Reg.LNK_SC_LO n
      let ns := nsSteps s.mgmt.tphase n
      { s.inc64 Reg.SRV_MT_LO ns with mgmt := { s.mgmt with
          nanos := (s.mgmt.nanos + ns) % 1000000000
          tphase := (s.mgmt.tphase + n) % 5 } })

/-- PLL_RELOCK (R402). -/
def execPllRelock (s : State) : Host.Outcome State Fault Refusal :=
  .next (s.setF Reg.CLK_REFSTAT Fld.CLK_REFSTAT_LOCKED 1)

/-- CRYSTAL_LOST (R406). -/
def execCrystalLost (s : State) : Host.Outcome State Fault Refusal :=
  let s := { s.setF Reg.CLK_STAT Fld.CLK_STAT_XLOSS 1 with clk := { s.clk with xpll := false } }
  .next (s.when (s.fld Reg.CLK_STAT Fld.CLK_STAT_SRC == 1) fun s =>
    s.sherd { code := 0x52, sev := 2, unit := unitPart, detail := [(48, s.rd Reg.CLK_STAT)] })

/-- XPLL_LOSS_TIMEOUT (R468): XPLL unlocked for 1 ms while SREF is XREF fails the part. -/
def execXpllLossTimeout (s : State) : Host.Outcome State Fault Refusal :=
  .next (if !s.clk.xpll ∧ s.fld Reg.CLK_STAT Fld.CLK_STAT_SRC = 1 then s.partFail 0x52 else s)

/-! ### Islands -/

/-- An island that is never gated (R407): always-on, the island of the firmware watchdog and time base, a core whose
context watchdog runs. -/
def State.neverGated (s : State) (i : Nat) : Bool :=
  i == 61 || i == 56 || (decide (i < 16) && s.fld (Reg.CORE_WDOG i) Fld.CORE_WDOG_EN == 1)

/-- CLOCK_GATE (R407). -/
def execClockGate (i : Fin 62) (s : State) : Host.Outcome State Fault Refusal :=
  .next (if s.neverGated i then s else { s with clk := { s.clk with gated := putBit s.clk.gated i true } })
/-- CLOCK_UNGATE (R407). -/
def execClockUngate (i : Fin 62) (s : State) : Host.Outcome State Fault Refusal :=
  .next { s with clk := { s.clk with gated := putBit s.clk.gated i false } }

/-- ISLAND_SWITCH (R401, R409): a write of CLK_ISW. -/
def State.islandSwitch (s : State) (w : Nat) : State :=
  if !s.quiet ∨ 60 < bits w 0 7 ∨ s.fld Reg.CLK_ISW Fld.CLK_ISW_BUSY = 1 then s.setF Reg.CLK_STAT Fld.CLK_STAT_WREJ 1
  else
    let s := s.setF Reg.CLK_ISW Fld.CLK_ISW_ISLAND (bits w 0 7)
    let s := s.setF Reg.CLK_ISW Fld.CLK_ISW_TARGET (bits w 7 1)
    s.when (bitAt w 31) fun s =>
      let s := (s.setF Reg.CLK_ISW Fld.CLK_ISW_GO 1).setF Reg.CLK_ISW Fld.CLK_ISW_BUSY 1
      { s with clk := { s.clk with gated := putBit s.clk.gated (bits w 0 7) true } }

def execIslandSwitch (w : Word) (s : State) : Host.Outcome State Fault Refusal := .next (s.islandSwitch w.toNat)

/-- ISLAND_SWITCH_DONE (R401). -/
def execIslandSwitchDone (s : State) : Host.Outcome State Fault Refusal :=
  .next (
    if s.fld Reg.CLK_ISW Fld.CLK_ISW_BUSY = 0 then s
    else
      let i := s.fld Reg.CLK_ISW Fld.CLK_ISW_ISLAND
      let t := s.fld Reg.CLK_ISW Fld.CLK_ISW_TARGET == 1
      let s := (s.setF Reg.CLK_ISW Fld.CLK_ISW_GO 0).setF Reg.CLK_ISW Fld.CLK_ISW_BUSY 0
      let s := s.setF Reg.CLK_STAT Fld.CLK_STAT_SWDONE 1
      { s with clk := { s.clk with bypass := putBit s.clk.bypass i t, gated := putBit s.clk.gated i false } })

/-! ### Frequency measurement -/

/-- FREQ_MEASURE_START (R408, R409): a write of CLK_FMCTL of a unit. -/
def State.freqStart (s : State) (u w : Nat) : State :=
  if s.fld (Reg.CLK_FMCTL u) Fld.CLK_FMCTL_BUSY = 1 ∨ bits w 24 5 < 4 ∨ 24 < bits w 24 5 ∨ 65 < bits w 16 7 ∨ 65 < bits w 0 7 then
    s.setF Reg.CLK_STAT Fld.CLK_STAT_WREJ 1
  else
    let s := s.setF (Reg.CLK_FMCTL u) Fld.CLK_FMCTL_WIN (bits w 24 5)
    let s := s.setF (Reg.CLK_FMCTL u) Fld.CLK_FMCTL_TSEL (bits w 16 7)
    let s := s.setF (Reg.CLK_FMCTL u) Fld.CLK_FMCTL_RSEL (bits w 0 7)
    s.when (bitAt w 31) fun s =>
      (s.setF (Reg.CLK_FMCTL u) Fld.CLK_FMCTL_START 1).setF (Reg.CLK_FMCTL u) Fld.CLK_FMCTL_BUSY 1

def execFreqMeasureStart (u : QuadNo) (w : Word) (s : State) : Host.Outcome State Fault Refusal := .next (s.freqStart u w.toNat)

/-- FREQ_MEASURE_DONE (R408): the number of target edges in the window. -/
def execFreqMeasureDone (u : QuadNo) (edges : Nat) (s : State) : Host.Outcome State Fault Refusal :=
  .next (
    if s.fld (Reg.CLK_FMCTL u) Fld.CLK_FMCTL_BUSY = 0 then s
    else
      let s := s.wr (Reg.CLK_FMRES u) (min 0xFFFFFFFF edges)
      let s := s.setF (Reg.CLK_FMCTL u) Fld.CLK_FMCTL_OVF (b2n (decide (0xFFFFFFFF < edges)))
      (s.setF (Reg.CLK_FMCTL u) Fld.CLK_FMCTL_START 0).setF (Reg.CLK_FMCTL u) Fld.CLK_FMCTL_BUSY 0)

end Sys2Proof.Machine
end

