-- ==== Sys2Proof/Machine/Power.lean ====
section
/-!
DEFINITION. Idle, Sleep, Deep and Off, wake, the power governors and hold-up banking (13_power.md).
-/
namespace Sys2Proof.Machine

/-! ### Idle -/

/-- A core has nothing in flight and every context is stopped, faulted or waits at step 4 of STEP (R411). -/
def State.coreQuiet (s : State) (k : Nat) : Bool :=
  ((List.range 4).all fun n =>
    s.fld (Reg.CORE_CTXCTL k n) Fld.CORE_CTXCTL_RUN == 0 || s.fld (Reg.CORE_CTXCTL k n) Fld.CORE_CTXCTL_RUN == 3 ||
      (SMap.get (fun _ => {}) s.core.ctxs (ctxKey k n)).wait == .stepWait) &&
  (s.core.ops.all fun e => e.1 / 32 != k) && (s.core.queues.all fun e => e.1 / 16 != k) &&
  (s.core.groups.all fun e => e.1 / 16 != k) && (s.core.eng.all fun e => e.1 / 1024 != k || e.2.bufs == [])

/-- Every core of a quadrant is in Idle. -/
def State.quadIdle (s : State) (q : Nat) : Bool := (quadCores q).all fun k => bitAt s.pwr.idle k

/-- IDLE_ENTRY (R411). -/
def execIdleEntry (k : CoreNo) (s : State) : Host.Outcome State Fault Refusal :=
  .next (
    if !s.coreQuiet k ∨ bitAt s.pwr.idle k then s
    else
      let q := quadOf k
      let s := { s with pwr := { s.pwr with idle := putBit s.pwr.idle k true } }
      if s.quadIdle q then
        let x := s.quad q
        let s := s.setF Reg.PWR_STAT ⟨4 + q, 1⟩ 1
        ((s.setQuad q { boostAfter x 0 with freq := 0, target := 0, stage := .lowerWrite, confirmed := false, tries := 0 }).setEff q 0).setBusy q 1
      else s)

/-- IDLE_BIAS (R419): reverse bias after 100 us in Idle. -/
def execIdleBias (k : CoreNo) (s : State) : Host.Outcome State Fault Refusal :=
  .next (if bitAt s.pwr.idle k then { s with pwr := { s.pwr with bias := putBit s.pwr.bias k true } } else s)

/-- IDLE_EXIT (R412): at 0.8 GHz first, then the sequencer returns the quadrant to its effective point. -/
def State.idleExit (s : State) (k : Nat) : State :=
  if !bitAt s.pwr.idle k then s
  else
    let q := quadOf k
    let all := s.quadIdle q
    let s := { s with pwr := { s.pwr with idle := putBit s.pwr.idle k false, bias := putBit s.pwr.bias k false } }
    if all then
      let s := s.setF Reg.PWR_STAT ⟨4 + q, 1⟩ 0
      let x := s.quad q
      (((s.setQuad q { x with freq := 1, target := 1, stage := .idle }).setEff q 1).setBusy q 0).replan q
    else s

def execIdleExit (k : CoreNo) (s : State) : Host.Outcome State Fault Refusal := .next (s.idleExit k)

/-! ### Hold-up charging and arming -/

/-- The board temperature lies in the charging window (R431, R460): valid, younger than 1 s, from -5 to below 70 degrees. -/
def State.inWindow (s : State) : Bool :=
  let t := signed 16 (s.fld Reg.THM_BTEMP Fld.THM_BTEMP_TEMP)
  s.fld Reg.THM_BTEMP Fld.THM_BTEMP_VALID == 1 && decide (s.fld Reg.THM_BTEMP Fld.THM_BTEMP_AGE < 1000) &&
    decide (-320 ≤ t) && decide (t < 4480)

/-- The conditions of R431 in the order of the disarm reasons: 1 window, 2 charge time, 3 EN = 0, 4 no erased half, 5 below
regulation, which also stands for a state or phase without banking (log entry 21); 0 when banking is armed. -/
def State.armReason (s : State) : Nat :=
  if !s.inWindow then 1
  else if !s.pwr.chargeOk then 2
  else if s.fld Reg.HOLD_CFG Fld.HOLD_CFG_EN = 0 then 3
  else if !s.pwr.erased0 ∧ !s.pwr.erased1 then 4
  else if !s.pwr.regulated ∨ s.phase < 5 ∨ 9 < s.phase ∨ 2 < s.fld Reg.PWR_STAT Fld.PWR_STAT_STATE ∨ s.pwr.off then 5
  else 0

/-- Write a note page into the half in use, at most 16 in a bring-up (R431). -/
def State.writeNote (s : State) (reason : Nat) : State :=
  if 16 ≤ s.pwr.notes then s
  else
    let pg : SavePage := { seq := s.pwr.bankSeq, body := .note reason }
    let w := { s.pwr with notes := s.pwr.notes + 1 }
    if s.pwr.half = 0 then { s with pwr := { w with save0 := s.pwr.save0 ++ [pg] } }
    else { s with pwr := { w with save1 := s.pwr.save1 ++ [pg] } }

/-- Judge whether banking is armed (R431); a change to not armed writes a note and creates sherd 0x0072. -/
def State.judgeArmed (s : State) : State :=
  let r := s.armReason
  let was := s.fld Reg.HOLD_STAT Fld.HOLD_STAT_ARMED == 1
  let s := s.setF Reg.HOLD_STAT Fld.HOLD_STAT_WINDOW (b2n s.inWindow)
  let s := s.setF Reg.HOLD_STAT Fld.HOLD_STAT_ARMED (b2n (r == 0))
  if was && r != 0 then
    let s := (s.setF Reg.HOLD_STAT Fld.HOLD_STAT_DISARM r).writeNote r
    s.advise { code := 0x72, sev := 1, unit := unitPart, detail := [(48, s.rd Reg.HOLD_STAT)] }
  else s

/-- The charger runs inside the window with EN = 1 until regulation (R431). -/
def State.charger (s : State) : State :=
  let on := s.fld Reg.HOLD_CFG Fld.HOLD_CFG_EN == 1 && s.inWindow && !s.pwr.off
  (s.setF Reg.HOLD_STAT Fld.HOLD_STAT_CHARGING (b2n (on && !s.pwr.regulated))).judgeArmed

/-- CHARGE_COMPLETE (R431): regulation reached; `ms` is the time of a charge from 3.0 V or below, when it was one. -/
def execChargeComplete (ms : Option Nat) (s : State) : Host.Outcome State Fault Refusal :=
  let s := { s with pwr := { s.pwr with regulated := true } }
  .next (
    match ms with
    | none => s.charger
    | some t =>
      let ok := decide (s.fld Reg.HOLD_CFG Fld.HOLD_CFG_TMIN ≤ t)
      let s := s.setF Reg.HOLD_STAT Fld.HOLD_STAT_CLOW (b2n (!ok))
      ({ s with pwr := { s.pwr with chargeOk := ok } }).charger)

/-- BOARD_READING_STALE (R460): the board reading is 1 s old. -/
def execBoardReadingStale (s : State) : Host.Outcome State Fault Refusal :=
  let a := s.fld Reg.THM_BTEMP Fld.THM_BTEMP_AGE
  .next (s.setF Reg.THM_BTEMP Fld.THM_BTEMP_AGE (if a = 0x7FFF then a else max a 1000)).charger

/-! ### State requests -/

/-- Maximum always-on load of Deep and Off in 0.1 mA (R424). -/
def State.wakeLoad (s : State) (target : Nat) : Nat :=
  16 + 32 + (if target = 3 then 2 * popCount 16 (s.fld Reg.PWR_WAKECFG Fld.PWR_WAKECFG_STOKE) +
    4 * s.fld Reg.PWR_WAKECFG Fld.PWR_WAKECFG_PEN else 0)

/-- The WAKE pin is asserted in level mode (R421, R422). -/
def State.levelWake (s : State) : Bool :=
  s.fld Reg.PWR_WAKECFG Fld.PWR_WAKECFG_WEN == 1 && s.fld Reg.PWR_WAKECFG Fld.PWR_WAKECFG_WLEVEL == 1 && bitAt s.boot.slow 1

/-- The first reason of R413 that refuses a state request; 0 none. States: 2 Sleep, 3 Deep, 4 Off. -/
def State.entryReason (s : State) (target : Nat) : Nat :=
  if !s.allStopped then 1
  else if !s.hold then 2
  else if (List.range 64).any fun p => s.fld (Reg.FLS_PLOAD p) Fld.FLS_PLOAD_STATE == 1 then 3
  else if 3 ≤ target ∧ ((List.range 1024).any fun r =>
      s.fld (Reg.HBM_RGNA r) Fld.HBM_RGNA_VALID == 1 && s.fld (Reg.HBM_RGNA r) Fld.HBM_RGNA_TYPE == 4) then 4
  else if 3 ≤ target ∧ 80 < s.wakeLoad target then 5
  else if s.levelWake then 6
  else 0

/-- Step 1 of R415: meters, log entries and journal updates reach the record store. -/
def State.flushRecords (s : State) : State :=
  let q := s.log.queue
  let s := s.forEach q fun s d => { s with log := { s.log with
    ring := SMap.set (fun _ => none) s.log.ring s.log.ringNext (some { d with flags := d.flags / 2 * 2 })
    ringNext := (s.log.ringNext + 1) % 16384 } }
  ({ s with log := { s.log with queue := [] }, mgmt := { s.mgmt with stored := s.mgmt.meters, persisted := s.mgmt.secs },
            wts := { s.wts with jstore := s.wts.jtiles } }).qstat

/-- SLEEP, DEEP and OFF (R413 to R415): refused with the first reason that applies, else the entry sequence starts. A request
during a state change sets WREJ; one in Sleep has no row in R414 and changes nothing (log entry 22). -/
def State.powerRequest (s : State) (target : Nat) : State :=
  let st := s.fld Reg.PWR_STAT Fld.PWR_STAT_STATE
  if st = 1 ∨ st = 4 then s.setF Reg.PWR_STAT Fld.PWR_STAT_WREJ 1
  else if st ≠ 0 ∨ s.pwr.off then s
  else
    let r := s.entryReason target
    if r ≠ 0 then (s.setF Reg.PWR_STAT Fld.PWR_STAT_ENTREF 1).setF Reg.PWR_STAT Fld.PWR_STAT_REASON r
    else
      let s := (s.setF Reg.PWR_STAT Fld.PWR_STAT_STATE 1).flushRecords
      { s with pwr := { s.pwr with entering := target, entryStep := 1 } }

def execSleep (s : State) : Host.Outcome State Fault Refusal := .next (s.powerRequest 2)
def execDeep (s : State) : Host.Outcome State Fault Refusal := .next (s.powerRequest 3)
def execOff (s : State) : Host.Outcome State Fault Refusal := .next (s.powerRequest 4)

/-- Steps 3 to 5 of an entry (R415): ports in UP enter SLEEP, the stacks self-refresh, the clocks stop. -/
def State.quiesce (s : State) : State :=
  let s := s.portsSleep
  { s with pwr := { s.pwr with selfRefresh := true, entryStep := 7 } }
/-- Deep and Off: the charger stops and the pads latch (R415). -/
def State.padsLatch (s : State) : State :=
  let s : State := { s with pwr := { s.pwr with regulated := false } }
  let s := (s.setF Reg.HOLD_STAT Fld.HOLD_STAT_CHARGING 0).judgeArmed
  s.setF Reg.PWR_PADREL Fld.PWR_PADREL_LATCHED 0x3F
/-- POWER_DOWN_DRAIN (R415 steps 2 to 7, R426): transfers have completed, or at the timeout the rest is aborted; ports in UP
enter SLEEP, the stacks self-refresh, clocks stop; for Deep and Off the charger stops and the pads latch. -/
def State.powerDownDrain (timeout : Bool) (s : State) : State :=
  if s.fld Reg.PWR_STAT Fld.PWR_STAT_STATE ≠ 1 ∨ s.pwr.entryStep ≠ 1 then s
  else
    let s := (s.when timeout State.abortTransfers).quiesce
    s.when (3 ≤ s.pwr.entering) State.padsLatch
def execPowerDownDrain (timeout : Bool) (s : State) : Host.Outcome State Fault Refusal := .next (s.powerDownDrain timeout)

/-- Undo the completed entry steps (R414) and record the wake source. -/
def State.abandonEntry (s : State) : State :=
  let s := s.when (s.pwr.entryStep == 7) fun s => (s.setF Reg.PWR_PADREL Fld.PWR_PADREL_LATCHED 0).portsWake
  let s := { s with pwr := { s.pwr with entering := 0, entryStep := 0, selfRefresh := false } }
  (s.setF Reg.PWR_STAT Fld.PWR_STAT_STATE 0).charger

/-- Record a wake source (R421). -/
def State.wakeSrc (s : State) (src port : Nat) : State :=
  (s.setF Reg.PWR_WAKESRC Fld.PWR_WAKESRC_SRC src).setF Reg.PWR_WAKESRC Fld.PWR_WAKESRC_PORT port

/-- Leave Sleep or Deep (R416, R417): Sleep takes the stacks out of self-refresh and returns the ports to LOCK. -/
def State.leave (s : State) (src port : Nat) : State :=
  let st := s.fld Reg.PWR_STAT Fld.PWR_STAT_STATE
  let s := (s.wakeSrc src port).setF Reg.PWR_STAT Fld.PWR_STAT_STATE 4
  if st = 2 then ({ s with pwr := { s.pwr with selfRefresh := false, entering := 2 } }).portsWake
  else { s with pwr := { s.pwr with entering := 3 } }

/-- A wake event (R414, R422): it abandons an entry unless it falls inside the lost-edge window, ends Sleep or Deep, and is
only recorded while leaving. `deep` tells whether the source works in Deep. -/
def State.wakeEvent (s : State) (src port : Nat) (lost deep : Bool) : State :=
  match s.fld Reg.PWR_STAT Fld.PWR_STAT_STATE with
  | 1 => if lost then s else (s.wakeSrc src port).abandonEntry
  | 2 => s.leave src port
  | 3 => if deep then s.leave src port else s
  | 4 => s.wakeSrc src port
  | _ => s

/-- ENTRY_COMMIT (R414, R415 step 8, R418, R422): a level source asserted at the commit point starts the exit at once. -/
def execEntryCommit (s : State) : Host.Outcome State Fault Refusal :=
  .next (
    if s.fld Reg.PWR_STAT Fld.PWR_STAT_STATE ≠ 1 ∨ s.pwr.entryStep ≠ 7 then s
    else
      let t := s.pwr.entering
      let s := { s with pwr := { s.pwr with entering := 0, entryStep := 0 } }
      let s :=
        if t = 2 then s.setF Reg.PWR_STAT Fld.PWR_STAT_STATE 2
        else if t = 3 then
          let s := (s.setF Reg.PWR_STAT Fld.PWR_STAT_STATE 3).saveAndLose
          { s with pwr := { s.pwr with rested := true } }
        else
          let s := (s.setF Reg.PWR_STAT Fld.PWR_STAT_STATE 0).loseDomains
          { s with pwr := { s.pwr with off := true, rested := true } }
      if s.levelWake then
        if t = 4 then s.bringUp 1 2 else s.leave 1 0
      else s)

/-- WAKE (R421, R422): the WAKE pin changes; `lost` tells that an edge fell inside the lost-edge window. During bring-up it is
ignored (R386). -/
def execWake (asserted lost : Bool) (s : State) : Host.Outcome State Fault Refusal :=
  let s := { s with boot := { s.boot with slow := putBit s.boot.slow 1 asserted } }
  .next (
    if !asserted ∨ s.fld Reg.PWR_WAKECFG Fld.PWR_WAKECFG_WEN = 0 then s
    else if s.pwr.off then s.bringUp 1 2
    else s.wakeEvent 1 0 lost true)

/-- LINK_ACTIVITY_WAKE (R421): on a port in SLEEP. -/
def execLinkActivityWake (p : PortNo) (lost : Bool) (s : State) : Host.Outcome State Fault Refusal :=
  .next (if s.fld (Reg.LNK_STAT p) Fld.LNK_STAT_STATE = 10 ∧ s.fld Reg.PWR_STAT Fld.PWR_STAT_STATE ≠ 3 then
    s.wakeEvent 2 p lost false else s)

/-- STOKE_PATTERN (R421, R423): the detector saw `bursts` of the 8 bursts within 20 us. -/
def execStokePattern (p : PortNo) (bursts : Nat) (lost : Bool) (s : State) : Host.Outcome State Fault Refusal :=
  .next (if 6 ≤ bursts ∧ bitAt (s.fld Reg.PWR_WAKECFG Fld.PWR_WAKECFG_STOKE) p then s.wakeEvent 3 p lost true else s)

/-- PCIE_WAKE (R421). -/
def execPcieWake (lost : Bool) (s : State) : Host.Outcome State Fault Refusal :=
  .next (if s.fld Reg.PWR_WAKECFG Fld.PWR_WAKECFG_PEN = 1 then s.wakeEvent 4 0 lost true else s)

/-- RUN (R414, R436): PWR_CMD RUN leaves Sleep. -/
def State.powerRun (s : State) : State :=
  match s.fld Reg.PWR_STAT Fld.PWR_STAT_STATE with
  | 2 => s.leave 5 0
  | 1 => s.setF Reg.PWR_STAT Fld.PWR_STAT_WREJ 1
  | 4 => s.setF Reg.PWR_STAT Fld.PWR_STAT_WREJ 1
  | _ => s

def execRun (s : State) : Host.Outcome State Fault Refusal := .next s.powerRun

/-- EXIT_COMPLETE (R416, R417): the exit has finished its steps and the state reads Run. -/
def execExitComplete (s : State) : Host.Outcome State Fault Refusal :=
  .next (
    if s.fld Reg.PWR_STAT Fld.PWR_STAT_STATE ≠ 4 then s
    else
      let s := s.when (s.pwr.entering == 3) fun s => (s.deepRestore.replanAll).setF Reg.PWR_RSTCAUSE Fld.PWR_RSTCAUSE_DEEPEXIT 1
      let s := { s with pwr := { s.pwr with entering := 0, rested := false } }
      (s.setF Reg.PWR_STAT Fld.PWR_STAT_STATE 0).charger)

/-- PAD_RELEASE (R420). -/
def State.padRelease (s : State) (mask : Nat) : State :=
  let l := s.fld Reg.PWR_PADREL Fld.PWR_PADREL_LATCHED
  s.setF Reg.PWR_PADREL Fld.PWR_PADREL_LATCHED (maskOf 6 fun g => bitAt l g && !bitAt mask g)

def execPadRelease (mask : BitVec 6) (s : State) : Host.Outcome State Fault Refusal := .next (s.padRelease mask.toNat)

/-- AUX_BROWNOUT (R425, R523): a cold start with the always-on content lost; the seconds restart above every value shown. -/
def execAuxBrownout (s : State) : Host.Outcome State Fault Refusal :=
  let saved := (s.pwr.save0 ++ s.pwr.save1).foldl (fun m pg => match pg.body with
    | .counters _ _ t => max m t
    | _ => m) 0
  let s := s.bringUp 1 1
  let s := (s.setF Reg.PWR_RSTCAUSE Fld.PWR_RSTCAUSE_RETLOST 1).setF Reg.MTR_TSTAT Fld.MTR_TSTAT_SYNC 0
  .next { s with
    pwr := { s.pwr with saved := [] }
    mgmt := { s.mgmt with secs := max saved s.mgmt.persisted + 1, nanos := 0, setTo := none, unsync := true, loss := true } }

/-! ### Governors -/

/-- POWER_GOVERNOR_TICK (R428): the 1 ms averages of package and array power in W. -/
def execPowerGovernorTick (pkg array : BitVec 16) (s : State) : Host.Outcome State Fault Refusal :=
  let s := s.wr Reg.PWR_PMEAS (pkg.toNat + 2 ^ 16 * array.toNat)
  let cap := s.fld Reg.PWR_CAP Fld.PWR_CAP_CAP
  .next (
    if cap < pkg.toNat then
      let s := { s with pwr := { s.pwr with belowCap := 0 } }
      let best := (List.range 4).foldl (fun b q => if s.effective b < s.effective q then q else b) 0
      let x := s.quad best
      let c := min x.powCeil (s.effective best)
      (s.setQuad best { x with powCeil := max 1 (c - 1) }).replan best
    else if pkg.toNat + s.fld Reg.PWR_GOV Fld.PWR_GOV_MARGIN ≤ cap then
      if s.pwr.belowCap + 1 < 100 then { s with pwr := { s.pwr with belowCap := s.pwr.belowCap + 1 } }
      else
        let s := { s with pwr := { s.pwr with belowCap := 0 } }
        let low := (List.range 4).foldl (fun b q => if (s.quad q).powCeil < (s.quad b).powCeil then q else b) 0
        let x := s.quad low
        (s.setQuad low { x with powCeil := min 5 (x.powCeil + 1) }).replan low
    else { s with pwr := { s.pwr with belowCap := 0 } })

/-- The effective array budget A in W (R429, R452). -/
def State.arrayBudget (s : State) : Nat :=
  let other := s.fld Reg.PWR_PMEAS Fld.PWR_PMEAS_PKG - s.fld Reg.PWR_PMEAS Fld.PWR_PMEAS_ARRAY
  max (s.fld Reg.PWR_GOV Fld.PWR_GOV_AFLOOR)
    (min (min (s.fld Reg.PWR_ABUDGET Fld.PWR_ABUDGET_ABUDGET) (s.fld Reg.THM_CEIL Fld.THM_CEIL_ATH))
      (s.fld Reg.PWR_CAP Fld.PWR_CAP_CAP - other))

/-- Credits of one core for one interval (R429). -/
def State.creditShare (s : State) : Nat :=
  s.arrayBudget * 1000000 / (16 * s.fld Reg.PWR_ABUDGET Fld.PWR_ABUDGET_EREAD)

/-- READ_CREDIT_TICK (R429): unused credits pass to the shared pool of the next interval. -/
def execReadCreditTick (s : State) : Host.Outcome State Fault Refusal :=
  let pool := sumNat 16 fun k => SMap.get (fun _ => 0) s.pwr.credits k
  let c := s.creditShare
  .next { s with pwr := { s.pwr with credits := SMap.setRange (fun _ => 0) s.pwr.credits 0 16 fun _ => c, pool := pool, used := 0 } }

/-! ### Banking -/

/-- Items of `size` bytes split into pages of 248 data bytes: each stands where its last byte falls. -/
def splitPages {α : Type} (size : Nat) (l : List α) : List (List α) :=
  let pages := (l.length * size + 247) / 248
  (List.range pages).map fun i => (l.zipIdx.filter fun e => ((e.2 + 1) * size - 1) / 248 == i).map (·.1)

/-- The open sherds that a save set takes (R482): 16 of highest SEV, the newest among equals; with more open, the
suppressed-events sherd counts the rest and is one of the 16. -/
def State.openSherds (s : State) : List Sherd :=
  let holdD (h : Suppressed) (extra : Nat) : Sherd :=
    { sev := 0, code := 0x71, seq := h.seq, boot := s.boot.bootNo, secs := h.first, flags := 1,
      detail := [(48, h.count + extra), (52, h.sev), (56, h.first % 2 ^ 32), (60, h.first / 2 ^ 32), (64, h.last % 2 ^ 32), (68, h.last / 2 ^ 32)] }
  let q := s.log.queue
  let n := q.length + b2n s.log.hold.isSome
  if n ≤ 16 then q ++ (s.log.hold.toList.map fun h => holdD h 0)
  else
    let pick := ([4, 3, 2, 1, 0].map fun v => (q.filter fun d => d.sev == v).reverse).flatten
    let rest := pick.drop 15
    let h := s.log.hold.getD ⟨s.rd64 Reg.LOG_SEQ_LO, 0, 0, s.mgmt.secs, s.mgmt.secs⟩
    pick.take 15 ++ [holdD { h with sev := rest.foldl (fun m d => max m d.sev) h.sev } rest.length]

/-- The save set of R433 in page order. -/
def State.saveSet (s : State) : List SavePage :=
  let sq := s.pwr.bankSeq + 1
  let dirty := (s.mgmt.meters.filter fun e => decide (e.1 < 1024) && SMap.get (fun _ => {}) s.mgmt.stored e.1 != e.2).take 256
  let newest := (List.range 16).filterMap fun i =>
    (SMap.get (fun _ => none) s.log.ring ((s.log.ringNext + 16383 - i) % 16384)).map (·.seq)
  let pages : List SavePage :=
    [{ seq := sq, body := .counters s.hbm.moveseq (s.rd64 Reg.LOG_SEQ_LO) s.mgmt.secs }] ++
    ((splitPages 8 ((s.wts.jtiles.filter fun e => SMap.get (fun _ => 0) s.wts.jstore e.1 != e.2).take 576)).map fun l => { seq := sq, body := .journal l }) ++
    ((splitPages 128 s.openSherds).map fun l => { seq := sq, body := .faults l }) ++
    ((splitPages 24 dirty).map fun l => { seq := sq, body := .meters l }) ++
    ((splitPages 128 newest).map fun l => { seq := sq, body := .tail l })
  pages ++ [{ seq := sq, body := .header (pages.length + 1) s.boot.bootNo (s.rd Reg.HOLD_STAT) }]

/-- Begin to write the save set into the erased half (R432, R433, R454 step 5). -/
def State.startBanking (s : State) : State :=
  let set := s.saveSet
  let h := if s.pwr.erased0 then 0 else 1
  { s with pwr := { s.pwr with
      banking := set
      half := h
      bankSeq := s.pwr.bankSeq + 1
      erased0 := (s.pwr.erased0 && h != 0)
      erased1 := (s.pwr.erased1 && h != 1) } }

/-- SUPPLY_SAG (R432, R436, R483). Armed, the part banks; otherwise it writes nothing and stops. In Deep or Off no banking is
needed. During a shutdown the save set of step 5 continues, or follows the staged record; after step 5 nothing more is
written. -/
def State.supplySag (s : State) : State :=
  let s := { s with pwr := { s.pwr with sag := true } }
  if s.pwr.dead then s
  else if s.fld Reg.PWR_STAT Fld.PWR_STAT_STATE = 3 ∨ s.pwr.off then { s with pwr := { s.pwr with dead := true } }
  else if s.thm.step = 6 then { s with pwr := { s.pwr with dead := true } }
  else if s.thm.step = 5 then { s with pwr := { s.pwr with dead := true } }
  else
    let armed := s.fld Reg.HOLD_STAT Fld.HOLD_STAT_ARMED == 1
    let s := s.when (s.fld Reg.PWR_STAT Fld.PWR_STAT_STATE == 1) State.abandonEntry
    if !armed then { s with pwr := { s.pwr with dead := true } }
    else
      let s := s.when (s.thm.step == 4) State.programShutRec
      ({ s with pwr := { s.pwr with dead := true } }).startBanking

def execSupplySag (s : State) : Host.Outcome State Fault Refusal := .next s.supplySag

/-- BANK_PAGE_DONE (R432, R433, R454): the next page of the save set is programmed; after the header of a shutdown's set
THERMTRIP_N is driven low. -/
def execBankPageDone (s : State) : Host.Outcome State Fault Refusal :=
  .next (
    match s.pwr.banking with
    | [] => s
    | pg :: rest =>
      let w := { s.pwr with banking := rest }
      let s := if s.pwr.half = 0 then { s with pwr := { w with save0 := s.pwr.save0 ++ [pg] } }
        else { s with pwr := { w with save1 := s.pwr.save1 ++ [pg] } }
      if rest ≠ [] then s
      else if s.boot.rise then s.bringUp 1 0
      else if s.thm.step ≠ 0 then { s with thm := { s.thm with step := 6, tripPin := true } }
      else s)

/-- POWER_RETURN (R434): a cold start after banking; a PWRFAIL that only held bring-up in phase 2 is taken as deasserted (R375). -/
def execPowerReturn (s : State) : Host.Outcome State Fault Refusal :=
  .next (
    if !s.boot.pwrgood then s
    else if s.pwr.dead then (if s.pwr.banking = [] then s.bringUp 1 0 else s)
    else { s with boot := { s.boot with slow := putBit s.boot.slow 0 false } })

end Sys2Proof.Machine
end

