-- ==== Sys2Proof/Machine/Thermal.lean ====
section
/-!
DEFINITION. Metrology converters, ring-oscillator counts, the cones, shutdown and the board thermistor
(14_thermal_metrology.md).
-/
namespace Sys2Proof.Machine

/-! ### Converters -/

/-- Entry time in microseconds of a conversion (R440). -/
def entryTime (rate input : Nat) : Nat :=
  nth 0 [136, 264, 520, 1032, 2008, 4008, 10008, 20008, 50008, 100008, 200008] rate * (if input < 20 then 2 else 1)
/-- A legal MADC_SEQ or MADC_URG value (R438 to R440). -/
def entryLegal (w : Nat) : Bool :=
  let input := bits w 0 6
  decide (input < 40) && decide (bits w 20 4 < 11) &&
    (bits w 16 2 == 0 || !(decide (input < 20) || (decide (28 ≤ input) && decide (input ≤ 30))))
/-- Period of a converter's sequence in microseconds (R441). -/
def State.seqPeriod (s : State) (c : Nat) : Nat :=
  sumNat (s.fld (Reg.MADC_CCTL c) Fld.MADC_CCTL_LAST + 1) fun e =>
    let w := s.rd (Reg.MADC_SEQ c e)
    entryTime (bits w 20 4) (bits w 0 6)
/-- Every diode stands in an enabled sequence whose period is at most 50 ms (R445). -/
def State.diodeRule (s : State) : Bool :=
  (List.range 20).all fun d => (List.range 4).any fun c =>
    s.fld (Reg.MADC_CCTL c) Fld.MADC_CCTL_EN == 1 && decide (s.seqPeriod c ≤ 50000) &&
      ((List.range (s.fld (Reg.MADC_CCTL c) Fld.MADC_CCTL_LAST + 1)).any fun e => bits (s.rd (Reg.MADC_SEQ c e)) 0 6 == d)
/-- Show the period of a sequence, in 100 us rounded up (R462). -/
def State.showPeriod (s : State) (c : Nat) : State :=
  s.setF (Reg.MADC_CSTAT c) Fld.MADC_CSTAT_PERIOD ((s.seqPeriod c + 99) / 100)
/-- A converter starts the conversion of an entry; the result will be valid when REFRDY = 1 now (R442). -/
def State.startEntry (s : State) (c e : Nat) : State :=
  let s := (s.setF (Reg.MADC_CSTAT c) Fld.MADC_CSTAT_BUSY 1).setF (Reg.MADC_CSTAT c) Fld.MADC_CSTAT_CUR e
  { s with thm := { s.thm with startRdy := putBit s.thm.startRdy c (s.fld Reg.MADC_STAT Fld.MADC_STAT_REFRDY == 1) } }
/-- The converters start their sequences (R441): every enabled one that is not converting, from entry 0. -/
def State.startConverters (s : State) : State :=
  s.forEach (List.range 4) fun s c =>
    if s.fld (Reg.MADC_CCTL c) Fld.MADC_CCTL_EN = 1 ∧ s.fld (Reg.MADC_CSTAT c) Fld.MADC_CSTAT_BUSY = 0 then
      (s.startEntry c 0).showPeriod c
    else s

/-! ### Board thermistor -/

/-- ln(n/d) x 2^40 for n/d in [1, 2), by 2 atanh((n-d)/(n+d)) with 30 terms in fixed point of 2^60. -/
def lnFix (n d : Nat) : Int :=
  let y : Int := ((n : Int) - d) * 2 ^ 60 / ((n + d : Nat) : Int)
  let y2 := y * y / 2 ^ 60
  let r := (List.range 30).foldl (fun (acc : Int × Int) i => (acc.1 + acc.2 / ((2 * i + 1 : Nat) : Int), acc.2 * y2 / 2 ^ 60)) (0, y)
  2 * r.1 / 2 ^ 20
/-- ln(n/d) x 2^40 for positive n and d. -/
def lnRatio (n d : Nat) : Int :=
  let k : Int := (n.log2 : Int) - d.log2
  let n' := if 0 ≤ k then n else n * 2 ^ (-k).toNat
  let d' := if 0 ≤ k then d * 2 ^ k.toNat else d
  let ln2 := lnFix 3 2 - lnFix 3 4
  if n' < d' then (k - 1) * ln2 + lnFix (2 * n') d' else k * ln2 + lnFix n' d'
/-- Board temperature in 1/64 degree Celsius, rounded down, from the converter result (R459): v / V_R is r / (2^23 gain). -/
def boardTemp (r gain rnom beta rfix : Nat) : Int :=
  let l := lnRatio (10 * rfix * r) ((2 ^ 23 * gain - r) * rnom)
  -- 1 / T = 1 / 298.15 + l / (2^40 beta), so T = 298.15 x 2^40 beta / (2^40 beta + 298.15 l)
  let num : Int := 29815 * 2 ^ 40 * beta * 64
  let den : Int := 100 * 2 ^ 40 * beta + 29815 * l
  (num * 100 - 27315 * 64 * den) / (100 * den)

/-- A result of input 32 (R459): valid when it lies from 0.02 to 0.98 of the reference and is not INVAL. The formula is exact;
which of the two neighbouring 1/64 degrees TEMP takes is left open (log entry 23). -/
def State.boardReading (s : State) (ok : Bool) (r : Int) (gain : Nat) : State :=
  let full : Int := 2 ^ 23 * (gain : Int)
  let valid := ok && decide (2 * full ≤ 100 * r) && decide (100 * r ≤ 98 * full)
  let s := s.setF Reg.THM_STAT Fld.THM_STAT_BTFAULT (b2n (!valid))
  let s := (s.setF Reg.THM_BTEMP Fld.THM_BTEMP_VALID (b2n valid)).setF Reg.THM_BTEMP Fld.THM_BTEMP_AGE 0
  if valid then
    let t := boardTemp r.toNat gain (s.fld Reg.THM_BT0 Fld.THM_BT0_RNOM) (s.fld Reg.THM_BT1 Fld.THM_BT1_BETA)
      (s.fld Reg.THM_BT1 Fld.THM_BT1_RFIX)
    let (x, s) := s.freshNat
    (s.setF Reg.THM_BTEMP Fld.THM_BTEMP_TEMP (unsign 16 (t + (x % 2 : Nat)))).charger
  else s.charger

/-! ### Cones -/

/-- A threshold less a hysteresis in 2^-10 degree. -/
def State.coneT (s : State) (a : Nat) : Int := (bits (s.rd a) 16 10 : Nat) * 256
def State.coneClear (s : State) (a : Nat) : Int := ((bits (s.rd a) 16 10 : Nat) : Int) * 256 - ((bits (s.rd a) 0 6 : Nat) : Int) * 256
/-- The diodes of quadrant q for cone 2 (R450). -/
def coneDiodes (q : Nat) : List Nat := quadCores q ++ [16, 17, 18, 19]
/-- Every listed diode that has a valid result is below a value. -/
def State.allBelow (s : State) (ds : List Nat) (t : Int) : Bool :=
  ds.all fun d => match nth none s.thm.diodes d with
    | some v => decide (v < t)
    | none => true
/-- Show the hottest diode (THM_HOT). -/
def State.showHot (s : State) : State :=
  let best := (List.range 20).foldl (fun (b : Option (Nat × Int)) d =>
    match nth none s.thm.diodes d, b with
    | some v, some (_, w) => if w < v then some (d, v) else b
    | some v, none => some (d, v)
    | none, _ => b) none
  match best with
  | some (d, v) => (s.setF Reg.THM_HOT Fld.THM_HOT_DIODE d).setF Reg.THM_HOT Fld.THM_HOT_TEMP (unsign 16 (v / 16))
  | none => s

/-- Lower ATH by floor(ABUDGET / 8), never below AFLOOR (R452). -/
def State.lowerAth (s : State) : State :=
  let b := s.fld Reg.PWR_ABUDGET Fld.PWR_ABUDGET_ABUDGET
  let a := s.fld Reg.THM_CEIL Fld.THM_CEIL_ATH
  let f := s.fld Reg.PWR_GOV Fld.PWR_GOV_AFLOOR
  s.setF Reg.THM_CEIL Fld.THM_CEIL_ATH (if a ≤ f then a else max f (a - b / 8))
/-- Set the thermal ceiling of a quadrant. -/
def State.setCeil (s : State) (q v : Nat) : State := s.setF Reg.THM_CEIL ⟨3 * q, 3⟩ v
/-- Show whether cone 2 is asserted for a quadrant. -/
def State.setC2 (s : State) (q : Nat) (b : Bool) : State :=
  let s := s.setF Reg.THM_STAT ⟨16 + q, 1⟩ (b2n b)
  s.setF Reg.THM_STAT Fld.THM_STAT_C2 (b2n (s.fld Reg.THM_STAT Fld.THM_STAT_C2Q != 0))

/-- Cone 1 (R451). -/
def State.judgeCone1 (s : State) (v : Int) : State :=
  let on := s.fld Reg.THM_STAT Fld.THM_STAT_C1 == 1
  if s.coneT Reg.THM_CONE1 < v then
    if on then s
    else
      let s := (s.setF Reg.THM_STAT Fld.THM_STAT_C1 1).setF Reg.THM_STAT Fld.THM_STAT_C1EV 1
      let s := (s.inc Reg.THM_C1CNT 1).raisePf 3
      s.advise { code := 0x53, sev := 1, unit := unitPart, detail := [(48, s.rd Reg.THM_HOT)] }
  else if on && s.allBelow (List.range 20) (s.coneClear Reg.THM_CONE1) then s.setF Reg.THM_STAT Fld.THM_STAT_C1 0
  else s

/-- Cone 2 asserts for a quadrant (R452), without the step of ATH. -/
def State.assertCone2 (s : State) (q : Nat) : State :=
  let s := (s.setC2 q true).setF Reg.THM_STAT Fld.THM_STAT_C2EV 1
  let s := (s.inc Reg.THM_C2CNT 1).raisePf 3
  let x := s.quad q
  let s := s.setCeil q (max 1 (s.effective q - 1))
  let s := s.when x.boosting fun s => s.setQuad q { x with boosting := false, resting := true, boostCeil := 4 }
  (s.replan q).sherd { code := 0x54, sev := 2, unit := unitQuad q, detail := [(48, s.rd Reg.THM_CEIL)] }

/-- Cone 2 for a new result of diode d. -/
def State.judgeCone2 (s : State) (d : Nat) (v : Int) : State :=
  let qs := (List.range 4).filter fun q => (coneDiodes q).contains d
  let news := qs.filter fun q => decide (s.coneT Reg.THM_CONE2 < v) && !bitAt (s.fld Reg.THM_STAT Fld.THM_STAT_C2Q) q
  let s := (s.forEach news State.assertCone2).when (news != []) State.lowerAth
  s.forEach qs fun s q =>
    s.when (bitAt (s.fld Reg.THM_STAT Fld.THM_STAT_C2Q) q && s.allBelow (coneDiodes q) (s.coneClear Reg.THM_CONE2)) fun s =>
      s.setC2 q false

/-- Cone 3 trips (R454): the record is staged, every partition stops without commit, reads are abandoned, clocks stop, the core
rails go to 0.60 V; the record and the save set follow. -/
def State.trip (s : State) (d : Nat) (r1 r2 : Int) : State :=
  let prun := (List.range 64).foldl (fun m p => if s.run p = 0 then m else m + 2 ^ p) 0
  let board : Int := if s.fld Reg.THM_BTEMP Fld.THM_BTEMP_VALID = 1 then signed 16 (s.fld Reg.THM_BTEMP Fld.THM_BTEMP_TEMP) else -32768
  let seq := s.thm.nextSeq
  let r : ShutRec := { seq := seq, secs := s.mgmt.secs, nanos := s.mgmt.nanos, boot := s.boot.bootNo, diode := d,
                       read1 := r1 / 16, read2 := r2 / 16, t3 := 16 * s.fld Reg.THM_CONE3 Fld.THM_CONE3_THR,
                       diodes := s.thm.diodes.map fun x => (x.getD 0) / 16,
                       opstat := s.rd Reg.CLK_OPSTAT, pmeas := s.rd Reg.PWR_PMEAS, board := board, prun := prun }
  let s := { s with thm := { s.thm with step := 4, staged := some r, nextSeq := seq + 1 } }
  let s := (s.forEach (List.range 64) State.stopForced).abandonReads
  let s := s.forEach (List.range 4) fun s q =>
    (((s.setQuad q { s.quad q with freq := 0, target := 0, stage := .idle, confirmed := false }).setEff q 0).setBusy q 0)
  s.sherd { code := 0x55, sev := 4, unit := unitPart, detail := [(48, seq % 2 ^ 32), (52, seq / 2 ^ 32)] }

/-- Cone 3 for a new result of diode d: two consecutive valid results above T3 trip (R454). -/
def State.judgeCone3 (s : State) (d : Nat) (v : Int) : State :=
  if s.coneT Reg.THM_CONE3 < v then
    match nth none s.thm.above d with
    | some r1 => if s.thm.step = 0 ∧ !s.pwr.dead then s.trip d r1 v else s
    | none => { s with thm := { s.thm with above := setNth s.thm.above d (some v) } }
  else { s with thm := { s.thm with above := setNth s.thm.above d none } }

/-- A valid diode result (R450). -/
def State.diodeResult (s : State) (d : Nat) (v : Int) : State :=
  let s := { s with thm := { s.thm with diodes := setNth s.thm.diodes d (some v) } }
  ((s.showHot.judgeCone1 v).judgeCone2 d v).judgeCone3 d v

/-- What a result of an input does beyond landing in its register: cones (R450), rails for the governor and the hold-up
(R428, R431), the self-check (R462). -/
def State.useResult (s : State) (input gain : Nat) (ok : Bool) (v : Int) : State :=
  if !ok then s
  else if input < 20 then s.diodeResult input v
  else
    let s := { s with thm := { s.thm with rails := SMap.set (fun _ => 0) s.thm.rails input v } }
    if input = 29 then
      let s := s.setF Reg.HOLD_STAT Fld.HOLD_STAT_VHOLD (min 1023 (v * 625 / (2 ^ 23 * (gain : Int))).toNat)
      if s.fld Reg.HOLD_STAT Fld.HOLD_STAT_VHOLD < 500 then ({ s with pwr := { s.pwr with regulated := false } }).charger else s
    else if input = 31 then
      s.when (decide (5 * 0x400000 < 10000 * (v - 0x400000).natAbs)) fun s => s.setF Reg.MADC_STAT Fld.MADC_STAT_REFERR 1
    else s

/-- The word of a result register after a new result (R441, R442). -/
def resultWord (old : Nat) (ok : Bool) (v : Int) : Nat :=
  unsign 24 v + 2 ^ 24 * ((bits old 24 7 + 1) % 128) + (if ok then 0 else 2 ^ 31)

/-- CONVERSION_DONE (R441): the conversion of the entry in progress ends with its 24-bit result. -/
def execConversionDone (c : QuadNo) (r : BitVec 24) (s : State) : Host.Outcome State Fault Refusal :=
  .next (
    if s.fld (Reg.MADC_CSTAT c) Fld.MADC_CSTAT_BUSY = 0 ∨ bitAt s.thm.urg c then s
    else
      let e := s.fld (Reg.MADC_CSTAT c) Fld.MADC_CSTAT_CUR
      let w := s.rd (Reg.MADC_SEQ c e)
      let ok := bitAt s.thm.startRdy c
      let v := signed 24 r.toNat
      let s := s.wr (Reg.MADC_RES c e) (resultWord (s.rd (Reg.MADC_RES c e)) ok v)
      let s :=
        if s.fld (Reg.MADC_CCTL c) Fld.MADC_CCTL_EN = 1 then
          s.startEntry c (if e < s.fld (Reg.MADC_CCTL c) Fld.MADC_CCTL_LAST then e + 1 else 0)
        else s.setF (Reg.MADC_CSTAT c) Fld.MADC_CSTAT_BUSY 0
      if bits w 0 6 = 32 then s.boardReading ok v (2 ^ bits w 16 2)
      else s.useResult (bits w 0 6) (2 ^ bits w 16 2) ok v)

/-- SHUTDOWN_RECORD_WRITTEN (R454 steps 4 and 5). -/
def execShutdownRecordWritten (s : State) : Host.Outcome State Fault Refusal :=
  .next (
    if s.thm.step ≠ 4 then s
    else
      let s := s.programShutRec
      if s.pwr.erased0 ∨ s.pwr.erased1 then
        let s := s.startBanking
        { s with thm := { s.thm with step := 5 } }
      else { s with thm := { s.thm with step := 6, tripPin := true } })

/-- THROTTLE_STEP (R452): every THSTEP ms while cone 2 is asserted. -/
def execThrottleStep (s : State) : Host.Outcome State Fault Refusal :=
  let c2 := s.fld Reg.THM_STAT Fld.THM_STAT_C2Q
  .next (
    if c2 = 0 then s
    else
      (s.forEach ((List.range 4).filter fun q => bitAt c2 q) fun s q =>
        (s.setCeil q (max 1 (s.thermCeil q - 1))).replan q).lowerAth)

/-- RELEASE_STEP (R453): every RELSTEP ms after cone 2 has cleared. -/
def execReleaseStep (s : State) : Host.Outcome State Fault Refusal :=
  let c2 := s.fld Reg.THM_STAT Fld.THM_STAT_C2Q
  let s := s.forEach ((List.range 4).filter fun q => !bitAt c2 q) fun s q =>
    (s.setCeil q (min 5 (s.thermCeil q + 1))).replan q
  .next (
    if c2 = 0 then
      let b := s.fld Reg.PWR_ABUDGET Fld.PWR_ABUDGET_ABUDGET
      s.setF Reg.THM_CEIL Fld.THM_CEIL_ATH (min b (s.fld Reg.THM_CEIL Fld.THM_CEIL_ATH + b / 8))
    else s)

/-- URGENT_CONVERSION (R443): a write of MADC_URG; a request to a converting converter is dropped. -/
def State.urgentConversion (s : State) (c w : Nat) : State :=
  if !entryLegal w then s.setF Reg.MADC_STAT Fld.MADC_STAT_WREJ 1
  else
    let busy := s.fld (Reg.MADC_CSTAT c) Fld.MADC_CSTAT_BUSY == 1
    let s := s.when (!bitAt s.thm.urg c) fun s =>
      s.wr (Reg.MADC_URG c) (bits w 24 4 * 2 ^ 24 + bits w 20 4 * 2 ^ 20 + bits w 16 2 * 2 ^ 16 + bits w 0 6)
    if !bitAt w 31 then s
    else if busy then (s.setF Reg.MADC_STAT Fld.MADC_STAT_DROP 1).inc Reg.MADC_DROPCNT 1
    else
      let s := (s.setF (Reg.MADC_URG c) Fld.MADC_URG_GO 1).setF (Reg.MADC_CSTAT c) Fld.MADC_CSTAT_BUSY 1
      { s with thm := { s.thm with
          urg := putBit s.thm.urg c true
          urgRdy := putBit s.thm.urgRdy c (s.fld Reg.MADC_STAT Fld.MADC_STAT_REFRDY == 1) } }

def execUrgentConversion (c : QuadNo) (w : Word) (s : State) : Host.Outcome State Fault Refusal :=
  .next (s.urgentConversion c w.toNat)

/-- URGENT_CONVERSION_DONE (R443). -/
def execUrgentConversionDone (c : QuadNo) (r : BitVec 24) (s : State) : Host.Outcome State Fault Refusal :=
  .next (
    if !bitAt s.thm.urg c then s
    else
      let w := s.rd (Reg.MADC_URG c)
      let ok := bitAt s.thm.urgRdy c
      let v := signed 24 r.toNat
      let s := s.wr (Reg.MADC_URES c) (resultWord (s.rd (Reg.MADC_URES c)) ok v)
      let s := (s.setF (Reg.MADC_URG c) Fld.MADC_URG_GO 0).setF (Reg.MADC_CSTAT c) Fld.MADC_CSTAT_BUSY 0
      let s := ({ s with thm := { s.thm with urg := putBit s.thm.urg c false } }).startConverters
      if bits w 0 6 = 32 then s else s.useResult (bits w 0 6) (2 ^ bits w 16 2) ok v)

/-- REFEN (R442): a write of MADC_CTL.REFEN. -/
def State.writeRefen (s : State) (on : Bool) : State :=
  if on then s.setF Reg.MADC_CTL Fld.MADC_CTL_REFEN 1
  else if (List.range 4).any fun c => s.fld (Reg.MADC_CCTL c) Fld.MADC_CCTL_EN == 1 then s.setF Reg.MADC_STAT Fld.MADC_STAT_WREJ 1
  else (s.setF Reg.MADC_CTL Fld.MADC_CTL_REFEN 0).setF Reg.MADC_STAT Fld.MADC_STAT_REFRDY 0

def execRefen (on : Bool) (s : State) : Host.Outcome State Fault Refusal := .next (s.writeRefen on)

/-- REF_READY (R442): 20 ms after REFEN was set. -/
def execRefReady (s : State) : Host.Outcome State Fault Refusal :=
  .next (if s.fld Reg.MADC_CTL Fld.MADC_CTL_REFEN = 1 then s.setF Reg.MADC_STAT Fld.MADC_STAT_REFRDY 1 else s)

/-! ### Ring oscillators -/

/-- Order a ring-oscillator count of a core (R447). -/
def State.orderCount (s : State) (k : Nat) : State :=
  if s.thm.roWait.contains k then s else { s with thm := { s.thm with roWait := s.thm.roWait ++ [k] } }

/-- A write of THM_ROCMD (R464): refused while BUSY = 1. -/
def State.roCommand (s : State) (w : Nat) : State :=
  if s.fld Reg.THM_ROCMD Fld.THM_ROCMD_BUSY = 1 then s.setF Reg.THM_STAT Fld.THM_STAT_WREJ 1
  else
    let s := s.setF Reg.THM_ROCMD Fld.THM_ROCMD_CORE (bits w 0 4)
    s.when (bitAt w 31) fun s =>
      ((s.setF Reg.THM_ROCMD Fld.THM_ROCMD_GO 1).setF Reg.THM_ROCMD Fld.THM_ROCMD_BUSY 1).orderCount (bits w 0 4)

/-- RO_COUNT (R447): a write of THM_ROCMD with GO (`cmd`), or an on-demand request. -/
def execRoCount (k : CoreNo) (cmd : Bool) (s : State) : Host.Outcome State Fault Refusal :=
  .next (if cmd then s.roCommand (2 ^ 31 + k) else s.orderCount k)

/-- RO_BACKGROUND_COUNT (R447): every 1 ms while the core is not in Idle. -/
def execRoBackgroundCount (k : CoreNo) (s : State) : Host.Outcome State Fault Refusal :=
  .next (if bitAt s.pwr.idle k then s else s.orderCount k)

/-- The core's reading: the highest of the four converted temperatures (2^-10 degree), each rounded up to 1/4 degree (R447). -/
def roReading (t : Int × Int × Int × Int) : Int :=
  let up (x : Int) : Int := (x + 255) / 256
  max (max (up t.1) (up t.2.1)) (max (up t.2.2.1) (up t.2.2.2))

/-- RO_COUNT_DONE (R447): a count ordered for the core completes with its converted temperatures; it waits while the core's
quadrant slews. -/
def execRoCountDone (k : CoreNo) (t0 t1 t2 t3 : Int) (s : State) : Host.Outcome State Fault Refusal :=
  let x := s.quad (quadOf k)
  .next (
    if !s.thm.roWait.contains k.val ∨ x.stage = .slew ∨ x.stage = .slewDown then s
    else
      let r := roReading (t0, t1, t2, t3)
      let s := { s with thm := { s.thm with
          roWait := s.thm.roWait.filter fun j => j != k.val
          ro := SMap.set (fun _ => 0) s.thm.ro k r } }
      let s :=
        if s.fld Reg.THM_ROCMD Fld.THM_ROCMD_BUSY = 1 ∧ s.fld Reg.THM_ROCMD Fld.THM_ROCMD_CORE = k.val then
          let s := (s.setF Reg.THM_ROCMD Fld.THM_ROCMD_GO 0).setF Reg.THM_ROCMD Fld.THM_ROCMD_BUSY 0
          s.wr Reg.THM_RORES (k * 2 ^ 16 + unsign 16 (16 * r))
        else s
      s.roCounted (quadOf k) k)

end Sys2Proof.Machine
end

