-- ==== Sys2Proof/Machine/Fault.lean ====
section
/-!
DEFINITION. The log, fences by order, control-path parity, structural test and the firmware watchdog (15_faults.md).
-/
namespace Sys2Proof.Machine

/-! ### The log -/

/-- The hottest valid diode result lies in the write window [-5, 110) degrees (R456). -/
def State.writeWindow (s : State) : Bool :=
  match s.thm.diodes.foldl (fun (b : Option Int) d => match d, b with
    | some v, some w => some (max v w)
    | some v, none => some v
    | none, b => b) none with
  | some h => decide (-5 * 1024 ≤ h) && decide (h < 110 * 1024)
  | none => false

/-- The suppressed-events sherd of the holding slot (R476, R478). -/
def State.heldSherd (s : State) (h : Suppressed) : Sherd :=
  { sev := 0, flags := 1, code := 0x71, seq := h.seq, boot := s.boot.bootNo, secs := h.first, count := 1,
    detail := [(48, h.count % 2 ^ 32), (52, h.sev), (56, h.first % 2 ^ 32), (60, h.first / 2 ^ 32), (64, h.last % 2 ^ 32),
               (68, h.last / 2 ^ 32)] }
/-- The holding slot enters the queue, and is exported, when occupancy is below 60 (R478). -/
def State.releaseHold (s : State) : State :=
  match s.log.hold with
  | some h =>
    if s.log.queue.length < 60 then ({ s with log := { s.log with hold := none } }).enqueueSherd (s.heldSherd h) else s
  | none => s

/-- Move staged sherds to the reserved log sector while erased entries are free (R480, R481). -/
def State.drainReserved : Nat → State → State
  | 0, s => s
  | n + 1, s =>
    match s.log.queue with
    | [] => s
    | d :: rest =>
      if (s.toReserved d).1 then
        let s := (s.toReserved d).2
        State.drainReserved n ({ s with log := { s.log with queue := rest } }).qstat
      else s

/-- The record store fails (R480): sherd 0x0070 is exported without queueing and goes to the reserved log sector, as every
later sherd does. While no erased entry is free it waits in the staging queue, where R478 holds (R481). -/
def State.storeFail (s : State) (addr : Nat) : State :=
  if s.fld Reg.LOG_STAT Fld.LOG_STAT_RSFAIL = 1 then s
  else
    let s := s.setF Reg.LOG_STAT Fld.LOG_STAT_RSFAIL 1
    let (q, s) := s.takeSeq
    let d : Sherd := { sev := 2, flags := 1, code := 0x70, unit := unitStore, boot := s.boot.bootNo, seq := q,
                       secs := s.mgmt.secs, nanos := s.mgmt.nanos, detail := [(48, addr)] }
    let s := (s.export d).raisePf 2
    let s := if (s.toReserved d).1 then (s.toReserved d).2
      else if 60 ≤ s.log.queue.length then s.suppress d
      else { s with log := { s.log with queue := s.log.queue ++ [d] } }.qstat
    State.drainReserved 64 s

/-- LOG_WRITE_DONE (R478 to R480): the oldest staged sherd is written to the ring, or the write fails verify, or a read of the
record store finds an uncorrectable word. Outside the write window it waits; during a management restart nothing is written. -/
def execLogWriteDone (r : StoreResult) (s : State) : Host.Outcome State Fault Refusal :=
  .next (
    match r with
    | .uncorrectable a => s.storeFail a
    | .verifyFailed =>
      if s.log.failAt = some (s.log.ringNext, 1) then s.storeFail (128 * s.log.ringNext)
      else { s with log := { s.log with failAt := some (s.log.ringNext, 1) } }
    | .written =>
      match s.log.queue with
      | [] => s
      | d :: rest =>
        if s.mgmt.restarting ∨ s.fld Reg.LOG_STAT Fld.LOG_STAT_RSFAIL = 1 then s
        else if !s.writeWindow then s.setF Reg.LOG_STAT Fld.LOG_STAT_WAITWIN 1
        else
          let s := s.setF Reg.LOG_STAT Fld.LOG_STAT_WAITWIN 0
          let l := s.log
          let s := { s with log := { l with
              queue := rest
              ring := SMap.set (fun _ => none) l.ring l.ringNext (some { d with flags := d.flags / 2 * 2 })
              ringNext := (l.ringNext + 1) % 16384
              failAt := none } }
          s.qstat.releaseHold)

/-- LOG_WINDOW_FALLBACK (R479): a staged sherd of SEV 3 or 4 at place `i` has waited 10 ms for the window. -/
def execLogWindowFallback (i : Fin 64) (s : State) : Host.Outcome State Fault Refusal :=
  .next (
    match s.log.queue[i.val]? with
    | some d =>
      if 3 ≤ d.sev ∧ s.fld Reg.LOG_STAT Fld.LOG_STAT_WAITWIN = 1 ∧ (s.toReserved d).1 then
        let s := (s.toReserved d).2
        (({ s with log := { s.log with queue := s.log.queue.eraseIdx i } }).qstat).releaseHold
      else s
    | none => s)

/-- LOG_SECTOR_ERASE_DONE (R481): the next sector of 512 entries is erased; with the record store failed the waiting entries
are written. -/
def execLogSectorEraseDone (s : State) : Host.Outcome State Fault Refusal :=
  .next (
    if !s.log.erasing then s
    else
      let l := s.log
      let first := (l.resvNext + l.resvErased) % 2048
      let s := { s with log := { l with
          erasing := false
          resvErased := l.resvErased + 512
          resv := SMap.setRange (fun _ => none) l.resv first 512 fun _ => none } }
      if s.fld Reg.LOG_STAT Fld.LOG_STAT_RSFAIL = 1 then (State.drainReserved 64 s).releaseHold else s)

/-- LOG_QSTAT_READ (R485): MAX is cleared by the read. -/
def execLogQstatRead (s : State) : Host.Outcome State Fault Refusal := .next (s.setF Reg.LOG_QSTAT Fld.LOG_QSTAT_MAX 0)

/-- ADVISORY_REPEAT (R467): each second while the arithmetic event of a core stays raised. -/
def execAdvisoryRepeat (k : CoreNo) (s : State) : Host.Outcome State Fault Refusal := .next (s.arithAdvise k)

/-! ### Fencing -/

/-- PARITY_ERROR (R465, R468): sherd 0x0021, then the unit is fenced or the part fails. -/
def execParityError (u : ParityUnit) (s : State) : Host.Outcome State Fault Refusal :=
  .next (
    match u with
    | .core k g => (s.sherd { code := 0x21, sev := 3, unit := unitCore k, detail := [(48, g)] }).fenceCore k 2 0 0
    | .accumulator k g =>
      (s.sherd { code := 0x21, sev := 3, unit := unitGroup k g, detail := [(48, g.val)] }).fenceGroup k g 2
    | .router k => (s.sherd { code := 0x21, sev := 4, unit := unitRouter k, detail := [(48, 0)] }).partFail 0x21
    | .hub n => (s.sherd { code := 0x21, sev := 4, unit := unitPart, detail := [(48, n)] }).partFail 0x21)

/-- A LOG_FCMD FENCE (R468, R484). Kinds: 0 tile, 1 group, 2 core. -/
def State.fenceOrder (s : State) (kind k i : Nat) : State :=
  match kind with
  | 0 => s.fenceTile k i 2
  | 1 => if i < 16 then s.fenceGroup k i 3 else s.setF Reg.LOG_STAT Fld.LOG_STAT_WREJ 1
  | 2 => if i = 0 then s.fenceCore k 4 0 0 else s.setF Reg.LOG_STAT Fld.LOG_STAT_WREJ 1
  | _ => s.setF Reg.LOG_STAT Fld.LOG_STAT_WREJ 1

def execFence (kind : QuadNo) (k : CoreNo) (i : TileNo) (s : State) : Host.Outcome State Fault Refusal :=
  .next (s.fenceOrder kind k i)

/-- A LOG_FCMD CLEAR (R470, R484): refused for a core, for a tile fenced under R92, and while a partition that owns the unit
runs. The tile stays in state 4 until a load programs it. Clearing a group also removes the fences that its tiles had
through it. -/
def State.fenceClear (s : State) (kind k i : Nat) : State :=
  let refuse := s.setF Reg.LOG_STAT Fld.LOG_STAT_WREJ 1
  let free (g : Nat) : Bool := (s.ownersOfGroup k g).all fun p => s.run p == 0
  match kind with
  | 0 =>
    if !free (i / 64) ∨ SMap.get (fun _ => 0) s.log.fenceT (tileKey k i) = 4 then refuse
    else { s with log := { s.log with fenceT := SMap.del (tileKey k i) s.log.fenceT } }
  | 1 =>
    if 16 ≤ i ∨ !free i then refuse
    else
      let s := { s with log := { s.log with
          fenceG := SMap.del (k * 16 + i) s.log.fenceG
          fenceT := s.log.fenceT.filter fun e => !(e.1 / 64 == k * 16 + i && e.2 == 3) } }
      s.setF (Reg.LOG_GFENCE k) ⟨i, 1⟩ 0
  | _ => refuse

def execFenceClear (kind : QuadNo) (k : CoreNo) (i : TileNo) (s : State) : Host.Outcome State Fault Refusal :=
  .next (s.fenceClear kind k i)

/-! ### Structural test -/

/-- The cores of the next round (R473 step 4): of the cores left, the lowest of each quadrant. -/
def nextRound (left : List Nat) : List Nat :=
  (List.range 4).filterMap fun q => left.find? fun k => quadOf k == q

/-- Start the next round: each core is fenced for test and its island moved to bypass (steps 2 and 3). -/
def State.startRound (s : State) : State :=
  let r := nextRound s.log.testLeft
  { s with
    log := { s.log with testRound := r, testLeft := s.log.testLeft.filter fun k => !r.contains k }
    clk := { s.clk with bypass := r.foldl (fun m k => putBit m k true) s.clk.bypass } }

/-- The first check of the test content that fails (R473 step 1): 1 header, 2 table, 3 a set's CRC, 4 no content (the numbering
within sherd 0x0063 is read from its order, log entry 24); 0 none. -/
def testCheck (c : Option TestContent) : Nat :=
  match c with
  | none => 4
  | some c => if !c.hdrOk then 1 else if !c.tabOk then 2 else if c.sets.all (·.crcOk) then 0 else 3

/-- Start a test of a set of cores (R473). -/
def State.testStart (s : State) (cores : Nat) (boot : Bool) : State :=
  let chk := testCheck s.log.test
  let s := s.setF Reg.LOG_TSTAT Fld.LOG_TSTAT_FAILED 0
  if chk ≠ 0 then
    let s := (s.setF Reg.LOG_TSTAT Fld.LOG_TSTAT_RESULT 3).setF Reg.LOG_TCMD Fld.LOG_TCMD_GO 0
    s.sherd { code := 0x63, sev := 2, unit := unitFlash, detail := [(48, chk)] }
  else
    let s := (s.setF Reg.LOG_TSTAT Fld.LOG_TSTAT_BUSY 1).setF Reg.LOG_TSTAT Fld.LOG_TSTAT_RESULT 0
    let l := (List.range 16).filter fun k => bitAt cores k
    let s := s.setF Reg.LOG_CFENCE Fld.LOG_CFENCE_TEST cores
    let s := s.forEach l State.testFence
    ({ s with log := { s.log with testLeft := l, testBoot := boot } }).startRound

/-- A write of LOG_TCMD (R474, R484). -/
def State.testCommand (s : State) (w : Nat) : State :=
  if !bitAt w 31 then s.setF Reg.LOG_TCMD Fld.LOG_TCMD_CORES (bits w 0 16)
  else if bits w 0 16 = 0 ∨ !s.quiet ∨ s.fld Reg.LOG_TSTAT Fld.LOG_TSTAT_BUSY = 1 then s.setF Reg.LOG_STAT Fld.LOG_STAT_WREJ 1
  else
    let s := (s.setF Reg.LOG_TCMD Fld.LOG_TCMD_CORES (bits w 0 16)).setF Reg.LOG_TCMD Fld.LOG_TCMD_GO 1
    s.testStart (bits w 0 16) false

def execTestStart (cores : BitVec 16) (s : State) : Host.Outcome State Fault Refusal :=
  .next (s.testCommand (2 ^ 31 + cores.toNat))

/-- The first set whose observed signature differs from SIG, with what was observed (R473 step 5). -/
def firstFailing (sets : List TestSet) (obs : List Nat) : Option (Nat × Nat) :=
  ((List.range sets.length).find? fun i => nth 0 obs i != (nth ⟨0, 0, true⟩ sets i).sig).map fun i => (i, nth 0 obs i)

/-- One core of a round ends its test (R473 steps 5 to 7). -/
def State.endCoreTest (s : State) (k : Nat) (obs : List Nat) : State :=
  let sets := match s.log.test with
    | some c => c.sets
    | none => []
  let s := s.wipeCore k
  let s := { s with clk := { s.clk with bypass := putBit s.clk.bypass k false } }
  let s := s.setF Reg.LOG_CFENCE ⟨16 + k, 1⟩ 0
  match firstFailing sets obs with
  | none =>
    let s := if s.log.testBoot then
        { s.setF Reg.LOG_CFENCE ⟨k, 1⟩ 0 with log := { s.log with fenceC := SMap.del k s.log.fenceC } }
      else s
    if bitAt (s.fld Reg.LOG_CFENCE Fld.LOG_CFENCE_FAULT) k then s else s.restoreCore k
  | some (i, sig) => (s.setF Reg.LOG_TSTAT ⟨k, 1⟩ 1).fenceCore k 3 i sig

/-- TEST_ROUND_DONE (R473): the round's responses are in, the signatures of every set for each core of the round. -/
def execTestRoundDone (obs : List (List Nat)) (s : State) : Host.Outcome State Fault Refusal :=
  .next (
    if s.fld Reg.LOG_TSTAT Fld.LOG_TSTAT_BUSY = 0 then s
    else
      let r := s.log.testRound
      let s := s.forEach r.zipIdx fun s e => s.endCoreTest e.1 (nth [] obs e.2)
      if s.log.testLeft ≠ [] then s.startRound
      else
        let bad := s.fld Reg.LOG_TSTAT Fld.LOG_TSTAT_FAILED != 0
        let s := (s.setF Reg.LOG_TSTAT Fld.LOG_TSTAT_BUSY 0).setF Reg.LOG_TCMD Fld.LOG_TCMD_GO 0
        let s := s.setF Reg.LOG_TSTAT Fld.LOG_TSTAT_RESULT (if bad then 2 else 1)
        let s := { s with log := { s.log with testRound := [] } }
        if s.log.testBoot then
          let fp := match s.boot.test with
            | some (_, f, _) => f
            | none => false
          let s := { s with log := { s.log with testBoot := false } }
          if bad ∧ fp then s.bootFail 14 else s.setF Reg.CFG_BOOT Fld.CFG_BOOT_PHASE 7
        else s)

/-! ### Firmware watchdog -/

/-- FW_WATCHDOG_EXPIRY (R466). -/
def execFwWatchdogExpiry (s : State) : Host.Outcome State Fault Refusal :=
  .next (({ s with mgmt := { s.mgmt with restarting := true } }).sherd { code := 0x73, sev := 2, unit := unitPart })

/-- MANAGEMENT_RESTART_DONE (R466): staged records and waiting events flow again. -/
def execManagementRestartDone (s : State) : Host.Outcome State Fault Refusal :=
  let ev := s.mgmt.evEth
  let s := { s with mgmt := { s.mgmt with restarting := false, evEth := [] } }
  .next (s.forEach ev fun s e => s.reply (eventReply .eth e))

end Sys2Proof.Machine
end

