-- ==== Sys2Proof/Machine/Security.lean ====
section
/-!
DEFINITION. Psikuster: self-tests and states, keys, zeroisation, the debug port (16_security.md).
-/
namespace Sys2Proof.Machine

/-- SEC_STAT.STATE (R491): 0 off, 1 SELFTEST, 2 OPERATIONAL, 3 SOFT_ERROR, 4 HARD_ERROR, 5 ZEROISED. -/
def State.secState (s : State) : Nat := s.fld Reg.SEC_STAT Fld.SEC_STAT_STATE
/-- Set SEC_STAT.STATE. -/
def State.setSec (s : State) (v : Nat) : State := s.setF Reg.SEC_STAT Fld.SEC_STAT_STATE v
/-- Give the result of a command (R507). -/
def State.secResult (s : State) (v : Nat) : State := s.setF Reg.SEC_CSTAT Fld.SEC_CSTAT_RESULT v
/-- A word of the mailbox payload. -/
def State.mbx (s : State) (i : Nat) : Nat := s.rd (Reg.SEC_MBX i)

/-- Zeroisation (R492): keys, engine slots and the sealed key store are erased; running loads end with "aborted" (R506); every
valid region entry but LEND becomes not valid. -/
def State.zeroise (s : State) : State :=
  let s := { s with sec := { s.sec with
      fwk := false, tenants := [], models := [], signers := [], links := [], engines := [], nonce := none, zeroising := true } }
  let s := (s.setF Reg.SEC_STAT Fld.SEC_STAT_FWK 0).setF Reg.SEC_STAT Fld.SEC_STAT_APPROVED 0
  let s := s.abortLoads
  s.forEach (List.range 1024) fun s r =>
    s.when (s.fld (Reg.HBM_RGNA r) Fld.HBM_RGNA_VALID == 1 && s.fld (Reg.HBM_RGNA r) Fld.HBM_RGNA_TYPE != 4) fun s =>
      s.setF (Reg.HBM_RGNA r) Fld.HBM_RGNA_VALID 0

/-- A hard error (R491): zeroise, sherd 0x0080, HARD_ERROR, and the part fails (R468). -/
def State.hardError (s : State) (test : Nat) : State :=
  let s := (s.setF Reg.SEC_ERR Fld.SEC_ERR_TEST test).zeroise
  let s := s.setSec 4
  let s := s.sherd { code := 0x80, sev := 4, unit := unitPsik, detail := [(48, s.rd Reg.SEC_STAT), (52, s.rd Reg.SEC_ERR)] }
  s.partFail 0x80

/-- Run a command of SEC_CMD (R505, R507): refused with WREJ while a zeroisation runs; refused with result 3 outside the listed
module states. -/
def State.secCommand (s : State) (states : List Nat) (f : State → State) : State :=
  if s.sec.zeroising then s.setF Reg.SEC_STAT Fld.SEC_STAT_WREJ 1
  else if !states.contains s.secState then s.secResult 3
  else f s

/-- The known-answer tests run (R490): a failure is a hard error. -/
def State.knownAnswer (s : State) (ok : Bool) : State := if ok then s else s.hardError 1

/-- SELFTEST (R505): any state but HARD_ERROR. -/
def State.secSelftest (s : State) (ok : Bool) : State :=
  s.secCommand [0, 1, 2, 3, 5] fun s => if ok then s.secResult 1 else (s.secResult 1).hardError 1

def execSelftest (ok : Bool) (s : State) : Host.Outcome State Fault Refusal := .next (s.secSelftest ok)

/-- LOADMK (R505): TENANT and MODEL_KEY from the mailbox; `unwrapOk` tells whether the key unwraps under KEK of the tenant. -/
def State.loadMk (s : State) (unwrapOk : Bool) : State :=
  s.secCommand [2] fun s =>
    let t := s.mbx 0 % 2 ^ 16
    let k := s.mbx 1
    if !unwrapOk ∨ !(s.sec.tenants.any fun x => x.id == t) then s.secResult 4
    else
      let rest := s.sec.models.filter fun m => m.1 != k
      if 4096 ≤ rest.length then s.secResult 6
      else ({ s with sec := { s.sec with models := rest ++ [(k, t)] } }).secResult 1

def execLoadmk (unwrapOk : Bool) (s : State) : Host.Outcome State Fault Refusal := .next (s.loadMk unwrapOk)

/-- DROPMK (R505): not while a load of the key runs. -/
def State.dropMk (s : State) : State :=
  s.secCommand [2, 3] fun s =>
    let k := s.mbx 1
    if s.wts.loads.any fun l => l.image.enc && l.image.modelKey == k then s.secResult 5
    else ({ s with sec := { s.sec with models := s.sec.models.filter fun m => m.1 != k } }).secResult 1

def execDropmk (s : State) : Host.Outcome State Fault Refusal := .next s.dropMk

/-- SETLINK (R505, R506): a key for a JOB already held is replaced. -/
def State.setLink (s : State) (unwrapOk : Bool) : State :=
  s.secCommand [2] fun s =>
    let j := s.mbx 0 % 2 ^ 16
    if !unwrapOk ∨ !s.sec.fwk then s.secResult 4
    else
      let key := (List.range 10).foldr (fun i a => s.mbx (2 + i) + 2 ^ 32 * a) 0
      ({ s with sec := { s.sec with links := (s.sec.links.filter fun (l : Nat × Nat) => l.1 != j) ++ [(j, key)] } }).secResult 1

def execSetlink (unwrapOk : Bool) (s : State) : Host.Outcome State Fault Refusal := .next (s.setLink unwrapOk)

/-- DROPLINK (R505): not while a port with a binding of JOB is in UP. -/
def State.dropLink (s : State) : State :=
  s.secCommand [2, 3] fun s =>
    let j := s.mbx 0 % 2 ^ 16
    if s.portUpWithJob j then s.secResult 5
    else ({ s with sec := { s.sec with links := s.sec.links.filter fun (l : Nat × Nat) => l.1 != j } }).secResult 1

def execDroplink (s : State) : Host.Outcome State Fault Refusal := .next s.dropLink

/-- SVNRAISE (R497): never lowered. -/
def State.svnRaise (s : State) : State :=
  s.secCommand [2, 3] fun s =>
    let v := s.rd Reg.CFG_SVN
    if v ≤ s.sec.minSvn then s.secResult 5
    else (({ s with sec := { s.sec with minSvn := v } }).wr Reg.SEC_MINSVN v).secResult 1

def execSvnraise (s : State) : Host.Outcome State Fault Refusal := .next s.svnRaise

/-- A session authenticated mutually against the operator certificate (R505, R510). -/
def State.operatorSession (s : State) (id : Nat) : Bool :=
  s.mgmt.sessions.any fun x => x.id == id && x.finished && x.authed && x.operator

/-- ZEROISE (R491, R492, R505): in part hold, or from an operator session at any time. -/
def State.zeroiseCmd (s : State) (session : Option Nat) : State :=
  s.secCommand [2, 3] fun s =>
    let ok := match session with
      | some i => s.operatorSession i
      | none => s.quiet
    if !ok then s.secResult 5
    else ((s.zeroise.setSec 5).forEach (List.range 64) State.stopForced).secResult 1

def execZeroise (session : Option Nat) (s : State) : Host.Outcome State Fault Refusal := .next (s.zeroiseCmd session)

/-- ZEROISATION_COMPLETE (R492). -/
def execZeroisationComplete (s : State) : Host.Outcome State Fault Refusal :=
  .next { s with sec := { s.sec with zeroising := false } }

/-- The debug port may not be challenged (R504): locked, or fused off. -/
def State.debugBarred (s : State) : Bool := s.fld Reg.SEC_DBG Fld.SEC_DBG_LOCK == 1 || s.fld Reg.SEC_DBG Fld.SEC_DBG_FUSED == 1

/-- DBGCHAL (R503, R504): a 48-byte nonce from the DRBG (its value is left open) in the mailbox. -/
def State.dbgChal (s : State) : State :=
  s.secCommand [2] fun s =>
    if s.debugBarred then s.secResult 5
    else
      let s := s.forEach (List.range 12) fun s i =>
        let (x, s) := s.freshNat
        s.wr (Reg.SEC_MBX i) x
      ({ s with sec := { s.sec with nonce := some s.sec.nonces, nonces := s.sec.nonces + 1 } }).secResult 1

def execDbgchal (s : State) : Host.Outcome State Fault Refusal := .next s.dbgChal

/-- DBGRESP (R503): uses up the nonce; when the key matches the fused digest and the signature verifies, the port opens: every
partition stops without commit, the module zeroises, DBGOPEN = 1 and APPROVED = 0, sherd 0x0082. -/
def State.dbgResp (s : State) (keyOk sigOk : Bool) : State :=
  s.secCommand [2, 3] fun s =>
    if s.debugBarred ∨ s.sec.nonce = none then s.secResult 5
    else
      let s := { s with sec := { s.sec with nonce := none } }
      if !keyOk ∨ !sigOk then s.secResult 7
      else
        let s := (s.forEach (List.range 64) State.stopForced).zeroise.setSec 5
        let s := (s.setF Reg.SEC_STAT Fld.SEC_STAT_DBGOPEN 1).secResult 1
        s.advise { code := 0x82, sev := 1, unit := unitPsik, detail := [(48, s.rd Reg.SEC_STAT), (52, s.rd Reg.SEC_DBG)] }

def execDbgresp (keyOk sigOk : Bool) (s : State) : Host.Outcome State Fault Refusal := .next (s.dbgResp keyOk sigOk)

/-- SETFWK (R505): inside an operator session, when no fleet wrapping key is installed; ZEROISED serves it too (R491). -/
def execSetfwk (session : Nat) (s : State) : Host.Outcome State Fault Refusal :=
  .next (s.secCommand [2, 3, 5] fun s =>
    if !s.operatorSession session ∨ s.sec.fwk then s.secResult 5
    else ({ s.setF Reg.SEC_STAT Fld.SEC_STAT_FWK 1 with sec := { s.sec with fwk := true } }).secResult 1)

/-- REVOKE (R497): inside an operator session; the running configuration was verified with a different, unrevoked slot. -/
def execRevoke (session : Nat) (slot : QuadNo) (s : State) : Host.Outcome State Fault Refusal :=
  .next (s.secCommand [2, 3] fun s =>
    let other := match s.boot.image with
      | some c => c.keyId != slot.val && !bitAt s.sec.revoked c.keyId
      | none => false
    if !s.operatorSession session ∨ !other then s.secResult 5
    else ({ s with sec := { s.sec with revoked := putBit s.sec.revoked slot true } }).secResult 1)

/-- DEBUG_LOCK (R504). -/
def execDebugLock (s : State) : Host.Outcome State Fault Refusal := .next (s.setF Reg.SEC_DBG Fld.SEC_DBG_LOCK 1)

/-- PSIKUSTER_SELFTEST_PASS (R490, R491): the power-on tests end; `fail` names the first that failed. The module reads its
sealed key store and the minimum SVN. A failure also ends bring-up with reason 5 (R379). -/
def execPsikusterSelftestPass (fail : Option Nat) (s : State) : Host.Outcome State Fault Refusal :=
  .next (
    if s.secState ≠ 1 then s
    else
      match fail with
      | some t => ({ s.setF Reg.SEC_STAT Fld.SEC_STAT_TAMPER (b2n (t == 3)) with boot := { s.boot with selfOk := false } }.hardError t).bootFail 5
      | none =>
        let s := { s with boot := { s.boot with selfOk := true } }
        let s := (s.setSec 2).setF Reg.SEC_STAT Fld.SEC_STAT_APPROVED 1
        (s.setF Reg.SEC_STAT Fld.SEC_STAT_FWK (b2n s.sec.fwk)).wr Reg.SEC_MINSVN s.sec.minSvn)

/-- TAMPER_CHECK (R486, R490): the meshes are tested; an opening is a hard error. -/
def execTamperCheck (opened : Bool) (s : State) : Host.Outcome State Fault Refusal :=
  .next (if opened ∧ s.secState ≠ 4 ∧ s.secState ≠ 0 then (s.setF Reg.SEC_STAT Fld.SEC_STAT_TAMPER 1).hardError 3 else s)

/-- PERIODIC_SELFTEST (R490): every 24 h of operation. -/
def execPeriodicSelftest (ok : Bool) (s : State) : Host.Outcome State Fault Refusal :=
  .next (if s.secState = 2 ∨ s.secState = 3 then s.knownAnswer ok else s)

/-- ENTROPY_TEST_FAIL (R490, R491): test 4 start-up, 5 continuous, 6 pairwise consistency; the third soft error since bring-up
is a hard error. -/
def execEntropyTestFail (test : Fin 3) (s : State) : Host.Outcome State Fault Refusal :=
  .next (
    if s.secState = 2 ∨ s.secState = 3 then
      let n := s.fld Reg.SEC_ERR Fld.SEC_ERR_SOFTN + 1
      let s := (s.setF Reg.SEC_ERR Fld.SEC_ERR_SOFTN (min 255 n)).setF Reg.SEC_ERR Fld.SEC_ERR_TEST (4 + test)
      if 3 ≤ n then s.hardError (4 + test) else s.setSec 3
    else s)

/-- ENTROPY_RESTART_PASS (R491). -/
def execEntropyRestartPass (s : State) : Host.Outcome State Fault Refusal :=
  .next (if s.secState = 3 ∧ s.fld Reg.SEC_ERR Fld.SEC_ERR_SOFTN < 3 then s.setSec 2 else s)

/-- DEBUG_NONCE_EXPIRY (R503). -/
def execDebugNonceExpiry (s : State) : Host.Outcome State Fault Refusal :=
  .next { s with sec := { s.sec with nonce := none } }

/-- Apply the TENANT record (R494, R495): valid KIND 1 entries register tenants; KIND 2 and 3 entries need one of them (or the
operator for KIND 3); every other entry is skipped and counted. -/
def State.applyTenants (s : State) (lock : Bool) (ents : List TenEnt) : State :=
  let s := s.when lock fun s => s.setF Reg.SEC_DBG Fld.SEC_DBG_LOCK 1
  let one (acc : List Tenant × Nat) (e : TenEnt) : List Tenant × Nat :=
    if e.kind ≠ 1 then acc
    else if e.unwrapOk ∧ e.resOk ∧ s.sec.fwk ∧ e.tenant < 1024 ∧ !(acc.1.any fun t => t.id == e.tenant) ∧ acc.1.length < 1024 then
      (acc.1 ++ [⟨e.tenant, e.pmask⟩], acc.2)
    else (acc.1, acc.2 + 1)
  let (ts, skip) := ents.foldl one ([], 0)
  let known (t : Nat) : Bool := ts.any fun x => x.id == t
  let two (acc : List (Nat × Nat) × List (Nat × Nat) × Nat) (e : TenEnt) : List (Nat × Nat) × List (Nat × Nat) × Nat :=
    let (ms, sg, n) := acc
    if e.kind = 1 then acc
    else if e.kind = 2 ∧ e.unwrapOk ∧ e.resOk ∧ e.id ≠ 0 ∧ known e.tenant ∧ !(ms.any fun m => m.1 == e.id) ∧ ms.length < 4096 then
      (ms ++ [(e.id, e.tenant)], sg, n)
    else if e.kind = 3 ∧ e.resOk ∧ e.id ≠ 0 ∧ (e.tenant = 0xFFFF ∨ known e.tenant) ∧ !(sg.any fun m => m.1 == e.id) ∧ sg.length < 256 then
      (ms, sg ++ [(e.id, e.tenant)], n)
    else (ms, sg, n + 1)
  let (ms, sg, skip2) := ents.foldl two ([], [], 0)
  ({ s with sec := { s.sec with tenants := ts, models := ms, signers := sg } }).inc Reg.SEC_TENSKIP (skip + skip2)

end Sys2Proof.Machine
end

