-- ==== Sys2Proof/Machine/Records.lean ====
section
/-!
DEFINITION. The byte images of the records that software reads: CRC-32, sherds (R475), history records (R528), shutdown
records (R457), the stuck-cell map (R84).
-/
namespace Sys2Proof.Machine

/-- One step of CRC-32 (IEEE 802.3 polynomial, reflected). -/
def crcBit (c : Nat) : Nat := if c % 2 = 1 then (c / 2) ^^^ 0xEDB88320 else c / 2
/-- CRC-32 of a byte string. -/
def crc32 (l : List Nat) : Nat :=
  (l.foldl (fun c b => (List.range 8).foldl (fun c _ => crcBit c) (c ^^^ (b % 256))) 0xFFFFFFFF) ^^^ 0xFFFFFFFF
/-- The little-endian 32-bit words of a byte string. -/
def wordsOf : List Nat → List Nat
  | a :: b :: c :: d :: rest => bytesVal [a, b, c, d] :: wordsOf rest
  | _ => []
/-- A byte string with its CRC-32 at the end. -/
def withCrc (l : List Nat) : List Nat := l ++ bytesOf 4 (crc32 l)

/-- The bytes of DETAIL, bytes 48 to 123 of a sherd: each named word at its offset, unlisted bytes 0. -/
def detailBytes (d : List (Nat × Nat)) : List Nat :=
  ((List.range 19).map fun i => bytesOf 4 ((d.find? fun e => e.1 == 48 + 4 * i).map (·.2) |>.getD 0)).flatten
/-- The 128 bytes of a sherd (R475). -/
def Sherd.bytes (d : Sherd) : List Nat :=
  withCrc (bytesOf 2 0x0100 ++ [d.sev, d.flags] ++ bytesOf 2 d.code ++ [d.part, 0] ++ bytesOf 4 d.unit ++ bytesOf 4 d.boot ++
    bytesOf 8 d.seq ++ bytesOf 8 d.secs ++ bytesOf 4 d.nanos ++ bytesOf 2 d.tenant ++ bytesOf 2 d.count ++ bytesOf 4 d.step ++
    bytesOf 4 0 ++ detailBytes d.detail)
/-- The 96 bytes of a history record (R528). -/
def HistRec.bytes (h : HistRec) : List Nat :=
  withCrc ([h.kind, h.flags] ++ bytesOf 2 h.id ++ bytesOf 4 0 ++ bytesOf 8 h.seq ++ bytesOf 8 h.start ++ bytesOf 8 h.stop ++
    ((List.range 6).map fun i => bytesOf 8 (nth 0 h.counts i)).flatten ++ List.replicate 12 0)
/-- The 256 bytes of a shutdown record (R457). -/
def ShutRec.bytes (r : ShutRec) : List Nat :=
  withCrc (bytesOf 4 0x44485354 ++ bytesOf 2 0x0100 ++ bytesOf 2 1 ++ bytesOf 8 r.seq ++ bytesOf 8 r.secs ++ bytesOf 4 r.nanos ++
    bytesOf 4 r.boot ++ [r.diode, 0] ++ bytesOf 2 (unsign 16 r.read1) ++ bytesOf 2 (unsign 16 r.read2) ++ bytesOf 2 r.t3 ++
    ((List.range 20).map fun i => bytesOf 2 (unsign 16 (nth 0 r.diodes i))).flatten ++ bytesOf 4 r.opstat ++ bytesOf 4 r.pmeas ++
    bytesOf 2 (unsign 16 r.board) ++ List.replicate 6 0 ++ bytesOf 8 r.prun ++ List.replicate 148 0)
/-- The 16 bytes of a stuck-cell record (R84). -/
def StuckRec.bytes (r : StuckRec) : List Nat :=
  bytesOf 2 r.tile ++ bytesOf 2 r.row ++ bytesOf 2 r.pcol ++ bytesOf 2 r.lcol ++ [r.cell, r.level, unsign 8 r.target, r.action] ++
    bytesOf 2 r.spare ++ [0, 0]
/-- The exported stuck-cell map (R84): header and records. -/
def State.stuckMap (s : State) (imageId : Nat) : List Nat :=
  let recs := (s.wts.stuck.map StuckRec.bytes).flatten
  bytesOf 4 0x4B435453 ++ bytesOf 2 0x0100 ++ bytesOf 2 32 ++ bytesOf 4 (s.rd Reg.GCTL_ID) ++ bytesOf 8 Config.serial.toNat ++
    bytesOf 4 imageId ++ bytesOf 4 s.wts.stuck.length ++ bytesOf 4 (crc32 recs) ++ recs

/-- The six counts of a meter set (R524). -/
def Meter.counts (m : Meter) : List Nat := [m.tokin, m.tokout, m.tread, m.wops, m.hbmb, m.energy]
/-- The 16 words that MTR_MDATA shows of a set (R525, R534): six counts, START and END. -/
def State.meterWords (s : State) (set : Nat) : List Nat :=
  let m := SMap.get (fun _ => ({} : Meter)) s.mgmt.meters set
  ((m.counts ++ [s.mgmt.pstart, s.mgmt.pend]).map fun v => [v % 2 ^ 32, v / 2 ^ 32 % 2 ^ 32]).flatten

/-- The log entry or reserved-sector entry that LOG_RDIDX selects, as words (R484); an entry never written reads 0. -/
def State.logWords (s : State) (nor : Bool) (e : Nat) : List Nat :=
  match (if nor then SMap.get (fun _ => none) s.log.resv e else SMap.get (fun _ => none) s.log.ring e) with
  | some d => wordsOf d.bytes
  | none => []
/-- A history record as words (R528). -/
def State.histWords (s : State) (e : Nat) : List Nat :=
  match SMap.get (fun _ => none) s.mgmt.hist e with
  | some h => wordsOf h.bytes
  | none => []

end Sys2Proof.Machine
end

