-- ==== Sys2Proof/Machine/Mgmt.lean ====
section
/-!
DEFINITION. The management network, I3C, MCTP, PLDM and SPDM, PMBus polling, the time base, meters, indicators, rack stop and
generic inputs (17_management.md).
-/
namespace Sys2Proof.Machine

/-! ### Who is answered -/

/-- The management island runs and the pads of the transport are released (R420). -/
def State.mgmtOn (s : State) (c : Channel) : Bool :=
  s.boot.pwrgood && !s.pwr.off && !s.pwr.dead && s.fld Reg.PWR_STAT Fld.PWR_STAT_STATE != 3 && decide (2 ≤ s.phase) &&
    !s.mgmt.restarting &&
    !bitAt (s.fld Reg.PWR_PADREL Fld.PWR_PADREL_LATCHED) (match c with | .i3c => 3 | .eth => 5)
/-- The part is shut down (R455). -/
def State.shutDown (s : State) : Bool := s.thm.step == 6
/-- Full service: READY and not in a thermal shutdown (R369, R455). -/
def State.mgmtReady (s : State) : Bool := s.phase == 9 && s.thm.step == 0
/-- A restart is accepted in a shutdown once every diode reads below T3 - H3 (R455). -/
def State.coolEnough (s : State) : Bool := s.allBelow (List.range 20) (s.coneClear Reg.THM_CONE3)

/-- Terms of R510 for a request. -/
inductive Access where
  | open_ | session | sessionOnEth
  deriving DecidableEq, Repr

/-- Whether a request is authorised (R510): a session means one authenticated mutually against an operator key. -/
def State.authorised (s : State) (a : Access) (c : Channel) (sess : Option Nat) : Bool :=
  let ses := match sess with
    | some i => s.operatorSession i
    | none => false
  match a with
  | .open_ => true
  | .session => ses
  | .sessionOnEth => c == .i3c || ses

/-- The 32-byte status message (R511): CAUSE, BOOT, DETAIL, ID, SERIAL, ELAPSED (its milliseconds are not counted by the
model and stay open). -/
def State.statusMessage (s : State) (seq : Nat) : State :=
  let cause := if s.shutDown then 3 else if s.phase = 15 then 2 else 1
  let (e, s) := s.freshNat
  s.reply { chan := .eth, seq := seq, name := "Status", code := .notReady,
            data := [cause, s.rd Reg.CFG_BOOT, if cause = 3 then s.rd Reg.THM_HOT else s.rd Reg.CFG_BOOTREC, s.rd Reg.GCTL_ID,
                     Config.serial.toNat % 2 ^ 32, Config.serial.toNat / 2 ^ 32, min 0xFFFFFFFF e] }

/-- The SEQ that an answer on the management Ethernet echoes, and the requests still in work (R509). -/
def State.popReq (s : State) (c : Channel) : Option (Nat × State) :=
  match c with
  | .i3c => some (0, s)
  | .eth =>
    match s.mgmt.ethReqs with
    | q :: rest => some (q, { s with mgmt := { s.mgmt with ethReqs := rest } })
    | [] => none

/-- Serve one management request: nothing while the island is off; "not ready" before READY and in a shutdown, but for the
exceptions of R385 and R455; refused when R510 does not authorise it; else `f`, which answers with the echoed SEQ. On Ethernet
the request must have come in a datagram (MGMT_DATAGRAM). -/
def State.request (s : State) (c : Channel) (sess : Option Nat) (name : String) (a : Access) (early : Bool)
    (f : State → (Completion → List Nat → State → State) → State) : State :=
  if !s.mgmtOn c then s
  else
    match s.popReq c with
    | none => s
    | some (q, s) =>
      let answer (code : Completion) (d : List Nat) (s : State) : State := s.reply { chan := c, seq := q, name := name, code := code, data := d }
      if !s.mgmtReady && !early then answer .notReady [] s
      else if !s.authorised a c sess then answer .unauthorised [] s
      else f s answer

/-- A request that only reports. -/
def State.report (s : State) (c : Channel) (sess : Option Nat) (name : String) (a : Access) (d : State → List Nat) : State :=
  s.request c sess name a false fun s answer => answer .success (d s) s

/-- MGMT_DATAGRAM (R508, R509, R511): dropped when it is no management datagram, when 8 requests are in work or when its
message type is not served; answered with a status message before READY and in a shutdown, unless R385 or R455 accept it. -/
def execMgmtDatagram (d : Datagram) (s : State) : Host.Outcome State Fault Refusal :=
  .next (
    if !s.mgmtOn .eth ∨ d.port ≠ 59160 ∨ 1518 < d.frameLen ∨ d.magic ≠ 0x4D48 ∨ d.version ≠ 1 ∨
       !([0, 1, 5, 6].contains d.mtype) ∨ d.bodyLen < 1 ∨ 1400 < d.bodyLen then s
    else
      let accept := s.mgmtReady || (s.phase == 15 && d.kind != .request) || (s.shutDown && d.kind == .restart && s.coolEnough)
      if !accept then s.statusMessage d.seq
      else if 8 ≤ s.mgmt.ethReqs.length then s
      else { s with mgmt := { s.mgmt with ethReqs := s.mgmt.ethReqs ++ [d.seq] } })

/-! ### I3C and MCTP -/

/-- GETSTATUS (R512): vendor bits 15:8. -/
def execGetstatus (s : State) : Host.Outcome State Fault Refusal :=
  .next (if !s.mgmtOn .i3c then s
    else s.reply { chan := .i3c, name := "GETSTATUS", code := .success,
                   data := [2 ^ 8 * s.fld Reg.LOG_STAT Fld.LOG_STAT_RSFAIL + 2 ^ 9 * s.fld Reg.LOG_STAT Fld.LOG_STAT_PFAIL +
                            2 ^ 10 * b2n (!s.mgmtReady) + 2 ^ 11 * b2n (s.mgmt.evI3c != [])] })
/-- SETDASA (R512): a dynamic address for the static address 0x30 + STRAP_I3CADDR. -/
def execSetdasa (static dyn : BitVec 7) (s : State) : Host.Outcome State Fault Refusal :=
  .next (if s.mgmtOn .i3c ∧ static.toNat = 0x30 + s.fld Reg.GCTL_STRAP Fld.GCTL_STRAP_I3CADDR then
    { s with mgmt := { s.mgmt with dynAddr := dyn.toNat } } else s)
/-- ENTDAA (R512). -/
def execEntdaa (dyn : BitVec 7) (s : State) : Host.Outcome State Fault Refusal :=
  .next (if s.mgmtOn .i3c then { s with mgmt := { s.mgmt with dynAddr := dyn.toNat } } else s)

/-- SET_ENDPOINT_ID (R513). -/
def execSetEndpointId (c : Channel) (eid : BitVec 8) (s : State) : Host.Outcome State Fault Refusal :=
  .next (s.request c none "Set Endpoint ID" .open_ false fun s answer =>
    answer .success [eid.toNat] (match c with
      | .eth => { s with mgmt := { s.mgmt with eidEth := eid.toNat } }
      | .i3c => { s with mgmt := { s.mgmt with eidI3c := eid.toNat } }))
/-- GET_ENDPOINT_ID (R513). -/
def execGetEndpointId (c : Channel) (s : State) : Host.Outcome State Fault Refusal :=
  .next (s.report c none "Get Endpoint ID" .open_ fun s => [match c with | .eth => s.mgmt.eidEth | .i3c => s.mgmt.eidI3c])
/-- GET_ENDPOINT_UUID (R513). -/
def execGetEndpointUuid (c : Channel) (s : State) : Host.Outcome State Fault Refusal :=
  .next (s.report c none "Get Endpoint UUID" .open_ fun _ => [Config.digest 0 0])
/-- GET_MCTP_VERSION_SUPPORT (R513): base specification 1.3. -/
def execGetMctpVersionSupport (c : Channel) (s : State) : Host.Outcome State Fault Refusal :=
  .next (s.report c none "Get MCTP Version Support" .open_ fun _ => [1, 3])
/-- GET_MESSAGE_TYPE_SUPPORT (R509, R513): control, PLDM, SPDM, secured messages. -/
def execGetMessageTypeSupport (c : Channel) (s : State) : Host.Outcome State Fault Refusal :=
  .next (s.report c none "Get Message Type Support" .open_ fun _ => [0, 1, 5, 6])

/-! ### PLDM -/

/-- The PLDM types supported (R514). -/
def pldmTypes : List Nat := [0, 2, 4, 5, 63]

/-- GETTID (R514). -/
def execGettid (c : Channel) (sess : Option Nat) (s : State) : Host.Outcome State Fault Refusal :=
  .next (s.report c sess "GetTID" .sessionOnEth fun s => [s.mgmt.tid])
/-- SETTID (R514). -/
def execSettid (c : Channel) (sess : Option Nat) (tid : BitVec 8) (s : State) : Host.Outcome State Fault Refusal :=
  .next (s.request c sess "SetTID" .sessionOnEth false fun s answer =>
    answer .success [] { s with mgmt := { s.mgmt with tid := tid.toNat } })
/-- GETPLDMVERSION (R514): of a supported type; the version number is the DSP's, which the spec does not give. -/
def execGetpldmversion (c : Channel) (sess : Option Nat) (type : BitVec 8) (s : State) : Host.Outcome State Fault Refusal :=
  .next (s.request c sess "GetPLDMVersion" .sessionOnEth false fun s answer =>
    if pldmTypes.contains type.toNat then answer .success [Config.digest 1 type.toNat] s else answer .unsupported [] s)
/-- GETPLDMTYPES (R514). -/
def execGetpldmtypes (c : Channel) (sess : Option Nat) (s : State) : Host.Outcome State Fault Refusal :=
  .next (s.report c sess "GetPLDMTypes" .sessionOnEth fun _ => pldmTypes)
/-- GETPLDMCOMMANDS (R514): how many commands of the type are supported. -/
def execGetpldmcommands (c : Channel) (sess : Option Nat) (type : BitVec 8) (s : State) : Host.Outcome State Fault Refusal :=
  .next (s.request c sess "GetPLDMCommands" .sessionOnEth false fun s answer =>
    match [(0, 5), (2, 7), (4, 2), (5, 13), (63, 5)].find? fun e => e.1 == type.toNat with
    | some (_, n) => answer .success [n] s
    | none => answer .unsupported [] s)
/-- GETPDRREPOSITORYINFO (R514): the numeric sensors (20 diodes, 9 rail inputs, package and array power, board temperature, 8
stacks) and the state sensors (4 indicators, rack stop, 8 inputs). -/
def execGetpdrrepositoryinfo (c : Channel) (sess : Option Nat) (s : State) : Host.Outcome State Fault Refusal :=
  .next (s.report c sess "GetPDRRepositoryInfo" .sessionOnEth fun _ => [40 + 13])
/-- GETPDR (R514): the record of a sensor; its bytes are the DSP's. -/
def execGetpdr (c : Channel) (sess : Option Nat) (rec : Nat) (s : State) : Host.Outcome State Fault Refusal :=
  .next (s.request c sess "GetPDR" .sessionOnEth false fun s answer =>
    if rec < 53 then answer .success [rec, Config.digest 2 rec] s else answer .invalid [] s)

/-- A numeric sensor's value (R514), as a two's-complement word. -/
def State.sensorValue (s : State) (x : Sensor) : Option Nat :=
  match x with
  | .diode i => (nth none s.thm.diodes i).map (unsign 32)
  | .rail i => if 20 ≤ i ∧ i ≤ 28 then some (unsign 32 (SMap.get (fun _ => 0) s.thm.rails i)) else none
  | .packagePower => some (s.fld Reg.PWR_PMEAS Fld.PWR_PMEAS_PKG)
  | .arrayPower => some (s.fld Reg.PWR_PMEAS Fld.PWR_PMEAS_ARRAY)
  | .board => if s.fld Reg.THM_BTEMP Fld.THM_BTEMP_VALID = 1 then some (s.fld Reg.THM_BTEMP Fld.THM_BTEMP_TEMP) else none
  | .stack m => if m < 8 then some (s.fld (Reg.HBM_TEMP m) Fld.HBM_TEMP_TEMP) else none
/-- GETSENSORREADING (R514). -/
def execGetsensorreading (c : Channel) (sess : Option Nat) (x : Sensor) (s : State) : Host.Outcome State Fault Refusal :=
  .next (s.request c sess "GetSensorReading" .sessionOnEth false fun s answer =>
    match s.sensorValue x with
    | some v => answer .success [v] s
    | none => answer .invalid [] s)
/-- A state sensor's value (R514): indicator diagnosis, rack stop, accepted level of an input. -/
def State.stateSensor (s : State) (x : StateSensor) : Nat :=
  match x with
  | .indicator n => bits (s.rd Reg.IND_STAT) (2 * (n % 4)) 2
  | .rackStop => s.fld Reg.IND_RSSTAT Fld.IND_RSSTAT_STOP
  | .gpi i => bits (s.rd Reg.IND_GPISTAT) (i % 8) 1
/-- GETSTATESENSORREADINGS (R514). -/
def execGetstatesensorreadings (c : Channel) (sess : Option Nat) (x : StateSensor) (s : State) : Host.Outcome State Fault Refusal :=
  .next (s.report c sess "GetStateSensorReadings" .sessionOnEth fun s => [s.stateSensor x])

/-- SETEVENTRECEIVER (R515, R535): one receiver for each transport; deregistering discards the queued events. -/
def execSeteventreceiver (c : Channel) (sess : Option Nat) (on : Bool) (s : State) : Host.Outcome State Fault Refusal :=
  .next (s.request c sess "SetEventReceiver" .sessionOnEth false fun s answer =>
    answer .success [] (match c with
      | .eth => { s with mgmt := { s.mgmt with rcvEth := on, evEth := if on then s.mgmt.evEth else [] } }
      | .i3c => { s with mgmt := { s.mgmt with rcvI3c := on, evI3c := if on then s.mgmt.evI3c else [] } }))
/-- POLLFORPLATFORMEVENTMESSAGE (R515): the oldest event of the polling receiver. -/
def execPollforplatformeventmessage (c : Channel) (sess : Option Nat) (s : State) : Host.Outcome State Fault Refusal :=
  .next (s.request c sess "PollForPlatformEventMessage" .sessionOnEth false fun s answer =>
    match c, s.mgmt.evI3c with
    | .i3c, e :: rest => answer .success (eventReply .i3c e).data { s with mgmt := { s.mgmt with evI3c := rest } }
    | _, _ => answer .success [] s)
/-- GETFRURECORDTABLEMETADATA (R514); the table's bytes are not given by the spec. -/
def execGetfrurecordtablemetadata (c : Channel) (sess : Option Nat) (s : State) : Host.Outcome State Fault Refusal :=
  .next (s.report c sess "GetFRURecordTableMetadata" .sessionOnEth fun _ => [Config.digest 3 0])
/-- GETFRURECORDTABLE (R514). -/
def execGetfrurecordtable (c : Channel) (sess : Option Nat) (s : State) : Host.Outcome State Fault Refusal :=
  .next (s.report c sess "GetFRURecordTable" .sessionOnEth fun _ => [Config.digest 3 1])

/-! ### Firmware update -/

/-- The components (R516). -/
def updateComps : List Nat := [1, 2, 0x10, 0x11, 0x20]
/-- The size of a component's area in bytes; slots and test content use the areas of the weight flash (R343). -/
def State.areaSize (s : State) (comp : Nat) : Nat :=
  if comp = 1 ∨ comp = 2 then 0x1000000 else s.flashArea comp
/-- An update request is authorised as R510 asks: a configuration copy is open, the other components need a session. -/
def compAccess (comp : Nat) : Access := if comp = 1 ∨ comp = 2 then .open_ else .session
/-- Update requests are served in FAILED too (R385). -/
def State.updateEarly (s : State) : Bool := s.phase == 15 && s.thm.step == 0

/-- QUERYDEVICEIDENTIFIERS (R514). -/
def execQuerydeviceidentifiers (c : Channel) (sess : Option Nat) (s : State) : Host.Outcome State Fault Refusal :=
  .next (s.request c sess "QueryDeviceIdentifiers" .open_ s.updateEarly fun s answer => answer .success [s.rd Reg.GCTL_ID] s)
/-- GETFIRMWAREPARAMETERS (R514): the components. -/
def execGetfirmwareparameters (c : Channel) (sess : Option Nat) (s : State) : Host.Outcome State Fault Refusal :=
  .next (s.request c sess "GetFirmwareParameters" .open_ s.updateEarly fun s answer => answer .success updateComps s)
/-- REQUESTUPDATE (R516): enters update mode. -/
def execRequestupdate (c : Channel) (sess : Option Nat) (s : State) : Host.Outcome State Fault Refusal :=
  .next (s.request c sess "RequestUpdate" .open_ s.updateEarly fun s answer =>
    match s.mgmt.update with
    | some _ => answer .refused [] s
    | none => answer .success [] { s with mgmt := { s.mgmt with update := some { chan := c, stage := 1 } } })
/-- PASSCOMPONENTTABLE (R516). -/
def execPasscomponenttable (c : Channel) (sess : Option Nat) (s : State) : Host.Outcome State Fault Refusal :=
  .next (s.request c sess "PassComponentTable" .open_ s.updateEarly fun s answer =>
    match s.mgmt.update with
    | some u => answer .success [] { s with mgmt := { s.mgmt with update := some { u with stage := 2 } } }
    | none => answer .refused [] s)
/-- UPDATECOMPONENT (R516): refused for a slot that a load is reading, for a slot or test content while the record store has
failed, for a component larger than its area; else the part asks for the data. -/
def execUpdatecomponent (c : Channel) (sess : Option Nat) (comp : BitVec 16) (size : Nat) (s : State) : Host.Outcome State Fault Refusal :=
  .next (s.request c sess "UpdateComponent" (compAccess comp.toNat) s.updateEarly fun s answer =>
    let n := comp.toNat
    match s.mgmt.update with
    | none => answer .refused [] s
    | some u =>
      if !updateComps.contains n ∨ s.areaSize n < size ∨ (3 ≤ n ∧ s.fld Reg.LOG_STAT Fld.LOG_STAT_RSFAIL = 1) ∨
         (s.wts.loads.any fun l => n == 0x10 + l.slot) ∨ (s.phase = 15 ∧ 3 ≤ n) then answer .refused [] s
      else
        let s := answer .success [] { s with mgmt := { s.mgmt with update := some { u with stage := 3, comp := n, size := size, got := 0 } } }
        s.reply { chan := u.chan, name := "RequestFirmwareData", code := .success, data := [n, 0] })

/-- Steps 1 to 4, 6 and 7 of R379 on a configuration copy: the reason code of the first failure, 0 when it passes. A revoked
or undefined key fails step 6 (R496). Step 5 is judged where the copy is read. -/
def State.copyVerdict (s : State) (c : CfgImage) : Nat :=
  if !c.shape then 1
  else if c.major ≠ 1 then 2
  else if c.target ≠ s.fld Reg.GCTL_ID Fld.GCTL_ID_PART then 3
  else if c.serial ≠ 0 ∧ c.serial ≠ Config.serial.toNat then 4
  else if 4 ≤ c.keyId ∨ bitAt s.sec.revoked c.keyId ∨ !c.sigOk then 6
  else if c.svn < s.sec.minSvn then 7
  else 0

/-- Write a component's content into its area (R516) and judge its checks: content of another kind than the component fails. -/
def State.writeComponent (s : State) (comp : Nat) (x : FwContent) : Bool × State :=
  match x with
  | .config img =>
    if comp = 1 then (s.copyVerdict img == 0, { s with boot := { s.boot with copy0 := some img } })
    else if comp = 2 then (s.copyVerdict img == 0, { s with boot := { s.boot with copy1 := some img } })
    else (false, s)
  | .slot img =>
    let ok := img.hdrOk && img.major == 1 && img.target == s.fld Reg.GCTL_ID Fld.GCTL_ID_PART && img.tabOk
    if comp = 0x10 then (ok, { s with wts := { s.wts with slot0 := some img } })
    else if comp = 0x11 then (ok, { s with wts := { s.wts with slot1 := some img } })
    else (false, s)
  | .test t =>
    if comp = 0x20 then (t.hdrOk && t.tabOk && t.sets.all (·.crcOk), { s with log := { s.log with test := some t } })
    else (false, s)

/-- FIRMWARE_DATA_RECEIVED (R516): a response to RequestFirmwareData; with the last one the content is complete, the part sends
TransferComplete, writes the area and verifies it. A failed verify bars the component until it is written again. -/
def execFirmwareDataReceived (bytes : Nat) (content : Option FwContent) (s : State) : Host.Outcome State Fault Refusal :=
  .next (
    match s.mgmt.update with
    | none => s
    | some u =>
      if u.stage ≠ 3 then s
      else
        match content with
        | none =>
          let got := min u.size (u.got + bytes)
          let s := { s with mgmt := { s.mgmt with update := some { u with got := got } } }
          s.reply { chan := u.chan, name := "RequestFirmwareData", code := .success, data := [u.comp, got] }
        | some x =>
          let s := s.reply { chan := u.chan, name := "TransferComplete", code := .success, data := [u.comp] }
          let (ok, s) := s.writeComponent u.comp x
          let bad := s.mgmt.badComps.filter fun n => n != u.comp
          let s := { s with mgmt := { s.mgmt with
              update := some { u with stage := if ok then 5 else 6, got := u.size }
              badComps := if ok then bad else bad ++ [u.comp] } }
          let s := s.reply { chan := u.chan, name := "VerifyComplete", code := if ok then .success else .invalid, data := [u.comp] }
          s.when ok fun s => s.reply { chan := u.chan, name := "ApplyComplete", code := .success, data := [u.comp] })

/-- ACTIVATEFIRMWARE (R516): no activation; the time of effect is "at next reset". Update mode ends. -/
def execActivatefirmware (c : Channel) (sess : Option Nat) (s : State) : Host.Outcome State Fault Refusal :=
  .next (s.request c sess "ActivateFirmware" .open_ s.updateEarly fun s answer =>
    match s.mgmt.update with
    | some _ => answer .success [1] { s with mgmt := { s.mgmt with update := none } }
    | none => answer .refused [] s)
/-- GETSTATUS_PLDM (R514): stage and component of the update. -/
def execGetstatusPldm (c : Channel) (sess : Option Nat) (s : State) : Host.Outcome State Fault Refusal :=
  .next (s.request c sess "GetStatus" .open_ s.updateEarly fun s answer =>
    match s.mgmt.update with
    | some u => answer .success [u.stage, u.comp, u.got] s
    | none => answer .success [0] s)
/-- CANCELUPDATECOMPONENT (R514). -/
def execCancelupdatecomponent (c : Channel) (sess : Option Nat) (s : State) : Host.Outcome State Fault Refusal :=
  .next (s.request c sess "CancelUpdateComponent" .open_ s.updateEarly fun s answer =>
    match s.mgmt.update with
    | some u => answer .success [] { s with mgmt := { s.mgmt with update := some { u with stage := 2, comp := 0, size := 0, got := 0 } } }
    | none => answer .refused [] s)
/-- CANCELUPDATE (R514). -/
def execCancelupdate (c : Channel) (sess : Option Nat) (s : State) : Host.Outcome State Fault Refusal :=
  .next (s.request c sess "CancelUpdate" .open_ s.updateEarly fun s answer =>
    answer .success [] { s with mgmt := { s.mgmt with update := none } })

/-! ### OEM reads -/

/-- READMETER (R514, R525): the words of a live set. -/
def execReadmeter (c : Channel) (sess : Option Nat) (set : Fin 1088) (s : State) : Host.Outcome State Fault Refusal :=
  .next (s.report c sess "ReadMeter" .session fun s => s.meterWords set)
/-- READHISTORY (R514, R526). -/
def execReadhistory (c : Channel) (sess : Option Nat) (entry : Fin 16384) (s : State) : Host.Outcome State Fault Refusal :=
  .next (s.report c sess "ReadHistory" .session fun s => s.histWords entry)
/-- READLOG (R514): the log ring or the reserved sector. -/
def execReadlog (c : Channel) (sess : Option Nat) (nor : Bool) (entry : Fin 16384) (s : State) : Host.Outcome State Fault Refusal :=
  .next (s.report c sess "ReadLog" .session fun s => s.logWords nor entry)
/-- READSTUCKMAP (R84): the exported map, with the IMAGE_ID last loaded. -/
def execReadstuckmap (c : Channel) (sess : Option Nat) (s : State) : Host.Outcome State Fault Refusal :=
  .next (s.report c sess "ReadStuckMap" .session fun s => wordsOf (s.stuckMap s.wts.lastImage))
/-- READSHUTDOWNRECORDS (R514, R457). -/
def execReadshutdownrecords (c : Channel) (sess : Option Nat) (s : State) : Host.Outcome State Fault Refusal :=
  .next (s.report c sess "ReadShutdownRecords" .session fun s => (s.thm.area.map fun r => wordsOf r.bytes).flatten)

/-! ### SPDM -/

/-- Set how far the negotiation of a transport has come. -/
def State.spdmStage (s : State) (c : Channel) (n : Nat) : State :=
  match c with
  | .eth => { s with mgmt := { s.mgmt with connEth := { stage := n } } }
  | .i3c => { s with mgmt := { s.mgmt with connI3c := { stage := n } } }

/-- GET_VERSION (R517): 1.2 and 1.3. -/
def execGetVersion (c : Channel) (s : State) : Host.Outcome State Fault Refusal :=
  .next (s.request c none "GET_VERSION" .open_ false fun s answer => answer .success [0x12, 0x13] (s.spdmStage c 1))
/-- GET_CAPABILITIES (R517). -/
def execGetCapabilities (c : Channel) (s : State) : Host.Outcome State Fault Refusal :=
  .next (s.request c none "GET_CAPABILITIES" .open_ false fun s answer => answer .success [Config.digest 4 0] (s.spdmStage c 2))
/-- NEGOTIATE_ALGORITHMS (R517): ECDSA P-384, SHA-384, secp384r1, AES-256-GCM, DMTF measurements (as 1 to 5), when the requester
offers them all. -/
def execNegotiateAlgorithms (c : Channel) (offered : Bool) (s : State) : Host.Outcome State Fault Refusal :=
  .next (s.request c none "NEGOTIATE_ALGORITHMS" .open_ false fun s answer =>
    if offered then answer .success [1, 2, 3, 4, 5] (s.spdmStage c 3) else answer .unsupported [] s)
/-- GET_DIGESTS (R517): slots 0 and 1. -/
def execGetDigests (c : Channel) (s : State) : Host.Outcome State Fault Refusal :=
  .next (s.report c none "GET_DIGESTS" .open_ fun _ => [Config.digest 5 0, Config.digest 5 1])
/-- GET_CERTIFICATE (R498): slot 0 the device identity chain, slot 1 with the alias certificate. -/
def execGetCertificate (c : Channel) (slot : BitVec 4) (s : State) : Host.Outcome State Fault Refusal :=
  .next (s.request c none "GET_CERTIFICATE" .open_ false fun s answer =>
    if slot.toNat < 2 then answer .success [Config.digest 6 slot.toNat] s else answer .invalid [] s)
/-- The module can sign and draw random numbers (R491). -/
def State.secFull (s : State) : Bool := s.secState == 2 || s.secState == 5
/-- CHALLENGE (R517): signed with the alias key; it needs DRBG output. -/
def execChallenge (c : Channel) (s : State) : Host.Outcome State Fault Refusal :=
  .next (s.request c none "CHALLENGE" .open_ false fun s answer =>
    if s.secState = 2 then
      let (x, s) := s.freshNat
      answer .success [x] s
    else answer .refused [] s)

/-- The PMASK column of a partition: bit t for each tenant registered to it. -/
def State.pmaskColumn (s : State) (p : Nat) : Nat := (s.sec.tenants.filter fun t => bitAt t.pmask p).foldl (fun m t => m + 2 ^ t.id) 0
/-- A measurement block (R499); none for an index that is not used. -/
def State.measurement (s : State) (i : Nat) : Option (List Nat) :=
  let cid := match s.boot.image with
    | some c => [c.configId, c.svn, c.keyId]
    | none => []
  if i = 1 then some [Config.digest 7 0]
  else if i = 2 ∨ i = 3 then some [Config.digest 7 (i + 4 * (s.rd Reg.CFG_ID))]
  else if i = 4 then some (Config.digest 7 4 :: cid)
  else if i = 5 then some [s.rd Reg.GCTL_SKU, s.rd Reg.SEC_STAT, s.rd Reg.SEC_DBG, s.rd Reg.SEC_MINSVN, s.rd Reg.LNK_CHIP]
  else if 16 ≤ i ∧ i < 80 then
    let p := i - 16
    some [s.rd (Reg.FLS_PLOAD p), (SMap.get (fun _ => ({} : JPart)) s.wts.jparts p).imageId,
          Config.digest 8 (SMap.get (fun _ => 0) s.wts.loadedSigs p), s.pmaskColumn p]
  else none
/-- GET_MEASUREMENTS (R499). -/
def execGetMeasurements (c : Channel) (index : BitVec 8) (s : State) : Host.Outcome State Fault Refusal :=
  .next (s.request c none "GET_MEASUREMENTS" .open_ false fun s answer =>
    match s.measurement index.toNat with
    | some d => answer .success d s
    | none => answer .invalid [] s)
/-- KEY_EXCHANGE (R517): a session, at most 4 at once; `root` names the public key in which the requester's chain ends when
mutual authentication succeeded. It needs DRBG output. -/
def execKeyExchange (c : Channel) (root : Option Nat) (s : State) : Host.Outcome State Fault Refusal :=
  .next (s.request c none "KEY_EXCHANGE" .open_ false fun s answer =>
    if 4 ≤ s.mgmt.sessions.length ∨ !s.secFull then answer .refused [] s
    else
      let op := match root with
        | some k => s.sec.signers.any fun g => g.1 == k && g.2 == 0xFFFF
        | none => false
      let x : Session := { id := s.mgmt.nextSession, chan := c, authed := root.isSome, operator := op, finished := false }
      answer .success [x.id] { s with mgmt := { s.mgmt with sessions := s.mgmt.sessions ++ [x], nextSession := s.mgmt.nextSession + 1 } })
/-- Change a session, answering with an error when there is none. -/
def State.onSession (s : State) (c : Channel) (id : Nat) (name : String) (f : Session → List Session) : State :=
  s.request c none name .open_ false fun s answer =>
    if s.mgmt.sessions.any fun x => x.id == id then
      answer .success [id] { s with mgmt := { s.mgmt with
        sessions := (s.mgmt.sessions.map fun x => if x.id == id then f x else [x]).flatten } }
    else answer .invalid [] s
/-- FINISH (R517): `ok` tells whether its verify data and signature check; a failure ends the session. -/
def execFinish (c : Channel) (id : Nat) (ok : Bool) (s : State) : Host.Outcome State Fault Refusal :=
  .next (s.onSession c id "FINISH" fun x => if ok then [{ x with finished := true }] else [])
/-- HEARTBEAT (R517). -/
def execHeartbeat (c : Channel) (id : Nat) (s : State) : Host.Outcome State Fault Refusal :=
  .next (s.onSession c id "HEARTBEAT" fun x => [x])
/-- KEY_UPDATE (R517). -/
def execKeyUpdate (c : Channel) (id : Nat) (s : State) : Host.Outcome State Fault Refusal :=
  .next (s.onSession c id "KEY_UPDATE" fun x => [{ x with keyEpoch := x.keyEpoch + 1 }])
/-- END_SESSION (R517). -/
def execEndSession (c : Channel) (id : Nat) (s : State) : Host.Outcome State Fault Refusal :=
  .next (s.onSession c id "END_SESSION" fun _ => [])
/-- RESPOND_IF_READY (R517): every request of the model is answered at once, so none is deferred. -/
def execRespondIfReady (c : Channel) (s : State) : Host.Outcome State Fault Refusal :=
  .next (s.request c none "RESPOND_IF_READY" .open_ false fun s answer => answer .invalid [] s)
/-- SPDM_HEARTBEAT_EXPIRY (R517): the 60 s period of a session lapses. -/
def execSpdmHeartbeatExpiry (id : Nat) (s : State) : Host.Outcome State Fault Refusal :=
  .next { s with mgmt := { s.mgmt with sessions := s.mgmt.sessions.filter fun x => x.id != id } }

/-! ### PMBus -/

/-- PMBUS_POLL (R518, R519): the answers of the devices that answered; a device that misses three polls running is absent. -/
def execPmbusPoll (answers : List PmbusReading) (s : State) : Host.Outcome State Fault Refusal :=
  let one (d : PmbusDev) : PmbusDev :=
    match answers.find? fun a => a.addr == d.addr with
    | some a => { d with vout := a.vout, iout := a.iout, temp := a.temp, status := a.status, missed := 0, absent := false }
    | none => { d with missed := d.missed + 1, absent := decide (3 ≤ d.missed + 1), iout := if 3 ≤ d.missed + 1 then d.iocLimit else d.iout }
  .next (if s.phase = 8 ∨ s.phase = 9 then { s with mgmt := { s.mgmt with pmbus := s.mgmt.pmbus.map one } } else s)

/-- SMBALERT (R518): STATUS_WORD of every polled device is read, each set bit reported as a sensor event, and faults cleared. -/
def execSmbalert (answers : List PmbusReading) (s : State) : Host.Outcome State Fault Refusal :=
  .next (
    if s.phase ≠ 8 ∧ s.phase ≠ 9 then s
    else
      let named := answers.filter fun a => s.mgmt.pmbus.any fun d => d.addr == a.addr
      let s := s.forEach named fun s a => s.forEach ((List.range 16).filter fun b => bitAt a.status b) fun s b => s.sensorEvent 3 a.addr b
      { s with mgmt := { s.mgmt with pmbus := s.mgmt.pmbus.map fun d => { d with status := 0 } } })

/-! ### Time base and meters -/

/-- Write a history record (R528): it takes the next LOG_SEQ value. -/
def State.addHist (s : State) (kind flags id start stop : Nat) (counts : List Nat) : State :=
  let (q, s) := s.takeSeq
  { s with mgmt := { s.mgmt with
      hist := SMap.set (fun _ => none) s.mgmt.hist s.mgmt.histNext (some ⟨kind, flags, id, q, start, stop, counts⟩)
      histNext := (s.mgmt.histNext + 1) % 16384 } }

/-- Close the open period (R526): a record for every set with a non-zero count; the counts return to 0 (the remainders of the
energy stay carried); the new period is the nominal one of the present second. -/
def State.closePeriod (s : State) : State :=
  let m := s.mgmt
  let s := s.forEach m.meters fun s e =>
    if e.2.counts.all (· == 0) then s
    else
      let spare := decide (1024 ≤ e.1)
      s.addHist 1 (b2n m.unsync + 2 * b2n spare + 4 * b2n m.loss) (if spare then e.1 - 1024 else e.1) m.pstart m.pend e.2.counts
  let len := s.fld Reg.MTR_PCFG Fld.MTR_PCFG_LEN
  let k := s.mgmt.secs / len
  { s with mgmt := { s.mgmt with
      meters := (s.mgmt.meters.filter fun e => e.2.rem != 0).map fun e => (e.1, { rem := e.2.rem })
      pstart := k * len
      pend := (k + 1) * len
      unsync := s.fld Reg.MTR_TSTAT Fld.MTR_TSTAT_SYNC == 0
      loss := false } }

/-- SECOND_WRAP (R522, R526, R527): the seconds increment or take a SET that waits; a SET elsewhere than the next second is a
discontinuity; a period whose END is reached closes. -/
def execSecondWrap (s : State) : Host.Outcome State Fault Refusal :=
  let nextSec := s.mgmt.secs + 1
  let s : State :=
    match s.mgmt.setTo with
    | none => { s with mgmt := { s.mgmt with secs := nextSec, nanos := 0 } }
    | some v =>
      let s := (s.setF Reg.MTR_TSTAT Fld.MTR_TSTAT_PEND 0).setF Reg.MTR_TSTAT Fld.MTR_TSTAT_SYNC 1
      let s := { s with mgmt := { s.mgmt with secs := v, nanos := 0, setTo := none } }
      if v = nextSec then s
      else (s.setF Reg.MTR_TSTAT Fld.MTR_TSTAT_DISC 1).addHist 2 0 0xFFFF nextSec v [0, 0, 0, 0, 0, 0]
  .next (if s.mgmt.pend ≤ s.mgmt.secs then s.closePeriod else s)

/-- TIME_SET (R522): a write of MTR_TCMD.SET; a second one before the first applies replaces it. -/
def State.timeSet (s : State) : State :=
  { s.setF Reg.MTR_TSTAT Fld.MTR_TSTAT_PEND 1 with mgmt := { s.mgmt with setTo := some (s.rd64 Reg.MTR_TSET_LO) } }

def execTimeSet (s : State) : Host.Outcome State Fault Refusal := .next s.timeSet

/-- TIME_READ (R521): a read of MTR_TNS when the nanoseconds stand at `nanos` latches both seconds words. -/
def execTimeRead (nanos : Fin 1000000000) (s : State) : Host.Outcome State Fault Refusal :=
  let n := max s.mgmt.nanos nanos
  let s := { s with mgmt := { s.mgmt with nanos := n } }
  .next (((s.wr Reg.MTR_TNS n).wr Reg.MTR_TSEC_LO (s.mgmt.secs % 2 ^ 32)).wr Reg.MTR_TSEC_HI (s.mgmt.secs / 2 ^ 32 % 2 ^ 32))

/-- METER_SNAPSHOT (R525): a write of MTR_MIDX latches the whole set. -/
def State.meterSnapshot (s : State) (w : Nat) : State :=
  if 1087 < bits w 16 14 ∨ 15 < bits w 0 5 then s.setF Reg.MTR_TSTAT Fld.MTR_TSTAT_WREJ 1
  else
    let s := s.wr Reg.MTR_MIDX (bits w 16 14 * 2 ^ 16 + bits w 0 5)
    { s with mgmt := { s.mgmt with snap := s.meterWords (bits w 16 14) } }

def execMeterSnapshot (w : Word) (s : State) : Host.Outcome State Fault Refusal := .next (s.meterSnapshot w.toNat)

/-- METER_PERSIST (R524): every 100 ms, inside the write window of R456, while the record store works. Journal entries reach
the record store with it (log entry 25). -/
def execMeterPersist (s : State) : Host.Outcome State Fault Refusal :=
  .next (
    if !s.writeWindow ∨ s.fld Reg.LOG_STAT Fld.LOG_STAT_RSFAIL = 1 then s
    else { s with
      mgmt := { s.mgmt with stored := s.mgmt.meters, persisted := s.mgmt.secs }
      wts := { s.wts with jstore := s.wts.jtiles } })

/-! ### Board inputs and outputs -/

/-- INDICATOR_DIAGNOSIS (R530): a round of indicator n; `opened` is the comparator's finding, `dark` a BLINK off phase. -/
def execIndicatorDiagnosis (n : QuadNo) (opened dark : Bool) (s : State) : Host.Outcome State Fault Refusal :=
  let w := s.rd (Reg.IND_CFG n)
  let long := decide (5120 ≤ 10 * bits w 0 8 * bits w 8 9)
  let done := bits w 28 2 == 2 && bits w 8 9 != 0 && !dark && (long || bitAt w 31) && !(n.val == 0 && (s.phase != 9 || s.failed))
  let found := if !done then 0 else if opened then 2 else 1
  let last := nth 0 s.mgmt.diag n
  let old := bits (s.rd Reg.IND_STAT) (2 * n) 2
  let new := if found = 0 then 0 else if found = last then found else old
  let s := { s with mgmt := { s.mgmt with diag := setNth s.mgmt.diag n found } }
  let s := s.setF Reg.IND_STAT ⟨2 * n, 2⟩ new
  .next (if new = 2 ∧ old ≠ 2 then (s.setF Reg.IND_STAT ⟨16 + n, 1⟩ 1).sensorEvent 0 n 2 else s)

/-- Rack stop asserts (R532): STOP for every running partition, every running load ends with "aborted". -/
def State.rackStop (s : State) : State :=
  let s := s.forEach ((List.range 64).filter fun p => s.run p == 1 || s.run p == 2) State.orderStop
  (s.abortLoads).sensorEvent 1 0 1

/-- Judge whether rack stop is asserted (R532). -/
def State.judgeRackStop (s : State) : State :=
  let w := s.rd Reg.IND_RSSTAT
  let now := bitAt w 0 || bitAt w 1 || bitAt w 3
  let was := bitAt w 2
  let s := s.setF Reg.IND_RSSTAT Fld.IND_RSSTAT_STOP (b2n now)
  if now && !was then s.rackStop else if was && !now then s.sensorEvent 1 0 0 else s

/-- RACKSTOP_ACCEPT (R531): a channel (false A, true B) has been stable for DEB ms; an input still held in its safe state
(R374) is not taken. -/
def execRackstopAccept (b : Bool) (asserted : Bool) (s : State) : Host.Outcome State Fault Refusal :=
  let i := b2n b
  .next (
    if bitAt (s.fld Reg.GCTL_INPUT Fld.GCTL_INPUT_HELD) (2 + i) then s
    else
      let agreed := bitAt (s.rd Reg.IND_RSSTAT) 0 == bitAt (s.rd Reg.IND_RSSTAT) 1
      let s := (s.setF Reg.IND_RSSTAT ⟨i, 1⟩ (b2n asserted))
      let s := { s with boot := { s.boot with slow := putBit s.boot.slow (2 + i) asserted } }
      let differ := bitAt (s.rd Reg.IND_RSSTAT) 0 != bitAt (s.rd Reg.IND_RSSTAT) 1
      let s := s.when (agreed && differ) fun s => { s with mgmt := { s.mgmt with rsFirst := i } }
      s.judgeRackStop)

/-- RACKSTOP_DISCREPANCY (R531): the channels have disagreed for DISC ms. -/
def execRackstopDiscrepancy (s : State) : Host.Outcome State Fault Refusal :=
  .next (
    if bitAt (s.rd Reg.IND_RSSTAT) 0 == bitAt (s.rd Reg.IND_RSSTAT) 1 then s
    else
      let s := s.setF Reg.IND_RSSTAT Fld.IND_RSSTAT_DFAULT 1
      let s := s.sherd { code := 0x81, sev := 2, unit := unitBoard, detail := [(48, s.rd Reg.IND_RSSTAT), (52, s.mgmt.rsFirst)] }
      s.judgeRackStop)

/-- GPI_ACCEPT (R533): a level has been stable for DEB x 0.1 ms. -/
def execGpiAccept (i : Fin 8) (high : Bool) (s : State) : Host.Outcome State Fault Refusal :=
  let cfg := s.rd Reg.IND_GPICFG
  let active := high == bitAt cfg i
  .next (
    if !bitAt cfg (8 + i) ∨ (nth {} s.mgmt.gpi i).frozen then s
    else
      let was := bitAt (s.rd Reg.IND_GPISTAT) i
      let s := s.setF Reg.IND_GPISTAT ⟨i, 1⟩ (b2n active)
      let s := s.when (!active) fun s => s.setF Reg.IND_GPISTAT ⟨8 + i, 1⟩ 0
      s.when (was != active) fun s => s.sensorEvent 2 i (b2n active))

/-- GPI_STUCK (R533): accepted active for 10 s. -/
def execGpiStuck (i : Fin 8) (s : State) : Host.Outcome State Fault Refusal :=
  .next (if bitAt (s.rd Reg.IND_GPISTAT) i then (s.setF Reg.IND_GPISTAT ⟨8 + i, 1⟩ 1).sensorEvent 2 i 2 else s)

/-- GPI_CHATTER_WINDOW (R533): a 10 ms window ends with its count of raw rising edges; above 10 the input is frozen. -/
def execGpiChatterWindow (i : Fin 8) (edges : Nat) (s : State) : Host.Outcome State Fault Refusal :=
  .next (
    if 10 < edges ∧ bitAt (s.rd Reg.IND_GPICFG) (8 + i) then
      let s := s.setF Reg.IND_GPISTAT ⟨16 + i, 1⟩ 1
      { s with mgmt := { s.mgmt with gpi := setNth s.mgmt.gpi i { frozen := true } } }
    else s)

end Sys2Proof.Machine
end

