-- ==== Sys2Proof/Machine/Host.lean ====
section
/-!
DEFINITION. Doorbells, fetch, host commands, copies, interrupts and resets of the host interface (18_host.md).
-/
namespace Sys2Proof.Machine

/-- SQ_DOORBELL (R549): a tail at or above the ring size is a ring error. -/
def State.sqDoorbell (s : State) (p i : Nat) : State :=
  let s := s.wr (Reg.PCI_VSQDB p) i
  if s.fld (Reg.PCI_VSQSIZE p) Fld.PCI_VSQSIZE_ENTRIES ≤ i then s.ringError p 1 else s

def execSqDoorbell (p : PartNo) (i : BitVec 16) (s : State) : Host.Outcome State Fault Refusal := .next (s.sqDoorbell p i.toNat)

/-- CQ_DOORBELL (R548, R549): the head moves past consumed entries; a stream whose stream-end entry is passed becomes FREE. -/
def State.cqDoorbell (s : State) (p i : Nat) : State :=
  let s := s.wr (Reg.PCI_VCQDB p) i
  let f := s.vf p
  let size := s.fld (Reg.PCI_VCQSIZE p) Fld.PCI_VCQSIZE_ENTRIES
  let n := (i + size - f.cqHead) % size
  if size ≤ i ∨ f.cq.length < n then s.ringError p 2
  else
    let gone := f.cq.take n
    let s := s.setVf p { f with cq := f.cq.drop n, cqHead := i }
    s.forEach (gone.filter fun e => e.kind == 3) fun s e =>
      let x := s.stream e.cid
      if x.state = .ended ∧ x.gen = e.gen then s.setStream e.cid { gen := x.gen } else s

def execCqDoorbell (p : PartNo) (i : BitVec 16) (s : State) : Host.Outcome State Fault Refusal := .next (s.cqDoorbell p i.toNat)

/-- A submission entry is a command of R543 with its operands in range. -/
def SqEntry.valid (e : SqEntry) : Bool :=
  e.resOk && (match e.op with
    | 0 => true
    | 1 => e.addr % 64 == 0
    | 2 => decide (e.ctx < 16384)
    | 3 => e.addr % 4 == 0 && e.off % 32 == 0 && e.len % 32 == 0 && decide (32 ≤ e.len) && decide (e.len ≤ 16777216)
    | 4 => e.addr % 4 == 0 && e.off % 32 == 0 && e.len % 32 == 0 && decide (32 ≤ e.len) && decide (e.len ≤ 16777216)
    | 5 => e.addr % 64 == 0 && decide (1 ≤ e.len) && decide (e.len ≤ 16384)
    | 6 => decide (e.ctx < 16)
    | _ => false)

/-- The part issues DMA: it has not failed and is in Run (R557, R558). -/
def State.dmaOn (s : State) : Bool := !s.failed && s.fld Reg.PWR_STAT Fld.PWR_STAT_STATE == 0 && !s.pwr.dead && s.phase == 9

/-- SQ_ENTRY_FETCH (R544, R547, R549): the next entry of the ring is fetched when its completions can be reserved and fewer
than 256 commands are in flight; `none` is an error completion of the fetch. An entry that is no command completes with
status 1. -/
def execSqEntryFetch (p : PartNo) (e : Option SqEntry) (s : State) : Host.Outcome State Fault Refusal :=
  let f := s.vf p
  .next (
    if !s.dmaOn ∨ s.fld (Reg.PCI_VCTL p) Fld.PCI_VCTL_EN = 0 ∨ f.fetchOff ∨ s.rd (Reg.PCI_VSQDB p) = f.sqHead ∨ 256 ≤ f.cmds.length then s
    else
      match e with
      | none => s.ringError p 3
      | some e =>
        if s.cqFree p < (if e.op = 1 then 2 else 1) then s
        else
          let size := s.fld (Reg.PCI_VSQSIZE p) Fld.PCI_VSQSIZE_ENTRIES
          let s := s.setVf p { f with
            sqHead := if size ≤ f.sqHead + 1 then 0 else f.sqHead + 1
            cmds := f.cmds ++ [{ entry := e }] }
          if e.valid then s else s.complete p e.cid 1 0 0)

/-- HOST_NOP (R543). -/
def execHostNop (p : PartNo) (cid : BitVec 16) (s : State) : Host.Outcome State Fault Refusal :=
  .next (match s.startable p cid.toNat 0 with
    | some _ => s.complete p cid.toNat 0 0 0
    | none => s)

/-- The region of a copy (R543, R546): owned by the partition, valid, HOST = 1, not initialising, the copy inside it. -/
def State.copyRegion (s : State) (p : Nat) (e : SqEntry) : Option Nat :=
  match s.handleRegion p e.handle with
  | some r =>
    if s.fld (Reg.HBM_RGNA r) Fld.HBM_RGNA_VALID = 1 ∧ s.fld (Reg.HBM_RGNA r) Fld.HBM_RGNA_PART = p ∧
       s.fld (Reg.HBM_RGNA r) Fld.HBM_RGNA_HOST = 1 ∧ s.fld (Reg.HBM_RGND r) Fld.HBM_RGND_INIT = 0 ∧
       e.off / 32 + e.len / 32 ≤ s.regionSize r then some r
    else none
  | none => none

/-- COPY_IN (R543 to R546): `data` is what the host memory holds, granule by granule with its poison; a shorter list means that
the host answered with an error after it. Each granule becomes an HBM write; granules already written stay written. -/
def execCopyIn (p : PartNo) (cid : BitVec 16) (data : List (Granule × Bool)) (s : State) : Host.Outcome State Fault Refusal :=
  .next (
    match s.startable p cid.toNat 3 with
    | none => s
    | some c =>
      if !s.dmaOn then s
      else
        match s.copyRegion p c.entry with
        | none => s.complete p cid.toNat 2 0 0
        | some r =>
          let n := min (c.entry.len / 32) data.length
          let st := if n < c.entry.len / 32 then 4 else if (data.take n).any (·.2) then 5 else 0
          let g0 := s.regionBase r + c.entry.off / 32
          let reqs := ((data.take n).zipIdx).map fun x =>
            ({ by_ := .copy p cid.toNat x.2, part := p, g := g0 + x.2, write := true, data := x.1.1, poison := x.1.2, ok := true } : HbmReq)
          let s := s.setCmd p cid.toNat fun c => { c with started := true, left := n, status := st }
          { s with hbm := { s.hbm with reqs := s.hbm.reqs ++ reqs } })

/-- COPY_OUT (R543 to R546): each granule becomes an HBM read; what it returns is written to the host. -/
def execCopyOut (p : PartNo) (cid : BitVec 16) (s : State) : Host.Outcome State Fault Refusal :=
  .next (
    match s.startable p cid.toNat 4 with
    | none => s
    | some c =>
      if !s.dmaOn then s
      else
        match s.copyRegion p c.entry with
        | none => s.complete p cid.toNat 2 0 0
        | some r =>
          let n := c.entry.len / 32
          let g0 := s.regionBase r + c.entry.off / 32
          let reqs := (List.range n).map fun i =>
            ({ by_ := .copy p cid.toNat i, part := p, g := g0 + i, write := false, data := 0, poison := false, ok := true } : HbmReq)
          let s := s.setCmd p cid.toNat fun c => { c with started := true, left := n, status := 0 }
          { s with hbm := { s.hbm with reqs := s.hbm.reqs ++ reqs } })

/-- A granule of a copy has been served (R244, R546): data read goes to the host, poisoned data as a poisoned TLP and status 5;
a refused granule gives status 2. -/
def State.copyGranule (s : State) (p cid i : Nat) (r : HbmResp) : State :=
  match (s.vf p).cmds.find? fun c => c.entry.cid == cid with
  | none => s
  | some c =>
    let s := s.setCmd p cid fun c => { c with
      left := c.left - 1
      status := if r.refused then 2 else if r.poison && c.status == 0 then 5 else c.status }
    if r.write ∨ r.refused ∨ s.failed then s
    else { s with host := { s.host with dmaOut := s.host.dmaOut ++ [(p, c.entry.addr + 32 * i, r.data, r.poison)] } }

/-- COPY_DONE (R544, R546): every granule has been acknowledged or accepted; `hostErr` is an error completion of the host. -/
def execCopyDone (p : PartNo) (cid : BitVec 16) (hostErr : Bool) (s : State) : Host.Outcome State Fault Refusal :=
  .next (
    match (s.vf p).cmds.find? fun c => c.entry.cid == cid.toNat && (c.entry.op == 3 || c.entry.op == 4) with
    | some c => if c.started ∧ c.left = 0 then s.complete p cid.toNat (if hostErr then 4 else c.status) 0 0 else s
    | none => s)

/-- T2ADD (R543, R553): at most 16 ranges and 16,384 slots. -/
def execT2add (p : PartNo) (cid : BitVec 16) (s : State) : Host.Outcome State Fault Refusal :=
  .next (
    match s.startable p cid.toNat 5 with
    | none => s
    | some c =>
      let f := s.vf p
      let total := f.ranges.foldl (fun a r => a + r.slots) 0
      match (List.range 16).find? fun i => !(f.ranges.any fun r => r.index == i) with
      | some i =>
        if 16384 < total + c.entry.len then s.complete p cid.toNat 1 0 0
        else
          (s.setVf p { f with ranges := f.ranges ++ [{ index := i, base := c.entry.addr, slots := c.entry.len }] }).complete p cid.toNat 0 0 i
      | none => s.complete p cid.toNat 1 0 0)

/-- T2DEL (R543, R553): status 9 while a slot of the range holds a block. -/
def execT2del (p : PartNo) (cid : BitVec 16) (s : State) : Host.Outcome State Fault Refusal :=
  .next (
    match s.startable p cid.toNat 6 with
    | none => s
    | some c =>
      let f := s.vf p
      match f.ranges.find? fun r => r.index == c.entry.ctx with
      | none => s.complete p cid.toNat 1 0 0
      | some r =>
        if r.used ≠ [] then s.complete p cid.toNat 9 0 0
        else (s.setVf p { f with ranges := f.ranges.filter fun x => x.index != r.index }).complete p cid.toNat 0 0 0)

/-- IRQ_TIMER (R551): the oldest unsignalled entry has waited TIME. -/
def execIrqTimer (p : PartNo) (s : State) : Host.Outcome State Fault Refusal :=
  let f := s.vf p
  .next (if f.sinceIrq = 0 then s else (s.setVf p { f with sinceIrq := 0 }).raiseVf p 0)

/-- RING_ENABLE (R549, R559): a write of PCI_VCTL. Writing 1 sets heads and tails to 0 and the phase to 1; 0 is refused while a
stream is admitted or a command in flight, and clears RERR. -/
def State.ringEnable (s : State) (p : Nat) (on : Bool) : State :=
  let f := s.vf p
  if on then
    let s := ((s.setF (Reg.PCI_VCTL p) Fld.PCI_VCTL_EN 1).wr (Reg.PCI_VSQDB p) 0).wr (Reg.PCI_VCQDB p) 0
    s.setVf p { f with sqHead := 0, cqHead := 0, cqTail := 0, phase := true, cq := [], sinceIrq := 0, fetchOff := false }
  else if f.cmds ≠ [] ∨ (s.srv.streams.any fun e => e.2.state != .free && e.2.part == p) then
    s.setF (Reg.PCI_VSTAT p) Fld.PCI_VSTAT_WREJ 1
  else
    let s := s.setF (Reg.PCI_VCTL p) Fld.PCI_VCTL_EN 0
    let s := (s.setF (Reg.PCI_VSTAT p) Fld.PCI_VSTAT_RERR 0).setF (Reg.PCI_VSTAT p) Fld.PCI_VSTAT_RCAUSE 0
    s.setVf p { s.vf p with fetchOff := true }

def execRingEnable (p : PartNo) (on : Bool) (s : State) : Host.Outcome State Fault Refusal := .next (s.ringEnable p on)

/-- Reset of VF p (R555): commands aborted without entries, its streams end, rings and registrations return to reset, requests
not yet accepted are dropped. -/
def State.vfReset (s : State) (p : Nat) : State :=
  let s := s.flrStreams p
  let s := { s with hbm := { s.hbm with reqs := s.hbm.reqs.filter fun r => match r.by_ with
      | .copy v _ _ => v != p
      | _ => true } }
  let s := s.resetRange (Reg.PCI_VSTAT p) (Reg.PCI_VSTAT p + 4)
  let s := s.resetRange (Reg.PCI_VCTL p) (Reg.PCI_VCQWAIT p + 4)
  let s := (s.resetReg (Reg.PCI_VSQDB p)).resetReg (Reg.PCI_VCQDB p)
  let s := s.setF (Reg.PCI_VSTAT p) Fld.PCI_VSTAT_PRUN (s.run p)
  s.setVf p {}

/-- VF_FLR (R555). -/
def execVfFlr (p : PartNo) (s : State) : Host.Outcome State Fault Refusal := .next (s.vfReset p)

/-- PF_RESET (R556): a reset of every VF; PF MSI-X state and VF Enable are cleared; PCI_STAT shows the link as it is afterwards
(bits 11:2: width, speed, Flit mode, up). -/
def execPfReset (link : BitVec 12) (s : State) : Host.Outcome State Fault Refusal :=
  let s := s.forEach (List.range 64) State.vfReset
  let s := s.wr Reg.PCI_STAT (link.toNat / 4 * 4 + s.rd Reg.PCI_STAT % 2)
  .next { s with host := { s.host with pfMask := 255, pfPba := 0, pfTable := [], vfEnable := false } }

/-- PCIE_CONFIG_REQUEST (R369): Request Retry Status before READY, completed normally from READY. -/
def execPcieConfigRequest (r : CfgReq) (s : State) : Host.Outcome State Fault Refusal :=
  .next (
    if s.phase ≠ 9 ∧ !s.failed then { s with host := { s.host with crs := s.host.crs + 1 } }
    else
      match r with
      | .vfEnable on => { s with host := { s.host with vfEnable := on } }
      | .other => s)

/-- BAR_MISALIGNED_ACCESS (R538): a request that is not 4 bytes aligned to 4 or 8 aligned to 8 is a Completer Abort in AER. -/
def execBarMisalignedAccess (off size : Nat) (s : State) : Host.Outcome State Fault Refusal :=
  .next (if (size = 4 ∧ off % 4 = 0) ∨ (size = 8 ∧ off % 8 = 0) then s
    else { s with host := { s.host with aerCa := s.host.aerCa + 1 } })

end Sys2Proof.Machine
end

