-- ==== Sys2Proof/Machine/Drift.lean ====
section
/-!
DEFINITION. The drift estimators, rounds and commits of a core (R94 to R108).
-/
namespace Sys2Proof.Machine

/-! ### Columns -/

/-- The entry of a spare column of a tile (R83). -/
def State.spareOf (s : State) (k t i : Nat) : Option Nat :=
  if s.fld (Reg.TILE_SPARE k t i) Fld.TILE_SPARE_VALID = 1 then some (s.fld (Reg.TILE_SPARE k t i) Fld.TILE_SPARE_LCOL) else none
/-- The physical column of every logical column of a tile: the spare of lowest index that names it, else its own (R52, R78). -/
def State.physCols (s : State) (k t : Nat) : List Nat :=
  let spares := (List.range 64).filterMap fun i => (s.spareOf k t i).map fun w => (w, sparePcol i)
  (List.range 1024).map fun w => match spares.find? fun e => e.1 == w with
    | some e => e.2
    | none => weightPcol w

/-- The column windows of a tile. -/
def State.colWin (s : State) (k t c : Nat) : ColWin := SMap.get (fun _ => {}) s.core.cols (colKey k t c)
/-- Set a column window. -/
def State.setColWin (s : State) (k t c : Nat) (x : ColWin) : State :=
  { s with core := { s.core with cols := SMap.set (fun _ => ({} : ColWin)) s.core.cols (colKey k t c) x } }

/-! ### Rounds -/

/-- CORE_DCTL.MODE (R107): 0 AUTO, 1 HOLD, 2 MANUAL. -/
def State.dmode (s : State) (k : Nat) : Nat := s.fld (Reg.CORE_DCTL k) Fld.CORE_DCTL_MODE
/-- The shadow set of a core is in BUILD, READY or ARMED. -/
def State.dbusy (s : State) (k : Nat) : Bool :=
  s.fld (Reg.CORE_DSTAT k) Fld.CORE_DSTAT_BUILD == 1 || s.fld (Reg.CORE_DSTAT k) Fld.CORE_DSTAT_READY == 1 ||
    s.fld (Reg.CORE_DSTAT k) Fld.CORE_DSTAT_ARMED == 1
/-- Tiles of a core in states 2 and 3. -/
def State.liveTiles (s : State) (k : Nat) : List Nat := (List.range 1024).filter fun t => s.tileState k t == 2 || s.tileState k t == 3
/-- The coefficients TCG and TCO of a tile (R89); the spec states none while R91 applies. -/
def State.tempCoef (s : State) (k t : Nat) : Int × Int :=
  if s.core.calInvalid then (Config.tcgInvalid, Config.tcoInvalid) else ((s.calOf k t).tcg, (s.calOf k t).tco)

/-- The residual gain and offset of a column from its tile's estimate, the temperatures and its own residual (R101). -/
def residual (est : Option Estimate) (tempEn : Bool) (tcg tco : Int) (ts tc : Rat) (rho : Rat) : Rat × Rat :=
  match est with
  | some e => (b64 (b64 (e.g * rho) * tempGain tcg (ts - e.tw)), b64 (e.o + tempOffset tco (ts - e.tw)))
  | none => if tempEn then (b64 (rho * tempGain tcg (ts - tc)), tempOffset tco (ts - tc)) else (rho, 0)

/-- Build the shadow bank of one tile (R101): the round consumes its estimate and its residuals. -/
def State.buildTile (s : State) (k t : Nat) : State :=
  let d := s.drift k t
  let co := s.tempCoef k t
  let en := s.fld (Reg.CORE_DCTL k) Fld.CORE_DCTL_TEMP_EN == 1
  let ts : Rat := (s.roOf k : Rat) / 4
  let tc : Rat := (d.tcommit : Rat) / 4
  let ws := (List.range 1104).map fun c =>
    let r := residual d.est en co.1 co.2 ts tc (s.colWin k t c).rho
    newWord (s.actWord k t c) r.1 r.2
  let n := ws.foldl (fun a w => a + w.2) 0
  let s := s.setShds k t fun c => (nth (0, 0) ws c).1
  let cols : SMap ColWin := (s.core.cols.map fun e => if e.1 / 2048 = tileKey k t then (e.1, { e.2 with rho := 1 }) else e).filter
    fun e => e.2 != {}
  let s := { s with core := { s.core with cols := cols } }
  let s := s.setDrift k t { d with
    est := none
    tbuild := s.roOf k
    clampShd := n != 0
    built := true
    consumed := d.est.isSome }
  s.countClamps k n

/-- An estimation round starts (R100), in AUTO and HOLD, in neither BUILD, READY nor ARMED. The mode at its start holds for it
and its commit (R105). -/
def State.openRound (s : State) (k : Nat) : State :=
  if s.dbusy k || s.dmode k == 2 then s
  else
    let s := s.setF (Reg.CORE_DSTAT k) Fld.CORE_DSTAT_BUILD 1
    let s := { s with core := { s.core with dmode := SMap.set (fun _ => 0) s.core.dmode k (s.dmode k + 1) } }
    s.forEach (s.liveTiles k) fun s t => s.buildTile k t
/-- The shadow set of a core is armed (R103): `ts` are its tiles. A set without tiles is done at once. -/
def State.armSet (s : State) (k : Nat) (ts : List Nat) : State :=
  let s := (s.setF (Reg.CORE_DSTAT k) Fld.CORE_DSTAT_READY 0).setF (Reg.CORE_DSTAT k) Fld.CORE_DSTAT_ARMED 1
  let s := s.forEach ts fun s t => s.setDrift k t { s.drift k t with armed := true }
  s.commitDone k

/-- BUILD_COMPLETE (R100, R103): a build of AUTO arms, one of HOLD is READY. -/
def State.buildComplete (s : State) (k : Nat) : State :=
  if s.fld (Reg.CORE_DSTAT k) Fld.CORE_DSTAT_BUILD ≠ 1 then s
  else
    let auto := SMap.get (fun _ => 0) s.core.dmode k == 1
    let s := s.setF (Reg.CORE_DSTAT k) Fld.CORE_DSTAT_BUILD 0
    let s := { s with core := { s.core with dmode := SMap.set (fun _ => 0) s.core.dmode k 0 } }
    if auto then s.armSet k ((s.liveTiles k).filter fun t => (s.drift k t).built)
    else s.setF (Reg.CORE_DSTAT k) Fld.CORE_DSTAT_READY 1
def execBuildComplete (k : CoreNo) (s : State) : Host.Outcome State Fault Refusal := .next (s.buildComplete k.val)

/-- BUILD (R100, CORE_DCMD.BUILD): starts a round; ignored in MANUAL. -/
def execBuild (k : CoreNo) (s : State) : Host.Outcome State Fault Refusal := .next (s.openRound k.val)

/-- ROUND_TIMER (R100): the ROUND period elapses while a tile holds an actionable estimate or a column residual other than 1. -/
def State.roundTimer (s : State) (k : Nat) : State :=
  let held := (s.core.drift.any fun e => e.1 / 1024 == k && e.2.est.isSome) || s.core.cols.any fun e => e.1 / 2048 / 1024 == k && e.2.rho != 1
  if held then s.openRound k else s
def execRoundTimer (k : CoreNo) (s : State) : Host.Outcome State Fault Refusal := .next (s.roundTimer k.val)

/-- TEMP_ROUND_TRIGGER (R100): with TEMP_EN = 1, the ring-oscillator temperature of a ready or degraded tile differs from its
commit temperature by TEMP_REQ or more. -/
def State.tempRound (s : State) (k : Nat) : State :=
  let far := (s.liveTiles k).any fun t => decide (s.fld (Reg.CORE_DTIME k) Fld.CORE_DTIME_TEMP_REQ ≤ (s.roOf k - (s.drift k t).tcommit).natAbs)
  if s.fld (Reg.CORE_DCTL k) Fld.CORE_DCTL_TEMP_EN = 1 ∧ far then s.openRound k else s
def execTempRoundTrigger (k : CoreNo) (s : State) : Host.Outcome State Fault Refusal := .next (s.tempRound k.val)

/-- ARM (R103, R105): in AUTO and HOLD it needs READY; in MANUAL it freezes the shadow of every ready and degraded tile, with the
present temperature as commit temperature of tiles that no round built. Else WREJ. -/
def State.arm (s : State) (k : Nat) : State :=
  let st := s.rd (Reg.CORE_DSTAT k)
  let on (f : Fld) : Bool := bits st f.lo 1 == 1
  let manual := s.dmode k == 2
  if if manual then on Fld.CORE_DSTAT_BUILD || on Fld.CORE_DSTAT_ARMED else !on Fld.CORE_DSTAT_READY then
    s.setF (Reg.CORE_DSTAT k) Fld.CORE_DSTAT_WREJ 1
  else if manual then
    let ts := s.liveTiles k
    let s := s.forEach ts fun s t => s.when (!(s.drift k t).built) fun s => s.setDrift k t { s.drift k t with tbuild := s.roOf k }
    s.armSet k ts
  else s.armSet k ((s.liveTiles k).filter fun t => (s.drift k t).built)
def execArm (k : CoreNo) (s : State) : Host.Outcome State Fault Refusal := .next (s.arm k.val)

/-- DISCARD_SET (R105): a READY set is dropped; the active words are copied into the shadow. -/
def State.discardSet (s : State) (k : Nat) : State :=
  if s.fld (Reg.CORE_DSTAT k) Fld.CORE_DSTAT_READY ≠ 1 then s
  else
    let s := s.setF (Reg.CORE_DSTAT k) Fld.CORE_DSTAT_READY 0
    s.forEach (List.range 1024) fun s t =>
      let d := s.drift k t
      (s.setShds k t fun c => s.actWord k t c).setDrift k t { d with
        built := false
        consumed := false
        clampShd := d.clampAct
        tbuild := d.tcommit }
def execDiscardSet (k : CoreNo) (s : State) : Host.Outcome State Fault Refusal := .next (s.discardSet k.val)

/-- SHADOW_WORD_WRITE (R105, R107): a write of CORE_DCDATA. Outside MANUAL, while BUILD or ARMED, or to the active bank, it is
refused with WREJ. -/
def State.shadowWrite (s : State) (k : Nat) (v : Word) : State :=
  let a := Reg.CORE_DCIDX k
  let t := s.fld a Fld.CORE_DCIDX_TILE
  let c := s.fld a Fld.CORE_DCIDX_PCOL
  if s.dmode k ≠ 2 ∨ s.fld (Reg.CORE_DSTAT k) Fld.CORE_DSTAT_BUILD = 1 ∨ s.fld (Reg.CORE_DSTAT k) Fld.CORE_DSTAT_ARMED = 1 ∨
    s.fld a Fld.CORE_DCIDX_BANK = 1 ∨ 1104 ≤ c then s.setF (Reg.CORE_DSTAT k) Fld.CORE_DSTAT_WREJ 1
  else
    let s := { s with core := { s.core with shd := SMap.set (fun _ => (0 : Word)) s.core.shd (colKey k t c) v } }
    s.setDrift k t { s.drift k t with clampShd := false }
def execShadowWordWrite (k : CoreNo) (v : Word) (s : State) : Host.Outcome State Fault Refusal := .next (s.shadowWrite k.val v)

/-! ### Commit -/

/-- One armed tile flips (R103): the shadow becomes active and is copied back, and the flip is counted. -/
def State.flipTile (s : State) (k t : Nat) : State :=
  let d := s.drift k t
  if !d.armed then s
  else
    let s := s.driftChange k t fun s =>
      (s.setActs k t fun c => s.shdWord k t c).setDrift k t { d with
        armed := false
        built := false
        qual := false
        tcommit := d.tbuild
        clampAct := d.clampShd
        age := if d.consumed then 0 else d.age
        consumed := false }
    (s.inc (Reg.CORE_DCOMMITCNT k) 1).commitDone k
/-- The armed tiles of a partition on a core flip (R103). -/
def State.flipPart (s : State) (k p : Nat) : State :=
  s.forEach ((s.armedTiles k).filter fun t => (s.ownersOfGroup k (t / 64)).contains p) fun s t => s.flipTile k t
/-- IDLE_PERIOD_FLIP (R103): the partition has had no step open for 10 µs, so its armed tiles flip; `none` names the tiles that no
partition owns, idle since reset. -/
def State.idleFlip (s : State) (p : Option Nat) : State :=
  match p with
  | some p => if (s.part p).opened || (s.part p).held || s.run p == 1 then s else s.forEach (List.range 16) fun s k => s.flipPart k p
  | none => s.forEach (List.range 16) fun s k =>
      s.forEach ((s.armedTiles k).filter fun t => (s.ownersOfGroup k (t / 64)).isEmpty) fun s t => s.flipTile k t
def execIdlePeriodFlip (p : Option PartNo) (s : State) : Host.Outcome State Fault Refusal := .next (s.idleFlip (p.map (·.val)))

/-- AGE_MAX_REACHED (R106): the age of a tile reaches AGE_MAX seconds; ages count 10 ms. -/
def execAgeMaxReached (k : CoreNo) (t : TileNo) (s : State) : Host.Outcome State Fault Refusal :=
  .next (s.driftChange k.val t.val fun s =>
    let d := s.drift k.val t.val
    s.setDrift k.val t.val { d with age := max d.age (s.fld (Reg.CORE_DTIME k.val) Fld.CORE_DTIME_AGE_MAX * 100) })

/-! ### Reference windows -/

/-- An estimate is actionable (R96). -/
def State.actionable (s : State) (k : Nat) (e : Estimate) : Bool :=
  let g : Rat := (s.fld (Reg.CORE_DTOL k) Fld.CORE_DTOL_RES_GAIN : Rat) / 65536
  let o : Rat := (s.fld (Reg.CORE_DTOL k) Fld.CORE_DTOL_RES_OFS : Rat) / 64
  decide (g / 2 ≤ (e.g - 1).abs) || decide (o / 2 ≤ e.o.abs)
/-- The estimate of a qualified window (R95). -/
def windowEstimate (d : DriftTile) : Estimate :=
  let m : Rat := d.m
  let den := b64 (b64 (m * d.sxx) - b64 (d.sx * d.sx))
  let g := b64 (b64 (b64 (m * d.sxy) - b64 (d.sx * d.sy)) / den)
  { g := g, o := b64 (b64 (d.sy - b64 (g * d.sx)) / m), tw := b64 (b64 (d.st / 4) / (d.tn : Rat)) }
/-- The window of a tile qualifies (R95). -/
def State.refQualifies (s : State) (k : Nat) (d : DriftTile) : Bool :=
  let m : Rat := d.m
  let xs : Rat := s.fld (Reg.CORE_DWIN k) Fld.CORE_DWIN_XSPREAD
  decide (s.fld (Reg.CORE_DLIM k) Fld.CORE_DLIM_MIN_REF ≤ d.m) &&
    decide (b64 (b64 (m * m) * b64 (xs * xs)) ≤ b64 (b64 (m * d.sxx) - b64 (d.sx * d.sx)))
/-- A reference window closes (R95, R96, R99): a qualified one gives an estimate, held when it is actionable; the next window
starts, and a drift event that waited for the close starts a round. -/
def State.closeRef (s : State) (k t : Nat) : State :=
  let d := s.drift k t
  let e := windowEstimate d
  let q := s.refQualifies k d
  let cleared : DriftTile := { d with
    reads := 0
    m := 0
    sx := 0
    sy := 0
    sxx := 0
    sxy := 0
    st := 0
    tn := 0
    evPending := false }
  let s :=
    if q then s.driftChange k t fun s => s.setDrift k t { cleared with
      est := if s.actionable k e then some e else none
      last := some e
      qual := true }
    else (s.setDrift k t cleared).inc (Reg.CORE_DTHINCNT k) 1
  if d.evPending then s.openRound k else s
/-- REF_WINDOW_CLOSE (R95): a reference window of 2^REF_WIN_EXP accepted reads is complete. -/
def State.refWindowClose (s : State) (k t : Nat) : State :=
  if 2 ^ s.fld (Reg.CORE_DWIN k) Fld.CORE_DWIN_REF_WIN_EXP ≤ (s.drift k t).reads then s.closeRef k t else s
def execRefWindowClose (k : CoreNo) (t : TileNo) (s : State) : Host.Outcome State Fault Refusal := .next (s.refWindowClose k.val t.val)

/-- Samples (x, y) of an accepted read (R94); `use` is false for a refired or flagged read, which only counts toward the length
of the window. `sigma` is in 1/64 LSB. -/
def State.refSample (s : State) (k t : Nat) (use : Bool) (sigma : Nat) (xy : List (Rat × Int)) : State :=
  let s := s.refWindowClose k t
  let lim : Rat := (s.fld (Reg.CORE_DWIN k) Fld.CORE_DWIN_OUTLIER_K * sigma : Nat) / 256
  let good := if use then xy.filter fun e => decide (((e.2 : Rat) - e.1).abs ≤ lim) else []
  let d := s.drift k t
  let add (d : DriftTile) (e : Rat × Int) : DriftTile :=
    let y : Rat := e.2
    { d with
      m := d.m + 1
      sx := b64 (d.sx + e.1)
      sy := b64 (d.sy + y)
      sxx := b64 (d.sxx + b64 (e.1 * e.1))
      sxy := b64 (d.sxy + b64 (e.1 * y)) }
  let d := good.foldl add d
  let d := { d with
    reads := d.reads + 1
    st := if good = [] then d.st else b64 (d.st + (s.roOf k : Rat))
    tn := if good = [] then d.tn else d.tn + 1 }
  (s.setDrift k t d).inc (Reg.CORE_DOUTLCNT k) (if use then xy.length - good.length else 0)

/-- A drift event of a tile (R99): it closes a window that holds MIN_REF samples, and a round starts once the window has
closed. -/
def State.driftEvent (s : State) (k t : Nat) : State :=
  let s := s.inc (Reg.CORE_DEVCNT k) 1
  let s := s.setDrift k t { s.drift k t with evPending := true }
  if s.fld (Reg.CORE_DLIM k) Fld.CORE_DLIM_MIN_REF ≤ (s.drift k t).m then s.closeRef k t else s

/-! ### Column windows -/

/-- Samples of the physical columns that carry a logical column (R97): codes and clips by physical column. -/
def State.colSample (s : State) (k t : Nat) (use : Bool) (codes : List Int) (clips : List Bool) : State :=
  let d := s.drift k t
  let s := s.setDrift k t { d with colReads := d.colReads + 1 }
  if !use then s
  else s.forEach (s.physCols k t) fun s c =>
    let q := nth 0 codes c
    if nth false clips c || decide (448 ≤ q.natAbs) then s
    else
      let w := s.colWin k t c
      s.setColWin k t c { w with cnt := w.cnt + 1, sq := w.sq + q, sqq := w.sqq + q * q }

/-- The variance of a column window, over its own count. -/
def winVariance (w : ColWin) : Rat :=
  let m := b64 ((w.sq : Rat) / (w.cnt : Rat))
  b64 (b64 ((w.sqq : Rat) / (w.cnt : Rat)) - b64 (m * m))
/-- The element of a sorted list in the middle, the lower one of two (R98). -/
def lowerMedian (l : List Rat) : Rat := nth 1 (l.mergeSort fun a b => decide (a ≤ b)) ((l.length - 1) / 2)
/-- lambda of R98; where its root or its quotient does not exist the spec states no value, and a free one stands. -/
def State.lambda (s : State) (v v0 fp : Rat) : Rat × State :=
  if v0 ≤ fp ∨ v < fp then
    let (x, s) := s.freshInt
    ((x : Rat), s)
  else if v = fp then (0, s)
  else (sqrtB64 (b64 (b64 (v - fp) / b64 (v0 - fp))), s)
/-- rho of R98, with its dead band and its step limit. -/
def colResidual (lam med dead step : Rat) : Rat :=
  let r := b64 (lam / med)
  let e := r - 1
  if e.abs < dead then 1 else if step < e.abs then (if e < 0 then 1 - step else 1 + step) else r
/-- A column window closes (R97, R98). -/
def State.closeCols (s : State) (k t : Nat) : State :=
  let cols := (s.physCols k t).eraseDups
  let minc := s.fld (Reg.CORE_DLIM k) Fld.CORE_DLIM_MIN_COL
  let step (a : State × List (Nat × Rat)) (c : Nat) : State × List (Nat × Rat) :=
    let s := a.1
    let w := s.colWin k t c
    let fp := s.fpvar k t c
    let v := winVariance w
    let v0 := w.v0.getD v
    let fresh := { w with cnt := 0, sq := 0, sqq := 0 }
    if w.cnt < minc ∨ w.cnt = 0 ∨ v0 < 4 * fp then ((s.setColWin k t c fresh).inc (Reg.CORE_DCTHINCNT k) 1, a.2)
    else if w.v0 = none then (s.setColWin k t c { fresh with v0 := some v }, a.2)
    else
      let r := s.lambda v v0 fp
      (r.2.setColWin k t c fresh, a.2 ++ [(c, r.1)])
  let r := cols.foldl step (s, [])
  let s := r.1.setDrift k t { r.1.drift k t with colReads := 0 }
  if r.2.length < 64 then s
  else
    let med := lowerMedian (r.2.map (·.2))
    let (m, s) := if med = 0 then s.freshInt else (0, s)
    let med := if med = 0 then (m : Rat) else med
    let dead : Rat := (s.fld (Reg.CORE_DTOL k) Fld.CORE_DTOL_COL_DEAD : Rat) / 4096
    let lim : Rat := (s.fld (Reg.CORE_DTOL k) Fld.CORE_DTOL_COL_STEP : Rat) / 4096
    s.forEach r.2 fun s e => s.setColWin k t e.1 { s.colWin k t e.1 with rho := colResidual e.2 med dead lim }
/-- COL_WINDOW_CLOSE (R97): a column window of 2^COL_WIN_EXP accepted reads is complete. -/
def State.colWindowClose (s : State) (k t : Nat) : State :=
  if 2 ^ s.fld (Reg.CORE_DWIN k) Fld.CORE_DWIN_COL_WIN_EXP ≤ (s.drift k t).colReads then s.closeCols k t else s
def execColWindowClose (k : CoreNo) (t : TileNo) (s : State) : Host.Outcome State Fault Refusal := .next (s.colWindowClose k.val t.val)

/-- A legal write to a window field starts new windows of every tile of the core (R110). -/
def State.newWindows (s : State) (k : Nat) : State :=
  let ds : SMap DriftTile := (s.core.drift.map fun e => if e.1 / 1024 = k then
    (e.1, { e.2 with reads := 0, m := 0, sx := 0, sy := 0, sxx := 0, sxy := 0, st := 0, tn := 0, colReads := 0 }) else e).filter fun e => e.2 != {}
  let cs : SMap ColWin := (s.core.cols.map fun e => if e.1 / 2048 / 1024 = k then (e.1, { e.2 with cnt := 0, sq := 0, sqq := 0 }) else e).filter
    fun e => e.2 != {}
  { s with core := { s.core with drift := ds, cols := cs } }

end Sys2Proof.Machine
end

