-- ==== Sys2Proof/Machine/Shelf.lean ====
section
/-!
DEFINITION. The shelf: row accesses, tags, the tag checker, blocked accesses, errors and the scrubber (R115 to R127, R248).
-/
namespace Sys2Proof.Machine

/-- A shelf row. -/
def State.shelfRow (s : State) (k r : Nat) : ShelfRow := SMap.get (fun _ => {}) s.core.shelf (rowKey k r)
/-- Set a shelf row. -/
def State.setShelfRow (s : State) (k r : Nat) (x : ShelfRow) : State :=
  { s with core := { s.core with shelf := SMap.set (fun _ => ({} : ShelfRow)) s.core.shelf (rowKey k r) x } }
/-- A whole-row write: it recomputes the check bits, and the poison bit is that of the data written (R119). -/
def State.putRow (s : State) (k r : Nat) (d : Row) (poison full : Bool) : State :=
  s.setShelfRow k r { data := d, full := full, poison := poison, ecc := 0 }

/-! ### The tag checker -/

/-- Buffer b admits an access of a class to a row (R126). -/
def State.admits (s : State) (k b : Nat) (cls : Cls) (fill : Bool) (r : Nat) : Bool :=
  let a := Reg.SHELF_BUFA k b
  let l := Reg.SHELF_BUFB k b
  s.fld a Fld.SHELF_BUFA_VALID == 1 && decide (s.fld a Fld.SHELF_BUFA_BASE ≤ r) &&
    decide (r < s.fld a Fld.SHELF_BUFA_BASE + s.fld l Fld.SHELF_BUFB_LEN) &&
    bitAt (s.fld l (if fill then Fld.SHELF_BUFB_PROD else Fld.SHELF_BUFB_CONS)) cls.bit
/-- A buffer of the context's buffer range admits the access (R126). -/
def State.tagAllowed (s : State) (k n : Nat) (cls : Cls) (fill : Bool) (r : Nat) : Bool :=
  (List.range (s.bufCount k n)).any fun i => s.admits k (s.bufBase k n + i) cls fill r
/-- The code of a tag kind in a fault report (R190). -/
def TagKind.code : TagKind → Nat
  | .fill => 0 | .consume => 1 | .peek => 2

/-- The row of a descriptor in flight from a SPILL region that is still to land (R248). -/
def State.spillPending (s : State) (k r : Nat) : Bool :=
  (List.range 16).any fun q => (s.queue k q).any fun d =>
    !d.write && s.rgnType d.region == 1 && decide (d.first ≤ r) && decide (r < d.first + d.rows) && !d.done.contains (r - d.first)

/-! ### Waiters -/

/-- The accesses that wait on a row, in the order in which they first blocked (R124). -/
def State.waitersOf (s : State) (k r : Nat) : List (Nat × Bool) := SMap.get (fun _ => []) s.core.waiters (rowKey k r)
/-- Set the accesses that wait on a row. -/
def State.setWaiters (s : State) (k r : Nat) (l : List (Nat × Bool)) : State :=
  { s with core := { s.core with waiters := SMap.set (fun _ => []) s.core.waiters (rowKey k r) l } }
/-- An access waits on a row. -/
def State.addWaiter (s : State) (k r who : Nat) (fill : Bool) : State :=
  if (s.waitersOf k r).contains (who, fill) then s else s.setWaiters k r (s.waitersOf k r ++ [(who, fill)])
/-- An access no longer waits on a row. -/
def State.delWaiter (s : State) (k r who : Nat) (fill : Bool) : State := s.setWaiters k r ((s.waitersOf k r).erase (who, fill))
/-- The waiter `who` may retry: no access that first blocked before it, and that the row's tag lets through, still waits. -/
def State.mayRetry (s : State) (k r who : Nat) : Bool :=
  let full := (s.shelfRow k r).full
  match (s.waitersOf k r).find? fun w => w.2 == !full with
  | some w => w.1 == who
  | none => true

/-! ### Accesses -/

/-- An access of a context's operation: unit or other waiter, bundle, slot, class, tag kind, row; the sending node of a row that
arrives over the mesh; the address register value used. -/
structure Acc where
  k : Nat
  ctx : Nat
  pc : Nat
  slot : Nat
  tagged : Bool
  cls : Cls
  kind : TagKind
  row : Nat
  who : Nat
  snode : Nat := noNode
  areg : Nat := noNode
  deriving DecidableEq, Repr

/-- What an access did: the state after it; the row it read. `blocked` waits; `refused` has faulted the context. -/
inductive AccRes where
  | ok (s : State) (data : Row) (poison : Bool)
  | blocked (s : State)
  | refused (s : State)

/-- A fault found by a unit of a bundle, or by the local port. -/
def State.accFault (s : State) (a : Acc) (reason : Nat) (op : List Nat) : State :=
  if a.snode = noNode then s.bundleFault a.k a.ctx a.pc a.slot reason op
  else s.ctxFault a.k a.ctx (s.fld (Reg.CORE_CTXPC a.k a.ctx) Fld.CORE_CTXPC_PC) a.slot reason op []
/-- The read of a row (R120, R121): a single-bit error is corrected in the data delivered; an uncorrectable or poisoned row is
delivered poisoned and faults the owning context. -/
def State.readRow (s : State) (a : Acc) : State × Row × Bool :=
  let x := s.shelfRow a.k a.row
  if x.poison ∨ x.ecc = 2 then
    let s := (s.setF (Reg.SHELF_ECCSTAT a.k) Fld.SHELF_ECCSTAT_UE 1).wr (Reg.SHELF_LASTUE a.k) a.row
    let s := if x.poison then s else (s.inc (Reg.SHELF_UECNT a.k) 1).setShelfRow a.k a.row { x with poison := true }
    (s.accFault a 0x0A [a.row], x.data, true)
  else if x.ecc = 1 then ((s.setF (Reg.SHELF_ECCSTAT a.k) Fld.SHELF_ECCSTAT_CE 1).inc (Reg.SHELF_CECNT a.k) 1, x.data, false)
  else (s, x.data, false)
/-- One access (R123, R126, R127, R248): `w` is the row written, none for a read. A blocked access waits in the order of R124. -/
def State.access (s : State) (a : Acc) (w : Option (Row × Bool)) : AccRes :=
  let fill := w.isSome
  let x := s.shelfRow a.k a.row
  if !s.inRows a.k a.ctx a.row then
    .refused (s.accFault a 0x08 [a.row, s.rowBase a.k a.ctx, s.rowCount a.k a.ctx, if a.snode = noNode then a.areg else a.snode])
  else if a.tagged ∧ !s.tagAllowed a.k a.ctx a.cls fill a.row then
    .refused (s.accFault a 0x09 [a.row, 2 ^ a.cls.bit + a.kind.code * 256, s.bufBase a.k a.ctx + s.bufCount a.k a.ctx * 65536, a.snode])
  else if if a.tagged then fill == x.full else s.spillPending a.k a.row && !(fill && a.cls == .que) then .blocked (s.addWaiter a.k a.row a.who fill)
  else
    let s := s.delWaiter a.k a.row a.who fill
    match w with
    | some (d, p) => .ok (s.putRow a.k a.row d p (if a.tagged then true else x.full)) d p
    | none =>
      let s := if a.tagged ∧ a.kind = .consume then s.setShelfRow a.k a.row { x with full := false } else s
      let r := s.readRow a
      .ok r.1 r.2.1 r.2.2

/-! ### The scrubber -/

/-- SCRUB_ROW (R122): with EN = 1 the scrubber visits its next row; `found` is the condition of the row's check bits that it finds
(0 clean, 1 a single-bit error, 2 uncorrectable), of which the worse with what is known holds. -/
def State.scrubRow (s : State) (k found : Nat) : State :=
  if s.fld (Reg.SHELF_SCRUB k) Fld.SHELF_SCRUB_EN ≠ 1 then s
  else
    let r := SMap.get (fun _ => 0) s.core.scrub k
    let s := { s with core := { s.core with scrub := SMap.set (fun _ => 0) s.core.scrub k ((r + 1) % 49152) } }
    let x := s.shelfRow k r
    let e := max found x.ecc
    if x.poison then s
    else if e = 1 then
      ((s.setShelfRow k r { x with ecc := 0 }).setF (Reg.SHELF_ECCSTAT k) Fld.SHELF_ECCSTAT_CE 1).inc (Reg.SHELF_CECNT k) 1
    else if e = 2 then
      let s := s.setShelfRow k r { x with poison := true, ecc := 2 }
      let s := (s.setF (Reg.SHELF_ECCSTAT k) Fld.SHELF_ECCSTAT_UE 1).wr (Reg.SHELF_LASTUE k) r
      (s.inc (Reg.SHELF_UECNT k) 1).sherd { code := 0x20, sev := 2, part := s.rowPart k r, unit := unitCore k, detail := [(48, r)] }
    else s
def execScrubRow (k : CoreNo) (found : Fin 3) (s : State) : Host.Outcome State Fault Refusal := .next (s.scrubRow k.val found.val)

end Sys2Proof.Machine
end

