-- ==== Sys2Proof/Machine/Queue.lean ====
section
/-!
DEFINITION. Decoupling queues and completion counters: descriptors, their checks, their start, their rows and their end (R133 to
R142, R248).
-/
namespace Sys2Proof.Machine

/-! ### Descriptors -/

/-- Field of a 32-byte descriptor: `n` bytes from byte `i` (R133). -/
def dfield (w i n : Nat) : Nat := bits w (8 * i) (8 * n)
/-- ENQ and DONE of a counter. -/
def State.cenq (s : State) (k c : Nat) : Nat := s.rd (Reg.QUE_CENQ k c)
def State.cdone (s : State) (k c : Nat) : Nat := s.rd (Reg.QUE_CDONE k c)
/-- ERR of a counter. -/
def State.cerr (s : State) (k c : Nat) : Bool := s.fld (Reg.QUE_CSTAT k c) Fld.QUE_CSTAT_ERR == 1
/-- A counter is owned by the context. -/
def State.ownsCtr (s : State) (k n c : Nat) : Bool := decide (c < 64) && bitAt (s.ctrMask k n) c
/-- The word of the counter mask that holds a counter, as a fault report shows it. -/
def State.ctrMaskWord (s : State) (k n c : Nat) : Nat := s.rd (if c < 32 then Reg.CORE_CTXCTR_LO k n else Reg.CORE_CTXCTR_HI k n)
/-- The words of a descriptor table entry, as one number. -/
def State.descEntry (s : State) (k i : Nat) : Nat := (List.range 8).foldl (fun a j => a + 2 ^ (32 * j) * s.rd (Reg.QUE_DESC k (8 * i + j))) 0
/-- Slot i of a descriptor row (R133). -/
def descSlot (r : Row) (i : Nat) : Nat := rowBytes r (32 * i) 32
/-- A buffer is in the context's buffer range and valid. -/
def State.ownsBuf (s : State) (k n b : Nat) : Bool :=
  decide (s.bufBase k n ≤ b) && decide (b < s.bufBase k n + s.bufCount k n) && s.fld (Reg.SHELF_BUFA k b) Fld.SHELF_BUFA_VALID == 1
/-- Bytes of the region that a handle names; 0 when it names none (R236). -/
def State.handleBytes (s : State) (p h : Nat) : Nat :=
  if 64 ≤ h then 0 else match s.handleRegion p h with
    | some r => s.regionSize r * 32
    | none => 0

/-- The first check of R134 that a descriptor fails, with the operands of R190. `hoff` is its HOFF with the offset of ENQ_T (R182). -/
def State.descCheck (s : State) (k n q src w hoff : Nat) : Option (Nat × List Nat) :=
  let ctr := dfield w 2 2
  let buf := dfield w 4 2
  let roff := dfield w 6 2
  let rows := dfield w 8 2
  let hs := dfield w 10 2
  let h := dfield w 12 1
  let len := s.fld (Reg.SHELF_BUFB k buf) Fld.SHELF_BUFB_LEN
  let size := s.handleBytes (s.ctxPart k n) h
  let last := hoff + (rows - 1) * hs * 32 + 544
  if dfield w 0 1 ≠ 1 ∧ dfield w 0 1 ≠ 2 then some (0x0F, [src, dfield w 0 1, 2, q])
  else if 4 ≤ dfield w 1 1 then some (0x0F, [src, dfield w 1 1, 3, q])
  else if dfield w 13 3 ≠ 0 then some (0x0F, [src, dfield w 13 3, 0, q])
  else if dfield w 21 3 ≠ 0 then some (0x0F, [src, dfield w 21 3, 0, q])
  else if dfield w 24 8 ≠ 0 then some (0x0F, [src, dfield w 24 8, 0, q])
  else if !s.ownsCtr k n ctr then some (0x07, [3, ctr, s.ctrMaskWord k n ctr, 0])
  else if !s.ownsBuf k n buf then some (0x07, [4, buf, s.bufBase k n, 0])
  else if rows = 0 ∨ 4096 < rows then some (0x0F, [src, rows, 4096, q])
  else if hs < 17 then some (0x0F, [src, hs, 17, q])
  else if len < roff + rows then some (0x10, [src, roff + rows, len, q])
  else if hoff % 32 ≠ 0 then some (0x11, [src, hoff, 32, q])
  else if size < last ∨ 2 ^ 40 ≤ hoff then some (0x12, [src, last, size, q])
  else if s.cenq k ctr = 0xFFFFFFFF then some (0x13, [src, s.cenq k ctr, 0xFFFFFFFF, q])
  else none

/-- Enqueue a descriptor (R134): a failed check faults the context and enqueues nothing; else ENQ of its counter goes up. -/
def State.enqueue (s : State) (k n q src w hoff pc : Nat) (tagged : Bool) : State :=
  match s.descCheck k n q src w hoff with
  | some (reason, op) => s.bundleFault k n pc 4 reason op
  | none =>
    let ctr := dfield w 2 2
    let base := s.fld (Reg.SHELF_BUFA k (dfield w 4 2)) Fld.SHELF_BUFA_BASE
    let d : QDesc := {
      write := dfield w 0 1 == 2
      keep := bitAt (dfield w 1 1) 0
      fence := bitAt (dfield w 1 1) 1
      ctr := ctr
      first := base + dfield w 6 2
      rows := dfield w 8 2
      hstride := dfield w 10 2
      region := (s.handleRegion (s.ctxPart k n) (dfield w 12 1)).getD 0
      hoff := hoff
      ctx := n
      tagged := tagged
      src := src
      pc := pc }
    (s.setQueue k q (s.queue k q ++ [d])).wr (Reg.QUE_CENQ k ctr) (s.cenq k ctr + 1)

/-! ### Requests and answers -/

/-- The granule of a row of a descriptor (R133, R234). -/
def State.descGran (s : State) (d : QDesc) (row g : Nat) : Nat := s.regionBase d.region + d.hoff / 32 + row * d.hstride + g
/-- Issue the 17 requests of a row. -/
def State.issueRow (s : State) (k q : Nat) (d : QDesc) (row : Nat) (data : Row) (poison : Bool) : State :=
  let rs := (List.range 17).map fun g =>
    ({ by_ := .desc k q d.id row g, part := s.ctxPart k d.ctx, g := s.descGran d row g, write := d.write, data := rowGranule data g,
       poison := poison, ok := true } : HbmReq)
  { s with hbm := { s.hbm with reqs := s.hbm.reqs ++ rs } }
/-- The answer for a granule of a row has returned. -/
def State.respOf (s : State) (k q id row g : Nat) : Option HbmResp := s.hbm.resps.find? fun r => r.by_ == .desc k q id row g
/-- Every granule of a row is answered. -/
def State.rowAnswered (s : State) (k q id row : Nat) : Bool := (List.range 17).all fun g => (s.respOf k q id row g).isSome
/-- The request is of this descriptor. -/
def Requester.ofDesc (r : Requester) (k q id : Nat) : Bool :=
  match r with
  | .desc k' q' id' _ _ => k' == k && q' == q && id' == id
  | _ => false
/-- Requests and answers of a descriptor that nothing waits for are dropped; a write accepted is written. -/
def State.dropReqs (s : State) (k q id : Nat) : State :=
  { s with hbm := { s.hbm with
    reqs := s.hbm.reqs.filter fun r => !r.by_.ofDesc k q id
    reads := s.hbm.reads.filter fun r => !r.by_.ofDesc k q id
    resps := s.hbm.resps.filter fun r => !r.by_.ofDesc k q id } }
/-- Replace descriptor j of a queue. -/
def State.setDesc (s : State) (k q j : Nat) (d : QDesc) : State := s.setQueue k q (setNth (s.queue k q) j d)

/-- The access of a descriptor to one of its rows (R137). -/
def QDesc.acc (d : QDesc) (k q row : Nat) : Acc :=
  { k := k, ctx := d.ctx, pc := d.pc, slot := 4, tagged := d.tagged, cls := .que, who := 32 + q, row := d.first + row,
    kind := if d.write then (if d.keep then .peek else .consume) else .fill }

/-! ### The run of a descriptor -/

/-- Source rows of a WRITE are read in ascending order and sent, until one blocks (R125, R137); a refused access ends the
descriptor in error with the rows already sent (R139). -/
def State.sendRows (s : State) (k q j : Nat) : Nat → State
  | 0 => s
  | fuel + 1 =>
    match (s.queue k q)[j]? with
    | none => s
    | some d =>
      if !d.write ∨ !d.started ∨ d.rows ≤ d.sent.length then s
      else
        let i := d.sent.length
        match s.access (d.acc k q i) none with
        | .blocked s => s
        | .refused s => s.setDesc k q j { d with rows := i, err := true }
        | .ok s data poison => ((s.issueRow k q d i data poison).setDesc k q j { d with sent := d.sent ++ [i] }).sendRows k q j fuel

/-- DESCRIPTOR_START (R136): the first descriptor that has not started starts, with FENCE only when every earlier one has
completed. A READ issues its requests; a WRITE reads and sends its rows. -/
def State.descStart (s : State) (k q : Nat) : State :=
  match findIdx1 (fun (d : QDesc) => !d.started) (s.queue k q) with
  | none => s
  | some (j, d) =>
    if d.fence ∧ j ≠ 0 then s
    else
      let d := { d with started := true, id := s.hbm.nextId }
      let s := ({ s with hbm := { s.hbm with nextId := s.hbm.nextId + 1 } }).setDesc k q j d
      if d.write then s.sendRows k q j d.rows
      else s.forEach (List.range d.rows) fun s i => s.issueRow k q d i 0 false
def execDescriptorStart (k : CoreNo) (q : Fin 16) (s : State) : Host.Outcome State Fault Refusal := .next (s.descStart k.val q.val)

/-- A late fetch (R248): wheel operations that wait on the row add the cycles they waited. -/
def State.lateTime (s : State) (k row cycles : Nat) : State :=
  s.forEach (List.range 4) fun s n =>
    match s.op k (2 + n) with
    | some o => s.when (o.blocked == some row && s.hbm.late.contains (k * 32 + 2 + n)) fun s => s.inc (Reg.QUE_LATETIME k n) cycles
    | none => s
/-- A row of a READ lands (R137, R139): a refused granule reads as zeros, and a refused or poisoned one makes the row poisoned
and the descriptor end in error. -/
def State.landRow (s : State) (k q j i cycles : Nat) : State :=
  match (s.queue k q)[j]? with
  | none => s
  | some d =>
    if d.write ∨ !d.started ∨ d.rows ≤ i ∨ d.done.contains i ∨ !s.rowAnswered k q d.id i ∨ (d.tagged ∧ i ≠ d.done.length) then s
    else
      let rs := (List.range 17).filterMap fun g => s.respOf k q d.id i g
      let bad := rs.any fun r => r.refused || r.poison
      let data := rowOfGranules (rs.map fun r => if r.refused then (0 : Granule) else r.data)
      let spill := s.spillPending k (d.first + i)
      match s.access (d.acc k q i) (some (data, bad)) with
      | .blocked s => s
      | .refused s => (s.dropReqs k q d.id).setDesc k q j { d with rows := d.done.length, err := true }
      | .ok s _ _ =>
        let mine (r : HbmResp) : Bool := match r.by_ with
          | .desc k' q' id' i' _ => k' == k && q' == q && id' == d.id && i' == i
          | _ => false
        let s := { s with hbm := { s.hbm with resps := s.hbm.resps.filter fun r => !mine r } }
        let s := s.setDesc k q j { d with done := d.done ++ [i], err := d.err || bad }
        s.when spill fun s => s.lateTime k (d.first + i) cycles
def execDescriptorRowLand (k : CoreNo) (q : Fin 16) (j : Fin 256) (i : Fin 4096) (cycles : Nat) (s : State) : Host.Outcome State Fault Refusal := .next (s.landRow k.val q.val j.val i.val cycles)

/-- Every row of a descriptor has landed, or is acknowledged (R138). -/
def State.descEnded (s : State) (k q : Nat) (d : QDesc) : Bool :=
  d.started && (if d.write then d.sent.length == d.rows && (List.range d.rows).all fun i => s.rowAnswered k q d.id i
    else d.done.length == d.rows)
/-- Count a completed descriptor (R138, R139): DONE goes up, and an error sets ERR and records its queue. -/
def State.countDone (s : State) (k q : Nat) (d : QDesc) (err : Bool) : State :=
  let s := s.wr (Reg.QUE_CDONE k d.ctr) (s.cdone k d.ctr + 1)
  if err ∧ !s.cerr k d.ctr then
    let s := { s with core := { s.core with errSrc := SMap.set (fun _ => 0) s.core.errSrc (k * 64 + d.ctr) d.src } }
    (s.setF (Reg.QUE_CSTAT k d.ctr) Fld.QUE_CSTAT_ERR 1).setF (Reg.QUE_CSTAT k d.ctr) Fld.QUE_CSTAT_ERRQ q
  else s
/-- The oldest descriptor of a queue leaves it when it has ended (R138). -/
def State.descPop (s : State) (k q : Nat) : State :=
  match s.queue k q with
  | [] => s
  | d :: rest =>
    if !s.descEnded k q d then s
    else
      let bad := d.write && (s.hbm.resps.any fun r => r.by_.ofDesc k q d.id && r.refused)
      let s := (s.dropReqs k q d.id).setQueue k q rest
      if d.ended then s else s.countDone k q d (d.err || bad)

/-- Rows of a queue that wait on a tag go on (R124): sources of WRITE descriptors, and the next row of each READ. -/
def State.retryQueue (s : State) (k q : Nat) : State :=
  s.forEach (List.range (s.queue k q).length) fun s j =>
    match (s.queue k q)[j]? with
    | none => s
    | some d =>
      if d.write then (if s.mayRetry k (d.first + d.sent.length) (32 + q) then s.sendRows k q j d.rows else s)
      else if d.tagged ∧ s.mayRetry k (d.first + d.done.length) (32 + q) then s.landRow k q j d.done.length 0
      else s

end Sys2Proof.Machine
end

