-- ==== Sys2Proof/Machine/Funcs.lean ====
section
/-!
DEFINITION. The real functions of the wheel (R176): exp, sigmoid, tanh, SiLU and GELU of a rational, to a relative error far below
the bounds of R47. Fixed-point integers in steps of 2^-512; the choice that R47 leaves is made where the result is rounded.
-/
namespace Sys2Proof.Machine

/-- One in fixed point. -/
def fxOne : Int := 2 ^ 512
/-- A rational in fixed point, rounded down. -/
def fxOf (x : Rat) : Int := x.num * fxOne / x.den
/-- The product of two fixed-point numbers. -/
def fxMul (a b : Int) : Int := a * b / fxOne
/-- A fixed-point number as a rational. -/
def fxRat (a : Int) : Rat := (a : Rat) / (fxOne : Rat)

/-- The rest of the series of exp from the term y^i / i!. -/
def expTerms (y : Int) : Nat → Int → Int → Int
  | 0, _, acc => acc
  | n + 1, t, acc => expTerms y n (fxMul t y / (100 - n)) (acc + t)
/-- Square a fixed-point number n times. -/
def fxSquares : Nat → Int → Int
  | 0, a => a
  | n + 1, a => fxSquares n (fxMul a a)
/-- exp of a rational of magnitude below 256, in fixed point: the series at x / 512, squared nine times. -/
def expFx (x : Rat) : Int := fxSquares 9 (expTerms (fxOf (x / 512)) 100 fxOne 0)

/-- The series of atan(1 / k): from the term 1 / ((2i + 1) k^(2i+1)). -/
def atanTerms (k : Int) : Nat → Nat → Int → Int → Int
  | 0, _, _, acc => acc
  | n + 1, i, p, acc => atanTerms k n (i + 1) (p / (k * k)) (if i % 2 = 0 then acc + p / (2 * i + 1) else acc - p / (2 * i + 1))
/-- Pi in fixed point (Machin's formula). -/
def fxPi : Int := 16 * atanTerms 5 120 0 (fxOne / 5) 0 - 4 * atanTerms 239 40 0 (fxOne / 239) 0
/-- The square root of two pi in fixed point. -/
def fxSqrt2Pi : Int := (((2 * fxPi * fxOne).toNat.sqrt : Nat) : Int)
/-- The series of the normal integral: from the term p = x^(2i+1) / (i! 2^i). -/
def phiTerms (xx : Int) : Nat → Nat → Int → Int → Int
  | 0, _, _, acc => acc
  | n + 1, i, p, acc =>
    phiTerms xx n (i + 1) (fxMul p xx / (2 * (i + 1))) (if i % 2 = 0 then acc + p / (2 * i + 1) else acc - p / (2 * i + 1))
/-- The distribution function of the normal distribution for a magnitude below 16, as a rational. -/
def normalCdf (x : Rat) : Rat :=
  let a := fxOf x
  1 / 2 + fxRat (phiTerms (fxMul a a) 700 0 a 0) / fxRat fxSqrt2Pi

/-- A non-zero value too small for any BF16 code. -/
def tinyRat : Rat := 1 / ((2 ^ 200 : Nat) : Rat)
/-- exp; a large argument as a value beyond every BF16 code. -/
def expRat (x : Rat) : Rat := if 128 ≤ x then ((2 ^ 180 : Nat) : Rat) else if x ≤ -128 then tinyRat else fxRat (expFx x)
/-- sigmoid x = 1 / (1 + exp (-x)). -/
def sigmoidRat (x : Rat) : Rat := if 128 ≤ x then 1 - tinyRat else if x ≤ -128 then tinyRat else 1 / (1 + fxRat (expFx (-x)))
/-- tanh x = (exp 2x - 1) / (exp 2x + 1). -/
def tanhRat (x : Rat) : Rat :=
  if 64 ≤ x then 1 - tinyRat else if x ≤ -64 then tinyRat - 1
  else
    let e := fxRat (expFx (2 * x))
    (e - 1) / (e + 1)
/-- SiLU x = x sigmoid x. -/
def siluRat (x : Rat) : Rat := if x ≤ -128 then -tinyRat else x * sigmoidRat x
/-- GELU x = x times the normal distribution function of x. PRESUMED (log entry 86): the spec names the function and gives no formula. -/
def geluRat (x : Rat) : Rat := if 16 ≤ x then x * (1 - tinyRat) else if x ≤ -16 then -tinyRat else x * normalCdf x
/-- The real function of a FUNC code (R176) other than the reciprocals. -/
def funcRat (f : Nat) (x : Rat) : Rat :=
  match f with
  | 0 => expRat x
  | 3 => sigmoidRat x
  | 4 => tanhRat x
  | 5 => siluRat x
  | _ => geluRat x

end Sys2Proof.Machine
end

