-- ==== Sys2Proof/Machine/Wheel.lean ====
section
/-!
DEFINITION. The wheel's arithmetic (R22, R31, R35 to R40, R175, R176, R584): pure functions from the rows of the operands to the
rows of the result and the counts of the layer.
-/
namespace Sys2Proof.Machine

/-! ### Operands -/

/-- Elements in a row of a format: 0 MX4, 1 MX8, 2 BF16, 3 P40 (R175). -/
def perRow (f : Nat) : Nat := nth 96 [1024, 512, 256, 96] f
/-- Rows of a vector of L elements. -/
def vecRows (f l : Nat) : Nat := (l + perRow f - 1) / perRow f

/-- An operand: its format, the length of a vector, its rows with their poison. -/
structure Operand where
  fmt : Nat
  len : Nat
  rows : List (Row × Bool)
  deriving DecidableEq, Repr

/-- The row that holds element x of vector i. -/
def Operand.rowOf (o : Operand) (i x : Nat) : Row × Bool := nth (0, false) o.rows (i * vecRows o.fmt o.len + x / perRow o.fmt)
/-- The scale byte of block b of vector i; a poisoned row counts as invalid (R121). -/
def Operand.scaleByte (o : Operand) (i b : Nat) : Nat :=
  let r := o.rowOf i (32 * b)
  if r.2 then 255 else mxScale r.1 (32 * b % perRow o.fmt / 32)
/-- The exponent that a scale byte enters the sums of scales with (R31): an invalid one as 0. -/
def scaleExp (x : Nat) : Int := if x = 255 then 0 else (x : Int) - 127
/-- Element x of vector i, without its scale, as m x 2^e; none when it is invalid (R22). -/
def Operand.elem (o : Operand) (i x : Nat) : Option (Int × Int) :=
  let r := o.rowOf i x
  let y := x % perRow o.fmt
  if r.2 then none
  else match o.fmt with
    | 0 => if o.scaleByte i (x / 32) = 255 then none else some (mx4x2 r.1 y, -1)
    | 1 => if o.scaleByte i (x / 32) = 255 then none else (e4m3 (rowByte r.1 y)).map fun m => (m, -9)
    | _ => bf16 (rowBytes r.1 (2 * y) 2)
/-- The value of an element, 0 when it is invalid. -/
def elemVal (e : Option (Int × Int)) : Int × Int := e.getD (0, 0)
/-- Block b of vector i holds an invalid element or an invalid scale. -/
def Operand.badBlock (o : Operand) (i b : Nat) : Bool :=
  (List.range 32).any fun j => decide (32 * b + j < o.len) && (o.elem i (32 * b + j)).isNone
/-- Invalid blocks of an operand of `n` vectors (R22, R41). -/
def Operand.badBlocks (o : Operand) (n : Nat) : Nat := sumNat n fun i => sumNat ((o.len + 31) / 32) fun b => b2n (o.badBlock i b)

/-! ### Matrix products -/

/-- The base of R31 for MX operands. -/
def mmBase (fa fb : Nat) : Int := if fa = 1 ∧ fb = 1 then 0 else if fa = 0 ∧ fb = 0 then -12 else -6
/-- The exact sum of terms m x 2^x, with its exponent. -/
def exactSum (ts : List (Int × Int)) : Int × Int :=
  let lo := ts.foldl (fun a t => min a t.2) (ts.headD (0, 0)).2
  (ts.foldl (fun a t => a + t.1 * (2 ^ (t.2 - lo).toNat : Nat)) 0, lo)
/-- Vector and place of the second operand's element that meets column j at step k: MMNT reads B[j][k], MMNN B[k][j]. -/
def bIndex (nt : Bool) (k j : Nat) : Nat × Nat := if nt then (j, k) else (k, j)
/-- The contribution of block step kb to row r of vector i (R31): 96 columns from 96 r, of which N leaves `32 * nblk`. -/
def mmStep (nt : Bool) (a b : Operand) (rid col0base i r kb nblk : Nat) : P40 :=
  let cols := (List.range (32 * nblk)).map fun c => 96 * r + c
  let mx := decide (a.fmt ≠ 2)
  let sa := if mx then scaleExp (a.scaleByte i kb) else 0
  let sb (k j : Nat) : Nat :=
    let p := bIndex nt k j
    b.scaleByte p.1 (p.2 / 32)
  let term (j t : Nat) : Int × Int :=
    let p := bIndex nt (32 * kb + t) j
    let x := elemVal (a.elem i (32 * kb + t))
    let y := elemVal (b.elem p.1 p.2)
    (x.1 * y.1, x.2 + y.2 + sa + if mx then scaleExp (sb (32 * kb + t) j) else 0)
  let sums := cols.map fun j => exactSum ((List.range 32).map fun t => term j t)
  let exp : Int :=
    if mx then
      let valid := (cols.flatMap fun j => (List.range 32).map fun t => sb (32 * kb + t) j).filter fun x => x != 255
      let top : Int := match valid with
        | [] => 0
        | x :: xs => ((xs.foldl max x : Nat) : Int) - 127
      sa + top + mmBase a.fmt b.fmt
    else
      let logs := (cols.flatMap fun j => (List.range 32).map fun t => term j t).filterMap fun (t : Int × Int) =>
        if t.1 = 0 then none else some ((t.1.natAbs.log2 : Int) + t.2)
      (match logs with
        | [] => 0
        | x :: xs => xs.foldl max x) - 17
  let vs := sums.map fun t => rneScale t.1 (t.2 - exp)
  let bad := a.badBlock i kb || cols.any fun j => (List.range 32).any fun t =>
    let p := bIndex nt (32 * kb + t) j
    (b.elem p.1 p.2).isNone
  { exp := exp
    top := exp
    contrib := 1
    rid := rid
    col0 := col0base + 96 * r
    nblk := nblk
    flags := if bad then flagInvalid else 0
    zero := 0
    csat := [0, 0, 0]
    cund := (List.range 3).map fun x => sumNat 32 fun c =>
      b2n (decide (32 * x + c < 32 * nblk) && (nth (0, 0) sums (32 * x + c)).1 != 0 && nth 1 vs (32 * x + c) == 0)
    s := vs }
/-- The blocks that N leaves for row r of a vector of NB blocks. -/
def rowBlocks (nb r : Nat) : Nat := min 3 (nb - 3 * r)
/-- Row r of vector i of a product (R31): the merge of its block steps. -/
def mmRow (nt : Bool) (a b : Operand) (rid col0base kb nb i r : Nat) : P40 :=
  (List.range (kb - 1)).foldl (fun p x => p.merge (mmStep nt a b rid col0base i r (x + 1) (rowBlocks nb r)))
    (mmStep nt a b rid col0base i r 0 (rowBlocks nb r))

/-! ### Results -/

/-- Counts for the layer counters. -/
structure WheelCount where
  osat : Nat := 0
  ozero : Nat := 0
  range : Nat := 0
  inval : Nat := 0
  deriving DecidableEq, Repr

/-- Lists of `n` elements; the last may be shorter. -/
def chunks {α : Type} (n : Nat) (l : List α) : List (List α) := (List.range ((l.length + n - 1) / n)).map fun i => (l.drop (n * i)).take n
/-- Bytes of MX4 element codes, two to a byte. -/
def nibbles (l : List Nat) : List Nat := (chunks 2 l).map fun c => nth 0 c 0 + 16 * nth 0 c 1
/-- The rows of a vector of converted blocks (R23, R175): positions beyond the vector are +0 and their scale is 0x7F. -/
def encodeVec (f : Nat) (bs : List ConvBlock) : List Row :=
  let per := perRow f / 32
  (List.range ((bs.length + per - 1) / per)).map fun r =>
    let b (i : Nat) : ConvBlock := nth ⟨127, List.replicate 32 0, 0, 0⟩ bs (per * r + i)
    let codes := (List.range per).flatMap fun i => (List.range 32).map fun j => nth 0 (b i).codes j
    let scales := (List.range per).map fun i => (b i).scale
    match f with
    | 0 => rowOf (nibbles codes ++ scales)
    | 1 => rowOf (codes ++ scales)
    | _ => rowOf (codes.flatMap fun c => bytesOf 2 c)
/-- A block of NaN (R40). -/
def nanBlock (f : Nat) : ConvBlock :=
  ⟨255, (List.range 32).map fun j => if f = 2 then 0x7FC0 else Config.nanCode j % (if f = 0 then 16 else 256), 0, 0⟩

/-- The output format of a template's FO. -/
def outFmt (f : Nat) : OutFmt := match f with
  | 0 => .mx4
  | 1 => .mx8
  | _ => .bf16
/-- The conversion of a P40 row's blocks, `n` of which lie within its vector (R36 to R40, R176). -/
def convRow (f n : Nat) (p : P40) (poison : Bool) : List ConvBlock × WheelCount :=
  let bad := poison || bitAt p.flags 2
  let bs := (List.range n).map fun b =>
    if min 3 p.nblk ≤ b then (⟨127, List.replicate 32 0, 0, 0⟩ : ConvBlock)
    else if bad then nanBlock f
    else convBlock (outFmt f) ((List.range 32).map fun j => nth 0 p.s (32 * b + j)) p.exp
  (bs, { osat := sumNat n fun b => (nth ⟨0, [], 0, 0⟩ bs b).osat, ozero := sumNat n fun b => (nth ⟨0, [], 0, 0⟩ bs b).ozero,
         range := b2n !p.verified, inval := if bad then min n (min 3 p.nblk) else 0 })
/-- The sum of counts. -/
def WheelCount.add (a b : WheelCount) : WheelCount := ⟨a.osat + b.osat, a.ozero + b.ozero, a.range + b.range, a.inval + b.inval⟩
/-- CONV of one vector (R176). -/
def convVec (f nb : Nat) (rows : List (Row × Bool)) : List Row × WheelCount :=
  let rs := (List.range rows.length).map fun r =>
    let x := nth (0, false) rows r
    convRow f (rowBlocks nb r) (P40.ofRow x.1) x.2
  (encodeVec f (rs.flatMap (·.1)), rs.foldl (fun a r => a.add r.2) {})

/-! ### BF16 operations -/

/-- The value of an element as a rational; invalid ones are +0 (R584). -/
def elemRat (e : Option (Int × Int)) : Rat :=
  match e with
  | none => 0
  | some (m, x) => if 0 ≤ x then ((m * (2 ^ x.toNat : Nat) : Int) : Rat) else (m : Rat) / ((2 ^ (-x).toNat : Nat) : Rat)
/-- The largest finite BF16 value. -/
def maxBf16 : Rat := ((255 * 2 ^ 120 : Nat) : Rat)
/-- The spacing of BF16 values about a magnitude: an exponent of 2. -/
def bf16Ulp (x : Rat) : Int := max (ratLog2 x) (-126) - 7
/-- A power of two. -/
def pow2 (e : Int) : Rat := if 0 ≤ e then ((2 ^ e.toNat : Nat) : Rat) else 1 / ((2 ^ (-e).toNat : Nat) : Rat)
/-- Round a rational to BF16 (R584): nearest, ties to even; an exact value beyond the largest finite one becomes that one. -/
def roundBf16 (x : Rat) : Rounded :=
  if x = 0 then ⟨0, false, false⟩
  else
    let u := bf16Ulp x
    let q := (rneRat (x.abs / pow2 u)).toNat
    let sgn := if x < 0 then 0x8000 else 0
    if maxBf16 < x.abs then ⟨0x7F7F + sgn, true, false⟩
    else if q = 0 then ⟨0, false, true⟩
    else ⟨min 0x7F7F ((u + 133).toNat * 128 + q) + sgn, false, false⟩
/-- The move in codes that the implementation chooses, for a bound in units in the last place (R47): 0, 1, -1, 2 or -2. -/
def ulpMove (f code : Nat) : Int := nth 0 [0, 1, -1, 2, -2] (Config.wheelUlp f code % 5)
/-- A rounded result moved by the choice of the implementation, within `bound` units in the last place of the exact value (R47). A
result of zero, and one beyond the largest finite value, stay. -/
def nearBf16 (f code bound : Nat) (x : Rat) : Rounded :=
  let r := roundBf16 x
  let c := ((r.code : Int) + ulpMove f code).toNat
  if r.osat || r.ozero || r.code % 0x8000 == 0 || c % 0x8000 == 0 || c / 0x8000 != r.code / 0x8000 || decide (0x7F7F < c % 0x8000) then r
  else if (elemRat (bf16 c) - x).abs ≤ bound * pow2 (bf16Ulp x) then { r with code := c } else r
/-- One element of FUNC (R176, R584): the result, and whether it has no real value. -/
def wheelFunc (f : Nat) (e : Option (Int × Int)) (code : Nat) : Rounded × Bool :=
  let x := elemRat e
  let c := if x = 0 then 0 else code
  if f = 1 then (if x = 0 then (⟨0x7F7F, true, false⟩, false) else (nearBf16 f c 1 (1 / x), false))
  else if f = 2 then
    if x = 0 then (⟨0x7F7F, true, false⟩, false)
    else if x < 0 then (⟨0x7FC0, false, false⟩, true)
    else (nearBf16 f c 1 (1 / sqrtB64 x), false)
  else (nearBf16 f c (if f = 0 then 1 else 2) (funcRat f x), false)

/-- The BF16 codes of vector i of an operand. -/
def Operand.codes (o : Operand) (i : Nat) : List Nat := (List.range o.len).map fun x => rowBytes (o.rowOf i x).1 (2 * (x % 256)) 2
/-- The values of vector i. -/
def Operand.vals (o : Operand) (i : Nat) : List Rat := (List.range o.len).map fun x => elemRat (o.elem i x)
/-- A vector of rounded results, with its counts. -/
def bfVec (rs : List Rounded) : List Row × WheelCount :=
  let bs := (chunks 32 rs).map fun c => (⟨0, c.map (·.code), 0, 0⟩ : ConvBlock)
  (encodeVec 2 bs, { osat := (rs.filter (·.osat)).length, ozero := (rs.filter (·.ozero)).length })
/-- The sum of a vector in P40 (R176): every 32 elements enter as one block step of products with 1 (R31). -/
def reduceSum (o : Operand) (i : Nat) : P40 :=
  let step (b : Nat) : P40 :=
    let es := (List.range 32).map fun j => if 32 * b + j < o.len then elemVal (o.elem i (32 * b + j)) else (0, 0)
    let logs := es.filterMap fun (t : Int × Int) => if t.1 = 0 then none else some ((t.1.natAbs.log2 : Int) + t.2)
    let exp : Int := (match logs with
      | [] => 0
      | x :: xs => xs.foldl max x) - 17
    let t := exactSum es
    { exp := exp, top := exp, contrib := 1, rid := 0, col0 := 0, nblk := 1, flags := 0, zero := 0, csat := [0, 0, 0], cund := [0, 0, 0],
      s := [rneScale t.1 (t.2 - exp)] }
  (List.range ((o.len + 31) / 32 - 1)).foldl (fun p b => p.merge (step (b + 1))) (step 0)

/-- A P40 row of a poisoned shelf row: every element is an invalid operand, used as zero (R121, R22). -/
def P40.read (r : Row) (poison : Bool) : P40 :=
  let p := P40.ofRow r
  if poison then { p with s := List.replicate 96 0, flags := p.flags ||| flagInvalid } else p

/-- The result of a wheel operation other than MERGE: the rows of C and the counts (R176). `ar` and `br` are the rows of the
operands. -/
def wheelResult (op : WheelOp) (t : WheelTmpl) (ar br : List (Row × Bool)) : List Row × WheelCount :=
  let n := 32 * t.nb
  let kk := 32 * t.kb
  let join (l : List (List Row × WheelCount)) : List Row × WheelCount := (l.flatMap (·.1), l.foldl (fun a r => a.add r.2) {})
  let ms := List.range t.m
  match op with
  | .mmnt | .mmnn =>
    let nt := op == .mmnt
    let a : Operand := ⟨t.fa, kk, ar⟩
    let b : Operand := ⟨t.fb, if nt then kk else n, br⟩
    (ms.flatMap fun i => (List.range (vecRows 3 n)).map fun r => (mmRow nt a b t.rid t.col0 t.kb t.nb i r).toRow,
     { inval := a.badBlocks t.m + b.badBlocks (if nt then n else kk) })
  | .conv => join (ms.map fun i => convVec t.fo t.nb ((ar.drop (i * vecRows 3 n)).take (vecRows 3 n)))
  | .func =>
    let a : Operand := ⟨2, n, ar⟩
    let r := join (ms.map fun i =>
      let rs := (List.range n).map fun x => wheelFunc t.func (a.elem i x) (nth 0 (a.codes i) x)
      let v := bfVec (rs.map (·.1))
      (v.1, { v.2 with inval := ((chunks 32 rs).filter fun c => c.any (·.2)).length }))
    (r.1, { r.2 with inval := r.2.inval + a.badBlocks t.m })
  | .add | .mul =>
    let a : Operand := ⟨2, n, ar⟩
    let b : Operand := ⟨2, n, br⟩
    let r := join (ms.map fun i => bfVec ((List.range n).map fun x =>
      let p := elemRat (a.elem i x)
      let q := elemRat (b.elem i x)
      roundBf16 (if op == .add then p + q else p * q)))
    (r.1, { r.2 with inval := a.badBlocks t.m + b.badBlocks t.m })
  | .reduce =>
    let a : Operand := ⟨2, n, ar⟩
    let rs := ms.map fun i =>
      if t.func = 0 then
        let vs := a.vals i
        (roundBf16 (vs.foldl max (vs.headD 0)), 0)
      else
        let p := reduceSum a i
        (roundTo fmtBF16 (nth 0 p.s 0) p.exp, b2n !p.verified)
    let v := bfVec (rs.map (·.1))
    (v.1, { v.2 with range := rs.foldl (fun x r => x + r.2) 0, inval := a.badBlocks t.m })
  | .bscale =>
    let a : Operand := ⟨2, n, ar⟩
    let b : Operand := ⟨2, t.m, br⟩
    let r := join (ms.map fun i => bfVec ((List.range n).map fun x => roundBf16 (elemRat (a.elem i x) * elemRat (b.elem 0 i))))
    (r.1, { r.2 with inval := a.badBlocks t.m + b.badBlocks 1 })
  | .merge => ([], {})

/-! ### Rows of the operands -/

/-- Rows of operands A, B and C of an operation (R175, R176); 0 for an operand it does not have. -/
def wheelRows (op : WheelOp) (t : WheelTmpl) : Nat × Nat × Nat :=
  let n := 32 * t.nb
  let kk := 32 * t.kb
  let packed := (t.m + 255) / 256
  match op with
  | .mmnt => (t.m * vecRows t.fa kk, n * vecRows t.fb kk, t.m * vecRows 3 n)
  | .mmnn => (t.m * vecRows t.fa kk, kk * vecRows t.fb n, t.m * vecRows 3 n)
  | .merge => (t.m * vecRows 3 n, t.m * vecRows 3 n, t.m * vecRows 3 n)
  | .conv => (t.m * vecRows 3 n, 0, t.m * vecRows t.fo n)
  | .func => (t.m * vecRows 2 n, 0, t.m * vecRows 2 n)
  | .add | .mul => (t.m * vecRows 2 n, t.m * vecRows 2 n, t.m * vecRows 2 n)
  | .reduce => (t.m * vecRows 2 n, 0, packed)
  | .bscale => (t.m * vecRows 2 n, packed, t.m * vecRows 2 n)

/-- Block steps of a wheel operation as the meters count them (R524): one per 32-element block sum of a matrix product, one per 32
elements of any other operation. -/
def wheelSteps (op : WheelOp) (t : WheelTmpl) : Nat :=
  match op with
  | .mmnt | .mmnn => t.m * (32 * t.nb) * t.kb
  | _ => t.m * t.nb

end Sys2Proof.Machine
end

