-- ==== Sys2Proof/Machine/Units.lean ====
section
/-!
DEFINITION. The units of a core: dispatch, move, wheel, mesh send, enqueue and group accumulators, each performing the accesses of
its operation in order until one blocks (R125, R166 to R182).
-/
namespace Sys2Proof.Machine

/-! ### Router inputs and tile buffers -/

/-- An input buffer of a router (R194): inputs are numbered as the outputs of R228. -/
def State.inputQ (s : State) (r i vc : Nat) : List MeshRow := SMap.get (fun _ => []) s.mesh.inputs (r * 64 + i * 4 + vc)
/-- Set an input buffer of a router. -/
def State.setInputQ (s : State) (r i vc : Nat) (l : List MeshRow) : State :=
  { s with mesh := { s.mesh with inputs := SMap.set (fun _ => []) s.mesh.inputs (r * 64 + i * 4 + vc) l } }
/-- A row reaches an input buffer; its order of arrival is recorded (R197). -/
def State.pushInput (s : State) (r i vc : Nat) (x : MeshRow) : State :=
  let s := s.setInputQ r i vc (s.inputQ r i vc ++ [{ x with age := s.mesh.arrivals }])
  { s with mesh := { s.mesh with arrivals := s.mesh.arrivals + 1 } }
/-- The segment of an input row; every element of a poisoned row is invalid (R28, R121). -/
def segmentOf (r : Row) (poison : Bool) : Segment := if poison then alignSegment (rowOf (List.replicate 544 255)) else alignSegment r
/-- A tile takes a segment into a free input buffer (R54). -/
def State.handSegment (s : State) (k t : Nat) (j : TileJob) : State :=
  let e := s.eng k t
  s.setEng k t { e with bufs := e.bufs ++ [j] }

/-! ### Contributions -/

/-- The column scale word of a logical column (R27). -/
def State.scaleWord (s : State) (k t w : Nat) : Nat := (SMap.get (fun _ => (0x7F00 : Word)) s.core.scales (tileKey k t * 1024 + w)).toNat
/-- The exponent k of R29 of a logical column. -/
def State.colK (s : State) (k t w : Nat) (b : Int) : Int :=
  contribK (bits (s.scaleWord k t w) 8 8) (s.fld (Reg.TILE_RANGE k t) Fld.TILE_RANGE_STEP_EXP) (s.eng k t).fmt b
/-- The lowest logical column whose k is above 5 (R30). -/
def State.headroom (s : State) (k t : Nat) (b : Int) : Option Nat := (List.range 1024).find? fun w => decide (5 < s.colK k t w b)
/-- Contribution row i of a delivered read (R29, R73, R170). -/
def State.contribRow (s : State) (k : Nat) (d : Delivered) (i : Nat) : P40 :=
  let t := d.job.tmpl
  let g := d.job.seg
  let nblk := if i = 10 then 2 else 3
  let vs := (List.range (32 * nblk)).map fun c =>
    let w := 96 * i + c
    contribution (nth 0 d.q w) (bits (s.scaleWord k d.tile w) 0 8) (s.colK k d.tile w t.base) (d.n.log2 : Nat)
  let blk (b : Nat) : Nat := 3 * i + b
  let unrep := (List.range nblk).any fun b => bitAt d.unrep (blk b)
  { exp := g.sseg + t.base
    top := g.sseg + t.base
    contrib := 1
    rid := t.rid
    col0 := t.col0 + 96 * i
    nblk := nblk
    flags := (if d.flagged || unrep then flagFlagged else 0) + (if g.iblk = 0 then 0 else flagInvalid)
    zero := g.zblk.foldl (· + ·) 0
    csat := (List.range 3).map fun b => if b < nblk then nth 0 d.clipb (blk b) else 0
    cund := (List.range 3).map fun b => sumNat 32 fun c => b2n (nth (0, false) vs (32 * b + c)).2
    s := vs.map (·.1) }
/-- The header of a row as a fault report of reason 0x0E packs it (R190). -/
def hdrWord (p : P40) : Nat := p.rid * 65536 + p.col0 / 32 % 2048 * 32 + p.nblk % 32

/-! ### Steps of a unit -/

/-- What one step of a unit's operation did: it goes on, it stops until something changes, or it is over. -/
inductive UnitRes where
  | go (s : State) (o : UnitOp)
  | stop (s : State) (o : UnitOp)
  | fin (s : State)

/-- The slot of a bundle that an operation comes from. -/
def UnitJob.slot : UnitJob → Nat
  | .dispatch .. => 0 | .move .. => 1 | .wheel .. => 2 | .send .. => 3 | .enqRow .. => 4 | .enqWait .. => 4 | .accum .. => 0
/-- An access of a unit's operation. -/
def UnitOp.acc (o : UnitOp) (k u : Nat) (cls : Cls) (kind : TagKind) (row : Nat) : Acc :=
  { k := k, ctx := o.ctx, pc := o.pc, slot := o.job.slot, tagged := o.tagged, cls := cls, kind := kind, row := row, who := u }
/-- Continue after an access: a blocked one stops the unit, a refused one ends the operation. -/
def AccRes.andThen (r : AccRes) (o : UnitOp) (row : Nat) (f : State → Row → Bool → UnitRes) : UnitRes :=
  match r with
  | .ok s d p => f s d p
  | .blocked s => .stop s { o with blocked := some row }
  | .refused s => .fin s

/-- DISPATCH (R167, R169): an input row is accessed, then its segment is handed to tile after tile. -/
def State.stepDispatch (s : State) (k : Nat) (o : UnitOp) (g t0 n row : Nat) (istep : Bool) (kind : TagKind) (ts : List DispTmpl) : UnitRes :=
  if n ≤ o.i then .fin s
  else
    match o.held, ts[o.i]? with
    | _, none => .fin s
    | [], _ =>
      let a := if istep then row + o.i else row
      (s.access (o.acc k 0 .mov kind a) none).andThen o a fun s d p => .go s { o with held := [(d, p)], blocked := none }
    | h :: _, some tm =>
      let t := 64 * g + t0 + o.i
      if 2 ≤ (s.eng k t).bufs.length then .stop s { o with blocked := none }
      else
        let s := s.handSegment k t { seg := segmentOf h.1 h.2, ctx := o.ctx, pc := o.pc, tmpl := tm }
        .go s { o with i := o.i + 1, held := if istep then [] else o.held }

/-- A move (R174): each row is read and then written; FILLZ has no source. -/
def State.stepMove (s : State) (k : Nat) (o : UnitOp) (src : Option Nat) (dst n : Nat) (kind : TagKind) : UnitRes :=
  if n ≤ o.i then .fin s
  else
    let put (h : Row × Bool) : UnitRes :=
      (s.access (o.acc k 1 .mov .fill (dst + o.i)) (some h)).andThen o (dst + o.i) fun s _ _ =>
        .go s { o with i := o.i + 1, held := [], blocked := none }
    match src, o.held with
    | none, _ => put (0, false)
    | some _, h :: _ => put h
    | some a, [] => (s.access (o.acc k 1 .mov kind (a + o.i)) none).andThen o (a + o.i) fun s d p =>
        .go s { o with held := [(d, p)], blocked := none }

/-- The operand rows of a wheel operation in the order of their accesses: row, and whether it is of operand B. -/
def wheelPlan (a na b nb : Nat) : List (Nat × Bool) :=
  (((List.range na).map fun i => (a + i, false)) ++ (List.range nb).map fun i => (b + i, true)).mergeSort fun x y => decide (x.1 ≤ y.1)
/-- Credit the counts of a wheel operation to its layer (R42, R176). -/
def State.creditWheel (s : State) (k l : Nat) (c : WheelCount) : State :=
  (((s.lcount k l .osat c.osat).lcount k l .ozero c.ozero).lcount k l .range c.range).lcount k l .inval c.inval
/-- A wheel operation other than MERGE (R176, R177): the operand rows are read in ascending order, then C is written. -/
def State.stepWheel (s : State) (k u : Nat) (o : UnitOp) (op : WheelOp) (t : WheelTmpl) (a b c : Nat) (ac bc : TagKind) : UnitRes :=
  let n := wheelRows op t
  let plan := wheelPlan a n.1 b n.2.1
  match plan[o.i]? with
  | some (row, isB) => (s.access (o.acc k u .whl (if isB then bc else ac) row) none).andThen o row fun s d p =>
      .go s { o with i := o.i + 1, held := o.held ++ [(d, p)], blocked := none }
  | none =>
    let rows := plan.zip o.held
    let side (x : Bool) : List (Row × Bool) := (rows.filter fun e => e.1.2 == x).map (·.2)
    let r := wheelResult op t (side false) (side true)
    let j := o.i - plan.length
    if n.2.2 ≤ j then .fin ((s.creditWheel k t.layer r.2).addUsage (s.ctxPart k o.ctx) 0 (wheelSteps op t) 0)
    else (s.access (o.acc k u .whl .fill (c + j)) (some (nth 0 r.1 j, false))).andThen o (c + j) fun s _ _ =>
      .go s { o with i := o.i + 1, blocked := none }
/-- Blocks of a poisoned row, counted as invalid operands (R121, R22). -/
def poisonBlocks (r : Row × Bool) : Nat := if r.2 then min 3 (P40.ofRow r.1).nblk else 0
/-- MERGE (R176): row i of A, row i of B, row i of C. -/
def State.stepMerge (s : State) (k u : Nat) (o : UnitOp) (t : WheelTmpl) (a b c : Nat) (ac bc : TagKind) : UnitRes :=
  if (wheelRows .merge t).2.2 ≤ o.i then .fin (s.addUsage (s.ctxPart k o.ctx) 0 (wheelSteps .merge t) 0)
  else
    match o.held with
    | [] => (s.access (o.acc k u .whl ac (a + o.i)) none).andThen o (a + o.i) fun s d p => .go s { o with held := [(d, p)], blocked := none }
    | [x] => (s.access (o.acc k u .whl bc (b + o.i)) none).andThen o (b + o.i) fun s d p =>
        .go (s.lcount k t.layer .inval (poisonBlocks x + poisonBlocks (d, p))) { o with held := [x, (d, p)], blocked := none }
    | x :: y :: _ =>
      let p := P40.read x.1 x.2
      let q := P40.read y.1 y.2
      if !p.sameKey q then .fin (s.bundleFault k o.ctx o.pc 2 0x0E [c + o.i, hdrWord p, hdrWord q, 0])
      else (s.access (o.acc k u .whl .fill (c + o.i)) (some ((p.merge q).toRow, false))).andThen o (c + o.i) fun s _ _ =>
        .go s { o with i := o.i + 1, held := [], blocked := none }

/-- Count a row that a context has sent (R183 bit 3). -/
def State.sentRow (s : State) (c : Nat) : State :=
  { s with mesh := { s.mesh with unwritten := SMap.set (fun _ => 0) s.mesh.unwritten c (SMap.get (fun _ => 0) s.mesh.unwritten c + 1) } }
/-- SEND (R179): rows pass to the router's L input, of 8 rows, in ascending order. -/
def State.stepSend (s : State) (k : Nat) (o : UnitOp) (dest : Nat) (red : Bool) (ste drow src n : Nat) (kind : TagKind) : UnitRes :=
  if n ≤ o.i then .fin s
  else if 8 ≤ (s.inputQ k 4 0).length then .stop s { o with blocked := none }
  else (s.access (o.acc k 6 .msh kind (src + o.i)) none).andThen o (src + o.i) fun s d p =>
    let x : MeshRow := {
      data := d
      poison := p
      dnode := dest
      snode := k
      part := s.ctxPart k o.ctx
      vc := 0
      reduce := red
      ste := ste
      drow := drow + o.i
      wt := 1
      srcs := [ctxKey k o.ctx] }
    .go ((s.pushInput k 4 0 x).sentRow (ctxKey k o.ctx)) { o with i := o.i + 1, blocked := none }

/-- ENQ_S (R182): the descriptor row is read by class MOV; its slot is then enqueued. A poisoned row is used as zeros. -/
def State.stepEnqRow (s : State) (k u : Nat) (o : UnitOp) (q row slot : Nat) (kind : TagKind) : UnitRes :=
  (s.access (o.acc k u .mov kind row) none).andThen o row fun s d p =>
    let w := if p then 0 else descSlot d slot
    .go s { o with job := .enqWait q (0x80000000 + row * 32 + slot) [w, dfield w 16 5], blocked := none }
/-- An enqueue waits while its queue holds 256 descriptors (R135). -/
def State.stepEnq (s : State) (k : Nat) (o : UnitOp) (q src : Nat) (desc : List Nat) : UnitRes :=
  if 256 ≤ (s.queue k q).length then .stop s { o with blocked := none }
  else .fin (s.enqueue k o.ctx q src (nth 0 desc 0) (nth 0 desc 1) o.pc o.tagged)

/-- The accumulator (R30, R171): the eleven rows are written, or merged pair by pair with the PSRC rows. -/
def State.stepAccum (s : State) (k u : Nat) (o : UnitOp) (d : Delivered) : UnitRes :=
  let t := d.job.tmpl
  if 11 ≤ o.i then .fin s
  else
    match (if o.i = 0 ∧ o.held = [] then s.headroom k d.tile t.base else none) with
    | some w => .fin (s.bundleFault k o.ctx o.pc 0 0x0D [d.tile, w, unsign 32 (s.colK k d.tile w t.base), unsign 32 t.base])
    | none =>
      let c := s.contribRow k d o.i
      let put (r : P40) : UnitRes := (s.access (o.acc k u .acc .fill (t.odst + o.i)) (some (r.toRow, false))).andThen o (t.odst + o.i)
        fun s _ _ => .go s { o with i := o.i + 1, held := [], blocked := none }
      if t.psrc = 0xFFFF then put c
      else match o.held with
        | [] => (s.access (o.acc k u .acc (if t.pc then .peek else .consume) (t.psrc + o.i)) none).andThen o (t.psrc + o.i) fun s x p =>
            .go (s.lcount k t.layer .inval (poisonBlocks (x, p))) { o with held := [(x, p)], blocked := none }
        | x :: _ =>
          let p := P40.read x.1 x.2
          if !p.sameKey c then .fin (s.bundleFault k o.ctx o.pc 0 0x0E [t.odst + o.i, hdrWord p, hdrWord c, 0])
          else put (p.merge c)

/-- One step of a unit's operation. -/
def State.unitStep (s : State) (k u : Nat) (o : UnitOp) : UnitRes :=
  match o.job with
  | .dispatch g t0 n row istep kind ts => s.stepDispatch k o g t0 n row istep kind ts
  | .move src dst n kind => s.stepMove k o src dst n kind
  | .wheel .merge t a b c ac bc => s.stepMerge k u o t a b c ac bc
  | .wheel op t a b c ac bc => s.stepWheel k u o op t a b c ac bc
  | .send dest red ste drow src n kind => s.stepSend k o dest red ste drow src n kind
  | .enqRow q row slot kind => s.stepEnqRow k u o q row slot kind
  | .enqWait q src desc => s.stepEnq k o q src desc
  | .accum d => s.stepAccum k u o d

/-- More steps than an operation can make. -/
def UnitJob.bound : UnitJob → Nat
  | .dispatch _ _ n _ _ _ _ => 2 * n + 2
  | .move _ _ n _ => 2 * n + 2
  | .wheel op t _ _ _ _ _ =>
    let n := wheelRows op t
    n.1 + n.2.1 + n.2.2 + 2
  | .send _ _ _ _ _ n _ => n + 2
  | .enqRow .. => 4
  | .enqWait .. => 4
  | .accum _ => 26

/-- A wheel operation that waits on a row of a SPILL region still to land is a late fetch, counted once (R248). -/
def State.markLate (s : State) (k u : Nat) (o : UnitOp) : State :=
  match o.blocked with
  | none => s
  | some row =>
    if u < 2 ∨ 6 ≤ u ∨ !s.spillPending k row ∨ s.hbm.late.contains (k * 32 + u) then s
    else
      let n := u - 2
      let s := { s with hbm := { s.hbm with late := s.hbm.late ++ [k * 32 + u] } }
      let s := s.inc (Reg.QUE_LATECNT k n) 1
      let was := bitAt (s.rd (Reg.QUE_LATESTAT k)) n
      let s := s.setF (Reg.QUE_LATESTAT k) ⟨n, 1⟩ 1
      s.when (!was) fun s => s.advise { code := 5, sev := 1, part := s.ctxPart k n, unit := unitCore k, detail := [(48, n), (52, s.rd (Reg.QUE_LATECNT k n))] }
/-- The operation of a unit is over. -/
def State.endOp (s : State) (k u : Nat) : State :=
  let s := (if u = 6 then s.unsend k else s).setOp k u none
  { s with hbm := { s.hbm with late := s.hbm.late.filter fun x => x != k * 32 + u } }
/-- A unit goes on with its operation until it stops or is over. -/
def State.runOp (s : State) (k u : Nat) : Nat → State
  | 0 => s
  | fuel + 1 =>
    match s.op k u with
    | none => s
    | some o =>
      match s.unitStep k u o with
      | .go s o => (s.setOp k u (some o)).runOp k u fuel
      | .stop s o => (s.setOp k u (some o)).markLate k u o
      | .fin s => s.endOp k u
/-- A unit goes on. -/
def State.runUnit (s : State) (k u : Nat) : State :=
  match s.op k u with
  | none => s
  | some o => s.runOp k u o.job.bound
/-- A unit takes an operation and starts it. -/
def State.startUnit (s : State) (k u n pc : Nat) (tagged : Bool) (j : UnitJob) : State :=
  (s.setOp k u (some { ctx := n, pc := pc, tagged := tagged, job := j, i := 0, held := [], blocked := none })).runUnit k u

/-! ### Commands -/

/-- ACCUMULATE (R73, R74): a free accumulator takes the first delivered read of its group. -/
def State.accumulate (s : State) (k g : Nat) : State :=
  match s.group k g with
  | [] => s
  | d :: rest =>
    if (s.op k (16 + g)).isSome then s
    else (s.setGroup k g rest).startUnit k (16 + g) d.job.ctx d.job.pc (s.tagged k d.job.ctx) (.accum d)
def execAccumulate (k : CoreNo) (g : GroupNo) (s : State) : Host.Outcome State Fault Refusal := .next (s.accumulate k.val g.val)

/-- The owner of a queue among the contexts of a core. -/
def State.queueCtx (s : State) (k q : Nat) : Option Nat := (List.range 4).find? fun n => s.ctxEn k n && s.ownsQueue k n q
/-- DESCRIPTOR_COMPLETE (R138, R135): the oldest descriptor of a queue is counted, and an enqueue that waits for room goes on. -/
def State.descComplete (s : State) (k q : Nat) : State :=
  let s := s.descPop k q
  match s.queueCtx k q with
  | some n => s.runUnit k (8 + n)
  | none => s
def execDescriptorComplete (k : CoreNo) (q : Fin 16) (s : State) : Host.Outcome State Fault Refusal := .next (s.descComplete k.val q.val)

end Sys2Proof.Machine
end

