-- ==== Sys2Proof/Machine/Program.lean ====
section
/-!
DEFINITION. Bundles: fetch, checks, issue, and the slots' operations (R160 to R186).

A bundle issues whole (R164). Its slots are performed by the commands of their operations in ascending order of slot; the first
such command issues the bundle. A command that the bundle does not call for changes nothing.
-/
namespace Sys2Proof.Machine

/-! ### Fetch -/

/-- The condition of a 64-bit word of program memory. -/
def State.pmWord (s : State) (k b i : Nat) : Nat := SMap.get (fun _ => 0) s.core.pmEcc (k * 32768 + b * 4 + i)
/-- A fetch corrects single-bit errors, counts each and writes it back (R160). -/
def State.fetch (s : State) (k b : Nat) : State :=
  let n := ((List.range 4).filter fun i => s.pmWord k b i == 1).length
  let e := (List.range 4).foldl (fun m i => if s.pmWord k b i = 1 then SMap.set (fun _ => 0) m (k * 32768 + b * 4 + i) 0 else m) s.core.pmEcc
  ({ s with core := { s.core with pmEcc := e } }).inc (Reg.CORE_PMCE k) n
/-- The bundle at a program-relative address, as one number. -/
def State.bundleNat (s : State) (k n pc : Nat) : Nat := (s.progWords k n pc).foldr (fun w a => w % 2 ^ 32 + 2 ^ 32 * a) 0

/-! ### Tables -/

/-- Dispatch template i (R173). -/
def State.dispTmpl (s : State) (k i : Nat) : DispTmpl :=
  let w (j : Nat) : Nat := s.rd (Reg.CORE_DTPL k (4 * i + j))
  { odst := bits (w 0) 0 16
    psrc := bits (w 0) 16 16
    rid := bits (w 1) 0 16
    col0 := bits (w 1) 16 16
    base := signed 8 (w 2)
    layer := bits (w 2) 8 8
    pc := bitAt (w 2) 16 }
/-- Wheel template i (R178). -/
def State.wheelTmpl (s : State) (k i : Nat) : WheelTmpl :=
  let w (j : Nat) : Nat := s.rd (Reg.CORE_WTPL k (4 * i + j))
  { m := bits (w 0) 0 16
    kb := bits (w 0) 16 16
    nb := bits (w 1) 0 16
    fa := bits (w 1) 16 8
    fb := bits (w 1) 24 8
    fo := bits (w 2) 0 8
    layer := bits (w 2) 8 8
    rid := bits (w 2) 16 16
    col0 := bits (w 3) 0 16
    func := bits (w 3) 16 8 }
/-- An index lies in a range register with COUNT from bit 16 and BASE from bit 0. -/
def State.inRange (s : State) (a i : Nat) : Bool := decide (bits (s.rd a) 0 16 ≤ i) && decide (i < bits (s.rd a) 0 16 + bits (s.rd a) 16 16)

/-! ### Checks (R165) -/

/-- A fault found by a check: slot, reason, operands. -/
abbrev Check := Option (Nat × Nat × List Nat)
/-- The first row of a range outside the context's rows (R127). -/
def State.rowsOut (s : State) (k n slot row cnt areg : Nat) : Check :=
  let b := s.rowBase k n
  let c := s.rowCount k n
  let bad := if row < b then some row else if b + c < row + cnt then some (max row (b + c)) else none
  bad.map fun r => (slot, 0x08, [r, b, c, areg])
/-- Opcode of a slot. -/
def slotOp (b slot : Nat) : Nat := match slot with
  | 0 => bits b 40 4
  | 1 => bits b 72 4
  | 2 => bits b 126 6
  | 3 => bits b 168 4
  | 4 => bits b 200 4
  | _ => bits b 242 6
/-- Place of a slot's opcode in the bundle, and its largest legal opcode. -/
def slotInfo (slot : Nat) : Nat × Nat := nth (242, 0x0D) [(40, 1), (72, 3), (126, 9), (168, 2), (200, 3), (242, 0x0D)] slot
/-- A field that must be 0. -/
def mustZero (b slot lo w : Nat) : Check := if bits b lo w = 0 then none else some (slot, 0x04, [lo, bits b lo w, 0, 0])
/-- The first check that fails. -/
def firstFault (l : List Check) : Check := l.findSome? id
/-- Reserved operand bits of the control operations (R183), as (place, width) in the bundle. -/
def ctlReserved (op : Nat) : List (Nat × Nat) := match op with
  | 0x01 => [(220, 22)]
  | 0x02 => [(222, 20)]
  | 0x03 => [(222, 20)]
  | 0x04 => [(224, 18)]
  | 0x05 => [(224, 18)]
  | 0x06 => []
  | 0x07 => [(216, 20)]
  | 0x08 => [(231, 11)]
  | 0x09 => [(212, 30)]
  | 0x0B => [(209, 33)]
  | 0x0C => [(220, 22)]
  | _ => [(204, 38)]
/-- Reserved bits of a slot (R165 step 3). -/
def slotReserved (b slot : Nat) : Check :=
  let op := slotOp b slot
  match slot with
  | 0 => mustZero b 0 0 1
  | 1 => if op = 3 then firstFault [mustZero b 1 68 4, mustZero b 1 60 8] else none
  | 2 => mustZero b 2 76 4
  | 3 => mustZero b 3 132 4
  | 4 => match op with
    | 1 => mustZero b 4 172 9
    | 2 => mustZero b 4 172 6
    | 3 => firstFault [mustZero b 4 196 4, mustZero b 4 172 18]
    | _ => none
  | _ => firstFault ((ctlReserved op).map fun e => mustZero b 5 e.1 e.2)
/-- Step 3 of R165: the header, then each slot's opcode and reserved bits. -/
def decodeCheck (b : Nat) : Check :=
  firstFault (mustZero b 6 248 7 :: (List.range 6).map fun j =>
    if (slotInfo j).2 < slotOp b j then some (j, 0x03, [(slotInfo j).1, slotOp b j, 0, 0]) else slotReserved b j)

/-- Slot 0, one template with its tile (R168). -/
def State.tmplCheck (s : State) (k n g tile i : Nat) (tagged : Bool) : Check :=
  let t := s.dispTmpl k i
  let w2 := s.rd (Reg.CORE_DTPL k (4 * i + 2))
  let w3 := s.rd (Reg.CORE_DTPL k (4 * i + 3))
  let res := bits w2 24 8 + 256 * w3
  let flags := bits w2 16 8
  let phys := 64 * g + tile
  let st := s.tileState k phys
  let some' := t.psrc != 0xFFFF
  firstFault [
    if s.inRange (Reg.CORE_CTXDT k n) i then none else some (0, 0x07, [6, i, bits (s.rd (Reg.CORE_CTXDT k n)) 0 8, 0]),
    s.rowsOut k n 0 t.odst 11 noNode,
    if some' then s.rowsOut k n 0 t.psrc 11 noNode else none,
    if st = 2 ∨ (st = 3 ∧ s.fld (Reg.TILE_CTL k phys) Fld.TILE_CTL_DEGR_ACCEPT = 1) then none
    else some (0, if st = 3 then 0x0C else 0x0B, [phys, st, 0, 0]),
    if res ≠ 0 then some (0, 0x04, [13, i, 11, res % 2 ^ 32]) else none,
    if 2 ≤ flags then some (0, 0x04, [13, i, 10, flags]) else none,
    if t.col0 % 32 ≠ 0 ∨ 64544 < t.col0 then some (0, 0x05, [13, i, 6, t.col0]) else none,
    if some' ∧ t.psrc ≠ t.odst ∧ t.psrc < t.odst + 11 ∧ t.odst < t.psrc + 11 then some (0, 0x05, [13, i, 2, t.psrc]) else none,
    if some' ∧ t.psrc = t.odst ∧ t.pc ∧ tagged then some (0, 0x05, [13, i, 10, flags]) else none]
/-- Slot 0 (R168). -/
def State.slot0Check (s : State) (k n b : Nat) (a : List Nat) : Check :=
  let g := bits b 36 4
  let t := bits b 30 6
  let c := bits b 23 7
  let tm := bits b 13 8
  let ia := nth 0 a (bits b 9 4)
  let row := ia + bits b 1 8
  let dt := Reg.CORE_CTXDT k n
  firstFault ([
    if c = 0 ∨ 64 < c then some (0, 0x05, [23, c, 0, 0]) else none,
    if 64 < t + c then some (0, 0x05, [23, c, 0, 0]) else none,
    if bitAt (s.gmask k n) g then none else some (0, 0x07, [1, g, s.gmask k n, 0]),
    ((List.range c).find? fun i => !s.inRange dt (tm + i)).map fun i => (0, 0x07, [6, tm + i, bits (s.rd dt) 0 8, 0]),
    s.rowsOut k n 0 row (if bitAt b 22 then c else 1) ia] ++
    (List.range c).map fun i => s.tmplCheck k n g (t + i) (tm + i) (s.tagged k n))
/-- Slot 1 (R174). -/
def State.slot1Check (s : State) (k n b : Nat) (a : List Nat) : Check :=
  let c := bits b 44 4
  let sa := nth 0 a (bits b 68 4)
  let da := nth 0 a (bits b 56 4)
  let src := sa + bits b 60 8
  let dst := da + bits b 48 8
  let copy := slotOp b 1 != 3
  firstFault [
    if c = 0 then some (1, 0x05, [44, 0, 0, 0]) else none,
    if copy ∧ src < dst + c ∧ dst < src + c then some (1, 0x05, [60, src, dst, c]) else none,
    if copy then s.rowsOut k n 1 src c sa else none,
    s.rowsOut k n 1 dst c da]
/-- The wheel operation of an opcode (R176). -/
def wheelOp (op : Nat) : WheelOp := nth .mmnt [.mmnt, .mmnt, .mmnn, .merge, .conv, .func, .add, .mul, .reduce, .bscale] op
/-- The formats that R176 requires: the first field of the template that departs from them, as (byte offset, value). -/
def fmtCheck (op : WheelOp) (t : WheelTmpl) : Option (Nat × Nat) :=
  let need (f v off : Nat) : Option (Nat × Nat) := if f = v then none else some (off, f)
  match op with
  | .mmnt | .mmnn =>
    if t.fa = 3 then some (6, t.fa) else if (t.fa = 2) ≠ (t.fb = 2) ∨ t.fb = 3 then some (7, t.fb) else need t.fo 3 8
  | .merge => (need t.fa 3 6).or ((need t.fb 3 7).or (need t.fo 3 8))
  | .conv => (need t.fa 3 6).or (if t.fo = 3 then some (8, 3) else none)
  | .add | .mul | .bscale => (need t.fa 2 6).or ((need t.fb 2 7).or (need t.fo 2 8))
  | .func => (need t.fa 2 6).or ((need t.fo 2 8).or (if 6 < t.func then some (14, t.func) else none))
  | .reduce => (need t.fa 2 6).or ((need t.fo 2 8).or (if 1 < t.func then some (14, t.func) else none))
/-- Slot 2 (R176 to R178). -/
def State.slot2Check (s : State) (k n b : Nat) (a : List Nat) : Check :=
  let i := bits b 118 8
  let t := s.wheelTmpl k i
  let op := wheelOp (slotOp b 2)
  let res := bits (s.rd (Reg.CORE_WTPL k (4 * i + 3))) 24 8
  let bad (off v : Nat) : Check := some (2, 0x05, [118, i, off, v])
  let ra := nth 0 a (bits b 114 4)
  let rb := nth 0 a (bits b 102 4)
  let rc := nth 0 a (bits b 90 4)
  let rows := wheelRows op t
  firstFault [
    if s.inRange (Reg.CORE_CTXWT k n) i then none else some (2, 0x07, [7, i, bits (s.rd (Reg.CORE_CTXWT k n)) 0 8, 0]),
    if t.m = 0 ∨ 4096 < t.m then bad 0 t.m else none,
    if t.kb = 0 ∨ 2048 < t.kb then bad 2 t.kb else none,
    if t.nb = 0 ∨ 2048 < t.nb then bad 4 t.nb else none,
    if 3 < t.fa then bad 6 t.fa else none,
    if 3 < t.fb then bad 7 t.fb else none,
    if 3 < t.fo then bad 8 t.fo else none,
    if t.col0 % 32 ≠ 0 ∨ 65536 < t.col0 + 32 * t.nb then bad 12 t.col0 else none,
    if res ≠ 0 then some (2, 0x04, [118, i, 15, res]) else none,
    (fmtCheck op t).bind fun e => bad e.1 e.2,
    s.rowsOut k n 2 (ra + bits b 106 8) rows.1 ra,
    if rows.2.1 = 0 then none else s.rowsOut k n 2 (rb + bits b 94 8) rows.2.1 rb,
    s.rowsOut k n 2 (rc + bits b 82 8) rows.2.2 rc]
/-- Slot 3 (R179). -/
def State.slot3Check (s : State) (k n b : Nat) (a : List Nat) : Check :=
  let i := bits b 160 8
  let sa := nth 0 a (bits b 156 4)
  let c := bits b 136 4
  firstFault [
    if c = 0 then some (3, 0x05, [136, 0, 0, 0]) else none,
    if s.inRange (Reg.CORE_CTXST k n) i then none else some (3, 0x07, [8, i, bits (s.rd (Reg.CORE_CTXST k n)) 0 8, 0]),
    s.rowsOut k n 3 (sa + bits b 148 8) c sa]
/-- Slot 4 (R182). -/
def State.slot4Check (s : State) (k n b : Nat) (a : List Nat) : Check :=
  let q := bits b 196 4
  let queue : Check := if s.ownsQueue k n q then none else some (4, 0x07, [2, q, s.rd (Reg.CORE_CTXQ k n), 0])
  match slotOp b 4 with
  | 1 =>
    let d := bits b 186 10
    let base := s.fld (Reg.CORE_CTXDESC k n) Fld.CORE_CTXDESC_DBASE
    firstFault [queue, if base ≤ d ∧ d < base + s.fld (Reg.CORE_CTXDESC k n) Fld.CORE_CTXDESC_DCOUNT then none
      else some (4, 0x07, [5, d, base, 0])]
  | 2 =>
    let sa := nth 0 a (bits b 192 4)
    firstFault [if 16 < bits b 179 5 then some (4, 0x05, [179, bits b 179 5, 0, 0]) else none, queue,
      s.rowsOut k n 4 (sa + bits b 184 8) 1 sa]
  | 3 =>
    let c := bits b 190 6
    if s.ownsCtr k n c then none else some (4, 0x07, [3, c, s.ctrMaskWord k n c, 0])
  | _ => none
/-- Bundles of a context's program. -/
def State.pcount (s : State) (k n : Nat) : Nat := s.fld (Reg.CORE_CTXPROG k n) Fld.CORE_CTXPROG_PCOUNT
/-- Slot 5 but for its wait (R183). -/
def State.slot5Check (s : State) (k n b : Nat) : Check :=
  match slotOp b 5 with
  | 1 | 2 => if s.pcount k n ≤ bits b 204 16 then some (5, 0x06, [bits b 204 16, s.pcount k n, 0, 0]) else none
  | 8 => firstFault [if bits b 213 9 < bits b 204 9 then some (5, 0x05, [204, bits b 204 9, 0, 0]) else none,
      if bits b 213 9 ≠ 0 ∧ !bitAt b 230 then some (5, 0x05, [213, bits b 213 9, 0, 0]) else none]
  | 0x0B => if bits b 204 5 = 0 then some (5, 0x05, [204, 0, 0, 0]) else none
  | _ => none
/-- Step 4 of R165. -/
def State.operandCheck (s : State) (k n b : Nat) (a : List Nat) : Check :=
  firstFault [
    if slotOp b 0 = 0 then none else s.slot0Check k n b a,
    if slotOp b 1 = 0 then none else s.slot1Check k n b a,
    if slotOp b 2 = 0 then none else s.slot2Check k n b a,
    if slotOp b 3 = 0 then none else s.slot3Check k n b a,
    if slotOp b 4 = 0 then none else s.slot4Check k n b a,
    s.slot5Check k n b]
/-- The bundle holds a wait. -/
def hasWait (b : Nat) : Bool := slotOp b 5 == 6 || slotOp b 5 == 7
/-- The faults of a wait (R141). -/
def State.waitCheck (s : State) (k n b : Nat) : Check :=
  let c := bits b 236 6
  let v := if slotOp b 5 = 6 then bits b 204 32 else bits b 204 12
  let op := [c, s.cenq k c, s.cdone k c, v]
  if !s.ownsCtr k n c then some (5, 0x07, [3, c, s.ctrMaskWord k n c, 0])
  else if s.cenq k c = 0 then some (5, 0x15, op)
  else if slotOp b 5 = 6 ∧ v = 0 then some (5, 0x0F, op)
  else if slotOp b 5 = 6 ∧ s.cenq k c < v then some (5, 0x16, op)
  else none
/-- The condition of a wait (R140). -/
def State.waitHolds (s : State) (k b : Nat) : Bool :=
  let c := bits b 236 6
  if slotOp b 5 = 6 then decide (bits b 204 32 ≤ s.cdone k c) else decide (s.cenq k c - s.cdone k c ≤ bits b 204 12)
/-- A wait satisfied on a counter with ERR = 1 faults (R139). -/
def State.waitError (s : State) (k b : Nat) : Check :=
  let c := bits b 236 6
  if s.cerr k c then
    some (5, 0x14, [SMap.get (fun _ => 0) s.core.errSrc (k * 64 + c), c, s.fld (Reg.QUE_CSTAT k c) Fld.QUE_CSTAT_ERRQ, 0])
  else none

/-! ### Issue (R164) -/

/-- The unit of a slot for a context. -/
def slotUnit (n slot : Nat) : Nat := nth 0 [0, 1, 2 + n, 6, 8 + n] slot
/-- The unit of a slot can accept an operation: it is free, and no bundle of another context that has issued still needs it. -/
def State.unitFree (s : State) (k n slot : Nat) : Bool :=
  (s.op k (slotUnit n slot)).isNone && (slot == 2 || slot == 4 || (List.range 4).all fun m =>
    m == n || match (s.ctx k m).cur with
      | some i => !bitAt i.left slot
      | none => true)
/-- The slots of a bundle that are not NOP. -/
def slotsOf (b : Nat) : Nat := maskOf 6 fun j => slotOp b j != 0
/-- A context waits. -/
def State.setWait (s : State) (k n : Nat) (w : CtxWait) : State := s.setCtx k n { s.ctx k n with wait := w }
/-- CORE_CTXPC.PC. -/
def State.pcOf (s : State) (k n : Nat) : Nat := s.fld (Reg.CORE_CTXPC k n) Fld.CORE_CTXPC_PC
/-- Set CORE_CTXPC.PC. -/
def State.setPc (s : State) (k n v : Nat) : State := s.setF (Reg.CORE_CTXPC k n) Fld.CORE_CTXPC_PC v
/-- A bundle issues when its wait is satisfied and its units can accept; the watchdog restarts. -/
def State.issueBundle (s : State) (k n pc b : Nat) : State :=
  let c := s.ctx k n
  if !(List.range 5).all (fun j => slotOp b j == 0 || s.unitFree k n j) then s
  else
    let left := slotsOf b
    let s := s.setCtx k n { c with wait := .none, cur := if left = 0 then none else some ⟨b, c.a, left, pc + 1⟩ }
    s.setPc k n (pc + 1)
/-- The next bundle of a running context is fetched and checked, and issues if it can (R164, R165). A wait that does not hold, or
that an enqueue before it keeps from being judged, blocks the context (R140). -/
def State.tryIssue (s : State) (k n : Nat) : State :=
  let c := s.ctx k n
  if s.ctxRun k n ≠ 1 ∨ c.cur.isSome ∨ (c.wait ≠ .none ∧ c.wait ≠ .counter) then s
  else
    let pc := s.pcOf k n
    let phys := s.fld (Reg.CORE_CTXPROG k n) Fld.CORE_CTXPROG_PBASE + pc
    if s.pcount k n ≤ pc then s.ctxFault k n pc 6 0x06 [pc, s.pcount k n] []
    else
      let s := s.fetch k phys
      let b := s.bundleNat k n pc
      match (List.range 4).find? fun i => s.pmWord k phys i == 2 with
      | some i => s.bundleFault k n pc 6 0x01 [phys, i]
      | none =>
        let mode := b2n (s.tagged k n)
        if bits b 255 1 ≠ mode then s.bundleFault k n pc 6 0x02 [bits b 255 1, mode]
        else match (decodeCheck b).or (s.operandCheck k n b c.a) with
          | some f => s.bundleFault k n pc f.1 f.2.1 f.2.2
          | none =>
            if !hasWait b then s.issueBundle k n pc b
            else if (s.op k (8 + n)).isSome then s.setWait k n .counter
            else match s.waitCheck k n b with
              | some f => s.bundleFault k n pc f.1 f.2.1 f.2.2
              | none =>
                if !s.waitHolds k b then s.setWait k n .counter
                else match s.waitError k b with
                  | some f => s.bundleFault k n pc f.1 f.2.1 f.2.2
                  | none => s.issueBundle k n pc b

/-- The lowest slot of an issued bundle that is still to be performed. -/
def Issued.next? (i : Issued) : Option Nat := (List.range 6).find? fun j => bitAt i.left j
/-- A slot has been performed. -/
def State.doneSlot (s : State) (k n slot : Nat) (i : Issued) : State :=
  let left := putBit i.left slot false
  s.setCtx k n { s.ctx k n with cur := if left = 0 then none else some { i with left := left } }
/-- A slot's operation is commanded: the bundle issues if it has not, and the slot is performed when it is the next one and holds
this operation. -/
def State.slotCmd (s : State) (k n slot op : Nat) (f : State → Issued → State) : State :=
  let r := if (s.ctx k n).cur.isSome then s else s.tryIssue k n
  match (r.ctx k n).cur with
  | none => if slotsOf (s.bundleNat k n (s.pcOf k n)) = 0 ∧ r.ctxRun k n = 1 ∧ (r.ctx k n).wait = .none then s else r
  | some i => if i.next? = some slot ∧ slotOp i.bundle slot = op ∧ (slot = 5 ∨ s.unitFree k n slot) then f (r.doneSlot k n slot i) i else s
/-- A unit starts the operation of a slot. -/
def State.startSlot (s : State) (k n slot : Nat) (i : Issued) (j : UnitJob) : State :=
  s.startUnit k (slotUnit n slot) n (i.next - 1) (bitAt i.bundle 255) j
/-- A row operand of an issued bundle (R163). -/
def Issued.row (i : Issued) (areg off : Nat) : Nat := nth 0 i.a (bits i.bundle areg 4) + bits i.bundle off 8
/-- The read kind of an access bit: 0 PEEK, 1 CONSUME. -/
def accKind (b : Bool) : TagKind := if b then .consume else .peek

/-! ### Commands of slots 0 to 4 -/

/-- NOP (R162, R164): a bundle of NOPs issues. -/
def State.nopCmd (s : State) (k n : Nat) : State :=
  if (s.ctx k n).cur.isSome then s
  else
    let r := s.tryIssue k n
    if (r.ctx k n).cur.isSome then s else r
def execNop (k : CoreNo) (n : CtxNo) (s : State) : Host.Outcome State Fault Refusal := .next (s.nopCmd k.val n.val)

/-- DISPATCH (R167). -/
def State.cmdDispatch (s : State) (k n : Nat) : State :=
  s.slotCmd k n 0 1 fun s i =>
    let b := i.bundle
    let c := bits b 23 7
    s.startSlot k n 0 i (.dispatch (bits b 36 4) (bits b 30 6) c (i.row 9 1) (bitAt b 22) (accKind (bitAt b 21))
      ((List.range c).map fun j => s.dispTmpl k (bits b 13 8 + j)))
def execDispatch (k : CoreNo) (n : CtxNo) (s : State) : Host.Outcome State Fault Refusal := .next (s.cmdDispatch k.val n.val)

/-- COPY, COPYK and FILLZ (R174). -/
def State.cmdMove (s : State) (k n op : Nat) : State :=
  s.slotCmd k n 1 op fun s i =>
    s.startSlot k n 1 i (.move (if op = 3 then none else some (i.row 68 60)) (i.row 56 48) (bits i.bundle 44 4) (accKind (op == 1)))
def execCopy (k : CoreNo) (n : CtxNo) (s : State) : Host.Outcome State Fault Refusal := .next (s.cmdMove k.val n.val 1)
def execCopyk (k : CoreNo) (n : CtxNo) (s : State) : Host.Outcome State Fault Refusal := .next (s.cmdMove k.val n.val 2)
def execFillz (k : CoreNo) (n : CtxNo) (s : State) : Host.Outcome State Fault Refusal := .next (s.cmdMove k.val n.val 3)

/-- The wheel operations (R176). -/
def State.cmdWheel (s : State) (k n op : Nat) : State :=
  s.slotCmd k n 2 op fun s i =>
    s.startSlot k n 2 i (.wheel (wheelOp op) (s.wheelTmpl k (bits i.bundle 118 8)) (i.row 114 106) (i.row 102 94) (i.row 90 82)
      (accKind (bitAt i.bundle 81)) (accKind (bitAt i.bundle 80)))
def execMmnt (k : CoreNo) (n : CtxNo) (s : State) : Host.Outcome State Fault Refusal := .next (s.cmdWheel k.val n.val 1)
def execMmnn (k : CoreNo) (n : CtxNo) (s : State) : Host.Outcome State Fault Refusal := .next (s.cmdWheel k.val n.val 2)
def execMerge (k : CoreNo) (n : CtxNo) (s : State) : Host.Outcome State Fault Refusal := .next (s.cmdWheel k.val n.val 3)
def execConv (k : CoreNo) (n : CtxNo) (s : State) : Host.Outcome State Fault Refusal := .next (s.cmdWheel k.val n.val 4)
def execFunc (k : CoreNo) (n : CtxNo) (s : State) : Host.Outcome State Fault Refusal := .next (s.cmdWheel k.val n.val 5)
def execAdd (k : CoreNo) (n : CtxNo) (s : State) : Host.Outcome State Fault Refusal := .next (s.cmdWheel k.val n.val 6)
def execMul (k : CoreNo) (n : CtxNo) (s : State) : Host.Outcome State Fault Refusal := .next (s.cmdWheel k.val n.val 7)
def execReduce (k : CoreNo) (n : CtxNo) (s : State) : Host.Outcome State Fault Refusal := .next (s.cmdWheel k.val n.val 8)
def execBscale (k : CoreNo) (n : CtxNo) (s : State) : Host.Outcome State Fault Refusal := .next (s.cmdWheel k.val n.val 9)

/-- SEND and SENDK (R179, R181): the rows go to the entry's destination, a core or an Extur port. -/
def State.cmdSend (s : State) (k n op : Nat) : State :=
  s.slotCmd k n 3 op fun s i =>
    let b := i.bundle
    let e := bits b 160 8
    let w := s.rd (Reg.CORE_SENT k (2 * e))
    let c := bits b 136 4
    let s := s.setCtx k n { s.ctx k n with sent := (s.ctx k n).sent + c }
    s.startSlot k n 3 i (.send (bits w 0 5) (bitAt w 8) e (bits w 16 16 + bits b 140 8) (i.row 156 148) c (accKind (op == 1)))
def execSend (k : CoreNo) (n : CtxNo) (s : State) : Host.Outcome State Fault Refusal := .next (s.cmdSend k.val n.val 1)
def execSendk (k : CoreNo) (n : CtxNo) (s : State) : Host.Outcome State Fault Refusal := .next (s.cmdSend k.val n.val 2)

/-- ENQ_T (R182): with XEN = 1 the copy's HOFF grows by A[XA] x HSTRIDE x 32, without wrap. -/
def State.cmdEnqT (s : State) (k n : Nat) : State :=
  s.slotCmd k n 4 1 fun s i =>
    let b := i.bundle
    let d := bits b 186 10
    let w := s.descEntry k d
    let x := if bitAt b 185 then nth 0 i.a (bits b 181 4) * dfield w 10 2 * 32 else 0
    s.startSlot k n 4 i (.enqWait (bits b 196 4) d [w, dfield w 16 5 + x])
def execEnqT (k : CoreNo) (n : CtxNo) (s : State) : Host.Outcome State Fault Refusal := .next (s.cmdEnqT k.val n.val)
/-- ENQ_S (R182). -/
def State.cmdEnqS (s : State) (k n : Nat) : State :=
  s.slotCmd k n 4 2 fun s i =>
    let b := i.bundle
    s.startSlot k n 4 i (.enqRow (bits b 196 4) (i.row 192 184) (bits b 179 5) (accKind (bitAt b 178)))
def execEnqS (k : CoreNo) (n : CtxNo) (s : State) : Host.Outcome State Fault Refusal := .next (s.cmdEnqS k.val n.val)
/-- Clear a counter. -/
def State.clearCtr (s : State) (k c : Nat) : State :=
  let s := { s with core := { s.core with errSrc := SMap.set (fun _ => 0) s.core.errSrc (k * 64 + c) 0 } }
  ((s.wr (Reg.QUE_CENQ k c) 0).wr (Reg.QUE_CDONE k c) 0).wr (Reg.QUE_CSTAT k c) 0
/-- CLR (R142): legal only when ENQ equals DONE. -/
def State.cmdClr (s : State) (k n : Nat) : State :=
  s.slotCmd k n 4 3 fun s i =>
    let c := bits i.bundle 190 6
    if s.cenq k c ≠ s.cdone k c then s.bundleFault k n (i.next - 1) 4 0x17 [c, s.cenq k c, s.cdone k c, 0]
    else s.clearCtr k c
def execClr (k : CoreNo) (n : CtxNo) (s : State) : Host.Outcome State Fault Refusal := .next (s.cmdClr k.val n.val)

/-! ### Commands of slot 5 -/

/-- JUMP (R183). -/
def execJump (k : CoreNo) (n : CtxNo) (s : State) : Host.Outcome State Fault Refusal := .next (s.slotCmd k.val n.val 5 1 fun s i => s.setPc k.val n.val (bits i.bundle 204 16))
/-- LOOP (R183). -/
def State.cmdLoop (s : State) (k n : Nat) : State :=
  s.slotCmd k n 5 2 fun s i =>
    let c := s.ctx k n
    let j := bits i.bundle 220 2
    let v := nth 0 c.l j
    if v = 0 then s else (s.setCtx k n { c with l := setNth c.l j (v - 1) }).setPc k n (bits i.bundle 204 16)
def execLoop (k : CoreNo) (n : CtxNo) (s : State) : Host.Outcome State Fault Refusal := .next (s.cmdLoop k.val n.val)
/-- SETL (R183). -/
def State.cmdSetl (s : State) (k n : Nat) : State :=
  s.slotCmd k n 5 3 fun s i =>
    let c := s.ctx k n
    s.setCtx k n { c with l := setNth c.l (bits i.bundle 220 2) (bits i.bundle 204 16) }
def execSetl (k : CoreNo) (n : CtxNo) (s : State) : Host.Outcome State Fault Refusal := .next (s.cmdSetl k.val n.val)
/-- SETA (R183). -/
def State.cmdSeta (s : State) (k n : Nat) : State :=
  s.slotCmd k n 5 4 fun s i =>
    let c := s.ctx k n
    s.setCtx k n { c with a := setNth c.a (bits i.bundle 220 4) (bits i.bundle 204 16) }
def execSeta (k : CoreNo) (n : CtxNo) (s : State) : Host.Outcome State Fault Refusal := .next (s.cmdSeta k.val n.val)
/-- ADDA (R183): modulo 65,536. -/
def State.cmdAdda (s : State) (k n : Nat) : State :=
  s.slotCmd k n 5 5 fun s i =>
    let c := s.ctx k n
    let j := bits i.bundle 220 4
    s.setCtx k n { c with a := setNth c.a j ((nth 0 c.a j + bits i.bundle 204 16) % 65536) }
def execAdda (k : CoreNo) (n : CtxNo) (s : State) : Host.Outcome State Fault Refusal := .next (s.cmdAdda k.val n.val)
/-- WAIT_ABS and WAIT_OUT (R140, R141): the bundle's issue judges the wait; the slot has no further effect. -/
def execWaitAbs (k : CoreNo) (n : CtxNo) (s : State) : Host.Outcome State Fault Refusal := .next (s.slotCmd k.val n.val 5 6 fun s _ => s)
def execWaitOut (k : CoreNo) (n : CtxNo) (s : State) : Host.Outcome State Fault Refusal := .next (s.slotCmd k.val n.val 5 7 fun s _ => s)
/-- WAIT_SATISFIED (R140): a blocked wait is judged again; its bundle issues when the wait holds. -/
def State.waitSatisfied (s : State) (k n : Nat) : State := if (s.ctx k n).wait = .counter then s.tryIssue k n else s
def execWaitSatisfied (k : CoreNo) (n : CtxNo) (s : State) : Host.Outcome State Fault Refusal := .next (s.waitSatisfied k.val n.val)
/-- SWITCH (R129 step 1): the context issues no further bundle and waits for its work to drain. -/
def State.cmdSwitch (s : State) (k n : Nat) : State :=
  s.slotCmd k n 5 8 fun s i =>
    let s := s.setWait k n (.switch (bitAt i.bundle 230) (bits i.bundle 222 8) (bits i.bundle 213 9) (bits i.bundle 204 9))
    s.when (s.ctxRun k n == 1) fun s => s.setRun k n 2
def execSwitch (k : CoreNo) (n : CtxNo) (s : State) : Host.Outcome State Fault Refusal := .next (s.cmdSwitch k.val n.val)
/-- STEP (R185 step 1). -/
def execStep (k : CoreNo) (n : CtxNo) (s : State) : Host.Outcome State Fault Refusal := .next (s.slotCmd k.val n.val 5 0x0A fun s _ => s.setWait k.val n.val .stepDrain)
/-- DRAIN (R183). -/
def execDrain (k : CoreNo) (n : CtxNo) (s : State) : Host.Outcome State Fault Refusal := .next (s.slotCmd k.val n.val 5 0x0B fun s i => s.setWait k.val n.val (.drain (bits i.bundle 204 5)))
/-- The event queue of a core (R183). -/
def State.events (s : State) (k : Nat) : List Nat := SMap.get (fun _ => []) s.core.events k
/-- Set the event queue of a core. -/
def State.setEvents (s : State) (k : Nat) (l : List Nat) : State :=
  { s with core := { s.core with events := SMap.set (fun _ => []) s.core.events k l } }
/-- EVENT (R183): the event enters the core's queue of 16, or the context waits. -/
def State.cmdEvent (s : State) (k n : Nat) : State :=
  s.slotCmd k n 5 0x0C fun s i =>
    let code := bits i.bundle 204 16
    if 16 ≤ (s.events k).length then s.setWait k n (.event code)
    else s.setEvents k (s.events k ++ [n * 2 ^ 32 + (i.next - 1) * 2 ^ 16 + code])
def execEvent (k : CoreNo) (n : CtxNo) (s : State) : Host.Outcome State Fault Refusal := .next (s.cmdEvent k.val n.val)
/-- HALT (R183). -/
def execHalt (k : CoreNo) (n : CtxNo) (s : State) : Host.Outcome State Fault Refusal := .next (s.slotCmd k.val n.val 5 0x0D fun s _ => s.setWait k.val n.val .halting)

/-! ### Drains -/

/-- Bit 0 of a drain: dispatch, tile reads and accumulator writes of a context are complete (R183). -/
def State.dispatchDrained (s : State) (k n : Nat) : Bool :=
  let mine (u : Nat) : Bool := match s.op k u with
    | some o => o.ctx == n
    | none => false
  !mine 0 && (s.core.eng.all fun e => e.1 / 1024 != k || e.2.bufs.all fun j => j.ctx != n) &&
    (s.core.groups.all fun e => e.1 / 16 != k || e.2.all fun d => d.job.ctx != n) && (List.range 16).all fun g => !mine (16 + g)
/-- The operations of the masked units that a context has issued are complete (R183). -/
def State.drained (s : State) (k n mask : Nat) : Bool :=
  let mine (u : Nat) : Bool := match s.op k u with
    | some o => o.ctx == n
    | none => false
  (!bitAt mask 0 || s.dispatchDrained k n) && (!bitAt mask 1 || !mine 1) && (!bitAt mask 2 || !mine (2 + n)) &&
    (!bitAt mask 3 || (!mine 6 && SMap.get (fun _ => 0) s.mesh.unwritten (ctxKey k n) == 0)) &&
    (!bitAt mask 4 || (!mine (8 + n) && (List.range 64).all fun c => !s.ownsCtr k n c || s.cenq k c == s.cdone k c))
/-- DRAIN_COMPLETE (R183). -/
def State.drainComplete (s : State) (k n : Nat) : State :=
  match (s.ctx k n).wait with
  | .drain mask => if s.ctxRun k n = 1 ∧ s.drained k n mask then s.setWait k n .none else s
  | _ => s
def execDrainComplete (k : CoreNo) (n : CtxNo) (s : State) : Host.Outcome State Fault Refusal := .next (s.drainComplete k.val n.val)

/-! ### The watchdog -/

/-- What a blocked or stalled context waits on, as slot and counter or row (R143, R190); none when its watchdog does not run. -/
def State.blockedOn (s : State) (k n : Nat) : Option (Nat × Nat) :=
  let c := s.ctx k n
  match c.wait with
  | .counter => some (5, bits (s.bundleNat k n (s.pcOf k n)) 236 6)
  | .switch .. => some (6, 0)
  | .barrier _ | .stepDrain | .drain _ | .event _ | .halting => some (5, 0)
  | .stepWait | .halted => none
  | .none => (List.range 5).findSome? fun j => match s.op k (slotUnit n j) with
    | some o => if o.ctx = n then (match o.blocked, o.job with
        | some r, _ => some (j, r)
        | none, .enqWait q src _ => some (4, if src < 1024 then dfield (s.descEntry k src) 2 2 else q)
        | none, .dispatch .. => some (0, 0)
        | none, .send .. => some (3, 0)
        | _, _ => none) else none
    | none => none
/-- WATCHDOG_EXPIRY (R143): with EN = 1 a context blocked or stalled for the timeout faults. -/
def State.watchdog (s : State) (k n : Nat) : State :=
  if s.fld (Reg.CORE_WDOG k) Fld.CORE_WDOG_EN ≠ 1 ∨ (s.ctxRun k n ≠ 1 ∧ s.ctxRun k n ≠ 2) then s
  else match s.blockedOn k n with
    | some (slot, v) => s.bundleFault k n (if (s.ctx k n).wait = .none ∨ (s.ctx k n).wait = .counter then s.pcOf k n else s.pcOf k n - 1) 6 0x18 [slot, v]
    | none => s
def execWatchdogExpiry (k : CoreNo) (n : CtxNo) (s : State) : Host.Outcome State Fault Refusal := .next (s.watchdog k.val n.val)

end Sys2Proof.Machine
end

