-- ==== Sys2Proof/Machine/Tile.lean ====
section
/-!
DEFINITION. Tiles: physical reads, the reference check, repeated reads, delivery, flag windows and the configuration registers
(R53 to R76, R86).
-/
namespace Sys2Proof.Machine

/-! ### Configuration registers -/

/-- A partition that owns the group of a tile runs. -/
def State.tileOwnerRuns (s : State) (k t : Nat) : Bool := (s.ownersOfGroup k (t / 64)).any fun p => s.inUse p
/-- R75 refuses configuration writes of a tile. -/
def State.tileCfgRefused (s : State) (k t : Nat) : Bool :=
  let st := s.tileState k t
  st == 1 || decide (4 ≤ st) || ((st == 2 || st == 3) && s.tileOwnerRuns k t)
/-- A configuration write is refused (R76). -/
def State.tileWrej (s : State) (k t : Nat) : State := s.setF (Reg.TILE_STAT k t) Fld.TILE_STAT_WREJ 1
/-- A value of a configuration register is legal (R86); `off` is the register's offset in the set. -/
def tileLegal (off v : Nat) : Bool :=
  if off = 0x08 then decide (bits v 0 4 ≤ 10)
  else if off = 0x10 then bits v 16 8 != 0 && bits v 8 8 != 0 && bits v 0 8 != 0
  else if off = 0x14 then decide (1 ≤ bits v 16 5) && decide (bits v 16 5 ≤ 16)
  else if off = 0x18 then bits v 8 8 != 0 && decide (10 ≤ bits v 0 5) && decide (bits v 0 5 ≤ 24)
  else if off = 0x48 then bits v 8 8 != 0xFF
  else true

/-! ### Flag windows -/

/-- TILE_RDCNT of a tile. -/
def State.rdcnt (s : State) (k t : Nat) : Nat := s.rd64 (Reg.TILE_RDCNT_LO k t)
/-- The read number that ends the current flag window (R70): the first multiple of 2^WIN_EXP above the window's first read. -/
def State.windowEnd (s : State) (k t : Nat) : Nat :=
  let w := 2 ^ s.fld (Reg.TILE_FLAGWIN k t) Fld.TILE_FLAGWIN_WIN_EXP
  (((s.eng k t).winStart + 1) / w + 1) * w
/-- A tile that has raised drift events in DEVN consecutive windows is fenced (R468). -/
def State.judgeRun (s : State) (k t run : Nat) : State :=
  if run ≠ 0 ∧ s.fld Reg.LOG_ESC Fld.LOG_ESC_DEVN ≤ run then s.fenceTile k t 1 else s
/-- The current flag window ends; the next one starts after read number `last` (R70, R71). -/
def State.closeWindow (s : State) (k t last : Nat) : State :=
  let e := s.eng k t
  let run := if e.evInWin then e.evRun + 1 else 0
  let s := s.setEng k t { e with
    winStart := last
    evInWin := false
    evRun := run
    prevFlags := s.fld (Reg.TILE_WINFLAG k t) Fld.TILE_WINFLAG_COUNT
    prevEv := e.evInWin
    prevRun := e.evRun }
  s.setF (Reg.TILE_WINFLAG k t) Fld.TILE_WINFLAG_COUNT 0
/-- FLAG_WINDOW_END (R70): TILE_RDCNT has reached the end of the window. -/
def State.flagWindowEnd (s : State) (k t : Nat) : State :=
  let m := s.windowEnd k t
  if m ≤ s.rdcnt k t then s.closeWindow k t (m - 1) else s
def execFlagWindowEnd (k : CoreNo) (t : TileNo) (s : State) : Host.Outcome State Fault Refusal := .next (s.flagWindowEnd k.val t.val)

/-- A drift event of a tile (R71). -/
def State.tileEvent (s : State) (k t : Nat) : State := (s.setF (Reg.TILE_STAT k t) Fld.TILE_STAT_DRIFT_EV 1).driftEvent k t
/-- An accepted flagged read whose last physical read has number `last` counts in its window (R70, R71): the current one, or the
one before when that has ended since. -/
def State.countFlag (s : State) (k t last : Nat) : State :=
  let e := s.eng k t
  let thr := s.fld (Reg.TILE_FLAGWIN k t) Fld.TILE_FLAGWIN_FLAG_THR
  if e.winStart < last ∨ e.winStart = 0 then
    let n := satAdd 255 (s.fld (Reg.TILE_WINFLAG k t) Fld.TILE_WINFLAG_COUNT) 1
    let s := s.setF (Reg.TILE_WINFLAG k t) Fld.TILE_WINFLAG_COUNT n
    if thr ≤ n ∧ !e.evInWin then ((s.setEng k t { e with evInWin := true }).tileEvent k t).judgeRun k t (e.evRun + 1) else s
  else
    let n := satAdd 255 e.prevFlags 1
    if thr ≤ n ∧ !e.prevEv then
      let run := e.prevRun + 1
      let s := s.setEng k t { e with
        prevFlags := n
        prevEv := true
        evRun := run }
      (s.tileEvent k t).judgeRun k t (run + b2n e.evInWin)
    else s.setEng k t { e with prevFlags := n }

/-- Write a configuration register of a tile (R76): refused by R75 or illegal, it changes nothing and sets WREJ. `mask` gives the
writable bits. A new WIN_EXP ends the flag window. -/
def State.tileCfgWrite (s : State) (k t off mask v : Nat) : State :=
  let a := Reg.TILE_CTL k t + off
  let w := (s.rd a &&& (0xFFFFFFFF - mask)) ||| (v &&& mask)
  if s.tileCfgRefused k t ∨ !tileLegal off w then s.tileWrej k t
  else if off = 0x48 then
    let c := s.fld (Reg.TILE_CSIDX k t) Fld.TILE_CSIDX_LCOL
    { s with core := { s.core with scales := SMap.set (fun _ => (0x7F00 : Word)) s.core.scales (tileKey k t * 1024 + c) (BitVec.ofNat 32 w) } }
  else if off = 0x18 ∧ bits w 0 5 ≠ s.fld a Fld.TILE_FLAGWIN_WIN_EXP then ((s.flagWindowEnd k t).wr a w).closeWindow k t (s.rdcnt k t)
  else s.wr a w
/-- TILE_FLAGWIN_WRITE (R76, R86). -/
def execTileFlagwinWrite (k : CoreNo) (t : TileNo) (v : Word) (s : State) : Host.Outcome State Fault Refusal := .next (s.tileCfgWrite k.val t.val 0x18 0xFF1F v.toNat)
/-- TILE_CLR (R86): four counters become 0. -/
def State.tileClr (s : State) (k t : Nat) : State :=
  (((s.wr (Reg.TILE_REFIRECNT k t) 0).wr (Reg.TILE_FLAGCNT k t) 0).wr (Reg.TILE_UNCHKCNT k t) 0).wr (Reg.TILE_CLIPCNT k t) 0
def execTileClr (k : CoreNo) (t : TileNo) (s : State) : Host.Outcome State Fault Refusal := .next (s.tileClr k.val t.val)

/-! ### Physical reads -/

/-- The governor's credit for a physical read (R59, R429): the core's own, else one of the shared pool; none defers the read. -/
def State.takeCredit (s : State) (k : Nat) : Option State :=
  let c := SMap.get (fun _ => 0) s.pwr.credits k
  if s.thm.step ≠ 0 then none
  else if c ≠ 0 then
    some { s with pwr := { s.pwr with credits := SMap.set (fun _ => 0) s.pwr.credits k (c - 1), used := s.pwr.used + 1 } }
  else if s.pwr.pool ≠ 0 then some { s with pwr := { s.pwr with pool := s.pwr.pool - 1, used := s.pwr.used + 1 } }
  else none
/-- The weight integer that a cell pair holds (R51). -/
def State.cellM (s : State) (k t c r : Nat) : Int :=
  let x := SMap.get cellDefault s.core.cells (cellKey k t c r)
  ((x / 16 : Nat) : Int) - (x % 16 : Nat)
/-- The exact product D of a physical column for a segment (R53). -/
def State.columnD (s : State) (k t c : Nat) (a : List Int) : Int := sumInt 1024 fun r => nth 0 a r * s.cellM k t c r
/-- A code at either end of the range (R56). -/
def atLimit (x : Int) : Bool := x == -512 || x == 511
/-- The conversion of one physical column (R55, R56): the raw code is the product in steps of 2^STEP_EXP with read noise, a free
value; the corrected code, and whether it is a clip. -/
def State.convert (s : State) (k t c : Nat) (a : List Int) (corr : Word) : (Int × Bool) × State :=
  let (e, s) := s.freshInt
  let raw := clampInt (-512) 511 (rneScale (s.columnD k t c a) (-(s.fld (Reg.TILE_RANGE k t) Fld.TILE_RANGE_STEP_EXP : Int)) + e)
  let q := correctCode corr raw
  ((q, atLimit raw || atLimit q), s)
/-- The conversions of the physical columns 0 to 1,103 in order. -/
def State.convertAll (s : State) (k t : Nat) (a : List Int) : List Word → Nat → List (Int × Bool) × State
  | [], _ => ([], s)
  | w :: ws, c =>
    let r := s.convert k t c a w
    let rest := r.2.convertAll k t a ws (c + 1)
    (r.1 :: rest.1, rest.2)
/-- SIGMA_HOT applies (R62): the ring-oscillator reading, in quarters of a degree, is at or above 85 degrees Celsius. -/
def State.sigmaHot (s : State) (k : Nat) : Bool := decide (340 ≤ s.roOf k)
/-- A tile starts an accepted read with the correction set in force (R62, R66, R67). -/
def State.openRead (s : State) (k t : Nat) (e : TileEng) : TileEng :=
  { e with
    phase := .read
    n := 0
    target := 1
    hot := s.sigmaHot k
    corr := (List.range 1104).map fun c => s.actWord k t c
    qsum := List.replicate 1104 0
    clip := List.replicate 1104 false }
/-- One physical read (R57 to R59): it is counted, and its codes enter the sums. -/
def State.physicalRead (s : State) (k t : Nat) (e : TileEng) (job : TileJob) : State :=
  let s := (s.inc64 (Reg.TILE_RDCNT_LO k t) 1).addUsage (s.ctxPart k job.ctx) 1 0 0
  let r := s.convertAll k t job.seg.a e.corr 0
  r.2.setEng k t { e with
    phase := .check
    qsum := List.zipWith (fun q x => q + x.1) e.qsum r.1
    clip := List.zipWith (fun c x => c || x.2) e.clip r.1 }
/-- TILE_READ_START (R57, R66): a tile whose next input buffer is loaded starts the first read of an accepted read, or the next
one of a sequence, once the governor gives its credit. -/
def State.readStart (s : State) (k t : Nat) : State :=
  let e := s.eng k t
  match e.bufs[e.drains.length]? with
  | none => s
  | some job =>
    if e.phase = .check then s
    else match s.takeCredit k with
      | none => s
      | some s => s.physicalRead k t (if e.phase = .idle then s.openRead k t e else e) job
def execTileReadStart (k : CoreNo) (t : TileNo) (s : State) : Host.Outcome State Fault Refusal := .next (s.readStart k.val t.val)

/-! ### The check -/

/-- The reference columns that are checkable (R63). -/
def State.checkable (s : State) (k t : Nat) (a : List Int) (clip : List Bool) : List Nat :=
  let mask := s.fld (Reg.TILE_REFCFG k t) Fld.TILE_REFCFG_REF_MASK
  let r := s.fld (Reg.TILE_RANGE k t) Fld.TILE_RANGE_STEP_EXP
  (List.range 16).filter fun j => !bitAt mask j && decide ((dref a j).natAbs ≤ 448 * 2 ^ r) && !nth false clip (refPcol j)
/-- The noise sigma that applies, in 1/64 LSB (R62). -/
def State.sigmaOf (s : State) (k t : Nat) (hot : Bool) : Nat :=
  s.fld (Reg.TILE_WIN1 k t) (if hot then Fld.TILE_WIN1_SIGMA_HOT else Fld.TILE_WIN1_SIGMA_COOL)
/-- The checkable columns that fail (R61), as a mask. -/
def State.refFails (s : State) (k t : Nat) (e : TileEng) (a : List Int) : Nat :=
  let ok := s.checkable k t a e.clip
  maskOf 16 fun j => ok.contains j && !refPasses (nth 0 e.qsum (refPcol j)) e.n (s.fld (Reg.TILE_RANGE k t) Fld.TILE_RANGE_STEP_EXP)
    (dref a j) (s.fld (Reg.TILE_WIN0 k t) Fld.TILE_WIN0_OFS_TOL) (s.fld (Reg.TILE_WIN0 k t) Fld.TILE_WIN0_GAIN_TOL)
    (s.fld (Reg.TILE_WIN1 k t) Fld.TILE_WIN1_CONF_K) (s.sigmaOf k t e.hot)
/-- The cap of R65. -/
def State.readCap (s : State) (k t : Nat) : Nat := 2 ^ s.fld (Reg.TILE_CTL k t) Fld.TILE_CTL_REFIRE_MAX
/-- The accepted read that a check gives. -/
def TileEng.drain (e : TileEng) (job : TileJob) (flagged unchk : Bool) (fails last : Nat) : TileDrain :=
  { job := job, n := e.n, hot := e.hot, flagged := flagged, unchk := unchk, refFail := fails, qsum := e.qsum, clip := e.clip, last := last }
/-- TILE_CHECK (R61 to R66): step 7 of a physical read. -/
def State.tileCheck (s : State) (k t : Nat) : State :=
  let e := s.eng k t
  match e.bufs[e.drains.length]? with
  | none => s
  | some job =>
    if e.phase ≠ .check then s
    else
      let e := { e with n := e.n + 1 }
      if e.n < e.target then s.setEng k t { e with phase := .read }
      else
        let fails := s.refFails k t e job.seg.a
        let unchk := decide ((s.checkable k t job.seg.a e.clip).length < s.fld (Reg.TILE_REFCFG k t) Fld.TILE_REFCFG_REF_MIN)
        if fails = 0 ∨ unchk ∨ s.readCap k t ≤ e.target then
          s.setEng k t { e with
            phase := .idle
            drains := e.drains ++ [e.drain job (unchk || fails != 0) unchk fails (s.rdcnt k t)] }
        else s.setEng k t { e with phase := .read, target := 2 * e.target }
def execTileCheck (k : CoreNo) (t : TileNo) (s : State) : Host.Outcome State Fault Refusal := .next (s.tileCheck k.val t.val)

/-! ### Delivery -/

/-- Clipped logical columns of a read by block (R68, R72). -/
def State.clipBlocks (s : State) (k t : Nat) (clip : List Bool) : List Nat :=
  let cs := (s.physCols k t).map fun c => b2n (nth false clip c)
  (List.range 32).map fun b => sumNat 32 fun j => nth 0 cs (32 * b + j)
/-- TILE_LAST0 to TILE_LAST2, TILE_LASTBLK and HOT of an accepted read (R66, R87). -/
def State.lastRead (s : State) (k t : Nat) (d : TileDrain) (clipped : Nat) : State :=
  let g := d.job.seg
  let zeroed := g.zblk.foldl (· + ·) 0
  let s := s.wr (Reg.TILE_LAST0 k t) (d.refFail * 2 ^ 8 + b2n d.hot * 64 + b2n d.unchk * 32 + b2n d.flagged * 16 + d.n)
  let s := (s.wr (Reg.TILE_LAST1 k t) (clipped * 2 ^ 16 + zeroed)).wr (Reg.TILE_LAST2 k t) g.iblk
  let s := s.forEach (List.range 32) fun s b => s.wr (Reg.TILE_LASTBLK k t b) (nth 0 g.xblk b * 256 + nth 0 g.zblk b)
  s.setF (Reg.TILE_STAT k t) Fld.TILE_STAT_HOT (b2n d.hot)
/-- The tile's counters of an accepted read (R86). -/
def State.countRead (s : State) (k t : Nat) (d : TileDrain) (clipped : Nat) : State :=
  let s := s.inc (Reg.TILE_REFIRECNT k t) (b2n (decide (2 ≤ d.n)))
  let s := s.inc (Reg.TILE_FLAGCNT k t) (b2n d.flagged)
  let s := s.inc (Reg.TILE_UNCHKCNT k t) (b2n d.unchk)
  s.inc (Reg.TILE_CLIPCNT k t) clipped
/-- The layer's counters of an accepted read (R73). -/
def State.countLayer (s : State) (k : Nat) (d : TileDrain) (clipped : Nat) : State :=
  let g := d.job.seg
  let l := d.job.tmpl.layer
  let s := s.lcount k l .zero (g.zblk.foldl (· + ·) 0)
  let s := s.lcount k l .csat clipped
  let s := s.lcount k l .flag (b2n d.flagged)
  s.lcount k l .inval (popCount 32 g.iblk)
/-- Samples of an accepted read for the drift estimator (R94, R97): a refired or flagged read gives none. -/
def State.sampleRead (s : State) (k t : Nat) (d : TileDrain) : State :=
  let use := d.n == 1 && !d.flagged
  let r := s.fld (Reg.TILE_RANGE k t) Fld.TILE_RANGE_STEP_EXP
  let xy : List (Rat × Int) := (s.checkable k t d.job.seg.a d.clip).map fun j =>
    ((dref d.job.seg.a j : Rat) / ((2 ^ r : Nat) : Rat), nth 0 d.qsum (refPcol j))
  let s := s.refSample k t use (s.sigmaOf k t d.hot) xy
  if s.fld (Reg.CORE_DCTL k) Fld.CORE_DCTL_COL_EN = 1 then s.colSample k t use d.qsum d.clip else s
/-- The mask UNREP of a tile (R72): a block that holds an unrepaired column. -/
def State.unrepMask (s : State) (k t : Nat) : Nat :=
  let u := (s.eng k t).unrep
  maskOf 32 fun b => u.any fun c => c / 32 == b
/-- The read status of R72 with the sums by logical column (R78). -/
def State.delivered (s : State) (k t : Nat) (d : TileDrain) : Delivered :=
  { tile := t, job := d.job, n := d.n, flagged := d.flagged, unchk := d.unchk, clipb := s.clipBlocks k t d.clip,
    unrep := s.unrepMask k t, q := (s.physCols k t).map fun c => nth 0 d.qsum c }
/-- TILE_DELIVER (R66, R72): the oldest accepted read's last code is summed; sums and status go to the group accumulator, unless
its context is being reclaimed (R226), and its input buffer is free. -/
def State.tileDeliver (s : State) (k t : Nat) : State :=
  let e := s.eng k t
  match e.drains with
  | [] => s
  | d :: rest =>
    let clipped := (s.clipBlocks k t d.clip).foldl (· + ·) 0
    let out := s.delivered k t d
    let drop := s.mesh.dropSums.contains (ctxKey k d.job.ctx)
    let s := s.setEng k t { e with bufs := e.bufs.drop 1, drains := rest }
    let s := if drop then s else (s.setGroup k (t / 64) (s.group k (t / 64) ++ [out])).countLayer k d clipped
    let s := ((s.lastRead k t d clipped).countRead k t d clipped).flagWindowEnd k t
    let s := s.sampleRead k t d
    let s := s.when d.flagged fun s => s.countFlag k t d.last
    s.runUnit k 0
def execTileDeliver (k : CoreNo) (t : TileNo) (s : State) : Host.Outcome State Fault Refusal := .next (s.tileDeliver k.val t.val)

end Sys2Proof.Machine
end

