-- ==== Sys2Proof/Machine/Mesh.lean ====
section
/-!
DEFINITION. Routers: routing, arbitration, route lists and router merges (R191 to R204); local delivery and reduction slots (R205
to R213); retries of blocked accesses (R124); the end of a section switch (R129, R130, R210).
-/
namespace Sys2Proof.Machine

/-! ### Topology -/

/-- The Extur port attached to an output of a router (R192). -/
def portAt (r o : Nat) : Option Nat :=
  if o ≠ 5 ∧ o ≠ 6 then none else if r < 4 then some (2 * r + (o - 5)) else if 12 ≤ r then some (2 * (r - 12) + 8 + (o - 5)) else none
/-- The router and output by which a row leaves the mesh for a node (R191, R192). -/
def nodeOut (n : Nat) : Nat × Nat :=
  if n < 16 then (n, 4)
  else if n < 32 then portOut (n - 16)
  else if n < 40 then (nth 0 [0, 4, 8, 12, 3, 7, 11, 15] (n - 32), 7)
  else (nth 10 [6, 5, 9, 10] (n - 40), 5)
/-- The output of a router toward a node: first along x, then along y (R193). -/
def routeOut (r n : Nat) : Nat :=
  let d := nodeOut n
  if r = d.1 then d.2
  else if r % 4 < d.1 % 4 then 1 else if d.1 % 4 < r % 4 then 3
  else if r / 4 < d.1 / 4 then 2 else 0
/-- The router behind output N, E, S or W, and the input by which a row enters it. -/
def neighbour (r o : Nat) : Nat × Nat :=
  match o with
  | 0 => (r - 4, 2) | 1 => (r + 1, 3) | 2 => (r + 4, 0) | _ => (r - 1, 1)

/-! ### Attachments -/

/-- A partition is in discard at a router (R224). -/
def State.discOn (s : State) (r p : Nat) : Bool := bitAt (s.rd (if p < 32 then Reg.RTR_DISC_LO r else Reg.RTR_DISC_HI r)) (p % 32)
/-- The core of a router is fenced (R225). -/
def State.rtrFenced (s : State) (r : Nat) : Bool := s.fld (Reg.RTR_STAT r) Fld.RTR_STAT_FENCED == 1
/-- An attachment is down (R226 step 3). -/
def State.attDown (s : State) (r o : Nat) : Bool := bitAt (s.fld (Reg.RTR_STAT r) Fld.RTR_STAT_DOWN) (o - 5)
/-- Credits of an output toward its attachment; 8 at reset. -/
def State.attCredit (s : State) (r o vc : Nat) : Nat := SMap.get (fun _ => 8) s.mesh.credits ((r * 8 + o) * 4 + vc)
/-- Rows with the key of R204: destination, DROW and P40 header. -/
def MeshRow.mergeable (a b : MeshRow) : Bool :=
  a.reduce && b.reduce && a.part == b.part && a.dnode == b.dnode && a.drow == b.drow && (P40.ofRow a.data).sameKey (P40.ofRow b.data) &&
    decide (a.wt + b.wt ≤ 1023)
/-- Merge rows (R204): the sideband of the first, weights summed, poisoned when either is (R196). -/
def MeshRow.merge (a b : MeshRow) : MeshRow :=
  { a with
    data := ((P40.ofRow a.data).merge (P40.ofRow b.data)).toRow
    poison := a.poison || b.poison
    wt := a.wt + b.wt
    srcs := a.srcs ++ b.srcs }
/-- A row that waits at a port for transmission. -/
def txRow (r : MeshRow) : TxItem := { type := .row, part := r.part, wt := r.wt, body := .none, row := some r }
/-- A row enters the transmit buffer of a port, which writes it in the sense of R213; there REDUCE rows merge with REDOFF negotiated (R320). -/
def State.portTake (s : State) (i : Nat) (r : MeshRow) : State :=
  let s := s.rowWritten (16 + i) r
  let x := s.port i
  let same (t : TxItem) : Bool := match t.row with
    | some q => q.mergeable r
    | none => false
  match (if bitAt (s.fld (Reg.LNK_NEG i) Fld.LNK_NEG_FEAT) 0 then findIdx1 same x.tx else none) with
  | some (j, t) =>
    let q := (t.row.getD r).merge { r with srcs := [] }
    let s := s.setPort i { x with tx := setNth x.tx j { txRow q with wt := q.wt } }
    let o := portOut i
    (s.inc (Reg.LNK_MERGECNT i) 1).setCredit o.1 o.2 0 (s.attCredit o.1 o.2 0 + 1)
  | none => s.setPort i { x with tx := x.tx ++ [txRow { r with srcs := [] }] }
/-- A row of the serving engine: a plan row or a descriptor row (R265). -/
def engineRow (p core row : Nat) (d : Row) : MeshRow :=
  { data := d, poison := false, dnode := core, snode := 41, part := p, vc := 0, reduce := false, ste := 255, drow := row, wt := 1 }
/-- The next row that waits outside a router's attachment input: a row of a port's receive buffer, or one of the serving engine. -/
def State.nextFeed (s : State) (r i : Nat) : Option (MeshRow × State) :=
  if r = 5 ∧ i = 5 then
    match (s.srv.parts.find? fun e => e.2.rows != []) with
    | some (p, x) => match x.rows with
      | (c, w, d) :: rest => some (engineRow p c w d, s.setPart p { x with rows := rest })
      | [] => none
    | none => none
  else match portAt r i with
    | some j => match (s.port j).rxData with
      | x :: rest =>
        let g := (s.port j).giveBack
        some (x, s.setPort j { s.port j with rxData := rest, giveBack := setNth g 0 (nth 0 g 0 + 1) })
      | [] => none
    | none => none
/-- Rows that wait outside an attachment input enter it while it has room (R194). -/
def State.feedInput (s : State) (r i : Nat) : Nat → State
  | 0 => s
  | fuel + 1 =>
    if 8 ≤ (s.inputQ r i 0).length then s
    else match s.nextFeed r i with
      | some (x, s) => (s.pushInput r i 0 x).feedInput r i fuel
      | none => s

/-! ### Local delivery: where a row goes -/

/-- The context for which a row arrives at a core: the enabled one of its partition that owns DROW, else the first enabled one,
whose checks of R127 then judge it. -/
def State.destCtx (s : State) (k : Nat) (r : MeshRow) : Option Nat :=
  ((s.ctxsOn r.part k).find? fun n => s.inRows k n r.drow).or (s.ctxsOn r.part k).head?
/-- A port takes rows for transmission while it is UP or retrains (R298). -/
def State.portTakes (s : State) (i : Nat) : Bool := s.portState i == 6 || s.portState i == 7
/-- An output can take a row: its next buffer has a credit, or a discard sink accepts the row (R197, R224, R225). -/
def State.outReady (s : State) (r o : Nat) (x : MeshRow) : Bool :=
  if o < 4 then
    let d := neighbour r o
    decide ((s.inputQ d.1 d.2 x.vc).length < 8)
  else if o = 4 then
    s.discOn r x.part || s.rtrFenced r || match s.destCtx r x with
      | some n => decide ((s.deliv (ctxKey r n)).length < 8)
      | none => true
  else if s.attDown r o then s.discOn r x.part
  else if r = 5 ∧ o = 5 then decide (s.mesh.srvRx.length < 64)
  else match portAt r o with
    | some p => !s.portTakes p || s.attCredit r o x.vc != 0
    | none => false
/-- A row leaves by an output. -/
def State.putOut (s : State) (r o : Nat) (x : MeshRow) : State :=
  if o < 4 then
    let d := neighbour r o
    s.pushInput d.1 d.2 x.vc x
  else if o = 4 then
    if s.discOn r x.part || s.rtrFenced r then s.sink r r x
    else match s.destCtx r x with
      | some n => s.setDeliv (ctxKey r n) (s.deliv (ctxKey r n) ++ [x])
      | none => s.sink r r x
  else if s.attDown r o then s.sink r x.dnode x
  else if r = 5 ∧ o = 5 then { s with mesh := { s.mesh with srvRx := s.mesh.srvRx ++ [x] } }
  else match portAt r o with
    | some p =>
      if s.portTakes p then (s.setCredit r o x.vc (s.attCredit r o x.vc - 1)).portTake p x
      else (s.inc (Reg.LNK_REFCNT p) 1).sink r x.dnode x
    | none => s

/-! ### Arbitration -/

/-- A rotation of 0 to 63 from a start. -/
def rotation (i : Nat) : List Nat := (List.range 64).map fun j => (i + j) % 64
/-- The share arbiter of R198. -/
def Arbiter.grant (a : Arbiter) (shares elig : List Nat) : Option (Nat × Arbiter) :=
  if elig = [] then none
  else
    let a := if a.frame = 0 then { a with frame := 64, left := shares } else a
    let a := { a with frame := a.frame - 1 }
    match (rotation a.gnext).find? fun p => elig.contains p && nth 0 a.left p != 0 with
    | some p => some (p, { a with left := setNth a.left p (nth 0 a.left p - 1), gnext := (p + 1) % 64 })
    | none => ((rotation a.xnext).find? fun p => elig.contains p).map fun p => (p, { a with xnext := (p + 1) % 64 })
/-- Shares of a router output, by partition. -/
def State.rtrShares (s : State) (r o : Nat) : List Nat := (List.range 64).map fun p => bits (s.rd (Reg.RTR_SHARE r o (p / 4))) (8 * (p % 4)) 7

/-- A head of an input buffer: input, virtual channel, row. -/
abbrev Head := Nat × Nat × MeshRow
/-- The heads that wait for an output and can go (R197). -/
def State.headsFor (s : State) (r o : Nat) : List Head :=
  (List.range 8).flatMap fun i => (List.range 3).filterMap fun v => match s.inputQ r i v with
    | x :: _ => if routeOut r x.dnode = o ∧ s.outReady r o x then some (i, v, x) else none
    | [] => none
/-- The oldest of some heads (R197, R201). -/
def oldest (l : List Head) : Option Head := l.foldl (fun m h => match m with
  | some g => if h.2.2.age < g.2.2.age then some h else some g
  | none => some h) none

/-- The route list of a partition at a router (R202): SNODE, STE and COUNT of its entries. -/
def State.routeList (s : State) (r p : Nat) : List (Nat × Nat × Nat) :=
  let a := Reg.RTR_RLSEG r p
  (List.range (s.fld a Fld.RTR_RLSEG_COUNT)).map fun i =>
    let e := s.rd (Reg.RTR_RLIST r (s.fld a Fld.RTR_RLSEG_BASE + i))
    (bits e 26 6, bits e 18 8, bits e 0 16)
/-- A row matches an entry (R200). -/
def routeMatch (e : Nat × Nat × Nat) (x : MeshRow) : Bool :=
  (e.1 == x.snode || (e.1 == 0x3F && decide (32 ≤ x.snode) && decide (x.snode ≤ 39))) && (e.2.1 == x.ste || e.2.1 == 0xFF)
/-- The position of a partition in its route list at an output. -/
def State.routePos (s : State) (r o p : Nat) : RoutePos := SMap.get (fun _ => {}) s.mesh.pos ((r * 8 + o) * 64 + p)
/-- Set a position. -/
def State.setRoutePos (s : State) (r o p : Nat) (x : RoutePos) : State :=
  { s with mesh := { s.mesh with pos := SMap.set (fun _ => ({} : RoutePos)) s.mesh.pos ((r * 8 + o) * 64 + p) x } }
/-- The position after an entry is served (R200); a remaining count of 0 stands for the entry's whole COUNT. -/
def RoutePos.serve (x : RoutePos) (es : List (Nat × Nat × Nat)) (i : Nat) : RoutePos :=
  let rem := if i = x.pos ∧ x.rem ≠ 0 then x.rem else (nth (0, 0, 0) es i).2.2
  if rem ≤ 1 then { pos := (i + 1) % es.length, rem := 0 } else { pos := i, rem := rem - 1 }
/-- Stage 3 of R197 for DATA heads: the route list (R200), else the oldest unlisted head (R201). -/
def State.pickData (s : State) (r o p : Nat) (hs : List Head) : Option (Head × State) :=
  let es := s.routeList r p
  let x := s.routePos r o p
  let order := (List.range es.length).map fun i => (x.pos + i) % es.length
  match order.find? fun i => hs.any fun h => routeMatch (nth (0, 0, 0) es i) h.2.2 with
  | some i => (oldest (hs.filter fun h => routeMatch (nth (0, 0, 0) es i) h.2.2)).map fun h => (h, s.setRoutePos r o p (x.serve es i))
  | none => (oldest hs).map fun h => (h, s.inc (Reg.RTR_UNLISTCNT r) 1)
/-- The three stages of R197. -/
def State.arbitrate (s : State) (r o : Nat) : Option (Head × State) :=
  let hs := s.headsFor r o
  match (SMap.get (fun _ => {}) s.mesh.arbs (r * 8 + o)).grant (s.rtrShares r o) (hs.map fun h => h.2.2.part) with
  | none => none
  | some (p, a) =>
    let s := { s with mesh := { s.mesh with arbs := SMap.set (fun _ => ({} : Arbiter)) s.mesh.arbs (r * 8 + o) a } }
    let mine := hs.filter fun h => h.2.2.part == p
    match oldest (mine.filter fun h => h.2.1 == 2) with
    | some h => some (h, s)
    | none => match oldest (mine.filter fun h => h.2.1 == 1) with
      | some h => some (h, s)
      | none => s.pickData r o p mine

/-- The heads that merge into a granted one (R204): up to two others, oldest first, with a total weight of 1,023 or less. -/
def mergeHeads (h : Head) (hs : List Head) : List Head :=
  let cands := (hs.filter fun g => g.1 != h.1 && g.2.1 == 0 && h.2.1 == 0 && h.2.2.mergeable g.2.2).mergeSort fun a b => decide (a.2.2.age ≤ b.2.2.age)
  match cands with
  | a :: b :: _ => if h.2.2.wt + a.2.2.wt + b.2.2.wt ≤ 1023 then [a, b] else [a]
  | l => l
/-- The head of an input leaves it; what waits behind the input goes on. -/
def State.popInput (s : State) (r i v : Nat) : State :=
  let s := s.setInputQ r i v ((s.inputQ r i v).drop 1)
  if v ≠ 0 then s else if i = 4 then s.runUnit r 6 else if 5 ≤ i then s.feedInput r i 8 else s
/-- Rows that wait outside the attachments of a router enter their inputs while they have room (R194). -/
def State.feedRouter (s : State) (r : Nat) : State := s.forEach [5, 6, 7] fun s i => s.feedInput r i 8
/-- ROUTER_FORWARD (R196 to R204): an output arbitrates once; `sb` is the condition in which the router finds the granted row's
sideband, and `dat` that of its data (0 clean, 1 a single-bit error, 2 uncorrectable). A router corrects data only in a row it merges. -/
def State.forward (s : State) (r o sb dat : Nat) : State :=
  let s := s.feedRouter r
  match s.arbitrate r o with
  | none => s
  | some (h, s) =>
    if sb = 2 then
      let s := (s.popInput r h.1 h.2.1).setF (Reg.RTR_STAT r) Fld.RTR_STAT_SBUE 1
      s.sherd { code := 0x22, sev := 2, unit := unitRouter r, detail := [(48, s.rd (Reg.RTR_STAT r))] }
    else
      let more := mergeHeads h (s.headsFor r o)
      let fixed := (if sb = 1 then 1 else 0) + (if dat = 1 ∧ more ≠ [] then 1 else 0)
      let s := if fixed = 0 then s else s.inc (Reg.RTR_CECNT r) fixed
      let row := more.foldl (fun a g => a.merge g.2.2) (if dat = 2 then { h.2.2 with poison := true } else h.2.2)
      let s := (s.inc (Reg.RTR_MERGECNT r) more.length).putOut r o row
      s.forEach (h :: more) fun s g => s.popInput r g.1 g.2.1
def execRouterForward (r : CoreNo) (o : Fin 8) (sb dat : Fin 3) (s : State) : Host.Outcome State Fault Refusal :=
  .next (s.forward r.val o.val sb.val dat.val)

/-! ### Rows at a core's local port -/

/-- The access of a row that arrives for a context (R180). -/
def portAcc (s : State) (k n row snode : Nat) (kind : TagKind) (tagged : Bool) : Acc :=
  { k := k, ctx := n, pc := s.pcOf k n, slot := 3, tagged := tagged, cls := .msh, kind := kind, row := row, who := 64 + n, snode := snode }
/-- What became of a row at the local port. -/
inductive Landed where
  | written (s : State)
  | waits (s : State)
/-- Write a row at its destination (R180): by FILL in tagged mode, plainly in scheduled mode; a refused one is dropped with its fault. -/
def State.land (s : State) (k n : Nat) (r : MeshRow) : Landed :=
  match s.access (portAcc s k n r.drow r.snode .fill (s.tagged k n)) (some (r.data, r.poison)) with
  | .ok s _ _ => .written (s.rowWritten k r)
  | .refused s => .written (s.rowWritten k r)
  | .blocked s => .waits s
/-- A REDUCE row in scheduled mode (R205) merges into a shelf row of its key with CONTRIB of 1 or more, else overwrites it. -/
def State.landReduce (s : State) (k n : Nat) (r : MeshRow) : Landed :=
  let a := portAcc s k n r.drow r.snode .peek false
  match s.access a none with
  | .refused s => .written (s.rowWritten k r)
  | .blocked s => .waits s
  | .ok s d p =>
    let old := P40.ofRow d
    let new := P40.ofRow r.data
    let w := if old.sameKey new ∧ 1 ≤ old.contrib then ((old.merge new).toRow, p || r.poison) else (r.data, r.poison)
    match s.access a (some w) with
    | .ok s _ _ => .written (s.rowWritten k r)
    | .refused s => .written (s.rowWritten k r)
    | .blocked s => .waits s
/-- A parked row of a context waits for the same shelf row: a later one goes behind it (R195). -/
def State.parkedFor (s : State) (k n row : Nat) : Bool := (s.parked (ctxKey k n)).any fun r => r.drow == row
/-- The head of a context's delivery queue is written, or moves into the parking store when its FILL blocks (R212); `done` follows
when it has left the queue. -/
def State.landHead (s : State) (k n : Nat) (r : MeshRow) (done : State → State) : State :=
  let c := ctxKey k n
  let pop (s : State) : State := s.setDeliv c ((s.deliv c).drop 1)
  let park (s : State) : State := if (s.parked c).length < 16 then done ((pop s).setParked c (s.parked c ++ [r])) else s
  if s.parkedFor k n r.drow then park s
  else
    match (if r.reduce && !s.tagged k n then s.landReduce k n r else s.land k n r) with
    | .written s => done (pop s)
    | .waits s => park s
/-- MESH_ROW_DELIVER (R180, R205, R212): the head of a context's delivery queue, unless it is a REDUCE row in tagged mode. -/
def State.meshDeliver (s : State) (k n : Nat) : State :=
  match s.deliv (ctxKey k n) with
  | [] => s
  | r :: _ => if r.reduce ∧ s.tagged k n then s else s.landHead k n r id
def execMeshRowDeliver (k : CoreNo) (n : CtxNo) (s : State) : Host.Outcome State Fault Refusal := .next (s.meshDeliver k.val n.val)

/-! ### Reduction slots -/

/-- The reduction entry that a row matches (R206). -/
def State.redEntry (s : State) (k : Nat) (r : MeshRow) : Option Nat :=
  (List.range 256).find? fun e =>
    let a := Reg.RTR_REDA k e
    let b := Reg.RTR_REDB k e
    s.fld a Fld.RTR_REDA_VALID == 1 && s.fld a Fld.RTR_REDA_PART == r.part && s.fld b Fld.RTR_REDB_RID == (P40.ofRow r.data).rid &&
      decide (s.fld b Fld.RTR_REDB_DROW ≤ r.drow) && decide (r.drow < s.fld b Fld.RTR_REDB_DROW + s.fld a Fld.RTR_REDA_NROWS)
/-- The register and bit of a row's spill bit. -/
def State.spillAt (s : State) (k e row : Nat) : Nat × Fld :=
  let j := row - s.fld (Reg.RTR_REDB k e) Fld.RTR_REDB_DROW
  (if j < 32 then Reg.RTR_REDSP_LO k e else Reg.RTR_REDSP_HI k e, ⟨j % 32, 1⟩)
/-- The spill bit of a row. -/
def State.spilled (s : State) (k e row : Nat) : Bool :=
  let a := s.spillAt k e row
  s.fld a.1 a.2 == 1
/-- Set the spill bit of a row. -/
def State.setSpill (s : State) (k e row : Nat) (b : Bool) : State :=
  let a := s.spillAt k e row
  s.setF a.1 a.2 (b2n b)
/-- A slot writes its row by the tag-neutral access (R208, R210). -/
def State.slotOut (s : State) (k : Nat) (x : RedSlot) : State := s.putRow k x.drow x.row.toRow x.poison (s.shelfRow k x.drow).full
/-- A merge mismatch at a slot or a spilled row (R209): the context faults, and the row is not written. -/
def State.mismatch (s : State) (k n : Nat) (held new : P40) (r : MeshRow) : State :=
  let s := (s.inc (Reg.RTR_MMCNT k) 1).ctxFault k n (s.pcOf k n) 3 0x0E [r.drow, hdrWord held, hdrWord new, r.snode] []
  s.rowWritten k r
/-- The row that a closed reduction writes; its sends were counted at their merges (R213). -/
def RedSlot.closedRow (x : RedSlot) (k p : Nat) : MeshRow :=
  { data := x.row.toRow, poison := x.poison, dnode := k, snode := x.snode, part := p, vc := 0, reduce := false, ste := 255, drow := x.drow, wt := 1 }
/-- Count a reduction closed above EXPECT, or written out below it, with the advisory record (R207, R210, R476). -/
def State.overShort (s : State) (k n reg : Nat) : State :=
  let s := s.inc reg 1
  s.advise { code := 6, sev := 1, part := s.ctxPart k n, unit := unitCore k, detail := [(48, s.rd (Reg.RTR_OVERCNT k)), (52, s.rd (Reg.RTR_SHORTCNT k))] }
/-- A slot that has reached EXPECT writes its row (R207): parked when its FILL blocks; with the parking store full it keeps it. -/
def State.closeSlot (s : State) (k n : Nat) (x : RedSlot) : State :=
  let c := ctxKey k n
  let r := x.closedRow k (s.ctxPart k n)
  let s := s.when (decide (s.rd (Reg.RTR_REDC k x.entry) < x.row.contrib)) fun s => s.overShort k n (Reg.RTR_OVERCNT k)
  let keep (s : State) : State :=
    if (s.parked c).length < 16 then s.setParked c (s.parked c ++ [r]) else s.setSlots c (s.slots c ++ [{ x with closed := true }])
  if s.parkedFor k n x.drow then keep s
  else match s.land k n r with
    | .written s => s
    | .waits s => keep s
/-- A slot takes the row merged last, or closes (R207). -/
def State.putSlot (s : State) (k n : Nat) (x : RedSlot) : State :=
  if s.rd (Reg.RTR_REDC k x.entry) ≤ x.row.contrib then s.closeSlot k n x
  else s.setSlots (ctxKey k n) (s.slots (ctxKey k n) ++ [x])
/-- A place for a new slot of a context: the oldest open slot spills when all 16 are in use (R208); none when every one holds a
closed row (R207). -/
def State.roomSlot (s : State) (k n : Nat) : Option State :=
  let c := ctxKey k n
  let l := s.slots c
  if l.length < 16 then some s
  else match l.find? fun x => !x.closed with
    | some x => some ((((s.slotOut k x).setSpill k x.entry x.drow true).inc (Reg.RTR_SPILLCNT k) 1).setSlots c (l.erase x))
    | none => none
/-- The row opens a slot, with the spilled row of its key read back first (R207, R209). -/
def State.openSlot (s : State) (k n e : Nat) (r : MeshRow) : State :=
  let p := P40.ofRow r.data
  let new : RedSlot := { entry := e, drow := r.drow, row := p, poison := r.poison, closed := false, snode := r.snode }
  if !s.spilled k e r.drow then (s.rowWritten k r).putSlot k n new
  else
    let (s, d, bad) := s.readRow (portAcc s k n r.drow r.snode .peek false)
    let old := P40.ofRow d
    if !old.sameKey p then s.mismatch k n old p r
    else ((s.setSpill k e r.drow false).rowWritten k r).putSlot k n { new with row := old.merge p, poison := bad || r.poison }
/-- A row that matches a reduction entry (R207 to R209): none while the delivery queue stalls. -/
def State.reduceRow (s : State) (k n e : Nat) (r : MeshRow) : Option State :=
  let c := ctxKey k n
  let p := P40.ofRow r.data
  match (s.slots c).find? fun x => x.entry == e && x.drow == r.drow && !x.closed with
  | some x =>
    if !x.row.sameKey p then some (s.mismatch k n x.row p r)
    else
      let s := (s.rowWritten k r).setSlots c ((s.slots c).erase x)
      some (s.putSlot k n { x with row := x.row.merge p, poison := x.poison || r.poison, snode := r.snode })
  | none => (s.roomSlot k n).map fun s => s.openSlot k n e r
/-- REDUCE_ROW_ARRIVE (R206 to R209): the head of a tagged context's delivery queue is a REDUCE row. -/
def State.reduceArrive (s : State) (k n : Nat) : State :=
  let c := ctxKey k n
  match s.deliv c with
  | [] => s
  | r :: rest =>
    if !r.reduce ∨ !s.tagged k n then s
    else match s.redEntry k r with
      | none => s.landHead k n r fun s => s.inc (Reg.RTR_NOREDCNT k) 1
      | some e => match (s.setDeliv c rest).reduceRow k n e r with
        | some s => s
        | none => s
def execReduceRowArrive (k : CoreNo) (n : CtxNo) (s : State) : Host.Outcome State Fault Refusal := .next (s.reduceArrive k.val n.val)

/-! ### Retries -/

/-- Closed slots move into the parking store as places free there (R207). -/
def State.parkClosed (s : State) (k n : Nat) : State :=
  let c := ctxKey k n
  match (s.slots c).find? fun x => x.closed with
  | some x =>
    if (s.parked c).length < 16 then
      (s.setSlots c ((s.slots c).erase x)).setParked c (s.parked c ++ [x.closedRow k (s.ctxPart k n)])
    else s
  | none => s
/-- A parked row retries once its shelf row is EMPTY (R212, R124): rows parked before it for the same shelf row go first. -/
def State.retryParked (s : State) (k n i : Nat) : State :=
  let c := ctxKey k n
  match (s.parked c)[i]? with
  | none => s
  | some r =>
    if (s.shelfRow k r.drow).full || ((s.parked c).take i).any (fun q => q.drow == r.drow) || !s.mayRetry k r.drow (64 + n) then s
    else match (if r.reduce && !s.tagged k n then s.landReduce k n r else s.land k n r) with
      | .waits _ => s
      | .written s => (s.setParked c ((s.parked c).eraseIdx i)).parkClosed k n
/-- A slot that holds a closed row retries its FILL (R207). -/
def State.retrySlot (s : State) (k n i : Nat) : State :=
  let c := ctxKey k n
  match (s.slots c)[i]? with
  | none => s
  | some x =>
    if !x.closed || (s.shelfRow k x.drow).full || !s.mayRetry k x.drow (64 + n) || s.parkedFor k n x.drow then s
    else match s.land k n (x.closedRow k (s.ctxPart k n)) with
      | .waits _ => s
      | .written s => s.setSlots c ((s.slots c).eraseIdx i)
/-- BLOCKED_ACCESS_RETRY (R124): a blocked access retries. -/
def State.retry (s : State) (k : Nat) (w : Waiter) : State :=
  match w with
  | .unit u => match s.op k u with
    | some o => match o.blocked with
      | some r => if s.mayRetry k r u then s.runUnit k u else s
      | none => s.runUnit k u
    | none => s
  | .queue q => s.retryQueue k q
  | .parked n i => s.retryParked k n i
  | .slot n i => s.retrySlot k n i
def execBlockedAccessRetry (k : CoreNo) (w : Waiter) (s : State) : Host.Outcome State Fault Refusal := .next (s.retry k.val w)

/-! ### The end of a section switch -/

/-- Open slots of a context are written out, and the spill bits of its entries cleared (R210). -/
def State.flushSlots (s : State) (k n : Nat) : State :=
  let c := ctxKey k n
  let opens := (s.slots c).filter fun x => !x.closed
  let s := s.forEach opens fun s x => (s.slotOut k x).when (decide (x.row.contrib < s.rd (Reg.RTR_REDC k x.entry))) fun s =>
    s.overShort k n (Reg.RTR_SHORTCNT k)
  let s := s.setSlots c ((s.slots c).filter fun x => x.closed)
  s.forEach (List.range 256) fun s e =>
    if s.fld (Reg.RTR_REDA k e) Fld.RTR_REDA_VALID = 1 ∧ s.fld (Reg.RTR_REDA k e) Fld.RTR_REDA_PART = s.ctxPart k n ∧
      s.inRows k n (s.fld (Reg.RTR_REDB k e) Fld.RTR_REDB_DROW) then (s.wr (Reg.RTR_REDSP_LO k e) 0).wr (Reg.RTR_REDSP_HI k e) 0 else s
/-- Set the tags of every row of a buffer. -/
def State.tagBuffer (s : State) (k b : Nat) (full : Bool) : State :=
  if s.fld (Reg.SHELF_BUFA k b) Fld.SHELF_BUFA_VALID ≠ 1 then s
  else s.forEach (List.range (s.fld (Reg.SHELF_BUFB k b) Fld.SHELF_BUFB_LEN)) fun s i =>
    let r := s.fld (Reg.SHELF_BUFA k b) Fld.SHELF_BUFA_BASE + i
    s.setShelfRow k r { s.shelfRow k r with full := full }
/-- Every queue that a context owns is empty (R129 step 2). -/
def State.queuesEmpty (s : State) (k n : Nat) : Bool := (List.range 16).all fun q => !s.ownsQueue k n q || s.queue k q == []
/-- SWITCH_COMPLETE (R129 steps 2 to 6, R130). -/
def State.switchComplete (s : State) (k n : Nat) : State :=
  match (s.ctx k n).wait with
  | .switch mode fb nb ne =>
    if s.ctxRun k n ≠ 2 ∨ !s.drained k n 31 ∨ !s.queuesEmpty k n then s
    else match (List.range nb).find? fun i => !(decide (s.bufBase k n ≤ fb + i) && decide (fb + i < s.bufBase k n + s.bufCount k n)) with
      | some i => s.bundleFault k n (s.pcOf k n - 1) 5 0x09 [fb + i, 0, s.bufBase k n + s.bufCount k n * 65536, noNode]
      | none =>
        let s := s.flushSlots k n
        let s := if mode then s.forEach (List.range nb) fun s i => s.tagBuffer k (fb + i) (decide (ne ≤ i)) else s
        ((s.setF (Reg.CORE_CTXCTL k n) Fld.CORE_CTXCTL_MODE (b2n mode)).setWait k n .none).setRun k n 1
  | _ => s
def execSwitchComplete (k : CoreNo) (n : CtxNo) (s : State) : Host.Outcome State Fault Refusal := .next (s.switchComplete k.val n.val)

end Sys2Proof.Machine
end

