-- ==== Sys2Proof/Machine/Hbm.lean ====
section
/-!
DEFINITION. The HBM controllers: regions, requests and answers, errors (R230 to R246), and the tier movers (R249 to R254).
-/
namespace Sys2Proof.Machine

/-! ### Regions -/

/-- An entry that a write leaves valid meets R236: type, HOST, range, no overlap, a key for its tenant (R500). `s` holds the entry as
written. -/
def State.regionOk (s : State) (r : Nat) : Bool :=
  let b := s.fld (Reg.HBM_RGNB r) Fld.HBM_RGNB_VALUE
  let n := s.fld (Reg.HBM_RGNC r) Fld.HBM_RGNC_VALUE
  decide (1024 ≤ b) && decide (b + n ≤ 147456) && decide (1 ≤ n) &&
  (s.validRegions.all fun q => q == r || decide (s.regionBase r + s.regionSize r ≤ s.regionBase q) || decide (s.regionBase q + s.regionSize q ≤ s.regionBase r)) &&
  (s.rgnType r == 4 || s.sec.tenants.any fun t => t.id == s.rgnTenant r && bitAt t.pmask (s.rgnPart r))
/-- The field values of a region entry are legal (R235, HOST of HBM_RGNA). -/
def State.regionFields (s : State) (r : Nat) : Bool :=
  decide (s.rgnType r < 6) && (s.fld (Reg.HBM_RGNA r) Fld.HBM_RGNA_HOST == 0 || s.rgnType r == 0 || s.rgnType r == 3)
/-- The handles of a partition that map a region. -/
def State.handlesOf (s : State) (p r : Nat) : List Nat :=
  ((List.range 64).filter fun h => s.fld (Reg.HBM_HMAP (p * 64 + h)) Fld.HBM_HMAP_VALID == 1 &&
    s.fld (Reg.HBM_HMAP (p * 64 + h)) Fld.HBM_HMAP_RGN == r).map fun h => p * 64 + h
/-- Every stack has trained (R231). -/
def State.allTrained (s : State) : Bool := (List.range 8).all fun m => s.fld (Reg.HBM_STAT m) Fld.HBM_STAT_TRAINED == 1
/-- A refused write of the region table or of the handle map (R236). -/
def State.regionRej (s : State) : State := s.setF (Reg.HBM_STAT 0) Fld.HBM_STAT_WREJ 1
/-- A write of register j of region entry r (R236, R237). -/
def State.regionWrite (s : State) (r j w : Nat) : State :=
  let a := Reg.HBM_RGNA r + 4 * j
  let t := s.wr a ((s.rd a - (s.rd a &&& writable a)) + (w &&& writable a))
  let was := s.rgnValid r
  let now := t.rgnValid r
  let moved := s.rgnTenant r != t.rgnTenant r || s.regionBase r != t.regionBase r || s.regionSize r != t.regionSize r
  if !s.allTrained ∨ s.inUse (s.rgnPart r) ∨ s.inUse (t.rgnPart r) ∨ !t.regionFields r ∨ (now ∧ !t.regionOk r) then s.regionRej
  else
    let gone := was && (!now || s.rgnPart r != t.rgnPart r)
    let t := if gone then { t with hbm := { t.hbm with stale := t.hbm.stale ++ s.handlesOf (s.rgnPart r) r } } else t
    if !now then t.setF (Reg.HBM_RGND r) Fld.HBM_RGND_INIT 0
    else if !was || moved then t.setF (Reg.HBM_RGND r) Fld.HBM_RGND_INIT 1
    else t
/-- A write of handle h of partition p (R236). -/
def State.hmapWrite (s : State) (p h w : Nat) : State :=
  let a := Reg.HBM_HMAP (p * 64 + h)
  let t := s.wr a (w &&& writable a)
  let r := t.fld a Fld.HBM_HMAP_RGN
  if s.run p ≠ 0 ∨ (t.fld a Fld.HBM_HMAP_VALID = 1 ∧ !(s.rgnValid r && s.rgnPart r == p)) then s.regionRej
  else { t with hbm := { t.hbm with stale := t.hbm.stale.filter fun x => x != p * 64 + h } }
/-- REGION_WRITE (R236, R237). -/
def State.writeRegion (s : State) (x : RegionReg) (w : Nat) : State :=
  match x with
  | .rgn r j => s.regionWrite r.val j.val w
  | .hmap p h => s.hmapWrite p.val h.val w
def execRegionWrite (x : RegionReg) (w : Word) (s : State) : Host.Outcome State Fault Refusal := .next (s.writeRegion x w.toNat)

/-- A meter set of the open billing period (R524): tenants 0 to 1,023, then the overhead sets of the partitions. -/
def State.meter (s : State) (set : Nat) : Meter := SMap.get (fun _ => {}) s.mgmt.meters set
/-- Set a meter set. -/
def State.setMeter (s : State) (set : Nat) (m : Meter) : State :=
  { s with mgmt := { s.mgmt with meters := SMap.set (fun _ => ({} : Meter)) s.mgmt.meters set m } }
/-- Count bytes of HBM traffic to a meter set (R524). -/
def State.addHbmb (s : State) (set n : Nat) : State := s.setMeter set { s.meter set with hbmb := (s.meter set).hbmb + n }

/-- INIT_FILL_COMPLETE (R237): every granule of the region holds zeros; accesses accepted before are served first (R241). -/
def State.initDone (s : State) (r : Nat) : State :=
  let lo := s.regionBase r
  let hi := lo + s.regionSize r
  let inside (g : Nat) : Bool := decide (lo ≤ g) && decide (g < hi)
  if !s.rgnInit r || s.hbm.writes.any (fun w => inside w.g) then s
  else
    let s := { s with hbm := { s.hbm with
      mem := s.hbm.mem.filter fun e => !inside e.1
      cond := s.hbm.cond.filter fun e => !inside e.1 } }
    let s := s.forEach (List.range 8) fun s m => s.inc64 (Reg.HBM_WRG_LO m) (s.regionSize r / 8)
    (s.addHbmb (1024 + s.rgnPart r) (32 * s.regionSize r)).setF (Reg.HBM_RGND r) Fld.HBM_RGND_INIT 0
def execInitFillComplete (r : Fin 1024) (s : State) : Host.Outcome State Fault Refusal := .next (s.initDone r.val)

/-! ### Errors -/

/-- The DRAM row of a granule as a record names it (R234, R244). -/
def repairKey (g : Nat) : Nat := g / 8192 * 256 + g % 256
/-- Record the DRAM row of a granule for repair (R244): a 257th row of a stack fails the part (R468). -/
def State.recordRow (s : State) (g : Nat) : State :=
  let m := g % 8
  let n := (s.hbm.repair.filter fun k => k % 8 == m).length
  if s.hbm.repair.contains (repairKey g) then s
  else if 256 ≤ n then (s.sherd { code := 0x33, sev := 4, unit := unitHbm m, detail := [(48, n)] }).partFail 0x33
  else { s with hbm := { s.hbm with repair := s.hbm.repair ++ [repairKey g] } }
/-- A corrected error (R243, R246): counted, and the threshold event at most once in a second. -/
def State.corrected (s : State) (m : Nat) : State :=
  let n := SMap.get (fun _ => 0) s.hbm.ceWin m + 1
  let s := (s.setF (Reg.HBM_STAT m) Fld.HBM_STAT_CE 1).inc (Reg.HBM_CECNT m) 1
  let s := { s with hbm := { s.hbm with ceWin := SMap.set (fun _ => 0) s.hbm.ceWin m n } }
  if s.fld (Reg.HBM_CETHR m) Fld.HBM_CETHR_EN = 1 ∧ s.fld (Reg.HBM_CETHR m) Fld.HBM_CETHR_THR ≤ n ∧ !SMap.get (fun _ => false) s.hbm.ceEv m then
    let s := { s with hbm := { s.hbm with ceEv := SMap.set (fun _ => false) s.hbm.ceEv m true } }
    (s.setF (Reg.HBM_STAT m) Fld.HBM_STAT_CETHR 1).advise { code := 0x31, sev := 1, unit := unitHbm m, detail := [(48, s.rd (Reg.HBM_CECNT m))] }
  else s
/-- An uncorrectable error of a granule (R244). -/
def State.uncorrected (s : State) (g : Nat) : State :=
  let m := g % 8
  let s := (s.setF (Reg.HBM_STAT m) Fld.HBM_STAT_UE 1).inc (Reg.HBM_UECNT m) 1
  let s := (s.wr (Reg.HBM_LASTUE_LO m) (32 * g % 2 ^ 32)).wr (Reg.HBM_LASTUE_HI m) (32 * g / 2 ^ 32)
  let p := match s.regionAt g with
    | some r => s.rgnPart r
    | none => 255
  let s := s.sherd { code := 0x30, sev := 2, part := p, unit := unitHbm m, detail := [(48, 32 * g % 2 ^ 32), (52, 32 * g / 2 ^ 32)] }
  s.recordRow g
/-- The end of a read of granule g whose content has condition `c`, when the controller finds it clean (0), correctable (1) or
uncorrectable (2): whether it is delivered poisoned (R243 to R245). -/
def State.judgeRead (s : State) (g c found : Nat) : Bool × State :=
  if c = 3 then (true, s.inc (Reg.HBM_POISCNT (g % 8)) 1)
  else if c = 2 ∨ found = 2 then (true, s.uncorrected g)
  else if found = 1 then (false, s.corrected (g % 8))
  else (false, s)
/-- A granule that holds what was read carries the uncorrectable error until it is written (R244). -/
def State.markBad (s : State) (g : Nat) (data : Granule) : State :=
  if s.gran g = data ∧ s.granCond g ≠ 3 then { s with hbm := { s.hbm with cond := SMap.set (fun _ => 0) s.hbm.cond g 2 } } else s
/-- A read of the part itself. -/
def State.ownRead (s : State) (g found : Nat) : Bool × State :=
  let c := s.granCond g
  let (bad, s) := s.judgeRead g c found
  (bad, if bad && c != 3 then s.markBad g (s.gran g) else s)

/-- PATROL_SCRUB (R243): the next granule of a stack in ascending order. -/
def State.patrol (s : State) (m found : Nat) : State :=
  let n := SMap.get (fun _ => 0) s.hbm.patrol m
  let s := { s with hbm := { s.hbm with patrol := SMap.set (fun _ => 0) s.hbm.patrol m ((n + 1) % 1207959552) } }
  (s.ownRead (8 * n + m) found).2
def execPatrolScrub (m : StackNo) (found : Fin 3) (s : State) : Host.Outcome State Fault Refusal := .next (s.patrol m.val found.val)

/-- CE_WINDOW_END (R246). -/
def State.ceWindowEnd (s : State) (m : Nat) : State :=
  { s with hbm := { s.hbm with
    ceWin := SMap.set (fun _ => 0) s.hbm.ceWin m 0
    ceEv := SMap.set (fun _ => false) s.hbm.ceEv m false } }
def execCeWindowEnd (m : StackNo) (s : State) : Host.Outcome State Fault Refusal := .next (s.ceWindowEnd m.val)

/-- STACK_SENSOR_READING (R230, HBM_TEMP). -/
def State.stackReading (s : State) (m t : Nat) : State :=
  if s.fld (Reg.HBM_STAT m) Fld.HBM_STAT_TRAINED = 0 then s
  else (s.setF (Reg.HBM_TEMP m) Fld.HBM_TEMP_TEMP t).setF (Reg.HBM_STAT m) Fld.HBM_STAT_HOT (b2n (decide (85 ≤ t)))
def execStackSensorReading (m : StackNo) (t : Byte) (s : State) : Host.Outcome State Fault Refusal := .next (s.stackReading m.val t.toNat)

/-- HBM_STACK_FAILURE (R231, R468). -/
def State.stackFailure (s : State) (m : Nat) : State :=
  (s.sherd { code := 0x32, sev := 4, unit := unitHbm m, detail := [(48, s.rd (Reg.HBM_STAT m))] }).partFail 0x32
def execHbmStackFailure (m : StackNo) (s : State) : Host.Outcome State Fault Refusal := .next (s.stackFailure m.val)

/-! ### Requests -/

/-- A request that R235 allows in the region that holds its granule (R238). -/
def State.reqAllowed (s : State) (q : HbmReq) : Bool :=
  match s.regionAt q.g with
  | none => false
  | some r =>
    let t := s.rgnType r
    !s.rgnInit r && match q.by_ with
      | .desc .. => s.rgnPart r == q.part && if q.write then t == 0 || t == 2 else decide (t ≤ 3)
      | .copy .. => s.rgnPart r == q.part && s.fld (Reg.HBM_RGNA r) Fld.HBM_RGNA_HOST == 1 && (t == 0 || t == 3)
      | .peer port _ _ => q.ok && t == 4 && s.fld (Reg.HBM_RGND r) Fld.HBM_RGND_PEERCHIP == (s.port port).partnerChip
/-- An answer to a peer's request (R324): every granule served, it waits for transmission. -/
def PeerSrv.answer (x : PeerSrv) (chip : Nat) : TxItem :=
  let gs := (x.got.mergeSort fun a b => decide (a.1 ≤ b.1))
  let st := if x.refused then 1 else if gs.any fun e => e.2.2 then 2 else 0
  { type := if x.write then .pack else .prdata, part := 0, wt := 0,
    body := .mem chip x.off x.ngran st x.tag (if x.write || x.refused then [] else gs.map fun e => e.2.1) }
/-- A granule of a peer's request is served (R324). -/
def State.peerGranule (s : State) (port tag i : Nat) (a : HbmResp) : State :=
  let x := s.port port
  match findIdx1 (fun (e : PeerSrv) => e.tag == tag && e.write == a.write) x.serving with
  | none => s
  | some (j, e) =>
    let e := { e with
      got := e.got ++ [(i, a.data, a.poison && !a.write)]
      refused := e.refused || a.refused }
    if e.got.length < e.ngran then s.setPort port { x with serving := setNth x.serving j e }
    else s.setPort port { x with
      serving := x.serving.eraseIdx j
      tx := x.tx ++ [e.answer (s.fld Reg.LNK_CHIP Fld.LNK_CHIP_CHIP)] }
/-- Answer a request on the path of its requester; an answer that nothing waits for is dropped. -/
def State.answerReq (s : State) (q : HbmReq) (data : Granule) (poison refused : Bool) : State :=
  let a : HbmResp := { by_ := q.by_, write := q.write, data := data, poison := poison, refused := refused }
  match q.by_ with
  | .desc k u id _ _ =>
    if (s.queue k u).any fun d => d.started && d.id == id then { s with hbm := { s.hbm with resps := s.hbm.resps ++ [a] } } else s
  | .copy p cid i => s.copyGranule p cid i a
  | .peer port tag i => s.peerGranule port tag i a
/-- The controller of a granule (R234). -/
def HbmReq.ctl (q : HbmReq) : Nat := q.g % 8
/-- Shares of a controller, by partition (R240). -/
def State.hbmShares (s : State) (m : Nat) : List Nat := (List.range 64).map fun p => bits (s.rd (Reg.HBM_SHARE m (p / 4))) (8 * (p % 4)) 7
/-- A controller has room for a request (R222): a refused one needs none. -/
def State.reqRoom (s : State) (q : HbmReq) : Bool :=
  if !s.reqAllowed q then true
  else if q.write then decide ((s.hbm.writes.filter fun r => r.ctl == q.ctl).length < 2048)
  else decide ((s.hbm.reads.filter fun r => r.ctl == q.ctl).length < 8192)
/-- What a read accepted now returns (R241): the content, or that of a write that is not acknowledged, the spec leaving open which. -/
def State.readContent (s : State) (g : Nat) : Granule × Nat × State :=
  match s.hbm.writes.filter fun w => w.g == g with
  | [] => (s.gran g, s.granCond g, s)
  | ws =>
    let (v, t) := s.freshNat
    match ws[v % (ws.length + 1)]? with
    | some w => (w.data, if w.poison then 3 else 0, t)
    | none => (t.gran g, t.granCond g, t)
/-- Accept a request (R238, R241, R245), with its bytes metered to the region's tenant (R524). -/
def State.acceptReq (s : State) (q : HbmReq) : State :=
  if !s.reqAllowed q then (s.inc (Reg.HBM_REFCNT q.ctl) 1).answerReq q 0 false true
  else
    let s := match s.regionAt q.g with
      | some r => s.addHbmb (s.rgnTenant r) 32
      | none => s
    let s := s.addUsage q.part 0 0 1
    if q.write then { s with hbm := { s.hbm with writes := s.hbm.writes ++ [q] } }
    else
      let (d, c, s) := s.readContent q.g
      { s with hbm := { s.hbm with reads := s.hbm.reads ++ [{ q with data := d, cond := c }] } }
/-- HBM_REQUEST (R238, R240): a controller grants one slot to a partition and accepts or refuses its oldest eligible request. -/
def State.hbmRequest (s : State) (m : Nat) : State :=
  let cand (p : Nat) : Option (Nat × HbmReq) := findIdx1 (fun (q : HbmReq) => q.ctl == m && q.part == p && s.reqRoom q) s.hbm.reqs
  let elig := ((s.hbm.reqs.filter fun q => q.ctl == m && s.reqRoom q).map fun q => q.part).eraseDups
  if s.pwr.selfRefresh then s
  else match (SMap.get (fun _ => {}) s.hbm.arbs m).grant (s.hbmShares m) elig with
    | none => s
    | some (p, a) => match cand p with
      | none => s
      | some (i, q) =>
        let s := { s with hbm := { s.hbm with
          arbs := SMap.set (fun _ => ({} : Arbiter)) s.hbm.arbs m a
          reqs := s.hbm.reqs.eraseIdx i } }
        s.acceptReq q
def execHbmRequest (m : StackNo) (s : State) : Host.Outcome State Fault Refusal := .next (s.hbmRequest m.val)

/-- HBM_READ_DATA (R243 to R245): the j-th read accepted by a controller returns; `found` tells how its check ends. -/
def State.hbmReadData (s : State) (m j found : Nat) : State :=
  let mine := s.hbm.reads.zipIdx.filter fun e => e.1.ctl == m
  match mine[j]? with
  | none => s
  | some (q, i) =>
    let s := { s with hbm := { s.hbm with reads := s.hbm.reads.eraseIdx i } }
    let (bad, s) := s.judgeRead q.g q.cond found
    let s := s.when (bad && q.cond != 3) fun s => s.markBad q.g q.data
    (s.inc64 (Reg.HBM_RDG_LO m) 1).answerReq q q.data bad false
def execHbmReadData (m : StackNo) (j : Fin 8192) (found : Fin 3) (s : State) : Host.Outcome State Fault Refusal := .next (s.hbmReadData m.val j.val found.val)

/-- HBM_WRITE_ACK (R241, R245): the oldest write that a controller has accepted becomes visible and is acknowledged. -/
def State.hbmWriteAck (s : State) (m : Nat) : State :=
  match findIdx1 (fun (q : HbmReq) => q.ctl == m) s.hbm.writes with
  | none => s
  | some (i, q) =>
    let s := { s with hbm := { s.hbm with writes := s.hbm.writes.eraseIdx i } }
    ((s.setGran q.g q.data q.poison).inc64 (Reg.HBM_WRG_LO m) 1).answerReq q 0 false false
def execHbmWriteAck (m : StackNo) (s : State) : Host.Outcome State Fault Refusal := .next (s.hbmWriteAck m.val)

/-! ### Tier moves -/

/-- Replace a move. -/
def State.setMove (s : State) (m n : Move) : State :=
  { s with hbm := { s.hbm with moves := s.hbm.moves.map fun x => if x = m then n else x } }
/-- Moves in flight: begun and not ended (R249). -/
def State.movesInFlight (s : State) : Nat := (s.hbm.moves.filter fun m => m.step != 0 && m.step != 9).length
/-- Order the moves of blocks of a stream, outward or inward (R252, R254); a block that has a move keeps it. -/
def State.orderMoves (s : State) (c : Nat) (out : Bool) : State :=
  let x := s.stream c
  let want := (List.range x.nblk).filter fun b =>
    (match s.kv c b with
      | some e => if out then e.tier == 0 else e.tier != 0
      | none => false) && !(s.hbm.moves.any fun m => m.stream == c && m.block == b)
  { s with hbm := { s.hbm with moves := s.hbm.moves ++ want.map fun b =>
    { part := x.part, stream := c, block := b, out := out, tier := 0, chip := 0, slot := 0, step := 0, seq := 0, data := [] } } }
/-- What follows the end of a move (R260): a stream that has no move left is PARKED, a block that has come to lie outside tier 0 of
a resuming stream is ordered inward, a resuming stream with status 5 is PAUSED once its blocks are in tier 0. -/
def State.afterMove (s : State) (p c : Nat) : State :=
  let x := s.stream c
  let more (s : State) : Bool := s.hbm.moves.any fun m => m.stream == c
  let s := match x.state with
    | .parking => if more s then s else s.setStream c { x with state := .parked }
    | .resuming =>
      let s := s.orderMoves c false
      if x.status = 5 ∧ !more s then s.setStream c { s.stream c with state := .paused } else s
    | _ => s
  s.tryStop p
/-- A move fails and its stream ends (R253, R260). -/
def State.moveEnds (s : State) (m : Move) (status : Nat) : State :=
  let s := ((s.dropMove m).inc (Reg.HBM_MVFAIL (blockCtl 0)) 1).freeDest m
  let x := s.stream m.stream
  let s := if x.state = .free ∨ x.state = .ended then s.freeEntry m.part m.stream m.block else s.endStream m.stream status
  s.tryStop m.part
/-- A move fails and is ordered again at a boundary, or is not wanted any more (R253, R254, R260). -/
def State.moveRetry (s : State) (m : Move) : State := (s.failMove m).afterMove m.part m.stream
/-- The lowest port in UP whose partner is a chip (R323). -/
def State.portTo (s : State) (chip : Nat) : Option Nat :=
  (List.range 16).find? fun i => s.portState i == 6 && s.fld (Reg.LNK_PEER i) Fld.LNK_PEER_PCHIP == chip
/-- TAG values that a port has free. -/
def State.freeTags (s : State) (i : Nat) : List Nat :=
  let used := (s.port i).outstanding.map fun r => r.tag
  (List.range 512).filter fun t => !used.contains t
/-- Request the transfer of a sealed block with the chip behind a port (R323): 121 requests of up to 17 granules. None while the port
has no room for them. -/
def State.peerMove (s : State) (i : Nat) (m : Move) (off : Nat) (gs : List Granule) : Option State :=
  let tags := (s.freeTags i).take 121
  if tags.length < 121 then none
  else
    let x := s.port i
    let chip := s.fld Reg.LNK_CHIP Fld.LNK_CHIP_CHIP
    let item (j : Nat) : TxItem :=
      { type := if m.out then .pwrite else .pread, part := m.part, wt := 0,
        body := .mem chip (off + 544 * j) (min 17 (2050 - 17 * j)) 0 (nth 0 tags j) ((gs.drop (17 * j)).take 17) }
    some (s.setPort i { x with
      outstanding := x.outstanding ++ tags.map fun t => { tag := t, stream := m.stream, block := m.block, write := m.out }
      tx := x.tx ++ (List.range 121).map item })
/-- A peer request of a move has not been answered. -/
def State.peerWaits (s : State) (m : Move) : Bool :=
  s.lnk.ports.any fun e => e.2.outstanding.any fun r => r.stream == m.stream && r.block == m.block
/-- The granules of a sealed block (R250): ciphertext, then the trailer. -/
def sealedGranules (d : Sealed) : List Granule :=
  let head := bytesVal (bytesOf 4 0x4C53564B ++ bytesOf 2 0x0100 ++ bytesOf 2 d.srcchip ++ bytesOf 2 d.tenant ++ bytesOf 2 d.ctx ++
    bytesOf 4 d.block ++ bytesOf 4 d.gen ++ bytesOf 8 d.seq)
  (d.data.zipIdx.map fun e => Config.kvCipher d.tenant d.seq e.2 e.1) ++
    [BitVec.ofNat 256 head, BitVec.ofNat 256 (2 ^ 128 * (Config.kvTag d.tenant d.seq d.data % 2 ^ 128))]
/-- The host address of a tier-2 slot (R553). -/
def State.slotAddr (s : State) (p slot : Nat) : Nat :=
  match (s.vf p).ranges.find? fun r => r.index == slot / 16384 with
  | some r => r.base + 65600 * (slot % 16384)
  | none => 0
/-- Where an outward move can go: tier, chip, slot (R272). `lend` is a free slot of a LEND region of another part: its chip and offset. -/
def State.moveDest (s : State) (m : Move) (lend : Option (Nat × Nat)) : Option (Nat × Nat × Nat) :=
  let t1 : Option (Nat × Nat × Nat) := match lend with
    | some (chip, off) =>
      if s.fld (Reg.SRV_PCFG m.part) Fld.SRV_PCFG_TIER1 = 1 ∧ off % 64 = 0 ∧ !(s.hbm.sealed.any fun d => d.tier == 1 && d.chip == chip && d.slot == off) then
        some (1, chip, off) else none
    | none => none
  let t2 : Option (Nat × Nat × Nat) := if s.dmaOn then (s.freeSlot2 m.part).map fun i => (2, 0, i) else none
  if m.tier = 2 then t2.or t1 else t1.or t2
/-- Granules of a block, from its first granule. -/
def State.blockData (s : State) (g0 : Nat) : List Granule := (List.range 2048).map fun i => s.gran (g0 + i)
/-- Steps 1 to 3 of R252 for a block whose granules are good. -/
def State.sealOut (s : State) (m : Move) (g0 : Nat) (d : Nat × Nat × Nat) : State :=
  let x := s.stream m.stream
  let chip := s.fld Reg.LNK_CHIP Fld.LNK_CHIP_CHIP
  let seq := (s.hbm.moveseq + 1) % 2 ^ 64
  let b : Sealed :=
    { srcchip := chip, tenant := x.tenant, ctx := m.stream, block := m.block, gen := x.gen, seq := seq, tier := d.1, chip := d.2.1,
      slot := d.2.2, data := s.blockData g0 }
  let n : Move := { m with tier := d.1, chip := d.2.1, slot := d.2.2, step := 3, seq := seq }
  let s := { s with hbm := { s.hbm with moveseq := seq, sealed := s.hbm.sealed ++ [b] } }
  let s := s.setMove m n
  if d.1 = 2 then
    let a := s.slotAddr m.part d.2.2
    let out := (sealedGranules b).zipIdx.map fun e => (m.part, a + 32 * e.2, e.1, false)
    ({ s with host := { s.host with dmaOut := s.host.dmaOut ++ out } }).slot2 m.part d.2.2 true
  else match s.portTo d.2.1 with
    | none => s.moveRetry n
    | some i => (s.peerMove i n d.2.2 (sealedGranules b)).getD s
/-- KV_MOVE_OUT (R252 to R254): the ordered move of a block begins. `found` lists the granules in which the read finds an error. -/
def State.kvMoveOut (s : State) (c b : Nat) (found : List (Nat × Nat)) (lend : Option (Nat × Nat)) : State :=
  match s.hbm.moves.find? fun m => m.stream == c && m.block == b && m.out && m.step == 0, s.kv c b with
  | some m, some e =>
    match s.moveDest m lend with
    | none => s
    | some d =>
      let wait := d.1 == 1 && match s.portTo d.2.1 with
        | some i => decide ((s.freeTags i).length < 121)
        | none => false
      if e.tier ≠ 0 ∨ 64 ≤ s.movesInFlight ∨ wait ∨ s.pwr.selfRefresh then s
      else
        let g0 := e.off / 32
        let marked := (s.hbm.cond.filter fun x => decide (g0 ≤ x.1) && decide (x.1 < g0 + 2048)).map fun x => (x.1 - g0, 0)
        let (bad, s) := (marked ++ found.filter fun f => !(marked.any fun x => x.1 == f.1)).foldl (fun (a : Bool × State) f =>
          let r := a.2.ownRead (g0 + f.1) f.2
          (a.1 || r.1, r.2)) (false, s)
        let s := s.forEach (List.range 8) fun s k => s.inc64 (Reg.HBM_RDG_LO k) 256
        let s := s.addHbmb (s.stream c).tenant 65536
        if bad then s.moveEnds m 8 else s.sealOut m g0 d
  | _, _ => s
def execKvMoveOut (c : StreamNo) (b : Fin 1024) (found : List (Fin 2048 × Fin 3)) (lend : Option (BitVec 12 × BitVec 44)) (s : State) : Host.Outcome State Fault Refusal := .next (s.kvMoveOut c.val b.val (found.map fun f => (f.1.val, f.2.val)) (lend.map fun l => (l.1.toNat, l.2.toNat)))

/-- KV_MOVE_OUT_CONFIRM (R252 steps 4 to 6): the slot is confirmed: for tier 1 when every peer request is acknowledged; for tier 2 as
`result` tells: 0 confirmed, 1 the host refused it, 2 the link failed. -/
def State.kvMoveOutConfirm (s : State) (c b result : Nat) : State :=
  match s.hbm.moves.find? fun m => m.stream == c && m.block == b && m.out && m.step == 3 with
  | none => s
  | some m =>
    if m.tier = 1 ∧ s.peerWaits m then s
    else if m.tier = 2 ∧ result ≠ 0 then
      s.moveRetry m
    else
      let s := (s.dropMove m).inc (Reg.HBM_MVCNT (blockCtl 0)) 1
      let s := s.setKv c b (some { tier := m.tier, off := m.slot, chip := m.chip, seq := m.seq })
      let x := s.stream c
      let s := if x.state = .free ∨ x.state = .ended then s.freeEntry m.part c b else s.setStream c { x with tiers := s.tiersOf c }
      s.afterMove m.part c
def execKvMoveOutConfirm (c : StreamNo) (b : Fin 1024) (result : Fin 3) (s : State) : Host.Outcome State Fault Refusal := .next (s.kvMoveOutConfirm c.val b.val result.val)

/-- The checks of an inward move (R252): the trailer that passes MAGIC, VERSION and TAG names what the context records. -/
def State.checkIn (s : State) (m : Move) (e : KvEnt) (t : Option SealId) : State :=
  let x := s.stream m.stream
  match t, s.hbm.sealed.find? fun d => d.seq == e.seq with
  | some t, some d =>
    if t.tenant = x.tenant ∧ t.ctx = m.stream ∧ t.block = m.block ∧ t.gen = x.gen ∧ t.seq = e.seq then
      s.setMove m { m with step := 4, data := d.data }
    else s.moveEnds m 7
  | _, _ => s.moveEnds m 7
/-- KV_MOVE_IN (R252): the ordered inward move of a block reads its slot; from tier 1 it requests the block, and is taken again when
every peer request is answered. `t` is the trailer read, when MAGIC, VERSION and TAG check. -/
def State.kvMoveIn (s : State) (c b : Nat) (t : Option SealId) : State :=
  match s.hbm.moves.find? fun m => m.stream == c && m.block == b && !m.out && decide (m.step < 2), s.kv c b with
  | some m, some e =>
    if m.step = 1 then (if s.peerWaits m then s else s.checkIn m e t)
    else if 64 ≤ s.movesInFlight ∨ s.pwr.selfRefresh then s
    else if e.tier = 1 then
      match s.portTo e.chip with
      | none => s.moveRetry m
      | some i => match s.peerMove i m e.off [] with
        | some s => s.setMove m { m with step := 1, tier := 1, chip := e.chip, slot := e.off, seq := e.seq }
        | none => s
    else if e.tier = 2 ∧ s.dmaOn then s.checkIn m e t
    else s
  | _, _ => s
def execKvMoveIn (c : StreamNo) (b : Fin 1024) (t : Option SealId) (s : State) : Host.Outcome State Fault Refusal := .next (s.kvMoveIn c.val b.val t)

/-- KV_MOVE_IN_DONE (R252): the plaintext goes to the lowest free tier-0 block, and the remote slot is free. -/
def State.kvMoveInDone (s : State) (c b : Nat) : State :=
  match s.hbm.moves.find? fun m => m.stream == c && m.block == b && !m.out && m.step == 4, s.kv c b with
  | some m, some e =>
    match s.freeBlock m.part (s.stream c).tenant [] with
    | none => s
    | some off =>
      let s := s.forEach m.data.zipIdx fun s x => s.setGran (off / 32 + x.2) x.1 false
      let s := s.forEach (List.range 8) fun s k => s.inc64 (Reg.HBM_WRG_LO k) 256
      let s := s.addHbmb (s.stream c).tenant 65536
      let s := (s.freeEntry m.part c b).dropMove m
      let s := (s.inc (Reg.HBM_MVCNT (blockCtl 0)) 1).setKv c b (some { tier := 0, off := off, chip := 0, seq := e.seq })
      let x := s.stream c
      let s := if x.state = .free ∨ x.state = .ended then s.freeEntry m.part c b else s.setStream c { x with tiers := s.tiersOf c }
      s.afterMove m.part c
  | _, _ => s
def execKvMoveInDone (c : StreamNo) (b : Fin 1024) (s : State) : Host.Outcome State Fault Refusal := .next (s.kvMoveInDone c.val b.val)

end Sys2Proof.Machine
end

