-- ==== Sys2Proof/Machine/Sampler.lean ====
section
/-!
DEFINITION. The sampler: binary32 arithmetic, the fixed exponential, Philox4x32-10, and the choice of a token (R276 to R281).
-/
namespace Sys2Proof.Machine

/-! ### Binary32 -/

/-- A binary32 value: finite, or infinity with its sign. -/
inductive F32 where
  | fin (x : Rat)
  | inf (neg : Bool)
  deriving DecidableEq, Repr

/-- Round to IEEE 754 binary32 (R19, R276). -/
def f32 (x : Rat) : F32 :=
  if x = 0 then .fin 0
  else
    let u := max (ratLog2 x - 23) (-149)
    let r : Rat := if 0 ≤ u then ((rneDiv x.num (x.den * 2 ^ u.toNat) * (2 ^ u.toNat : Nat) : Int) : Rat)
      else ((rneDiv (x.num * (2 ^ (-u).toNat : Nat)) x.den : Int) : Rat) / ((2 ^ (-u).toNat : Nat) : Rat)
    if r < (2 ^ 128 : Nat) ∧ -(2 ^ 128 : Nat) < r then .fin r else .inf (decide (r < 0))
/-- An operation with a finite positive operand, rounded. -/
def F32.map (f : Rat → Rat) : F32 → F32
  | .fin x => f32 (f x)
  | .inf n => .inf n
/-- a is above b. -/
def F32.above : F32 → F32 → Bool
  | .fin a, .fin b => decide (b < a)
  | .fin _, .inf n => n
  | .inf n, .fin _ => !n
  | .inf a, .inf b => !a && b
/-- The value of a BF16 code; none for infinity and NaN. -/
def bf16Rat (c : Nat) : Option Rat := (bf16 c).map fun v =>
  if 0 ≤ v.2 then (v.1 * (2 ^ v.2.toNat : Nat) : Rat) else (v.1 : Rat) / ((2 ^ (-v.2).toNat : Nat) : Rat)

/-! ### Weights -/

/-- Floor of 2^20 e^(-y) for y above 0, by a sum in fixed point with 400 fraction bits. -/
def expFloor (y : Rat) : Nat :=
  if 16 ≤ y then 0
  else
    let n := y.num.toNat
    let r := (List.range 200).foldl (fun (a : Nat × Nat) i => (a.1 + a.2, a.2 * n / (y.den * (i + 1)))) (0, 2 ^ 400)
    2 ^ 420 / r.1
/-- W of R279 for an operand at or below 0: an integer within 1 of 2^20 e^x, at most 2^20. Its values in the example after R283 are
those given there; elsewhere the spec leaves one of two integers open. -/
def samplerW (x : Rat) : Nat :=
  if x = 0 then 1048576
  else if x = -1 / 2 then 635993
  else if x = -1 then 385750
  else if x = -2 then 141909
  else min 1048576 (expFloor (-x) + Config.samplerBit x.num x.den % 2)
/-- The weight of a candidate (R279); infinite values that equal the largest weigh W(0), others 0 (the spec states no value). -/
def weightOf (z zmax : F32) : Nat :=
  if z = zmax then samplerW 0
  else match z, zmax with
    | .fin a, .fin b => match f32 (a - b) with
      | .fin x => samplerW x
      | .inf _ => 0
    | _, _ => 0

/-! ### Philox4x32-10 -/

/-- One round: counter words and keys. -/
def philoxRound (c : Nat × Nat × Nat × Nat) (k : Nat × Nat) : Nat × Nat × Nat × Nat :=
  let a := 0xD2511F53 * c.1
  let b := 0xCD9E8D57 * c.2.2.1
  (b / 2 ^ 32 ^^^ c.2.1 ^^^ k.1, b % 2 ^ 32, a / 2 ^ 32 ^^^ c.2.2.2 ^^^ k.2, a % 2 ^ 32)
/-- Ten rounds (R281); the constants of the generator are those of its definition (log entry 60). -/
def philox (key : Nat) (c : Nat × Nat × Nat × Nat) : Nat × Nat × Nat × Nat :=
  (List.range 10).foldl (fun c i => philoxRound c ((key + i * 0x9E3779B9) % 2 ^ 32, (key / 2 ^ 32 + i * 0xBB67AE85) % 2 ^ 32)) c
/-- The random value u of a position (R281). -/
def randomU (seed pos : Nat) : Nat :=
  let x := philox seed (pos % 2 ^ 32, 0, 0, 0)
  x.2.1 * 2 ^ 32 + x.1

/-! ### The choice of a token -/

/-- Sampling parameters of a stream (R258): BF16 codes, TOPK, TOPP and SEED. -/
structure SampleParams where
  temp : Nat
  topk : Nat
  topp : Nat
  rep : Nat
  pres : Nat
  freq : Nat
  seed : Nat
  deriving DecidableEq, Repr

/-- x of a token (R276). -/
def penalised (q : SampleParams) (l : Rat) (count : Nat) : F32 :=
  let rho := (bf16Rat q.rep).getD 1
  let f := (bf16Rat q.freq).getD 0
  let p := (bf16Rat q.pres).getD 0
  if count = 0 then .fin l
  else
    let a := f32 (if 0 < l then l / rho else l * rho)
    let b := match f32 (count * f) with
      | .fin x => a.map (· - x)
      | .inf n => .inf !n
    b.map (· - p)
/-- The ranking of R278: larger z first, the lower index first on a tie. -/
def rankBefore (a b : Nat × F32) : Bool := a.2.above b.2 || (!b.2.above a.2 && decide (a.1 ≤ b.1))
/-- The shortest prefix of the ranking that R280 keeps. -/
def keptPrefix (topp total : Nat) : Nat → List (Nat × Nat) → List (Nat × Nat)
  | _, [] => []
  | sum, e :: l => if topp * total ≤ (sum + e.2) * 65536 then [e] else e :: keptPrefix topp total (sum + e.2) l
/-- The first kept candidate whose running sum exceeds t (R281). -/
def drawFrom (t : Nat) : Nat → List (Nat × Nat) → Option Nat
  | _, [] => none
  | sum, e :: l => if t < sum + e.2 then some e.1 else drawFrom t (sum + e.2) l
/-- Sample a token from BF16 logits with the counts of their tokens at a position: the token, none when fewer than one logit remains,
and the number of logits excluded (R276 to R281). -/
def sampleToken (q : SampleParams) (logits : List Nat) (count : Nat → Nat) (pos : Nat) : Option Nat × Nat :=
  let vals := logits.zipIdx.filterMap fun e => (bf16Rat e.1).map fun l => (e.2, l)
  let bad := logits.length - vals.length
  let xs := vals.map fun e => (e.1, penalised q e.2 (count e.1))
  if q.temp = 0 then (((xs.mergeSort rankBefore).head?).map (·.1), bad)
  else
    let t := (bf16Rat q.temp).getD 1
    let cands := ((xs.map fun e => (e.1, e.2.map (· / t))).mergeSort rankBefore).take q.topk
    match cands with
    | [] => (none, bad)
    | c :: _ =>
      let ws := cands.map fun e => (e.1, weightOf e.2 c.2)
      let total := ws.foldl (fun a e => a + e.2) 0
      let kept := keptPrefix q.topp total 0 ws
      let sum := kept.foldl (fun a e => a + e.2) 0
      (drawFrom (randomU q.seed pos * sum / 2 ^ 64) 0 kept, bad)

end Sys2Proof.Machine
end

