-- ==== Sys2Proof/Machine/Serving.lean ====
section
/-!
DEFINITION. The serving engine: time, admission, counts, planning, sampling, commit and replay, adapters, parking (R257 to R292).
-/
namespace Sys2Proof.Machine

/-! ### Time, tables, metering -/

/-- MT in nanoseconds. -/
def State.mt (s : State) : Nat := s.rd64 Reg.SRV_MT_LO
/-- MT has come to `now`; it never runs backward. -/
def State.tick (s : State) (now : Nat) : State := s.wr64 Reg.SRV_MT_LO (max s.mt (now % 2 ^ 64))
/-- The MT at which a stream misses its goal (R257). -/
def Stream.goal (x : Stream) : Nat := x.tlast + 1000 * x.tokdl
/-- The number of parts in the job of a partition, less 1. -/
def State.jobParts (s : State) (p : Nat) : Nat := s.fld (Reg.SRV_PCFG p) Fld.SRV_PCFG_JOBPARTS
/-- This part's engine makes the decisions of a partition (R267). -/
def State.leads (s : State) (p : Nat) : Bool := s.jobParts p == 0 || s.fld (Reg.SRV_PCFG p) Fld.SRV_PCFG_LEAD == 1
/-- Load-balanced mode (R267). -/
def State.balanced (s : State) (p : Nat) : Bool := decide (8 ≤ s.jobParts p)
/-- The partition, streams of which are in the order of R263: by class, then by admission. -/
def State.orderOf (s : State) (l : List Nat) : List Nat :=
  l.mergeSort fun a b => decide ((s.stream a).prio < (s.stream b).prio) ||
    ((s.stream a).prio == (s.stream b).prio && decide ((s.stream a).seq ≤ (s.stream b).seq))

/-- A granule of a region written by the engine (R524, R255). -/
def State.engineWrite (s : State) (g : Nat) (v : Granule) : State :=
  let s := match s.regionAt g with
    | some r => s.addHbmb (s.rgnTenant r) 32
    | none => s
  (s.setGran g v false).inc64 (Reg.HBM_WRG_LO (g % 8)) 1
/-- A granule of a region read by the engine. -/
def State.engineRead (s : State) (g : Nat) : Granule × State :=
  let s := match s.regionAt g with
    | some r => s.addHbmb (s.rgnTenant r) 32
    | none => s
  (s.gran g, (s.ownRead g 0).2.inc64 (Reg.HBM_RDG_LO (g % 8)) 1)

/-- The first granule of a stream's count table (R258, R283). -/
def State.countBase (s : State) (c : Nat) : Nat :=
  let x := s.stream c
  match s.handleRegion x.part x.rcreg with
  | some r => s.regionBase r + x.rcoff / 32
  | none => 0
/-- Places of the count table that are looked up for a token: granule and entry, in order (R283). -/
def State.countPlaces (s : State) (c i : Nat) : List (Nat × Nat) :=
  let n := 2 ^ (s.stream c).rcexp
  let h := i * 0x9E3779B1 % 2 ^ 32 / 2 ^ (32 - (s.stream c).rcexp)
  (List.range 8).flatMap fun b => (List.range 4).map fun e => (s.countBase c + (h + b) % n, e)
/-- Entry of a bucket: token and count. -/
def countEntry (v : Granule) (e : Nat) : Nat × Nat := (bits v.toNat (64 * e) 32, bits v.toNat (64 * e + 32) 16)
/-- The place that holds a token, or else the first free one. -/
def State.countPlace (s : State) (c i : Nat) : Option (Nat × Nat) :=
  let l := s.countPlaces c i
  (l.find? fun a => (countEntry (s.gran a.1) a.2).2 != 0 && (countEntry (s.gran a.1) a.2).1 == i).or
    (l.find? fun a => (countEntry (s.gran a.1) a.2).2 == 0)
/-- The repetition count of a token (R283). -/
def State.countOf (s : State) (c i : Nat) : Nat :=
  match s.countPlace c i with
  | some a => (countEntry (s.gran a.1) a.2).2
  | none => 0
/-- The count of a committed token increases by 1 (R283). -/
def State.countUp (s : State) (c i : Nat) : State :=
  match s.countPlace c i with
  | none => s.inc Reg.SRV_RCOVFCNT 1
  | some a =>
    let v := (s.gran a.1).toNat
    let n := satAdd 65535 (countEntry (s.gran a.1) a.2).2 1
    s.setGran a.1 (BitVec.ofNat 256 (v - bits v (64 * a.2) 64 * 2 ^ (64 * a.2) + (i % 2 ^ 32 + n * 2 ^ 32) * 2 ^ (64 * a.2))) false
/-- Prompt token i of a stream (R258). -/
def State.promptToken (s : State) (c i : Nat) : Nat :=
  let x := s.stream c
  match s.handleRegion x.part x.plocReg with
  | some r =>
    let b := x.plocOff + 4 * i
    bits ((s.gran (s.regionBase r + b / 32)).toNat + 2 ^ 256 * (s.gran (s.regionBase r + b / 32 + 1)).toNat) (8 * (b % 32)) 32
  | none => 0

/-- Add usage to a meter set, with the energy of R524. -/
def State.addShare (s : State) (set tread wops gran : Nat) : State :=
  let m := s.meter set
  let pj := tread * s.fld Reg.PWR_ABUDGET Fld.PWR_ABUDGET_EREAD + wops * s.fld Reg.MTR_ECFG Fld.MTR_ECFG_EWOP +
    gran * s.fld Reg.MTR_ECFG Fld.MTR_ECFG_EGRAN + m.rem
  s.setMeter set { m with
    tread := m.tread + tread
    wops := m.wops + wops
    energy := m.energy + pj / 1000000000
    rem := pj % 1000000000 }
/-- Split the usage of a partition among the tenants of committed entries, given in context order as tenant and NTOK; without any
token it is overhead (R525). -/
def State.splitUsage (s : State) (p : Nat) (l : List (Nat × Nat)) : State :=
  let u := SMap.get (fun _ => ({} : Usage)) s.mgmt.usage p
  let s := { s with mgmt := { s.mgmt with usage := SMap.del p s.mgmt.usage } }
  let n := l.foldl (fun a e => a + e.2) 0
  if n = 0 then s.addShare (1024 + p) u.tread u.wops u.gran
  else
    let ts := (l.map (·.1)).eraseDups
    let nt (t : Nat) : Nat := (l.filter fun e => e.1 == t).foldl (fun a e => a + e.2) 0
    let rest (v : Nat) : Nat := v - ts.foldl (fun a t => a + v * nt t / n) 0
    let s := s.forEach ts fun s t => s.addShare t (u.tread * nt t / n) (u.wops * nt t / n) (u.gran * nt t / n)
    s.addShare (l.head?.map (·.1)).get! (rest u.tread) (rest u.wops) (rest u.gran)

/-! ### Admission -/

/-- A field of an admission record: n bytes from byte i. -/
def admField (w i n : Nat) : Nat := bits w (8 * i) (8 * n)
/-- A BF16 code is a positive normal value of at most `top`. -/
def bf16Normal (c top : Nat) : Bool := decide (0x0080 ≤ c) && decide (c ≤ top)
/-- A BF16 code is finite with a magnitude of at most 64. -/
def bf16Within64 (c : Nat) : Bool := decide (c % 0x8000 ≤ 0x4280)
/-- The fields of an admission record lie in their ranges, and reserved ones are 0 (R258, R262 check 3, R276, R277). -/
def admFieldsOk (w : Nat) : Bool :=
  let z (i n : Nat) : Bool := admField w i n == 0
  let f := admField w
  z 0 1 && decide (f 1 1 < 16) && decide (f 2 2 < 1024) && decide (f 4 1 < 64) && (decide (f 5 1 < 64) || f 5 1 == 255) &&
  decide (f 6 1 < 2) && (f 5 1 != 255 || f 6 1 == 0) && z 7 1 && z 8 4 && z 12 4 && z 24 4 &&
  decide (1 ≤ f 28 4) && decide (f 28 4 ≤ 1048576) && decide (1 ≤ f 32 4) && decide (f 32 4 ≤ 1048576) && decide (1 ≤ f 36 4) &&
  z 40 8 && z 48 8 && decide (1 ≤ f 56 4) && decide (1 ≤ f 60 4) &&
  (f 64 2 == 0 || bf16Normal (f 64 2) 0x4280) && decide (1 ≤ f 66 2) && decide (f 66 2 ≤ 1024) && decide (1 ≤ f 68 4) && decide (f 68 4 ≤ 65536) &&
  bf16Normal (f 72 2) 0x4180 && bf16Within64 (f 74 2) && bf16Within64 (f 76 2) && z 78 2 &&
  f 96 8 % 32 == 0 && decide (f 96 8 < 2 ^ 40) && decide (4 ≤ f 105 1) && decide (f 105 1 ≤ 16) && z 106 2 && z 108 1 && z 109 3 &&
  decide (f 112 8 < 2 ^ 48) && z 120 8
/-- A byte range lies in the region of a type that a handle of p names (R262 check 4). -/
def State.inRegion (s : State) (p h type off n : Nat) : Bool :=
  decide (h < 64) && match s.handleRegion p h with
    | some r => s.rgnType r == type && decide (off + n ≤ 32 * s.regionSize r)
    | none => false
/-- A handle names a region of tenant t (R501). -/
def State.ofTenant (s : State) (p h t : Nat) : Bool := match s.handleRegion p h with
  | some r => s.rgnTenant r == t
  | none => false
/-- The lowest FREE context of a partition's allotment that holds nothing in flight. -/
def State.freeCtx (s : State) (p : Nat) : Option Nat :=
  let a := Reg.SRV_PCTX p
  let busy := (s.srv.streams.filter fun e => e.2.state != .free).map (·.1) ++ s.hbm.moves.map fun m => m.stream
  ((List.range (min (s.fld a Fld.SRV_PCTX_COUNT) (busy.length + 1))).map fun i => s.fld a Fld.SRV_PCTX_BASE + i).find? fun c => !busy.contains c
/-- The context for an admission, or the reason of R262; a count table of another tenant (R501) counts under reason 4. -/
def State.admitCheck (s : State) (p w : Nat) : Nat ⊕ Nat :=
  let part := admField w 4 1
  let plen := admField w 28 4
  let cap := s.fld (Reg.SRV_PPLAN p) Fld.SRV_PPLAN_DPE - 2
  let t := admField w 2 2
  if part ≠ p ∨ s.run p = 0 ∨ s.run p = 3 ∨ (s.part p).stopping ≠ 0 ∨ !s.leads p then .inr 1
  else if !(s.sec.tenants.any fun e => e.id == t && bitAt e.pmask p) then .inr 2
  else if !admFieldsOk w ∨ cap < (plen + admField w 32 4 + 119) / 120 then .inr 3
  else if !s.inRegion p (admField w 117 1) 0 (admField w 112 5) (4 * plen) ∨
    !s.inRegion p (admField w 104 1) 5 (admField w 96 5) (32 * 2 ^ admField w 105 1) ∨
    !s.ofTenant p (admField w 104 1) t then .inr 4
  else if admField w 5 1 ≠ 255 ∧ s.fld (Reg.ADP_SCTL (p * 64 + admField w 5 1)) Fld.ADP_SCTL_CFG = 0 then .inr 5
  else match s.freeCtx p with
    | some c => .inl c
    | none => .inr 6
/-- The stream of an admission record (R258, R260). -/
def admStream (w gen now seq : Nat) : Stream :=
  let f := admField w
  { state := .queued, prio := f 1 1 % 8, pcnt := bitAt (f 1 1) 3, tenant := f 2 2, part := f 4 1, aslot := f 5 1, abank := f 6 1, gen := gen,
    seed := f 16 8, plen := f 28 4, maxtok := f 32 4, tokdl := f 36 4, tlast := now, parkt := f 56 4, ttl := f 60 4, temp := f 64 2,
    topk := f 66 2, topp := f 68 4, rep := f 72 2, pres := f 74 2, freq := f 76 2, stops := (List.range 4).map fun i => f (80 + 4 * i) 4,
    rcoff := f 96 5, rcreg := f 104 1, rcexp := f 105 1, plocOff := f 112 5, plocReg := f 117 1, seq := seq }
/-- Take a context into QUEUED (R259, R260): its count table is zeroed, and its stream-end entry is reserved (R547). -/
def State.admitStream (s : State) (p c w : Nat) : State :=
  let q := s.part p
  let gen := ((s.stream c).gen + 1) % 2 ^ 32
  let s := s.setStream c (admStream w gen s.mt q.seqNext)
  let s := s.setPart p { q with seqNext := q.seqNext + 1 }
  let s := s.forEach (List.range (2 ^ admField w 105 1)) fun s i => s.engineWrite (s.countBase c + i) 0
  s.setVf p { s.vf p with ends := (s.vf p).ends ++ [c] }
/-- ADMIT (R262, R546): `rec` is the 128-byte admission record, none when the host answers its fetch with an error. -/
def State.admitCmd (s : State) (p cid : Nat) (rec : Option Nat) (now : Nat) : State :=
  let s := s.tick now
  match s.startable p cid 1 with
  | none => s
  | some _ =>
    if !s.dmaOn then s
    else match rec with
      | none => s.complete p cid 4 0 0
      | some w =>
        if s.run p = 0 then s.complete p cid 3 0 0
        else match s.admitCheck p w with
          | .inr reason => s.complete p cid 6 0 reason
          | .inl c => (s.admitStream p c w).complete p cid 0 (((s.stream c).gen + 1) % 2 ^ 32) c
def execAdmitStream (p : PartNo) (cid : BitVec 16) (rec : Option (BitVec 1024)) (now : BitVec 64) (s : State) : Host.Outcome State Fault Refusal := .next (s.admitCmd p.val cid.toNat (rec.map (·.toNat)) now.toNat)

/-- CANCEL (R260, R546): the stream ends with status 3 at the next boundary of its partition. -/
def State.cancelCmd (s : State) (p cid : Nat) : State :=
  match s.startable p cid 2 with
  | none => s
  | some c =>
    let x := s.stream c.entry.ctx
    if x.state = .free ∨ x.part ≠ p ∨ x.gen ≠ c.entry.gen then s.complete p cid 7 0 0
    else (if x.state = .ended then s else s.setStream c.entry.ctx { x with cancel := true }).complete p cid 0 0 0
def execCancel (p : PartNo) (cid : BitVec 16) (s : State) : Host.Outcome State Fault Refusal := .next (s.cancelCmd p.val cid.toNat)

/-! ### Parking and expiry -/

/-- A stream starts to park (R260, R272). -/
def State.park (s : State) (c : Nat) : State :=
  let x := s.stream c
  if x.state ≠ .paused then s
  else ((s.setStream c { x with state := .parking }).orderMoves c true).afterMove x.part c
/-- PARK_TIMER (R272): equality parks. -/
def State.parkTimer (s : State) (c now : Nat) : State :=
  let s := s.tick now
  let x := s.stream c
  if x.tpause + 1000 * x.parkt ≤ s.mt then s.park c else s
def execParkTimer (c : StreamNo) (now : BitVec 64) (s : State) : Host.Outcome State Fault Refusal := .next (s.parkTimer c.val now.toNat)

/-- A stream is in a pause: PAUSED to RESUMING. -/
def Stream.inPause (x : Stream) : Bool := x.state == .paused || x.state == .parking || x.state == .parked || x.state == .resuming
/-- A pause has reached its time to live (R273). -/
def State.expire (s : State) (c : Nat) : State :=
  let x := s.stream c
  if x.inPause ∧ x.tpause + 1000000 * x.ttl ≤ s.mt then (s.endStream c 4).inc Reg.SRV_EXPCNT 1 else s
/-- PAUSE_EXPIRY (R273). -/
def State.pauseExpiry (s : State) (c now : Nat) : State := (s.tick now).expire c
def execPauseExpiry (c : StreamNo) (now : BitVec 64) (s : State) : Host.Outcome State Fault Refusal := .next (s.pauseExpiry c.val now.toNat)

/-- MOVE_DRAIN_TIMEOUT (R254): a stop that has waited for its tier moves aborts them. -/
def State.moveDrain (s : State) (p : Nat) : State :=
  if (s.part p).stopping = 2 then (s.abortMoves p).tryStop p else s
def execMoveDrainTimeout (p : PartNo) (s : State) : Host.Outcome State Fault Refusal := .next (s.moveDrain p.val)

/-! ### Units of load-balanced mode -/

/-- The role of a member core (R269): 1 prompt, 0 generation. -/
def State.roleOf (s : State) (p k : Nat) : Nat :=
  let cores := s.memberCores p
  let total := Config.jobBefore p + cores.length + Config.jobAfter p
  let units := s.fld (Reg.SRV_PBAL p) Fld.SRV_PBAL_UNITS
  let at_ := Config.jobBefore p + (cores.filter fun j => decide (j < k)).length
  if !s.balanced p then 0
  else if min (at_ / max 1 (total / max 1 units)) (units - 1) < (s.part p).up then 1 else 0
/-- Cores of a partition across its job (R269). -/
def State.jobCores (s : State) (p : Nat) : Nat := Config.jobBefore p + (s.memberCores p).length + Config.jobAfter p
/-- Elapsed microseconds since the last commit of the oldest QUEUED or PROMPT stream (R269). -/
def State.promptAge (s : State) (p : Nat) : Nat :=
  ((s.liveStreams p).filter fun c => (s.stream c).state == .queued || (s.stream c).state == .prompt).foldl
    (fun a c => max a ((s.mt - (s.stream c).tlast) / 1000)) 0
/-- The decision of u_p at a boundary (R269). -/
def State.decideUp (s : State) (p : Nat) : State :=
  let x := s.part p
  let b := Reg.SRV_PBAL p
  let hyst := s.fld b Fld.SRV_PBAL_HYST
  let miss := (x.missHist.take hyst).foldl (· + ·) 0
  let set (v : Nat) : State :=
    (s.setPart p { x with up := v, sinceChange := 0 }).setF (Reg.SRV_PSTAT p) Fld.SRV_PSTAT_UP v
  if !s.balanced p ∨ x.sinceChange < hyst then s
  else if s.fld b Fld.SRV_PBAL_PAGE * 100 ≤ s.promptAge p ∧ miss = 0 ∧ x.up < s.fld b Fld.SRV_PBAL_SMAX then set (x.up + 1)
  else if 0 < miss ∧ s.fld b Fld.SRV_PBAL_SMIN < x.up then set (x.up - 1)
  else s

/-! ### Building a plan -/

/-- A plan under construction: entries, blocks taken, budget left, token entries that can still be reserved, streams left out for want
of a block, and of a token entry. -/
structure PlanAcc where
  ents : List PlanEnt := []
  used : List Nat := []
  budget : Nat := 0
  toks : Nat := 0
  noBlock : List Nat := []
  noToken : List Nat := []
  deriving DecidableEq, Repr

/-- n free tier-0 blocks of a partition in KV regions of tenant t, outside those already taken, lowest first (R274, R501). -/
def State.takeBlocks (s : State) (p t : Nat) (used : List Nat) : Nat → Option (List Nat)
  | 0 => some []
  | n + 1 => match s.freeBlock p t used with
    | none => none
    | some b => (s.takeBlocks p t (used ++ [b]) n).map fun l => b :: l
/-- The ADP byte of an entry of a stream (R265): a stream that leaves QUEUED takes the active bank (R285). -/
def State.adpByte (s : State) (c : Nat) : Nat :=
  let x := s.stream c
  let bank := if x.state = .queued then s.fld (Reg.ADP_SCTL (x.part * 64 + x.aslot)) Fld.ADP_SCTL_ACTIVE else x.abank
  if x.aslot = 255 then 255 else 128 * bank + x.aslot
/-- An entry samples a token. -/
def PlanEnt.samples (e : PlanEnt) : Bool := e.kind == 1 || (e.kind == 2 && e.last)
/-- Add an entry of a stream when it fits (R266, R268, R274, R547). -/
def State.planOne (s : State) (p c kind ntok : Nat) (a : PlanAcc) : PlanAcc :=
  let x := s.stream c
  let need := (x.pos + ntok + 119) / 120
  let last := kind == 2 && x.pos + ntok == x.plen
  let mine := if s.balanced p then (a.ents.filter fun e => e.kind == kind).length else a.ents.length
  let e : PlanEnt := { ctx := c, kind := kind, last := last, pos := x.pos, token := if kind = 1 then x.lastTok else 0, ntok := ntok,
                       adp := s.adpByte c, blocks := [] }
  if ntok = 0 ∨ a.budget < ntok ∨ s.fld (Reg.SRV_PPLAN p) Fld.SRV_PPLAN_NSLOT ≤ mine ∨ s.fld (Reg.SRV_PPLAN p) Fld.SRV_PPLAN_DPE - 2 < need then a
  else if e.samples ∧ a.toks = 0 then { a with noToken := a.noToken ++ [c] }
  else match s.takeBlocks p x.tenant a.used (need - x.nblk) with
    | none => { a with noBlock := a.noBlock ++ [c] }
    | some bs => { a with
      ents := a.ents ++ [{ e with blocks := bs }]
      used := a.used ++ bs
      budget := a.budget - ntok
      toks := a.toks - b2n e.samples }
/-- The plan of R268 or R269 for the streams of a list in the order of R263. -/
def State.planFor (s : State) (p : Nat) (l : List Nat) : PlanAcc :=
  let gens := l.filter fun c => (s.stream c).state == .run || ((s.stream c).inPause && (s.stream c).former == .run)
  let prompts := l.filter fun c => !gens.contains c
  let chunk := s.fld (Reg.SRV_PSCHED p) Fld.SRV_PSCHED_CHUNK
  let a : PlanAcc := { budget := s.fld (Reg.SRV_PSCHED p) Fld.SRV_PSCHED_TOKBUD, toks := s.cqFree p }
  let a := gens.foldl (fun a c => s.planOne p c 1 1 a) a
  let a := if s.balanced p then { a with budget := (s.part p).up * s.fld (Reg.SRV_PMODEL1 p) Fld.SRV_PMODEL1_PTOKU } else a
  prompts.foldl (fun a c => s.planOne p c 2 (min (min ((s.stream c).plen - (s.stream c).pos) chunk) a.budget) a) a
/-- The predicted duration of a plan in nanoseconds (R270). -/
def State.duration (s : State) (p : Nat) (ents : List PlanEnt) : Nat :=
  s.fld (Reg.SRV_PMODEL0 p) Fld.SRV_PMODEL0_BASE +
  s.fld (Reg.SRV_PMODEL0 p) Fld.SRV_PMODEL0_PERGEN * (ents.filter fun e => e.kind == 1).length +
  s.fld (Reg.SRV_PMODEL1 p) Fld.SRV_PMODEL1_PERPTOK * (ents.filter fun e => e.kind == 2).foldl (fun a e => a + e.ntok) 0
/-- A planned stream is at risk (R270). -/
def State.atRisk (s : State) (p : Nat) (ents : List PlanEnt) (e : PlanEnt) : Bool :=
  decide ((s.stream e.ctx).goal ≤ s.mt + s.duration p ents)
/-- Streams that the engine can plan: RUN and PROMPT, and QUEUED when their adapter slot runs (R260, R263). -/
def State.runnable (s : State) (p : Nat) : List Nat :=
  s.orderOf ((s.liveStreams p).filter fun c =>
    let x := s.stream c
    x.state == .run || x.state == .prompt ||
      (x.state == .queued && (x.aslot == 255 || s.fld (Reg.ADP_SCTL (p * 64 + x.aslot)) Fld.ADP_SCTL_STATE == 1)))
/-- Resume a stream (R271): PAUSED takes its former state; a stream whose KV lies outward enters RESUMING. -/
def State.resume (s : State) (c : Nat) : State :=
  let x := s.stream c
  if x.state = .paused then s.setStream c { x with state := x.former, tpause := 0 }
  else
    let s := { s with hbm := { s.hbm with moves := s.hbm.moves.filter fun m => m.stream != c || (m.step != 0 && m.step != 9) } }
    (s.setStream c { x with state := .resuming }).orderMoves c false
/-- Every block of a stream is in tier 0 and none is moving (R260). -/
def State.allHome (s : State) (c : Nat) : Bool :=
  ((List.range (s.stream c).nblk).all fun b => match s.kv c b with
    | some e => e.tier == 0
    | none => true) && !(s.hbm.moves.any fun m => m.stream == c)
/-- Resumes at a boundary (R271, R260). -/
def State.resumeAll (s : State) (p : Nat) : State :=
  let home := (s.liveStreams p).filter fun c => (s.stream c).state == .resuming && s.allHome c
  let s := s.forEach home fun s c =>
    let x := s.stream c
    if x.status = 5 then s.setStream c { x with state := .paused } else s.setStream c { x with state := x.former, tpause := 0 }
  let cands := s.orderOf ((s.liveStreams p).filter fun c =>
    let x := s.stream c
    (x.state == .paused || x.state == .parking || x.state == .parked) && x.status != 5)
  s.forEach cands fun s c =>
    let a := s.planFor p (s.orderOf (c :: s.runnable p))
    if (a.ents.any fun e => e.ctx == c) ∧ !(a.ents.any fun e => s.atRisk p a.ents e) then s.resume c else s
/-- The planned stream that R270 pauses: the greatest class number, the latest admitted first. -/
def State.victim (s : State) (ents : List PlanEnt) : Option PlanEnt :=
  ents.foldl (fun m e => match m with
    | none => some e
    | some v =>
      let a := s.stream v.ctx
      let b := s.stream e.ctx
      if a.prio < b.prio ∨ (a.prio = b.prio ∧ a.seq < b.seq) then some e else some v) none
/-- Pauses (R270): while a stream at risk has a planned one of a greater class number, the victim is paused and leaves the plan. -/
def State.pauseLoop (s : State) (p : Nat) : Nat → List PlanEnt → List PlanEnt × State
  | 0, ents => (ents, s)
  | fuel + 1, ents =>
    match s.victim ents with
    | none => (ents, s)
    | some v =>
      if ents.any fun e => s.atRisk p ents e && decide ((s.stream e.ctx).prio < (s.stream v.ctx).prio) then
        let x := s.stream v.ctx
        let s := if x.state = .queued then s else s.setStream v.ctx { x with state := .paused, former := x.state, tpause := s.mt }
        s.pauseLoop p fuel (ents.filter fun e => e.ctx != v.ctx)
      else (ents, s)
/-- A stream planned with its first chunk leaves QUEUED and is pinned (R260, R285). -/
def State.leaveQueue (s : State) (e : PlanEnt) : State :=
  let x := s.stream e.ctx
  if x.state ≠ .queued then s
  else if x.aslot = 255 then s.setStream e.ctx { x with state := .prompt }
  else
    let bank := e.adp / 128
    let a := x.part * 64 + x.aslot
    let s := s.setStream e.ctx { x with state := .prompt, abank := bank, pinned := true, agen := s.rd (if bank = 0 then Reg.ADP_GEN0 a else Reg.ADP_GEN1 a) }
    s.pin x.part x.aslot bank true
/-- Park the PAUSED stream of the greatest class number, the latest admitted first (R274). -/
def State.parkOne (s : State) (p : Nat) : State :=
  let l := s.orderOf ((s.liveStreams p).filter fun c => (s.stream c).state == .paused)
  match l.getLast? with
  | some c => s.park c
  | none => s
/-- The plan of a new step (R268 to R271, R274, R547). -/
def State.freshPlan (s : State) (p : Nat) : List PlanEnt × State :=
  let s := s.resumeAll p
  let a := s.planFor p (s.runnable p)
  let (ents, s) := s.pauseLoop p 256 a.ents
  let s := (s.inc Reg.SRV_KVWAITCNT a.noBlock.length).forEach a.noBlock fun s _ => s.parkOne p
  let s := s.inc (Reg.PCI_VCQWAIT p) a.noToken.length
  let s := s.forEach ents State.leaveQueue
  let f := s.vf p
  (ents, s.setVf p { f with toks := f.toks + (ents.filter fun e => e.samples).length })
/-- The plan of a replay (R290): blocks are allocated anew; a stream that has ended leaves an idle entry. None while blocks lack. -/
def State.replayPlan (s : State) (p : Nat) : Option (List PlanEnt × State) :=
  let step (a : Option (List PlanEnt × List Nat)) (e : PlanEnt) : Option (List PlanEnt × List Nat) :=
    match a with
    | none => none
    | some (l, used) =>
      let x := s.stream e.ctx
      if e.kind = 0 ∨ x.state = .free ∨ x.state = .ended ∨ x.state = .queued then
        some (l ++ [{ e with kind := 0, last := false, ntok := 0, blocks := [] }], used)
      else (s.takeBlocks p x.tenant used ((x.pos + e.ntok + 119) / 120 - x.nblk)).map fun bs => (l ++ [{ e with blocks := bs }], used ++ bs)
  ((s.part p).plan.foldl step (some ([], []))).map fun r =>
    let gone := ((s.part p).plan.filter fun e => e.samples).length - (r.1.filter fun e => e.samples).length
    (r.1, s.setVf p { s.vf p with toks := (s.vf p).toks - gone })

/-! ### Plan rows -/

/-- A word with n bytes from byte i replaced. -/
def putBytes (w i n v : Nat) : Nat := w - bits w (8 * i) (8 * n) * 2 ^ (8 * i) + v % 2 ^ (8 * n) * 2 ^ (8 * i)
/-- Descriptor template i of a partition (R266). -/
def State.pdt (s : State) (p i : Nat) : Nat := (List.range 8).foldl (fun a j => a + 2 ^ (32 * j) * s.rd (Reg.SRV_PDT p (8 * i + j))) 0
/-- The lowest handle of a partition that names the region of a physical offset, and the region's first byte. -/
def State.handleFor (s : State) (p off : Nat) : Nat × Nat :=
  match s.regionAt (off / 32) with
  | some r => (((List.range 64).find? fun h => s.handleRegion p h == some r).getD 0, 32 * s.regionBase r)
  | none => (0, 0)
/-- A descriptor slot: a template with OP, REGION, HOFF and ROWS filled. -/
def State.descFor (s : State) (p t op off rows : Nat) : Nat :=
  let h := s.handleFor p off
  putBytes (putBytes (putBytes (putBytes (s.pdt p t) 0 1 op) 12 1 h.1) 16 8 (off - h.2)) 8 2 rows
/-- A READ of the pad block (R266); a partition without a KV region has none, and its slots hold zeros. -/
def State.padDesc (s : State) (p : Nat) : Nat :=
  match s.padBlock p with
  | some off => s.descFor p 1 1 off 120
  | none => 0
/-- The descriptor slots of an entry (R266): the WRITE of its rows, a READ for each committed block, the adapter bank, pads. -/
def State.entryDescs (s : State) (p : Nat) (e : PlanEnt) : List Nat :=
  let x := s.stream e.ctx
  let dpe := s.fld (Reg.SRV_PPLAN p) Fld.SRV_PPLAN_DPE
  let place (b : Nat) : Nat := if x.nblk ≤ b then nth 0 e.blocks (b - x.nblk) else match s.kv e.ctx b with
    | some k => k.off
    | none => 0
  let ds := if e.kind = 0 then [] else
    [s.descFor p 0 2 (place (e.pos / 120) + 544 * (e.pos % 120)) e.ntok] ++
    ((List.range ((e.pos + 119) / 120)).map fun b => s.descFor p 1 1 (place b) (min 120 (e.pos - 120 * b))) ++
    (if e.adp = 255 then [] else
      let a := p * 64 + e.adp % 64
      let r := if e.adp / 128 = 0 then Reg.ADP_BANK0 a else Reg.ADP_BANK1 a
      let h := s.fld r Fld.ADP_BANK0_HANDLE
      let base := match s.handleRegion p h with
        | some g => 32 * s.regionBase g
        | none => 0
      [s.descFor p 2 1 (base + 32768 * s.fld r Fld.ADP_BANK0_OFF) (bits (s.pdt p 2) 64 16)])
  (ds ++ List.replicate dpe (s.padDesc p)).take dpe
/-- The 16 bytes of an entry (R265). -/
def State.entryBytes (s : State) (p : Nat) (e : PlanEnt) : List Nat :=
  if e.kind = 0 then List.replicate 14 0 ++ [255, 0]
  else bytesOf 2 (e.ctx - s.fld (Reg.SRV_PCTX p) Fld.SRV_PCTX_BASE) ++ [e.kind, b2n e.last] ++ bytesOf 4 e.pos ++ bytesOf 4 e.token ++ bytesOf 2 e.ntok ++ [e.adp, 0]
/-- Cut a list of bytes into rows. -/
def rowsOf (per n : Nat) (l : List (List Nat)) : List Row := (List.range n).map fun i => rowOf ((l.drop (per * i)).take per).flatten
/-- Rows of a plan: header, entries, descriptors (R265). -/
def State.planRowCount (s : State) (p : Nat) : Nat :=
  let n := s.fld (Reg.SRV_PPLAN p) Fld.SRV_PPLAN_NSLOT
  1 + (n + 33) / 34 + (n * s.fld (Reg.SRV_PPLAN p) Fld.SRV_PPLAN_DPE + 16) / 17
/-- The plan rows for cores of one role (R265, R266, R269). -/
def State.planRows (s : State) (p : Nat) (x : PartSrv) (role : Nat) : List Row :=
  let n := s.fld (Reg.SRV_PPLAN p) Fld.SRV_PPLAN_NSLOT
  let dpe := s.fld (Reg.SRV_PPLAN p) Fld.SRV_PPLAN_DPE
  let mine := if s.balanced p then x.plan.filter fun e => if role = 1 then e.kind == 2 else e.kind != 2 else x.plan
  let idle : PlanEnt := { ctx := 0, kind := 0, last := false, pos := 0, token := 0, ntok := 0, adp := 255, blocks := [] }
  let ents := (mine ++ List.replicate n idle).take n
  let head := rowOf (bytesOf 2 x.step ++ [b2n x.replay + 2 * role, 0] ++ bytesOf 2 mine.length)
  head :: (rowsOf 34 ((n + 33) / 34) (ents.map (s.entryBytes p)) ++
    rowsOf 17 ((n * dpe + 16) / 17) ((ents.flatMap (s.entryDescs p)).map fun d => bytesOf 32 d))
/-- Write a plan (R264 step 1): rows to every member core, SCHED to it, and the rows for the other parts of the job to its ports
(R331). -/
def State.sendPlan (s : State) (p : Nat) : State :=
  let x := s.part p
  let prow := s.fld (Reg.SRV_PPLAN p) Fld.SRV_PPLAN_PROW
  let n := s.planRowCount p
  let toCore (k : Nat) : List (Nat × Nat × Row) :=
    match (s.ctxsOn p k).head? with
    | some c => (s.planRows p x (s.roleOf p k)).zipIdx.map fun e => (k, s.rowBase k c + prow + e.2, e.1)
    | none => []
  let toPort (m : Nat) : List (Nat × Nat × Row) :=
    ((s.planRows p x 0).zipIdx.map fun e => (m, prow + e.2, e.1)) ++
      (if s.balanced p then (s.planRows p x 1).zipIdx.map fun e => (m, prow + n + e.2, e.1) else [])
  let out := (s.memberCores p).flatMap toCore ++ (if s.jobParts p = 0 then [] else (s.memberPorts p).flatMap toPort)
  let s := s.setPart p { x with rows := out }
  s.forEach (s.memberCores p) fun s k => s.post .sched 41 k p (x.step + b2n x.replay * 2 ^ 16 + s.roleOf p k * 2 ^ 17)
/-- Plan the next step of a partition (R264 step 1, R290). A partition with no context allotted (SRV_PCTX.COUNT = 0) has an empty plan, and
no plan rows are written for it (log entry 30). -/
def State.makePlan (s : State) (p : Nat) : State :=
  let x := s.part p
  if s.run p ≠ 2 ∨ x.planned ∨ x.opened ∨ x.stopping ≠ 0 ∨ !s.leads p ∨ s.mesh.msgs.any (fun m => m.type == .pstart && m.part == p) ∨
    s.fld (Reg.SRV_PSTAT p) Fld.SRV_PSTAT_PEND = 1 then s
  else
    let served := s.fld (Reg.SRV_PCTX p) Fld.SRV_PCTX_COUNT != 0
    let r := if !served then some ([], s) else if x.replay then s.replayPlan p else some (s.freshPlan p)
    match r with
    | none => s
    | some (ents, s) =>
      let s := s.setPart p { s.part p with plan := ents, planned := true, step := (x.step + 1) % 65536, samples := [], sampled := false }
      (s.inc Reg.SRV_REPLAYCNT (b2n x.replay)).when served fun s => s.sendPlan p

/-! ### The start of a step -/

/-- The root sends STEP_START when it holds every BOUNDARY_ACK, the grant, and in a multi-part job the start tick with the step clock qualified (R221,
R327). -/
def State.tryStart (s : State) (p : Nat) : State :=
  let r := s.root p
  let x := s.part p
  if s.run p ≠ 2 ∨ !r.granted ∨ x.stopping ≠ 0 ∨ !(s.memberCores p).all (fun k => r.acks.contains k) ∨ (s.jobParts p ≠ 0 ∧ (!r.tickOk ∨ s.fld Reg.LNK_SCSTAT Fld.LNK_SCSTAT_QUAL = 0)) then s
  else
    let s := (s.splitUsage p []).setRoot p {}
    let s := s.setPart p { x with opened := true, failed := false, planned := false, got := 0 }
    let s := (s.setF (Reg.CNET_PSTAT p) Fld.CNET_PSTAT_STEP x.step).setPRun p 1
    s.forEach (s.memberCores p) fun s k => s.post .stepStart mgmtNode k p x.step
/-- A row of the serving engine for partition p is still on its way (R213). -/
def State.engineBusy (s : State) (p : Nat) : Bool :=
  let mine (r : MeshRow) : Bool := r.snode == 41 && r.part == p && decide (r.dnode < 16)
  (s.part p).rows.any (fun e => decide (e.1 < 16)) || [s.mesh.inputs, s.mesh.deliv, s.mesh.parked].any fun m => m.any fun e => e.2.any mine
/-- Rows of the lead's plan that have come to the engine go to every member core of their role (R331). -/
def State.takePlanRows (s : State) (p : Nat) : State :=
  let mine := s.mesh.srvRx.filter fun r => r.part == p
  let x := s.part p
  let prow := s.fld (Reg.SRV_PPLAN p) Fld.SRV_PPLAN_PROW
  let n := s.planRowCount p
  let toCore (r : MeshRow) (k : Nat) : List (Nat × Nat × Row) :=
    let role := if prow + n ≤ r.drow then 1 else 0
    match (s.ctxsOn p k).head? with
    | some c => if s.balanced p && role != s.roleOf p k then [] else [(k, s.rowBase k c + r.drow - role * n, r.data)]
    | none => []
  let s := { s with mesh := { s.mesh with srvRx := s.mesh.srvRx.filter fun r => r.part != p } }
  s.setPart p { x with rows := x.rows ++ mine.flatMap (fun r => (s.memberCores p).flatMap (toCore r)), got := x.got + mine.length }
/-- STEP_GRANT (R264 step 2): every plan row is written at its destination, and the engine grants the step. -/
def State.stepGrant (s : State) (p : Nat) : State :=
  let s := if s.leads p then s else s.takePlanRows p
  let x := s.part p
  let all := s.leads p || decide (s.planRowCount p * (if s.balanced p then 2 else 1) ≤ x.got)
  if s.run p ≠ 2 ∨ !x.planned ∨ x.opened ∨ !all ∨ s.engineBusy p then s
  else (s.setRoot p { s.root p with granted := true }).tryStart p
def execStepGrant (p : PartNo) (s : State) : Host.Outcome State Fault Refusal := .next (s.stepGrant p.val)

/-- SCHED (R264): a core takes the message. -/
def State.takeSched (s : State) (k p : Nat) : State :=
  match s.takeMsg .sched 41 k p with
  | some (_, s) => s
  | none => s
def execSched (k : CoreNo) (p : PartNo) (s : State) : Host.Outcome State Fault Refusal := .next (s.takeSched k.val p.val)

/-! ### Sampling -/

/-- The core and context that hold the logits (R275, R351). -/
def State.logitsAt (s : State) (p : Nat) : Option (Nat × Nat) :=
  let l := s.fld (Reg.SRV_PLOG p) Fld.SRV_PLOG_CORE
  match nth none (s.jpart p).place l with
  | some c => some c
  | none => (s.ctxsOf p)[l]?
/-- The shelf rows of the logits of an entry (R275). -/
def State.logitRows (s : State) (p k n entry : Nat) : List Nat :=
  let lrows := (s.fld (Reg.SRV_PLOG p) Fld.SRV_PLOG_V + 255) / 256
  let base := s.rowBase k n + s.fld (Reg.SRV_PPLAN p) Fld.SRV_PPLAN_PROW + s.planRowCount p + entry * lrows
  (List.range lrows).map fun i => base + i
/-- Read the logits of an entry by class MSH (R275); none when a row is refused or poisoned (R289). -/
def State.readLogits (s : State) (k n : Nat) : List Nat → List Row → Option (List Row) × State
  | [], acc => (some acc, s)
  | r :: rs, acc =>
    match s.access { k := k, ctx := n, pc := s.pcOf k n, slot := 6, tagged := s.tagged k n, cls := .msh, kind := .consume, row := r, who := 31, snode := 41 } none with
    | .ok s d false => s.readLogits k n rs (acc ++ [d])
    | .ok s _ true => (none, s)
    | .blocked s => (none, s)
    | .refused s => (none, s)
/-- Sample entry i of the plan (R276 to R281). -/
def State.sampleEntry (s : State) (p k n i : Nat) (e : PlanEnt) : State :=
  let (rows, s) := s.readLogits k n (s.logitRows p k n i) []
  match rows with
  | none => s.failStep p
  | some rows =>
    let x := s.stream e.ctx
    let v := s.fld (Reg.SRV_PLOG p) Fld.SRV_PLOG_V
    let codes := (rows.flatMap fun r => (List.range 256).map fun j => rowBytes r (2 * j) 2).take v
    let q : SampleParams := { temp := x.temp, topk := x.topk, topp := x.topp, rep := x.rep, pres := x.pres, freq := x.freq, seed := x.seed }
    let (tok, bad) := sampleToken q codes (s.countOf e.ctx) (e.pos + e.ntok - 1)
    let y := s.part p
    (s.setPart p { y with samples := y.samples ++ [{ entry := i, token := tok }] }).inc Reg.SRV_INVLCNT bad
/-- The sampler reads the logits of the open step and samples (R264 step 5). None while a logits row is not there. -/
def State.sampleStep (s : State) (p : Nat) : Option State :=
  let x := s.part p
  if !x.opened ∨ x.failed ∨ x.sampled then some s
  else
    let ents := x.plan.zipIdx.filter fun e => e.1.samples
    match s.logitsAt p with
    | none => some (if ents = [] then s.setPart p { x with sampled := true } else s.failStep p)
    | some (k, n) =>
      let ready (r : Nat) : Bool := if s.tagged k n then (s.shelfRow k r).full || !s.inRows k n r else !s.spillPending k r
      if !(ents.all fun e => (s.logitRows p k n e.2).all ready) then none
      else
        let s := s.setPart p { x with sampled := true, samples := [] }
        some (s.forEach ents fun s e => if (s.part p).failed then s else s.sampleEntry p k n e.2 e.1)

/-! ### Commit, failure, boundary -/

/-- What a stream's entry commits to (R288): the stream, its blocks, counts, token and metering. -/
def State.commitEntry (s : State) (p : Nat) (e : PlanEnt) (smp : Option Sampled) : State :=
  let x := s.stream e.ctx
  let c := e.ctx
  let s := s.inc Reg.SRV_MISSCNT (b2n (decide (x.goal ≤ s.mt)))
  let pos := x.pos + e.ntok
  let token := match smp with
    | some q => q.token
    | none => none
  let s := s.forEach e.blocks.zipIdx fun s b => s.setKv c (x.nblk + b.2) (some { tier := 0, off := b.1, chip := 0, seq := 0 })
  let s := s.setStream c { x with
    pos := pos
    nblk := x.nblk + e.blocks.length
    tlast := s.mt
    state := if x.state = .prompt ∧ pos = x.plen then .run else x.state
    lastTok := token.getD x.lastTok }
  let s := s.setStream c { s.stream c with tiers := s.tiersOf c }
  let s := if x.pcnt ∧ e.kind = 2 then s.forEach (List.range e.ntok) fun s i => s.countUp c (s.promptToken c (e.pos + i)) else s
  let m := s.meter x.tenant
  let lead := s.leads p
  let s := s.when (lead && e.kind == 2) fun s => s.setMeter x.tenant { m with tokin := m.tokin + e.ntok }
  match token with
  | none => s
  | some t =>
    let s := s.countUp c t
    if !lead then s
    else
      let m := s.meter x.tenant
      (s.setMeter x.tenant { m with tokout := m.tokout + 1 }).writeCq p 2 0 c x.gen t pos
/-- An entry's stream takes the commit: it lives, and no cancel discards the step's token (R292). -/
def State.commits (s : State) (e : PlanEnt) : Bool :=
  let x := s.stream e.ctx
  e.kind != 0 && x.state != .free && x.state != .ended && x.state != .queued && !x.cancel
/-- The end of a stream that its commit brings (R260, R276, R282); none. -/
def State.endOf (s : State) (e : PlanEnt) (smp : Option Sampled) : Option Nat :=
  let x := s.stream e.ctx
  match smp with
  | none => none
  | some q => match q.token with
    | none => some 9
    | some t =>
      if x.stops.contains t && t != 0xFFFFFFFF then some 1
      else if x.maxtok ≤ x.pos - x.plen + 1 then some 2 else none
/-- The commit of the open step (R288): one update per context in context order, then the ends of streams. -/
def State.commit (s : State) (p : Nat) : State :=
  let x := s.part p
  let ents := (x.plan.zipIdx.filter fun e => s.commits e.1).mergeSort fun a b => decide (a.1.ctx ≤ b.1.ctx)
  let smp (i : Nat) : Option Sampled := x.samples.find? fun q => q.entry == i
  let miss := (ents.filter fun e => e.1.kind == 1 && decide ((s.stream e.1.ctx).goal ≤ s.mt)).length
  let s := s.forEach ents fun s e => s.commitEntry p e.1 (smp e.2)
  let s := s.splitUsage p (ents.map fun e => ((s.stream e.1.ctx).tenant, e.1.ntok))
  let s := (s.inc Reg.SRV_COMMITCNT 1).setF (Reg.SRV_PSTAT p) Fld.SRV_PSTAT_STEP (s.stepNo p)
  let s := s.setF (Reg.SRV_PSTAT p) Fld.SRV_PSTAT_FAILS 0
  let s := s.setVf p { s.vf p with toks := 0 }
  let s := s.setPart p { s.part p with
    plan := []
    opened := false
    failed := false
    replay := false
    sampled := false
    samples := []
    sinceChange := x.sinceChange + 1
    missHist := (miss :: x.missHist).take 63 }
  s.forEach ents fun s e => match s.endOf e.1 (smp e.2) with
    | some st => s.endStream e.1.ctx st
    | none => s
/-- The open step has failed (R289 to R291): its blocks are free, its usage is overhead, and a replay of its plan waits, or the streams
of its plan end with status 11 after REPMAX failures. -/
def State.stepFails (s : State) (p : Nat) : State :=
  let x := s.part p
  let n := s.fld (Reg.SRV_PSTAT p) Fld.SRV_PSTAT_FAILS + 1
  let s := (s.splitUsage p []).setPart p { x with
    plan := x.plan.map fun e => { e with blocks := [] }
    opened := false
    failed := false
    planned := false
    replay := true
    sampled := false
    samples := [] }
  if s.fld (Reg.SRV_PCFG p) Fld.SRV_PCFG_REPMAX ≤ n then
    let s := s.setF (Reg.SRV_PSTAT p) Fld.SRV_PSTAT_FAILS 0
    let s := s.forEach (x.plan.filter fun e => e.kind != 0) fun s e =>
      if (s.stream e.ctx).state = .queued then s else s.endStream e.ctx 11
    let s := s.setPart p { s.part p with plan := [], replay := false }
    let s := s.setVf p { s.vf p with toks := 0 }
    s.sherd { code := 0x44, sev := 2, part := p, unit := unitPartition p, detail := [(48, s.stepNo p + n * 65536)] }
  else
    let s := s.setF (Reg.SRV_PSTAT p) Fld.SRV_PSTAT_FAILS n
    s.when (s.fld (Reg.SRV_PCFG p) Fld.SRV_PCFG_EXTREP == 1) fun s => s.setF (Reg.SRV_PSTAT p) Fld.SRV_PSTAT_PEND 1

/-- An adapter slot apart from its registers. -/
def State.adp (s : State) (a : Nat) : AdpSlot := SMap.get (fun _ => {}) s.srv.adps a
/-- Set an adapter slot. -/
def State.setAdp (s : State) (a : Nat) (x : AdpSlot) : State :=
  { s with srv := { s.srv with adps := SMap.set (fun _ => ({} : AdpSlot)) s.srv.adps a x } }
/-- A pending flip (R285): the loaded bank becomes active, and the other bank's streams get their pin deadline. -/
def State.adpFlip (s : State) (a : Nat) : State :=
  if s.fld (Reg.ADP_SCTL a) Fld.ADP_SCTL_STATE ≠ 2 then s
  else
    let old := s.fld (Reg.ADP_SCTL a) Fld.ADP_SCTL_ACTIVE
    let gen := if old = 0 then s.rd (Reg.ADP_GEN0 a) else s.rd (Reg.ADP_GEN1 a)
    let dl := s.mt + 1000000 * s.rd (Reg.ADP_PINTTL a)
    let s := (s.setF (Reg.ADP_SCTL a) Fld.ADP_SCTL_ACTIVE (1 - old)).setF (Reg.ADP_SCTL a) Fld.ADP_SCTL_STATE 1
    let s := s.setF (Reg.ADP_SSTAT a) Fld.ADP_SSTAT_LOADED 0
    let s := s.wr (if old = 0 then Reg.ADP_GEN1 a else Reg.ADP_GEN0 a) ((gen + 1) % 2 ^ 32)
    s.setAdp a { s.adp a with dl0 := if old = 0 then dl else 0, dl1 := if old = 0 then 0 else dl }
/-- A pin deadline has passed for a stream (R286, R260). -/
def State.retire (s : State) (c : Nat) : State :=
  let s := s.unpin c
  let x := s.stream c
  match x.state with
  | .prompt | .run => s.setStream c { x with state := .paused, former := x.state, status := 5, tpause := s.mt }
  | .paused | .parking | .parked => s.setStream c { x with status := 5 }
  | .resuming => s.setStream c { x with status := 5, state := if s.allHome c then .paused else .resuming }
  | _ => s
/-- Flips and pin deadlines of a boundary (R285, R286). -/
def State.adapters (s : State) (p : Nat) : State :=
  let s := s.forEach (List.range 64) fun s i => s.adpFlip (p * 64 + i)
  s.forEach (s.liveStreams p) fun s c =>
    let x := s.stream c
    let a := p * 64 + x.aslot
    let dl := if x.abank = 0 then (s.adp a).dl0 else (s.adp a).dl1
    if x.pinned ∧ s.fld (Reg.ADP_SCTL a) Fld.ADP_SCTL_ACTIVE ≠ x.abank ∧ dl ≠ 0 ∧ dl ≤ s.mt then s.retire c else s
/-- Failed moves are ordered again, to the other tier (R260, R272). -/
def State.reorderMoves (s : State) (p : Nat) : State :=
  let f (m : Move) : Move := if m.part = p ∧ m.step = 9 then { m with step := 0, tier := if m.out then (if m.tier = 0 then 0 else 3 - m.tier) else 0 } else m
  { s with hbm := { s.hbm with moves := s.hbm.moves.map f } }
/-- The events of a boundary after the commit, in the order of R292, and the plan of the next step. -/
def State.boundary (s : State) (p : Nat) : State :=
  let s := s.forEach ((s.liveStreams p).filter fun c => (s.stream c).cancel) fun s c => s.endStream c 3
  let s := s.adapters p
  let s := s.forEach (s.liveStreams p) State.expire
  let s := s.when (!(s.part p).replay) fun s => s.decideUp p
  let s := s.makePlan p
  let s := s.reorderMoves p
  let s := s.forEach ((s.liveStreams p).filter fun c => (s.stream c).state == .paused && decide ((s.stream c).tpause + 1000 * (s.stream c).parkt ≤ s.mt)) State.park
  s.tryStop p
/-- The commit or the failure of the open step, then the boundary (R264 steps 5 to 7); none while the logits are not there. -/
def State.endStep (s : State) (p : Nat) : Option State :=
  if !(s.part p).opened then some (s.boundary p)
  else match s.sampleStep p with
    | none => none
    | some s => some ((if (s.part p).failed then s.stepFails p else s.commit p).boundary p)
/-- STEP_COMMIT (R288): at the boundary of a partition whose job has one part, the engine commits the step and plans the next one. -/
def State.stepCommit (s : State) (p now : Nat) : State :=
  let s := s.tick now
  if s.run p ≠ 2 ∨ (s.part p).planned ∨ s.jobParts p ≠ 0 then s else (s.endStep p).getD s
def execStepCommit (p : PartNo) (now : BitVec 64) (s : State) : Host.Outcome State Fault Refusal := .next (s.stepCommit p.val now.toNat)

/-- REPLAY (R290): SRV_PCMD.REPLAY starts a pending replay. -/
def State.replayCmd (s : State) (p : Nat) : State :=
  if s.fld (Reg.SRV_PSTAT p) Fld.SRV_PSTAT_PEND = 0 then s
  else (s.setF (Reg.SRV_PSTAT p) Fld.SRV_PSTAT_PEND 0).makePlan p
def execReplay (p : PartNo) (s : State) : Host.Outcome State Fault Refusal := .next (s.replayCmd p.val)

/-! ### Adapter commands -/

/-- A refused adapter command (R287). -/
def State.adpRef (s : State) (a : Nat) : State := s.setF (Reg.ADP_SSTAT a) Fld.ADP_SSTAT_REF 1
/-- ADP_STOP (R285). -/
def State.adpStop (s : State) (a : Nat) : State :=
  if (s.adp a).loading then s.adpRef a else s.setF (Reg.ADP_SCTL a) Fld.ADP_SCTL_STATE 0
def execAdpStop (p : PartNo) (slot : Fin 64) (s : State) : Host.Outcome State Fault Refusal := .next (s.adpStop (p.val * 64 + slot.val))
/-- The inactive bank of a slot: number, its first granule, granules from there to the end of its region; none without a region. -/
def State.otherBank (s : State) (a : Nat) : Option (Nat × Nat) :=
  let r := if s.fld (Reg.ADP_SCTL a) Fld.ADP_SCTL_ACTIVE = 0 then Reg.ADP_BANK1 a else Reg.ADP_BANK0 a
  match s.handleRegion (a / 64) (s.fld r Fld.ADP_BANK0_HANDLE) with
  | some g =>
    let off := 1024 * s.fld r Fld.ADP_BANK0_OFF
    if s.rgnType g = 3 ∧ s.fld (Reg.HBM_RGNA g) Fld.HBM_RGNA_HOST = 0 ∧ off ≤ s.regionSize g then some (s.regionBase g + off, s.regionSize g - off) else none
  | none => none
/-- PIN of the inactive bank. -/
def State.otherPin (s : State) (a : Nat) : Nat := s.fld (Reg.ADP_SSTAT a) (pinFld (1 - s.fld (Reg.ADP_SCTL a) Fld.ADP_SCTL_ACTIVE))
/-- The LOAD source of a partition: offset, handle, host memory, bytes. -/
def adpSource (src : Nat) : Nat × Nat × Bool × Nat := (bits src 0 40, bits src 40 8, bitAt src 63, bits src 64 32)
/-- The first granule of a LOAD source in a GEN region. -/
def State.adpFrom (s : State) (p src : Nat) : Option Nat :=
  let (off, h, _, n) := adpSource src
  if s.inRegion p h 0 off n then (s.handleRegion p h).map fun r => s.regionBase r + off / 32 else none
/-- ADP_LOAD (R285, R287). -/
def State.adpLoad (s : State) (a : Nat) : State :=
  let p := a / 64
  let src := s.rd (Reg.ADP_SRC_LO p) + 2 ^ 32 * s.rd (Reg.ADP_SRC_HI p) + 2 ^ 64 * s.rd (Reg.ADP_SRCLEN p)
  let (off, _, host, n) := adpSource src
  let room := match s.otherBank a with
    | some b => decide (n / 32 ≤ b.2)
    | none => false
  if (s.adp a).loading ∨ s.fld (Reg.ADP_SCTL a) Fld.ADP_SCTL_CFG = 0 ∨ s.fld (Reg.ADP_SCTL a) Fld.ADP_SCTL_STATE = 2 ∨ s.otherPin a ≠ 0 ∨ !room ∨
    n = 0 ∨ n % 32 ≠ 0 ∨ off % 32 ≠ 0 ∨ (!host ∧ (s.adpFrom p src).isNone) then s.adpRef a
  else (s.setF (Reg.ADP_SSTAT a) Fld.ADP_SSTAT_LOADED 0).setAdp a { s.adp a with loading := true, src := src }
def execAdpLoad (p : PartNo) (slot : Fin 64) (s : State) : Host.Outcome State Fault Refusal := .next (s.adpLoad (p.val * 64 + slot.val))
/-- ADP_LOAD_DONE (R285): the copy completes; `data` is what host memory holds when the source is there. -/
def State.adpLoadDone (s : State) (a : Nat) (data : List Granule) : State :=
  let x := s.adp a
  let (_, _, host, n) := adpSource x.src
  if !x.loading then s
  else
    let s := match s.otherBank a with
      | none => s
      | some (g0, _) => s.forEach (List.range (n / 32)) fun s i =>
        if host then s.engineWrite (g0 + i) (nth 0 data i)
        else match s.adpFrom (a / 64) x.src with
          | some f =>
            let bad := decide (2 ≤ s.granCond (f + i))
            let (v, s) := s.engineRead (f + i)
            (s.engineWrite (g0 + i) v).setGran (g0 + i) v bad
          | none => s
    (s.setAdp a { x with loading := false }).setF (Reg.ADP_SSTAT a) Fld.ADP_SSTAT_LOADED 1
def execAdpLoadDone (p : PartNo) (slot : Fin 64) (data : List Granule) (s : State) : Host.Outcome State Fault Refusal := .next (s.adpLoadDone (p.val * 64 + slot.val) data)
/-- ADP_START (R285, R287). -/
def State.adpStart (s : State) (a : Nat) : State :=
  if (s.adp a).loading ∨ s.fld (Reg.ADP_SSTAT a) Fld.ADP_SSTAT_LOADED = 0 ∨ s.fld (Reg.ADP_SCTL a) Fld.ADP_SCTL_STATE = 2 ∨ s.otherPin a ≠ 0 then s.adpRef a
  else s.setF (Reg.ADP_SCTL a) Fld.ADP_SCTL_STATE 2
def execAdpStart (p : PartNo) (slot : Fin 64) (s : State) : Host.Outcome State Fault Refusal := .next (s.adpStart (p.val * 64 + slot.val))

end Sys2Proof.Machine
end

