-- ==== Sys2Proof/Machine/Cnet.lean ====
section
/-!
DEFINITION. The control network: barriers (R184, R220), steps and boundaries (R185, R186, R221), start and stop of a partition
(R114, R161, R387, R388), stores of messages (R217, R219), forced reclaim (R226, R227), and the creation of cross-part messages (R330).
-/
namespace Sys2Proof.Machine

/-! ### Cross-part messages that this part creates (R329, R330) -/

/-- The job of a partition, from its binding entries (R315). -/
def State.jobOf (s : State) (p : Nat) : Option Nat :=
  ((List.range 16).flatMap fun i => (List.range 64).map fun e => (i, e)).findSome? fun (i, e) =>
    if s.fld (Reg.LNK_PBA i e) Fld.LNK_PBA_VALID = 1 ∧ s.fld (Reg.LNK_PBA i e) Fld.LNK_PBA_PART = p then
      some (s.fld (Reg.LNK_PBB i e) Fld.LNK_PBB_JOB) else none
/-- A port is UP with a valid binding of a job. -/
def State.carriesJob (s : State) (i job : Nat) : Bool :=
  s.portState i == 6 && (List.range 64).any fun e =>
    s.fld (Reg.LNK_PBA i e) Fld.LNK_PBA_VALID == 1 && s.fld (Reg.LNK_PBB i e) Fld.LNK_PBB_JOB == job
/-- The part's chip number (R322). -/
def State.chip (s : State) : Nat := s.fld Reg.LNK_CHIP Fld.LNK_CHIP_CHIP
/-- Queue a cross-part message on every port of its job but the one it came from; a full queue of 64 drops it (R330). -/
def State.spreadX (s : State) (m : XMsg) (but : Option Nat) : State :=
  s.forEach ((List.range 16).filter fun i => some i != but && s.carriesJob i m.job) fun s i =>
    let x := s.port i
    let waiting := (x.tx.filter fun t => t.type == .xctl).length
    if 64 ≤ waiting then s.inc Reg.LNK_XDROPCNT 1
    else s.setPort i { x with tx := x.tx ++ [{ type := .xctl, part := 0, wt := 0, body := .xctl s.chip [m] }] }
/-- The identity of a message that is compared with those seen (R330). -/
def XMsg.same (a b : XMsg) : Bool := a.xtype == b.xtype && a.job == b.job && a.origin == b.origin && a.step == b.step
/-- A message has been handled: the last 256 are kept. -/
def State.sawX (s : State) (m : XMsg) : State :=
  { s with lnk := { s.lnk with seen := (m :: s.lnk.seen.filter fun x => !x.same m).take 256 } }
/-- The state across parts of a partition. -/
def State.xpart (s : State) (p : Nat) : XPart := SMap.get (fun _ => {}) s.lnk.xparts p
/-- Set the state across parts of a partition. -/
def State.setXpart (s : State) (p : Nat) (x : XPart) : State :=
  { s with lnk := { s.lnk with xparts := SMap.set (fun _ => ({} : XPart)) s.lnk.xparts p x } }
/-- Create a cross-part message of a partition; XDONE, XGO and XINC are repeated until the step has passed (R330). -/
def State.createX (s : State) (p xtype step arg : Nat) : State :=
  match s.jobOf p with
  | none => s
  | some job =>
    let m : XMsg := { xtype := xtype, job := job, origin := s.chip, step := step, arg := arg }
    let x := s.xpart p
    let s := s.when (xtype != 2) fun s => s.setXpart p { x with repeats := (x.repeats.filter fun r => !r.same m) ++ [m] }
    (s.sawX m).spreadX m none

/-! ### Barriers -/

/-- Take a message with a given argument. -/
def State.takeArg (s : State) (t : MsgType) (from_ to_ p arg : Nat) : Option State :=
  match findIdx1 (fun (m : Msg) => m.type == t && m.snode == from_ && m.dnode == to_ && m.part == p && m.arg == arg) s.mesh.msgs with
  | some (i, _) => some { s with mesh := { s.mesh with msgs := s.mesh.msgs.eraseIdx i } }
  | none => none
/-- A message of a kind is on its way for a partition. -/
def State.inFlight (s : State) (p : Nat) (ts : List MsgType) : Bool := s.mesh.msgs.any fun m => m.part == p && ts.contains m.type
/-- The contexts of a partition on a core that have not halted. -/
def State.live (s : State) (p k : Nat) : List Nat := (s.ctxsOn p k).filter fun n => (s.ctx k n).wait != .halted
/-- Every context of a partition on a core is halted (R186). -/
def State.allHalted (s : State) (p k : Nat) : Bool := (s.live p k).isEmpty
/-- Sends that the contexts of a partition on a core have issued since the last barrier. -/
def State.sentOn (s : State) (p k : Nat) : Nat := (s.ctxsOn p k).foldl (fun a n => a + (s.ctx k n).sent) 0
/-- The barrier that a context waits in. -/
def State.barrierOf (s : State) (k n : Nat) : Option Nat := match (s.ctx k n).wait with
  | .barrier id => some id
  | _ => none
/-- A core sends BAR_ARRIVE once every enabled context of the partition on it waits in the same barrier; halted contexts count as
there (R186, R220 step 1). -/
def State.barrierCheck (s : State) (p k : Nat) : State :=
  match (s.live p k).head?.bind (s.barrierOf k) with
  | none => s
  | some id =>
    if (s.live p k).all fun n => s.barrierOf k n == some id then
      s.post .barArrive k mgmtNode p (id * 2 ^ 32 + s.sentOn p k % 2 ^ 24)
    else s
/-- BARRIER (R184). -/
def State.cmdBarrier (s : State) (k n : Nat) : State :=
  s.slotCmd k n 5 9 fun s i => (s.setWait k n (.barrier (bits i.bundle 204 8))).barrierCheck (s.ctxPart k n) k
def execBarrier (k : CoreNo) (n : CtxNo) (s : State) : Host.Outcome State Fault Refusal := .next (s.cmdBarrier k.val n.val)

/-- The root queries every member (R220 steps 2 and 4). -/
def State.queryBarrier (s : State) (p id total : Nat) : State :=
  let s := s.setRoot p { s.root p with query := some (id, total), counts := [] }
  s.forEach (s.members p) fun s m => s.post .barQuery mgmtNode m p (id * 2 ^ 32)
/-- With BAR_ARRIVE of one identifier from every member core, the root sums the counts and queries; cores whose contexts have all
halted count as arrived with the sends made before (R186, R220 step 2). -/
def State.rootBarrier (s : State) (p : Nat) : State :=
  let r := s.root p
  match r.query, r.arrived.head? with
  | none, some (_, id, _) =>
    let here (k : Nat) : Bool := r.arrived.any fun a => a.1 == k && a.2.1 == id
    if (s.memberCores p).all fun k => s.allHalted p k || here k then
      let halted := (s.memberCores p).filter fun k => !here k
      s.queryBarrier p id ((r.arrived.filter fun a => a.2.1 == id).foldl (fun a e => a + e.2.2) 0 + halted.foldl (fun a k => a + s.sentOn p k) 0)
    else s
  | _, _ => s
/-- BAR_ARRIVE (R220); during a reclaim the root discards it (R227). -/
def State.barArrive (s : State) (k p : Nat) : State :=
  match s.takeMsg .barArrive k mgmtNode p with
  | none => s
  | some (m, s) =>
    if s.run p = 3 then s
    else
      let r := s.root p
      let s := s.setRoot p { r with arrived := (r.arrived.filter fun a => a.1 != k) ++ [(k, m.arg / 2 ^ 32, m.arg % 2 ^ 24)] }
      (s.setF (Reg.CNET_PSTAT p) Fld.CNET_PSTAT_BAR 1).rootBarrier p
def execBarArrive (k : CoreNo) (p : PartNo) (s : State) : Host.Outcome State Fault Refusal := .next (s.barArrive k.val p.val)
/-- BAR_QUERY (R220 step 3): a member answers with the weight it has ejected for the partition since the last barrier. -/
def State.barQuery (s : State) (node p : Nat) : State :=
  match s.takeMsg .barQuery mgmtNode node p with
  | none => s
  | some (m, s) =>
    let w := SMap.get (fun _ => 0) s.mesh.ejected (node * 64 + p)
    let s := { s with mesh := { s.mesh with reported := SMap.set (fun _ => 0) s.mesh.reported (node * 64 + p) w } }
    s.post .barCount node mgmtNode p (m.arg / 2 ^ 32 * 2 ^ 32 + w % 2 ^ 24)
def execBarQuery (node : Fin 32) (p : PartNo) (s : State) : Host.Outcome State Fault Refusal := .next (s.barQuery node.val p.val)
/-- The sends of the partition's contexts on a core count anew. -/
def State.clearSent (s : State) (p k : Nat) : State := s.forEach (s.ctxsOn p k) fun s n => s.setCtx k n { s.ctx k n with sent := 0 }
/-- The root releases a barrier (R220 step 4): the weights that were reported are accounted for. -/
def State.releaseBarrier (s : State) (p id : Nat) : State :=
  let s := s.forEach (s.members p) fun s m =>
    let i := m * 64 + p
    let e := SMap.get (fun _ => 0) s.mesh.ejected i - SMap.get (fun _ => 0) s.mesh.reported i
    { s with mesh := { s.mesh with
      ejected := SMap.set (fun _ => 0) s.mesh.ejected i e
      reported := SMap.set (fun _ => 0) s.mesh.reported i 0 } }
  let s := s.setRoot p { s.root p with arrived := [], query := none, counts := [] }
  let s := (s.setF (Reg.CNET_PSTAT p) Fld.CNET_PSTAT_BAR 0).setF (Reg.CNET_PSTAT p) Fld.CNET_PSTAT_BARID id
  let s := s.forEach ((s.memberCores p).filter (s.allHalted p)) fun s k => s.clearSent p k
  s.forEach (s.memberCores p) fun s k => s.post .barRelease mgmtNode k p (id * 2 ^ 32)
/-- BAR_RELEASE (R184): the waiting contexts of the partition go on. -/
def State.barRelease (s : State) (k p : Nat) : State :=
  match s.takeMsg .barRelease mgmtNode k p with
  | none => s
  | some (m, s) =>
    let s := s.forEach ((s.ctxsOn p k).filter fun n => s.barrierOf k n == some (m.arg / 2 ^ 32)) fun s n => s.setWait k n .none
    s.clearSent p k
def execBarRelease (k : CoreNo) (p : PartNo) (s : State) : Host.Outcome State Fault Refusal := .next (s.barRelease k.val p.val)

/-! ### Forced reclaim (R226, R227) -/

/-- The orders of a step of R226, as message, node and argument. -/
def State.reclOrders (s : State) (p step : Nat) : List (MsgType × Nat × Nat) :=
  match step with
  | 1 => (s.ctxsOf p).map fun c => (.forceSched, c.1, c.2)
  | 2 => (s.members p).map fun m => (.discard, m, 1)
  | 3 => (s.recl p).dead.map fun d => (.creditReclaim, d / 8, d % 8 - 5)
  | 5 => (s.ctxsOf p).map fun c => (.tagReclaim, c.1, c.2)
  | 6 => (s.members p).map fun m => (.discard, m, 0)
  | _ => []
/-- A reclaim ends (R226, R227): the partition is stopped. One that was being stopped, or whose contexts had all halted (R186), ends
as in R387; else its streams live on for the replay. -/
def State.endReclaim (s : State) (p : Nat) : State :=
  let ends := (s.recl p).endStatus != 0 || (s.part p).stopping != 0
  if !ends then s.stopPart p
  else
    let s := s.setRecl p {}
    let s := (s.setPart p { s.part p with stopping := 1 }).setPRun p 2
    s.tryStop p
/-- A step of a reclaim begins; one with nothing to order is over at once. -/
def State.reclStep (s : State) (p : Nat) : Nat → Nat → State
  | 0, _ => s
  | fuel + 1, step =>
    if step = 4 then
      let s := s.setRecl p { s.recl p with step := 4, awaited := [] }
      if s.members p = [] then s.reclStep p fuel 5 else s.queryBarrier p 0 ((s.ctxsOf p).foldl (fun a c => a + (s.ctx c.1 c.2).sent) 0)
    else if 6 < step then s.endReclaim p
    else
      let os := s.reclOrders p step
      if os = [] then s.reclStep p fuel (step + 1)
      else
        let s := s.setRecl p { s.recl p with step := step, awaited := os.map fun o => o.2.1 }
        s.forEach os fun s o => s.post o.1 mgmtNode o.2.1 p o.2.2
/-- No REQ or RSP of a partition is in flight (R226 step 4). -/
def State.noTraffic (s : State) (p : Nat) : Bool :=
  let ofPart (r : HbmResp) : Bool := match r.by_ with
    | .desc k q .. => (s.ctxsOn p k).any fun n => s.ownsQueue k n q
    | .copy vf .. => vf == p
    | .peer .. => false
  !(s.hbm.reqs.any fun r => r.part == p) && !(s.hbm.reads.any fun r => r.part == p) && !(s.hbm.writes.any fun r => r.part == p) && !s.hbm.resps.any ofPart
/-- BAR_COUNT (R220 steps 3 and 4, R226 step 4): with every reply in, equal sums release the barrier or pass the drain check; unequal
ones wait for the next query. -/
def State.barCount (s : State) (node p : Nat) : State :=
  match s.takeMsg .barCount node mgmtNode p with
  | none => s
  | some (m, s) =>
    let r := s.root p
    match r.query with
    | none => s
    | some (id, total) =>
      let counts := (r.counts.filter fun c => c.1 != node) ++ [(node, m.arg % 2 ^ 24)]
      let s := s.setRoot p { r with counts := counts }
      if !(s.members p).all (fun m => counts.any fun c => c.1 == m) then s
      else
        let equal := counts.foldl (fun a c => a + c.2) 0 % 2 ^ 24 == total % 2 ^ 24
        if s.run p = 3 then
          if equal && s.noTraffic p then (s.setRoot p {}).reclStep p 8 5 else s.setRoot p { r with counts := [] }
        else if equal then s.releaseBarrier p id
        else s.setRoot p { r with counts := [] }
def execBarCount (node : Fin 32) (p : PartNo) (s : State) : Host.Outcome State Fault Refusal := .next (s.barCount node.val p.val)
/-- BAR_REQUERY_TIMER (R220 step 4): 64 ns after the last reply of a round with unequal sums, the root queries again. -/
def State.requery (s : State) (p : Nat) : State :=
  match (s.root p).query with
  | some (id, total) => if (s.root p).counts = [] ∧ !s.inFlight p [.barQuery, .barCount] then s.queryBarrier p id total else s
  | none => s
def execBarRequeryTimer (p : PartNo) (s : State) : Host.Outcome State Fault Refusal := .next (s.requery p.val)

/-- A forced reclaim begins (R226): the open step fails (R289), the root discards its barrier and step state (R227), and FORCE_SCHED goes
to every context. -/
def State.startReclaim (s : State) (p : Nat) (dead : List Nat) : State :=
  if s.run p = 0 ∨ s.run p = 3 then s
  else
    let halted := (s.ctxsOf p).all fun c => (s.ctx c.1 c.2).wait == .halted
    let s := if (s.part p).opened then (s.failStep p).stepFails p else s
    let s := s.setPart p { s.part p with planned := false, held := true, rows := [] }
    let old (m : Msg) : Bool := m.part == p && [MsgType.barArrive, .barQuery, .barCount, .barRelease, .stepDone, .boundary, .boundaryAck, .stepStart, .sched, .pstart].contains m.type
    let s := { s with mesh := { s.mesh with msgs := s.mesh.msgs.filter fun m => !old m } }
    let s := (((s.setRoot p {}).setF (Reg.CNET_PSTAT p) Fld.CNET_PSTAT_BAR 0).setPRun p 3).setRecl p { dead := dead, endStatus := if halted then 10 else 0 }
    s.reclStep p 8 1
/-- RECLAIM (R226): firmware reclaims a partition; `dead` names the attachments held by a dead party. -/
def execReclaim (p : PartNo) (dead : List (CoreNo × Fin 3)) (s : State) : Host.Outcome State Fault Refusal := .next (s.startReclaim p.val ((dead.map fun d => d.1.val * 8 + 5 + d.2.val).eraseDups))
/-- RECLAIM_TIMEOUT (R226 step 4, R468): the drain check has lasted CNET_RECLTO, and the part fails. -/
def State.reclTimeout (s : State) (p : Nat) : State :=
  if s.run p ≠ 3 ∨ (s.recl p).step ≠ 4 then s
  else (s.sherd { code := 0x45, sev := 4, part := p, unit := unitPartition p, detail := [(48, s.rd (Reg.CNET_PSTAT p))] }).partFail 0x45
def execReclaimTimeout (p : PartNo) (s : State) : Host.Outcome State Fault Refusal := .next (s.reclTimeout p.val)

/-- The rows of a context become EMPTY (R114, R226 step 5). -/
def State.emptyTags (s : State) (k n : Nat) : State :=
  let f (e : Nat × ShelfRow) : Option (Nat × ShelfRow) :=
    if e.1 / 65536 = k ∧ s.inRows k n (e.1 % 65536) then
      (if { e.2 with full := false } = ({} : ShelfRow) then none else some (e.1, { e.2 with full := false }))
    else some e
  { s with core := { s.core with shelf := s.core.shelf.filterMap f } }
/-- The counters that a context owns are cleared and its queues are empty (R114, R226 step 5). -/
def State.clearQueues (s : State) (k n : Nat) : State :=
  let s := s.forEach ((List.range 64).filter fun c => bitAt (s.ctrMask k n) c) fun s c => s.clearCtr k c
  s.forEach ((List.range 16).filter fun q => s.ownsQueue k n q) fun s q => s.setQueue k q []
/-- A descriptor of a context being forced ends with abort status (R139, R226 step 1). One whose read data is still to come stays until
DISCARD to write it. -/
def State.abortDesc (s : State) (k q : Nat) (d : QDesc) : State × List QDesc :=
  let s := s.countDone k q d true
  if d.started ∧ !d.write then (s, [{ d with ended := true, tagged := false, err := true }]) else (s, [])
/-- Every descriptor of a queue is aborted. -/
def State.abortQueue (s : State) (k q : Nat) : State :=
  let r := (s.queue k q).foldl (fun (a : State × List QDesc) d =>
    if d.ended then (a.1, a.2 ++ [d])
    else
      let b := a.1.abortDesc k q d
      (b.1, a.2 ++ b.2)) (s, [])
  r.1.setQueue k q r.2
/-- An operation is abandoned by a forced switch: it is blocked on a tag, or waits for room in a queue (R226 step 1). -/
def UnitOp.abandoned (o : UnitOp) : Bool := o.blocked.isSome || (match o.job with
  | .enqWait .. => true
  | _ => false)
/-- FORCE_SCHED takes effect (R132, R226 step 1): scheduled mode, nothing further issues, operations that wait are abandoned, and the
descriptors of the context's queues end. -/
def State.forceCtx (s : State) (k n : Nat) : State :=
  let p := s.ctxPart k n
  let s := s.setF (Reg.CORE_CTXCTL k n) Fld.CORE_CTXCTL_MODE 0
  let s := s.when (s.ctxRun k n == 2) fun s => s.setRun k n 1
  let s := s.setCtx k n { s.ctx k n with wait := .halted, cur := none }
  let gone := (List.range 32).filter fun u => match s.op k u with
    | some o => o.ctx == n && o.abandoned
    | none => false
  let s := s.forEach gone fun s u => s.endOp k u
  let s := s.dropWaiters k fun w => gone.contains w || (decide (32 ≤ w) && decide (w < 48) && s.ownsQueue k n (w - 32))
  let s := s.forEach ((List.range 16).filter fun q => s.ownsQueue k n q) fun s q => s.abortQueue k q
  let s := { s with mesh := { s.mesh with dropSums := if s.mesh.dropSums.contains (ctxKey k n) then s.mesh.dropSums else s.mesh.dropSums ++ [ctxKey k n] } }
  s.post .reclaimDone k mgmtNode p (MsgType.forceSched).code
/-- FORCE_SCHED (R226): the core takes the order. -/
def State.forceSched (s : State) (k n : Nat) : State :=
  match s.takeArg .forceSched mgmtNode k (s.ctxPart k n) n with
  | some s => s.forceCtx k n
  | none => s
def execForceSched (k : CoreNo) (n : CtxNo) (s : State) : Host.Outcome State Fault Refusal := .next (s.forceSched k.val n.val)

/-- Show a partition in discard at a router (R224). -/
def State.setDisc (s : State) (r p v : Nat) : State := s.setF (if p < 32 then Reg.RTR_DISC_LO r else Reg.RTR_DISC_HI r) ⟨p % 32, 1⟩ v
/-- Answers that no descriptor waits for go to the discard sink (R226 step 1). -/
def State.sinkResps (s : State) (k q : Nat) : State :=
  let mine (r : HbmResp) : Bool := match r.by_ with
    | .desc k' q' .. => k' == k && q' == q
    | _ => false
  { s with hbm := { s.hbm with resps := s.hbm.resps.filter fun r => !mine r } }
/-- A core in discard (R224, R226 step 2): delivery queues, parking stores and reduction slots of the partition empty into the sink, the
spill bits of its entries clear, and read data still to come has no descriptor to write it. -/
def State.discardCore (s : State) (k p : Nat) : State :=
  let s := s.forEach (s.ctxsOn p k) fun s n =>
    let s := s.discardCtx k n
    let s := s.dropWaiters k fun w => w == 64 + n
    s.forEach ((List.range 16).filter fun q => s.ownsQueue k n q) fun s q => (s.setQueue k q []).sinkResps k q
  let mine := (List.range 256).filter fun e => s.fld (Reg.RTR_REDA k e) Fld.RTR_REDA_VALID == 1 && s.fld (Reg.RTR_REDA k e) Fld.RTR_REDA_PART == p
  s.forEach mine fun s e => (s.wr (Reg.RTR_REDSP_LO k e) 0).wr (Reg.RTR_REDSP_HI k e) 0
/-- DISCARD (R224, R226 steps 2 and 6): a member turns the discard sinks of the partition on or off. -/
def State.discard (s : State) (node p : Nat) : State :=
  match s.takeMsg .discard mgmtNode node p with
  | none => s
  | some (m, s) =>
    let on := m.arg % 2
    let s := (s.setDisc (nodeOut node).1 p on).setF (Reg.CNET_PSTAT p) Fld.CNET_PSTAT_DISC on
    let s := s.when (on == 1 && decide (node < 16)) fun s => s.discardCore node p
    s.post .reclaimDone node mgmtNode p (MsgType.discard).code
def execDiscard (node : Fin 32) (p : PartNo) (s : State) : Host.Outcome State Fault Refusal := .next (s.discard node.val p.val)
/-- CREDIT_RECLAIM (R226 step 3): the credits of an attachment return to their reset values, and it is down. -/
def State.creditReclaim (s : State) (r p : Nat) : State :=
  match s.takeMsg .creditReclaim mgmtNode r p with
  | none => s
  | some (m, s) =>
    let s := s.forEach (List.range 3) fun s v => s.setCredit r (5 + m.arg % 8) v 8
    let s := s.setF (Reg.RTR_STAT r) ⟨4 + m.arg % 8, 1⟩ 1
    s.post .reclaimDone r mgmtNode p (MsgType.creditReclaim).code
def execCreditReclaim (r : CoreNo) (p : PartNo) (s : State) : Host.Outcome State Fault Refusal := .next (s.creditReclaim r.val p.val)
/-- TAG_RECLAIM (R226 step 5): every row of a context takes the tag that the order names, EMPTY in a forced reclaim. -/
def State.tagReclaim (s : State) (k n : Nat) : State :=
  let p := s.ctxPart k n
  match findIdx1 (fun (m : Msg) => m.type == .tagReclaim && m.dnode == k && m.part == p && m.arg % 4 == n) s.mesh.msgs with
  | none => s
  | some (i, m) =>
    let s := { s with mesh := { s.mesh with msgs := s.mesh.msgs.eraseIdx i } }
    let s := if bitAt m.arg 2 then s.forEach (List.range (s.rowCount k n)) fun s j =>
        let r := s.rowBase k n + j
        s.setShelfRow k r { s.shelfRow k r with full := true }
      else s.emptyTags k n
    (s.clearQueues k n).post .reclaimDone k mgmtNode p (MsgType.tagReclaim).code
def execTagReclaim (k : CoreNo) (n : CtxNo) (s : State) : Host.Outcome State Fault Refusal := .next (s.tagReclaim k.val n.val)
/-- RECLAIM_DONE (R226): with every node's answer in, the next step begins. -/
def State.reclaimDone (s : State) (node p : Nat) : State :=
  match s.takeMsg .reclaimDone node mgmtNode p with
  | none => s
  | some (_, s) =>
    let r := s.recl p
    let left := r.awaited.erase node
    let s := s.setRecl p { r with awaited := left }
    if s.run p = 3 ∧ r.step ≠ 4 ∧ left = [] then s.reclStep p 8 (r.step + 1) else s
def execReclaimDone (node : Fin 32) (p : PartNo) (s : State) : Host.Outcome State Fault Refusal := .next (s.reclaimDone node.val p.val)

/-! ### Steps (R185, R186, R221) -/

/-- A context waits at step 4 of STEP or has halted. -/
def State.atStepEnd (s : State) (k n : Nat) : Bool := (s.ctx k n).wait == .stepWait || (s.ctx k n).wait == .halted
/-- A core reports STEP_DONE once every enabled context of the partition on it is halted or waits at step 4 (R186). -/
def State.stepCheck (s : State) (p k : Nat) : State :=
  if s.run p = 1 ∧ (s.ctxsOn p k).all (s.atStepEnd k) ∧ !s.allHalted p k then s.post .stepDone k mgmtNode p (s.stepNo p) else s
/-- STEP_DRAINED (R185 steps 2 to 4). -/
def State.stepDrained (s : State) (k n : Nat) : State :=
  if s.ctxRun k n ≠ 1 ∨ (s.ctx k n).wait ≠ .stepDrain ∨ !s.drained k n 31 then s
  else
    let v := s.fld (Reg.CORE_CTXPC k n) Fld.CORE_CTXPC_STEP
    ((s.setF (Reg.CORE_CTXPC k n) Fld.CORE_CTXPC_STEP (v + 1)).setWait k n .stepWait).stepCheck (s.ctxPart k n) k
def execStepDrained (k : CoreNo) (n : CtxNo) (s : State) : Host.Outcome State Fault Refusal := .next (s.stepDrained k.val n.val)
/-- The step boundary begins when the root holds STEP_DONE from every member core (R221); cores whose contexts have all halted count,
and with every context halted it never begins (R186). The sampler reads the logits of a job of one part (R264). -/
def State.rootStep (s : State) (p : Nat) : State :=
  let r := s.root p
  let cores := s.memberCores p
  if s.run p ≠ 1 ∨ !cores.all (fun k => r.stepDone.contains k || s.allHalted p k) ∨ (cores.all fun k => s.allHalted p k) then s
  else
    let s := (s.setRoot p { r with boundary := true, stepDone := [], acks := [] }).setPRun p 2
    let s := s.forEach cores fun s k => s.post .boundary mgmtNode k p (s.stepNo p)
    if s.jobParts p = 0 then (s.sampleStep p).getD s else s
/-- STEP_DONE (R221). -/
def State.rootStepDone (s : State) (k p : Nat) : State :=
  match s.takeMsg .stepDone k mgmtNode p with
  | none => s
  | some (_, s) =>
    let r := s.root p
    (s.setRoot p { r with stepDone := (r.stepDone.filter fun c => c != k) ++ [k] }).rootStep p
def execStepDone (k : CoreNo) (p : PartNo) (s : State) : Host.Outcome State Fault Refusal := .next (s.rootStepDone k.val p.val)
/-- HALT_COMPLETE (R186): the context stops, is reported, and counts at barriers and steps; the last halt of a partition fails the open
step (R289). -/
def State.haltComplete (s : State) (k n : Nat) : State :=
  if s.ctxRun k n ≠ 1 ∨ (s.ctx k n).wait ≠ .halting ∨ !s.drained k n 31 then s
  else
    let p := s.ctxPart k n
    let s := (s.setWait k n .halted).setRun k n 0
    let s := { s with mesh := { s.mesh with halts := s.mesh.halts ++ [(k, n, s.pcOf k n - 1)] } }
    let all := (s.ctxsOf p).all fun c => (s.ctx c.1 c.2).wait == .halted
    let s := s.when all fun s => s.failStep p
    ((((s.barrierCheck p k).stepCheck p k).rootBarrier p).rootStep p)
def execHaltComplete (k : CoreNo) (n : CtxNo) (s : State) : Host.Outcome State Fault Refusal := .next (s.haltComplete k.val n.val)
/-- BOUNDARY (R103, R221): a core performs the flips due and answers. -/
def State.takeBoundary (s : State) (k p : Nat) : State :=
  match s.takeMsg .boundary mgmtNode k p with
  | none => s
  | some (m, s) => (s.flipPart k p).post .boundaryAck k mgmtNode p m.arg
def execBoundary (k : CoreNo) (p : PartNo) (s : State) : Host.Outcome State Fault Refusal := .next (s.takeBoundary k.val p.val)
/-- BOUNDARY_ACK (R221): with every one in, a part of a multi-part job reports XDONE (R331 step 1); STEP_START goes when the step is granted. -/
def State.boundaryAck (s : State) (k p : Nat) : State :=
  match s.takeMsg .boundaryAck k mgmtNode p with
  | none => s
  | some (_, s) =>
    let r := s.root p
    let s := s.setRoot p { r with acks := (r.acks.filter fun c => c != k) ++ [k] }
    let all := (s.memberCores p).all fun k => (s.root p).acks.contains k
    let s := if all ∧ s.jobParts p ≠ 0 ∧ r.boundary then
        let x := s.xpart p
        (s.setXpart p { x with dones := (x.dones.filter fun c => c != s.chip) ++ [s.chip] }).createX p 1 (s.stepNo p) 0
      else s
    s.tryStart p
def execBoundaryAck (k : CoreNo) (p : PartNo) (s : State) : Host.Outcome State Fault Refusal := .next (s.boundaryAck k.val p.val)
/-- STEP_START (R221, R185 step 5): the waiting contexts of the partition begin the next step. -/
def State.takeStepStart (s : State) (k p : Nat) : State :=
  if s.mesh.msgs.any fun m => m.type == .pstart && m.dnode == k && m.part == p then s
  else match s.takeMsg .stepStart mgmtNode k p with
    | none => s
    | some (_, s) => s.forEach ((s.ctxsOn p k).filter fun n => (s.ctx k n).wait == .stepWait) fun s n => s.setWait k n .none
def execStepStart (k : CoreNo) (p : PartNo) (s : State) : Host.Outcome State Fault Refusal := .next (s.takeStepStart k.val p.val)

/-! ### Start and stop of a partition -/

/-- A context starts (R114, R161, R256): address 0, registers 0, counters, queues and tags clear, scheduled mode; it waits for the
partition's first step (R388). -/
def State.startCtx (s : State) (k n : Nat) : State :=
  let s := ((s.emptyCtx k n).clearQueues k n).emptyTags k n
  let s := (s.setCtx k n { wait := .stepWait }).setF (Reg.CORE_CTXCTL k n) Fld.CORE_CTXCTL_MODE 0
  let s := (s.setRun k n 1).wr (Reg.CORE_CTXPC k n) 0
  let s := (s.setF (Reg.CORE_FLTINFO k n) Fld.CORE_FLTINFO_VALID 0).setF (Reg.CORE_STAT k) ⟨n, 1⟩ 0
  let s := (s.wr (Reg.QUE_LATECNT k n) 0).wr (Reg.QUE_LATETIME k n) 0
  { s with mesh := { s.mesh with unwritten := SMap.del (ctxKey k n) s.mesh.unwritten, dropSums := s.mesh.dropSums.filter fun c => c != ctxKey k n } }
/-- With every PSTART taken, the engine of a job of one part plans the first step. -/
def State.afterStart (s : State) (p : Nat) : State := if s.inFlight p [.pstart] ∨ s.jobParts p ≠ 0 then s else s.makePlan p
/-- PSTART (R388): a member starts every enabled context of the partition. -/
def State.takePstart (s : State) (node p : Nat) : State :=
  match s.takeMsg .pstart mgmtNode node p with
  | none => s
  | some (_, s) =>
    let s := if node < 16 then s.forEach (s.ctxsOn p node) fun s n => s.startCtx node n else s
    s.afterStart p
def execPstart (node : Fin 32) (p : PartNo) (s : State) : Host.Outcome State Fault Refusal := .next (s.takePstart node.val p.val)
/-- Start a partition (R388): the step number goes on from the last committed step, and a replay keeps its own (R290). `remap`: the job
has been re-mapped onto a spare, so every live stream ends with status 6 (R338). -/
def State.launch (s : State) (p : Nat) (remap : Bool) : State :=
  let s := s.when remap fun s => s.forEach (s.liveStreams p) fun s c => s.endStream c 6
  let x := s.part p
  let s := s.setPart p { x with
    step := if x.replay then x.step else s.fld (Reg.SRV_PSTAT p) Fld.SRV_PSTAT_STEP
    held := false
    planned := false
    opened := false
    up := s.fld (Reg.SRV_PBAL p) Fld.SRV_PBAL_SMIN
    sinceChange := 0
    missHist := [] }
  let s := { s with lnk := { s.lnk with xparts := SMap.del p s.lnk.xparts } }
  let s := (s.setRoot p { acks := s.memberCores p }).setPRun p 2
  let s := s.when (s.balanced p) fun s => s.setF (Reg.SRV_PSTAT p) Fld.SRV_PSTAT_UP (s.fld (Reg.SRV_PBAL p) Fld.SRV_PBAL_SMIN)
  (s.forEach (s.members p) fun s m => s.post .pstart mgmtNode m p 0).afterStart p
/-- PSTOP (R387): a member takes the order to stop after the boundary of the open step. -/
def State.takePstop (s : State) (node p : Nat) : State :=
  match s.takeMsg .pstop mgmtNode node p with
  | none => s
  | some (_, s) => s.tryStop p
def execPstop (node : Fin 32) (p : PartNo) (s : State) : Host.Outcome State Fault Refusal := .next (s.takePstop node.val p.val)

/-! ### Messages held for firmware (R217, R219) -/

/-- A class-U message enters its store of 1,024; a full one folds it into a sticky bit, counted, the first time reported as sherd 0x0023. -/
def State.storeUrgent (s : State) (m : Msg) : State :=
  if s.mesh.storeU.length < 1024 then { s with mesh := { s.mesh with storeU := s.mesh.storeU ++ [m] } }
  else
    let b := (m.snode, m.type.code)
    let s := (s.inc Reg.CNET_OVFCNT 1).setF Reg.CNET_STAT Fld.CNET_STAT_OVF 1
    if s.mesh.overflow.contains b then s
    else ({ s with mesh := { s.mesh with overflow := s.mesh.overflow ++ [b] } }).sherd { code := 0x23, sev := 2, unit := unitPart, detail := [(48, s.rd Reg.CNET_OVFCNT)] }
/-- A class-B message enters its store of 256, or is dropped. -/
def State.storeBulk (s : State) (m : Msg) : State :=
  if s.mesh.storeB.length < 256 then { s with mesh := { s.mesh with storeB := s.mesh.storeB ++ [m] } } else s.inc Reg.CNET_BDROPCNT 1
/-- FAULT (R217): the management controller holds a node's fault message; `taken` messages of the store have gone to firmware before it,
and one with an uncorrectable check (`bad`) is dropped at the first hub. -/
def State.takeFault (s : State) (node p taken : Nat) (bad : Bool) : State :=
  let s := { s with mesh := { s.mesh with storeU := s.mesh.storeU.drop taken } }
  match s.takeMsg .fault node mgmtNode p with
  | none => s
  | some (m, s) => if bad then s.inc Reg.CNET_ERRCNT 1 else s.storeUrgent m
def execFault (node : Fin 64) (p : PartNo) (taken : Nat) (bad : Bool) (s : State) : Host.Outcome State Fault Refusal := .next (s.takeFault node.val p.val taken bad)
/-- A bulk message reaches the management controller. -/
def State.takeBulk (s : State) (m : Msg) (taken : Nat) (bad : Bool) : State :=
  let s := { s with mesh := { s.mesh with storeB := s.mesh.storeB.drop taken } }
  if bad then s.inc Reg.CNET_ERRCNT 1 else s.storeBulk m
/-- TELEM (R217): a node's counter snapshot, index and value. -/
def execTelem (node : Fin 64) (p : PartNo) (arg : BitVec 40) (taken : Nat) (bad : Bool) (s : State) : Host.Outcome State Fault Refusal := .next (s.takeBulk ⟨.telem, node.val, mgmtNode, p.val, arg.toNat⟩ taken bad)
/-- CNET_EVENT (R183, R217): the head of a core's event queue goes to the management controller, and contexts that waited for room post
theirs, the lowest first. -/
def State.cnetEvent (s : State) (k taken : Nat) (bad : Bool) : State :=
  match s.events k with
  | [] => s
  | e :: rest =>
    let s := (s.setEvents k rest).takeBulk ⟨.event, k, mgmtNode, s.ctxPart k (e / 2 ^ 32 % 4), e⟩ taken bad
    s.forEach (List.range 4) fun s n =>
      match (s.ctx k n).wait with
      | .event code =>
        if 16 ≤ (s.events k).length then s
        else (s.setEvents k (s.events k ++ [n * 2 ^ 32 + (s.pcOf k n - 1) * 2 ^ 16 + code])).setWait k n .none
      | _ => s
def execCnetEvent (k : CoreNo) (taken : Nat) (bad : Bool) (s : State) : Host.Outcome State Fault Refusal := .next (s.cnetEvent k.val taken bad)

end Sys2Proof.Machine
end

