-- ==== Sys2Proof/Machine/Link.lean ====
section
/-!
DEFINITION. The Extur ports (R294 to R324), the step clock (R326 to R328) and the steps of a job over several parts (R329 to R339).
-/
namespace Sys2Proof.Machine

/-! ### Training (R297 to R302) -/

/-- A port goes from one state to the next when it is in the first. -/
def State.advance (s : State) (i from_ to_ : Nat) : State := if s.portState i = from_ then s.setPortState i to_ else s
/-- Training fails (R298). -/
def State.trainFails (s : State) (i reason : Nat) : State := (s.setF (Reg.LNK_STAT i) Fld.LNK_STAT_REASON reason).setPortState i 9
/-- PORT_ENABLE (R298): LNK_CTL.EN is written 1. -/
def State.portEnable (s : State) (i : Nat) : State :=
  if s.fld (Reg.LNK_CTL i) Fld.LNK_CTL_EN = 1 then s else (s.setF (Reg.LNK_CTL i) Fld.LNK_CTL_EN 1).startPort i
def execPortEnable (i : PortNo) (s : State) : Host.Outcome State Fault Refusal := .next (s.portEnable i.val)
/-- PORT_DISABLE (R298): LNK_CTL.EN is written 0. -/
def execPortDisable (i : PortNo) (s : State) : Host.Outcome State Fault Refusal := .next (s.disablePort i.val)
/-- PARTNER_DETECTED (R298): the partner's signal is on every lane needed. -/
def execPartnerDetected (i : PortNo) (s : State) : Host.Outcome State Fault Refusal := .next (s.advance i.val 1 2)
/-- The lanes that a port trains with, given those that meet R295 (R297). -/
def lanesFor (pass : Nat) (x4ok : Bool) : Option Nat :=
  if pass % 256 = 0xFF then some 0xFF
  else if !x4ok then none
  else if pass % 16 = 0xF then some 0x0F
  else if pass / 16 % 16 = 0xF then some 0xF0
  else none
/-- EQUALISE_DONE (R295, R297): `pass` names the lanes that meet the error ratio. -/
def State.equaliseDone (s : State) (i pass : Nat) : State :=
  if s.portState i ≠ 2 then s
  else match lanesFor pass (s.fld (Reg.LNK_CTL i) Fld.LNK_CTL_X4OK == 1) with
    | some m => (s.setF (Reg.LNK_STAT i) Fld.LNK_STAT_LANES m).setPortState i 3
    | none => s.trainFails i 6
def execEqualiseDone (i : PortNo) (pass : BitVec 8) (s : State) : Host.Outcome State Fault Refusal := .next (s.equaliseDone i.val pass.toNat)
/-- LOCK_DONE (R298): codeword lock and deskew; training records are sent. -/
def execLockDone (i : PortNo) (s : State) : Host.Outcome State Fault Refusal := .next (s.advance i.val 3 4)
/-- A field of a training record (R299): `n` bytes from byte `b`. -/
def recField (r b n : Nat) : Nat := bits r (8 * b) (8 * n)
/-- The version byte of a version code (R299). -/
def versionByte (c : Nat) : Nat := nth 0x20 [0x10, 0x11, 0x20] c
/-- The features that a version allows (R300): none, REDOFF, all. -/
def versionFeatures (c : Nat) : Nat := nth 7 [0, 1, 7] c
/-- The result of the negotiation rule (R300): the reason of a refusal, or version code and features. -/
def State.negotiate (s : State) (i r : Nat) : Nat ⊕ (Nat × Nat) :=
  let ctl := Reg.LNK_CTL i
  let fits (c : Nat) : Bool :=
    decide (s.fld ctl Fld.LNK_CTL_VMIN ≤ c) && decide (c ≤ s.fld ctl Fld.LNK_CTL_VMAX) && decide (recField r 2 1 ≤ versionByte c) && decide (versionByte c ≤ recField r 3 1)
  match [2, 1, 0].find? fits with
  | none => .inl 2
  | some v =>
    let feat := s.fld ctl Fld.LNK_CTL_FOFF &&& recField r 4 1 &&& versionFeatures v
    let need := s.fld ctl Fld.LNK_CTL_FREQ ||| recField r 5 1
    if need &&& feat ≠ need then .inl 3
    else if recField r 12 4 ≠ s.rd (Reg.LNK_FLUEID i) then .inl 4
    else if recField r 8 2 = s.chip ∧ s.fld ctl Fld.LNK_CTL_LOOP = 0 then .inl 5
    else .inr (v, feat)
/-- RECORDS_AGREED (R299, R300): three identical records of the partner have come. -/
def State.recordsAgreed (s : State) (i r : Nat) : State :=
  if s.portState i ≠ 4 ∨ recField r 0 2 ≠ 0x5845 then s
  else match s.negotiate i r with
    | .inl reason => s.trainFails i reason
    | .inr (v, feat) =>
      let s := s.wr (Reg.LNK_NEG i) (v * 2 ^ 8 + feat)
      let s := s.wr (Reg.LNK_PEER i) (recField r 10 1 % 16 * 2 ^ 28 + recField r 6 2 * 2 ^ 12 + recField r 8 2 % 4096)
      (s.setPort i { s.port i with partnerChip := recField r 8 2 % 4096 }).setPortState i 5
def execRecordsAgreed (i : PortNo) (r : BitVec 256) (s : State) : Host.Outcome State Fault Refusal := .next (s.recordsAgreed i.val r.toNat)
/-- CREDITS_RECEIVED (R298, R308, R309): the port enters UP with sequence numbers, credits and buffers as new, in the next key epoch. -/
def State.creditsReceived (s : State) (i : Nat) : State :=
  if s.portState i ≠ 5 then s
  else
    let x := s.port i
    (s.setPort i { epoch := (x.epoch + 1) % 2 ^ 32, rxEpoch := (x.rxEpoch + 1) % 2 ^ 32, partnerChip := x.partnerChip }).setPortState i 6
def execCreditsReceived (i : PortNo) (s : State) : Host.Outcome State Fault Refusal := .next (s.creditsReceived i.val)
/-- TRAIN_TIMEOUT (R298): TRAIN_TO has elapsed since DETECT. -/
def State.trainTimeout (s : State) (i : Nat) : State := if 1 ≤ s.portState i ∧ s.portState i ≤ 5 then s.trainFails i 1 else s
def execTrainTimeout (i : PortNo) (s : State) : Host.Outcome State Fault Refusal := .next (s.trainTimeout i.val)
/-- FAILED_RETRY (R298): 100 ms after a failure with EN = 1. -/
def State.failedRetry (s : State) (i : Nat) : State := if s.portState i = 9 ∧ s.fld (Reg.LNK_CTL i) Fld.LNK_CTL_EN = 1 then s.startPort i else s
def execFailedRetry (i : PortNo) (s : State) : Host.Outcome State Fault Refusal := .next (s.failedRetry i.val)
/-- RETRAIN_START (R312): eight replays in a row from one SEQ, or the loss of codeword lock. -/
def State.retrainStart (s : State) (i : Nat) (lost : Bool) : State :=
  if s.portState i ≠ 6 ∨ (!lost ∧ (s.port i).repRun < 8) then s
  else ((s.inc (Reg.LNK_RETRAINCNT i) 1).setPort i { s.port i with repFrom := none, repRun := 0 }).setPortState i 7
def execRetrainStart (i : PortNo) (lost : Bool) (s : State) : Host.Outcome State Fault Refusal := .next (s.retrainStart i.val lost)
/-- A stream has a block lent by a chip (R254). -/
def State.lentAt (s : State) (c chip : Nat) : Bool :=
  (List.range (s.stream c).nblk).any fun b => match s.kv c b with
    | some e => e.tier == 1 && e.chip == chip
    | none => false
/-- The port enters DOWN (R298, R336): buffers are discarded, peer requests end with "link lost", rows that wait are discarded and counted,
the loss is reported, and streams whose blocks the partner lent end with status 6 when no other port leads to it (R254, R260). -/
def State.goDown (s : State) (i : Nat) : State :=
  let rows := ((s.port i).tx.filter fun t => t.row.isSome).length
  let chip := s.fld (Reg.LNK_PEER i) Fld.LNK_PEER_PCHIP
  let s := ((s.dropPort i).inc (Reg.LNK_REFCNT i) rows).setPortState i 8
  let s := (s.setF (Reg.LNK_STAT i) Fld.LNK_STAT_LANES 0).setF (Reg.LNK_STAT i) Fld.LNK_STAT_DOWNEV 1
  let s := s.sherd { code := 0x40, sev := 2, unit := unitPort i, detail := [(48, s.rd (Reg.LNK_STAT i)), (52, s.rd (Reg.LNK_PEER i))] }
  if (s.portTo chip).isSome then s
  else s.forEach (((List.range 64).flatMap s.liveStreams).filter fun c => s.lentAt c chip) fun s c => s.endStream c 6
/-- RETRAIN_TIMEOUT (R298): RETRAIN_TO has elapsed, or the partner differs. -/
def State.retrainTimeout (s : State) (i : Nat) : State := if s.portState i = 7 then s.goDown i else s
def execRetrainTimeout (i : PortNo) (s : State) : Host.Outcome State Fault Refusal := .next (s.retrainTimeout i.val)
/-- The record is of the partner that LNK_PEER names and of this port's flue (R298). -/
def State.samePartner (s : State) (i r : Nat) : Bool :=
  recField r 8 2 % 4096 == s.fld (Reg.LNK_PEER i) Fld.LNK_PEER_PCHIP && recField r 10 1 % 16 == s.fld (Reg.LNK_PEER i) Fld.LNK_PEER_PPORT &&
    recField r 12 4 == s.rd (Reg.LNK_FLUEID i)
/-- RETRAIN_DONE (R298, R308, R312): with the same partner the port goes on from its replay buffer in the next key epoch. -/
def State.retrainDone (s : State) (i r : Nat) : State :=
  if s.portState i ≠ 7 then s
  else if !s.samePartner i r || (s.negotiate i r).isLeft then s.goDown i
  else
    let x := s.port i
    let s := s.setPort i { x with
      epoch := (x.epoch + 1) % 2 ^ 32
      slots := 0
      rxEpoch := (x.rxEpoch + 1) % 2 ^ 32
      rxSlots := 0
      resend := if x.replay = [] then none else some 0 }
    (s.setF (Reg.LNK_STAT i) Fld.LNK_STAT_RETRAINEV 1).setPortState i 6
def execRetrainDone (i : PortNo) (r : BitVec 256) (s : State) : Host.Outcome State Fault Refusal := .next (s.retrainDone i.val r.toNat)

/-! ### Sending (R303 to R311, R315, R318) -/

/-- The valid binding entry of a partition at a port (R315). -/
def State.binding (s : State) (i p : Nat) : Option Nat :=
  (List.range 64).find? fun e => s.fld (Reg.LNK_PBA i e) Fld.LNK_PBA_VALID == 1 && s.fld (Reg.LNK_PBA i e) Fld.LNK_PBA_PART == p
/-- A feature is negotiated at a port: 0 REDOFF, 1 ENC, 2 CHDR. -/
def State.feature (s : State) (i b : Nat) : Bool := bitAt (s.fld (Reg.LNK_NEG i) Fld.LNK_NEG_FEAT) b
/-- Shares of a port, by partition (R318). -/
def State.portShares (s : State) (i : Nat) : List Nat :=
  (List.range 64).map fun p => match s.binding i p with
    | some e => s.fld (Reg.LNK_PBA i e) Fld.LNK_PBA_SHARE
    | none => 0
/-- The virtual channel of a flit type: 0 DATA, 1 REQ, 2 RSP, 3 XCTL (R304). -/
def FlitType.vc : FlitType → Nat
  | .row => 0 | .pwrite => 0 | .pread => 1 | .prdata => 2 | .pack => 2 | .xctl => 3 | .idle => 4 | .nak => 4
/-- A flit type carries no payload (R296, R318). -/
def FlitType.bare : FlitType → Bool
  | .row | .pwrite | .prdata => false
  | _ => true
/-- The transport content of an item at transmission (R305, R307, R315). -/
def State.flitBody (s : State) (i : Nat) (t : TxItem) : FlitBody :=
  match t.row, s.binding i t.part with
  | some r, some e =>
    .row s.chip (s.fld (Reg.LNK_PBA i e) Fld.LNK_PBA_RPART) r.reduce r.poison (if s.feature i 0 then r.wt else 1) r.drow (s.stepNo t.part) r.data
  | _, _ => t.body
/-- Rows whose partition has no valid entry are discarded and counted (R315). -/
def State.purgeTx (s : State) (i : Nat) : State :=
  let x := s.port i
  let bound (t : TxItem) : Bool := t.row.isNone || (s.binding i t.part).isSome
  let n := (x.tx.filter fun t => !bound t).length
  let o := portOut i
  ((s.setPort i { x with tx := x.tx.filter bound }).inc (Reg.LNK_REFCNT i) n).setCredit o.1 o.2 0 (s.attCredit o.1 o.2 0 + n)
/-- What goes in the next slot of a port: a NAK, a replayed flit, the items of the transmit queue at some places, or nothing. -/
inductive Slot where
  | nak
  | again (j : Nat) (f : Flit)
  | items (js : List Nat) (arb : Arbiter)
  | idle
  deriving DecidableEq, Repr
/-- Places of the transmit queue that hold items of a virtual channel, oldest first. -/
def Port.waiting (x : Port) (vc : Nat) : List Nat := (x.tx.zipIdx.filter fun e => e.1.type.vc == vc).map (·.2)
/-- A flit of an item may go in this slot under the limits of R318. -/
def Port.within (x : Port) (t : FlitType) : Bool :=
  x.waiting 0 == [] || ((!t.bare || decide (127 ≤ x.noPayload)) && (t != .prdata || decide (x.prdataRun < 7)))
/-- A virtual channel has a credit, and the replay buffer room (R309, R310). -/
def Port.maySend (x : Port) (vc : Nat) : Bool := nth 0 x.credits vc != 0 && decide (x.replay.length < 1024)
/-- The type of the item at a place. -/
def Port.typeAt (x : Port) (j : Nat) : FlitType := match x.tx[j]? with
  | some t => t.type
  | none => .idle
/-- The partition of the item at a place. -/
def Port.partAt (x : Port) (j : Nat) : Nat := match x.tx[j]? with
  | some t => t.part
  | none => 0
/-- The head of a virtual channel, when it can go. -/
def Port.head (x : Port) (vc : Nat) : Option Nat :=
  match x.waiting vc with
  | j :: _ => if x.maySend vc ∧ x.within (x.typeAt j) then some j else none
  | [] => none
/-- The choice of the transmit arbiter (R318): NAK, replay, XCTL, RSP, REQ, then DATA by the share arbiter. -/
def Port.choose (x : Port) (shares : List Nat) : Slot :=
  if x.sendNak ∧ x.within .nak then .nak
  else match x.resend.bind fun j => x.replay[j]?.map fun f => (j, f) with
    | some (j, f) => .again j f
    | none =>
      match x.head 3 with
      | some _ => .items ((x.waiting 3).take 8) x.arb
      | none => match (x.head 2).or (x.head 1) with
        | some j => .items [j] x.arb
        | none =>
          if !x.maySend 0 then .idle
          else match x.arb.grant shares (((x.waiting 0).map x.partAt).eraseDups) with
            | some (p, a) => match (x.waiting 0).find? fun j => x.partAt j == p with
              | some j => .items [j] a
              | none => .idle
            | none => .idle
/-- A flit goes out with ACK and the credits owed, which count as given back (R303, R309). -/
def Port.emit (x : Port) (type : FlitType) (seq : Nat) (ksw : Bool) (body : FlitBody) : Flit × Port :=
  let give := x.giveBack.map fun n => min n 255
  let f : Flit := { type := type, seq := seq, ack := x.expSeq, ksw := ksw, credits := give, body := body }
  (f, { x with
    giveBack := x.giveBack.map fun n => n - min n 255
    sent := some f
    epoch := if ksw then (x.epoch + 1) % 2 ^ 32 else x.epoch
    slots := if ksw then 0 else x.slots + 1
    noPayload := if type.bare && type != .idle then 0 else min 127 (x.noPayload + 1)
    prdataRun := if type = .prdata then x.prdataRun + 1 else 0 })
/-- The messages of the items at some places. -/
def Port.messages (x : Port) (js : List Nat) : List XMsg :=
  js.flatMap fun j => match x.tx[j]? with
    | some t => match t.body with
      | .xctl _ ms => ms
      | _ => []
    | none => []
/-- Send the items at some places as one flit with the next sequence number. -/
def State.sendItems (s : State) (i : Nat) (js : List Nat) (arb : Arbiter) (ksw : Bool) : State :=
  let x := s.port i
  match js.head?.bind fun j => x.tx[j]? with
  | none => s
  | some t =>
    let body := if t.type = .xctl then .xctl s.chip (x.messages js) else s.flitBody i t
    let (f, y) := x.emit t.type x.nextSeq ksw body
    let vc := t.type.vc
    let s := s.setPort i { y with
      nextSeq := (x.nextSeq + 1) % 4096
      replay := x.replay ++ [f]
      credits := setNth x.credits vc (nth 0 x.credits vc - 1)
      tx := (x.tx.zipIdx.filter fun e => !js.contains e.2).map (·.1)
      arb := arb }
    let o := portOut i
    s.when t.row.isSome fun s => s.setCredit o.1 o.2 0 (s.attCredit o.1 o.2 0 + 1)
/-- FLIT_TRANSMIT (R318): one slot of a port in UP. `ksw`: the flit switches the key epoch (R308). -/
def State.flitTransmit (s : State) (i : Nat) (ksw : Bool) : State :=
  if s.portState i ≠ 6 ∨ s.thm.step ≠ 0 then s
  else
    let ksw := ksw && s.feature i 1
    let s := s.purgeTx i
    let x := s.port i
    match x.choose (s.portShares i) with
    | .nak => s.setPort i { (x.emit .nak 0 ksw .none).2 with sendNak := false }
    | .again j f => s.setPort i { x with
        sent := some f
        slots := x.slots + 1
        resend := if j + 1 < x.replay.length then some (j + 1) else none
        noPayload := min 127 (x.noPayload + 1)
        prdataRun := 0 }
    | .items js a => s.sendItems i js a ksw
    | .idle => s.setPort i (x.emit .idle 0 ksw .none).2
def execFlitTransmit (i : PortNo) (ksw : Bool) (s : State) : Host.Outcome State Fault Refusal := .next (s.flitTransmit i.val ksw)
/-- A replay starts from the oldest flit not acknowledged, and is counted (R310 to R312). -/
def State.startReplay (s : State) (i : Nat) : State :=
  let x := s.port i
  let run := if x.repFrom = some x.oldest then x.repRun + 1 else 1
  (s.setPort i { x with resend := if x.replay = [] then none else some 0, repFrom := some x.oldest, repRun := run }).inc (Reg.LNK_REPLAYCNT i) 1
/-- REPLAY_TIMEOUT (R311): ACK has not advanced for RPTO while flits are unacknowledged. -/
def State.replayTimeout (s : State) (i : Nat) : State := if s.portState i = 6 ∧ (s.port i).replay ≠ [] then s.startReplay i else s
def execReplayTimeout (i : PortNo) (s : State) : Host.Outcome State Fault Refusal := .next (s.replayTimeout i.val)

/-! ### Receiving (R294, R303, R309, R310) -/

/-- ACK acknowledges every earlier SEQ (R310). -/
def Port.takeAck (x : Port) (ack : Nat) : Port :=
  let n := (ack + 4096 - x.oldest) % 4096
  if n = 0 ∨ x.replay.length < n then x
  else { x with
    replay := x.replay.drop n
    oldest := ack
    resend := x.resend.bind fun j => if n ≤ j ∨ n < x.replay.length then some (j - n) else none
    repFrom := none
    repRun := 0 }
/-- Credits that a flit returns. -/
def Port.takeCredits (x : Port) (l : FlitLink) : Port :=
  { x with credits := x.credits.zipWith (· + ·) [l.data.toNat, l.req.toNat, l.rsp.toNat, l.xctl.toNat] }
/-- A flit arrives (R310): whether it is accepted. A discarded one is answered by a NAK, once for each SEQ expected. -/
def State.receive (s : State) (i : Nat) (l : FlitLink) (numbered : Bool) : Bool × State :=
  if s.portState i ≠ 6 then (false, s)
  else
    let s := (s.inc (Reg.LNK_FECCE i) l.fecCe).inc (Reg.LNK_FECUE i) l.fecUe
    let ok := l.check && l.fecUe == 0
    let s := s.inc (Reg.LNK_CRCCNT i) (b2n (!ok))
    let x := s.port i
    let x := { x with rxSlots := x.rxSlots + 1 }
    if !ok || (numbered && l.seq.toNat != x.expSeq) then
      (false, s.setPort i (if x.nakFor = some x.expSeq then x else { x with sendNak := true, nakFor := some x.expSeq }))
    else
      let x := (x.takeAck l.ack.toNat).takeCredits l
      let x := if l.ksw then { x with rxEpoch := (x.rxEpoch + 1) % 2 ^ 32, rxSlots := 0 } else x
      let x := if numbered then { x with expSeq := (x.expSeq + 1) % 4096, nakFor := none, sendNak := false } else x
      (true, s.setPort i x)
/-- The receiver has moved a flit on: its credit goes back (R309). -/
def State.giveCredit (s : State) (i vc : Nat) : State :=
  let x := s.port i
  s.setPort i { x with giveBack := setNth x.giveBack vc (nth 0 x.giveBack vc + 1) }
/-- IDLE_FLIT (R304). -/
def execIdleFlit (i : PortNo) (l : FlitLink) (s : State) : Host.Outcome State Fault Refusal := .next (s.receive i.val l false).2
/-- NAK_FLIT (R310): the transmitter sends again from the SEQ that ACK names. -/
def State.nakFlit (s : State) (i : Nat) (l : FlitLink) : State :=
  let (ok, s) := s.receive i l false
  if ok then s.startReplay i else s
def execNakFlit (i : PortNo) (l : FlitLink) (s : State) : Host.Outcome State Fault Refusal := .next (s.nakFlit i.val l)

/-! ### Rows from a partner (R316, R320, R333, R334) -/

/-- The step clock reads a value. -/
def State.setSc (s : State) (sc : Nat) : State := s.wr64 Reg.LNK_SC_LO sc
/-- The received weight of a binding in its partition's current step (R333). -/
def State.bindSum (s : State) (i e p : Nat) : BindSum :=
  let b := SMap.get (fun _ => ({} : BindSum)) s.lnk.binds (i * 64 + e)
  if b.step = s.stepNo p then b else { step := s.stepNo p }
/-- Set the received weight of a binding. -/
def State.setBindSum (s : State) (i e : Nat) (b : BindSum) : State :=
  { s with lnk := { s.lnk with binds := SMap.set (fun _ => ({} : BindSum)) s.lnk.binds (i * 64 + e) b } }
/-- A port declares the current step of a partition incomplete, once (R333). -/
def State.declare (s : State) (i e p : Nat) : State :=
  let b := s.bindSum i e p
  if b.declared then s
  else ((s.setBindSum i e { b with declared := true }).inc (Reg.LNK_INCCNT i) 1).post .incomplete (16 + i) 63 p (s.stepNo p)
/-- The end of the deadline window of a binding's partition (R331, R333): T_S + DL; none in a job of one part. -/
def State.deadline (s : State) (i e p : Nat) : Option Nat :=
  if s.jobParts p = 0 then none else some ((s.xpart p).tS + 256 * s.fld (Reg.LNK_PBB i e) Fld.LNK_PBB_DLX)
/-- FLAGS.INCOMPLETE of a P40 row (R25). -/
def markIncomplete (d : Row) : Row := d ||| (BitVec.ofNat 4352 (2 ^ 105))
/-- The node of the landing window that a row falls in (R316). -/
def State.landingNode (s : State) (i p drow : Nat) : Option Nat :=
  ((List.range 64).find? fun w =>
    s.fld (Reg.LNK_LWA i w) Fld.LNK_LWA_VALID == 1 && s.fld (Reg.LNK_LWA i w) Fld.LNK_LWA_PART == p &&
      decide (s.fld (Reg.LNK_LWA i w) Fld.LNK_LWA_BASE ≤ drow) && decide (drow < s.fld (Reg.LNK_LWA i w) Fld.LNK_LWA_BASE + s.fld (Reg.LNK_LWB i w) Fld.LNK_LWB_COUNT)).map
    fun w => s.fld (Reg.LNK_LWB i w) Fld.LNK_LWB_NODE
/-- A row waits in the receive buffer for the mesh, where REDUCE rows merge (R320). -/
def State.rxRow (s : State) (i : Nat) (r : MeshRow) : State :=
  let x := s.port i
  match findIdx1 (fun (q : MeshRow) => q.dnode == r.dnode && q.mergeable r) x.rxData with
  | some (j, q) => ((s.setPort i { x with rxData := setNth x.rxData j (q.merge r) }).inc (Reg.LNK_MERGECNT i) 1).giveCredit i 0
  | none => s.setPort i { x with rxData := x.rxData ++ [r] }
/-- A ROW flit discarded, counted in a register. -/
def State.dropRow (s : State) (i a : Nat) : State := (s.inc a 1).giveCredit i 0
/-- A row of the current step is placed; a late one and one of a step declared incomplete is marked (R316, R334). -/
def State.placeRow (s : State) (i e p : Nat) (reduce poison late : Bool) (wt drow : Nat) (data : Row) : State :=
  let s := s.inc (Reg.LNK_LATECNT i) (b2n late)
  match s.landingNode i p drow with
  | none => s.dropRow i (Reg.LNK_REFCNT i)
  | some node =>
    let mark := reduce && (late || (s.bindSum i e p).declared)
    let r : MeshRow := {
      data := if mark then markIncomplete data else data
      poison := poison
      dnode := node
      snode := 16 + i
      part := p
      vc := 0
      reduce := reduce
      ste := 255
      drow := drow
      wt := wt }
    s.rxRow i r
/-- ROW_FLIT (R316, R333, R334): a row comes from the partner at a value of SC. -/
def State.rowFlit (s : State) (i : Nat) (l : FlitLink) (sc p : Nat) (reduce poison : Bool) (wt drow step : Nat) (data : Row) : State :=
  let (ok, s) := (s.setSc sc).receive i l true
  if !ok then s
  else match s.binding i p with
    | none => s.dropRow i (Reg.LNK_REFCNT i)
    | some e =>
      if s.run p = 0 ∨ step ≠ s.stepNo p then s.dropRow i (Reg.LNK_LATECNT i)
      else
        let late := match s.deadline i e p with
          | some t => decide (t ≤ sc)
          | none => false
        let b := s.bindSum i e p
        let s := if late then s else s.setBindSum i e { b with sum := b.sum + wt }
        let s := s.when (poison || (!late && decide (s.fld (Reg.LNK_PBC i e) Fld.LNK_PBC_EXPW < b.sum + wt))) fun s => s.declare i e p
        s.placeRow i e p reduce poison late wt drow data
def execRowFlit (i : PortNo) (l : FlitLink) (sc : BitVec 64) (p : PartNo) (reduce poison : Bool) (wt : BitVec 10) (drow step : BitVec 16) (data : Row) (s : State) : Host.Outcome State Fault Refusal := .next (s.rowFlit i.val l sc.toNat p.val reduce poison wt.toNat drow.toNat step.toNat data)
/-- STEP_DEADLINE (R333): T_S + DL of a binding. -/
def State.stepDeadline (s : State) (i e sc : Nat) : State :=
  let s := s.setSc sc
  let p := s.fld (Reg.LNK_PBA i e) Fld.LNK_PBA_PART
  match s.deadline i e p with
  | some t =>
    if s.fld (Reg.LNK_PBA i e) Fld.LNK_PBA_VALID = 1 ∧ (s.part p).opened ∧ t ≤ sc ∧ (s.bindSum i e p).sum < s.fld (Reg.LNK_PBC i e) Fld.LNK_PBC_EXPW then
      s.declare i e p
    else s
  | none => s
def execStepDeadline (i : PortNo) (e : Fin 64) (sc : BitVec 64) (s : State) : Host.Outcome State Fault Refusal := .next (s.stepDeadline i.val e.val sc.toNat)
/-- INCOMPLETE (R289, R333): the members and the management controller receive a port's declaration: the open step fails, or a late
declaration is counted; the management controller holds the message, reports the step, and tells the job's other parts. -/
def State.incomplete (s : State) (i p taken : Nat) : State :=
  match s.takeMsg .incomplete (16 + i) 63 p with
  | none => s
  | some (m, s) =>
    let s := ({ s with mesh := { s.mesh with storeU := s.mesh.storeU.drop taken } }).storeUrgent m
    let s := s.sherd { code := 0x41, sev := 2, part := p, unit := unitPartition p, detail := [(48, m.arg + i * 65536)] }
    let s := if (s.part p).opened ∧ m.arg = s.stepNo p then s.failStep p
      else if m.arg = s.fld (Reg.SRV_PSTAT p) Fld.SRV_PSTAT_STEP then s.inc Reg.SRV_LATEINC 1 else s
    if s.jobParts p = 0 then s
    else (s.setXpart p { s.xpart p with inc := (s.xpart p).inc || m.arg == s.stepNo p }).createX p 4 m.arg 0
def execIncomplete (i : PortNo) (p : PartNo) (taken : Nat) (s : State) : Host.Outcome State Fault Refusal := .next (s.incomplete i.val p.val taken)

/-! ### Peer memory (R322 to R324) -/

/-- A peer's request is checked under R238 and goes to the controllers granule by granule. -/
def State.peerRequest (s : State) (i : Nat) (write : Bool) (schip off ngran tag : Nat) (data : List Granule) : State :=
  let x := s.port i
  let g := off / 32
  let part := match s.regionAt g with
    | some r => s.rgnPart r
    | none => 0
  let ok := off % 32 == 0 && decide (1 ≤ ngran) && decide (ngran ≤ 17) && schip == x.partnerChip
  if ngran = 0 then s
  else
    let s := s.setPort i { x with serving := x.serving ++ [{ tag := tag, write := write, off := off, ngran := ngran, got := [] }] }
    let reqs := (List.range ngran).map fun j =>
      ({ by_ := .peer i tag j, part := part, g := g + j, write := write, data := nth 0 data j, poison := false, ok := ok } : HbmReq)
    { s with hbm := { s.hbm with reqs := s.hbm.reqs ++ reqs } }
/-- PWRITE_FLIT (R324). -/
def State.pwriteFlit (s : State) (i : Nat) (l : FlitLink) (schip off ngran tag : Nat) (data : List Granule) : State :=
  let (ok, s) := s.receive i l true
  if ok then (s.giveCredit i 0).peerRequest i true schip off ngran tag data else s
def execPwriteFlit (i : PortNo) (l : FlitLink) (schip : BitVec 12) (off : BitVec 44) (ngran : Fin 18) (tag : BitVec 16) (data : List Granule) (s : State) : Host.Outcome State Fault Refusal := .next (s.pwriteFlit i.val l schip.toNat off.toNat ngran.val tag.toNat data)
/-- PREAD_FLIT (R324). -/
def State.preadFlit (s : State) (i : Nat) (l : FlitLink) (schip off ngran tag : Nat) : State :=
  let (ok, s) := s.receive i l true
  if ok then (s.giveCredit i 1).peerRequest i false schip off ngran tag [] else s
def execPreadFlit (i : PortNo) (l : FlitLink) (schip : BitVec 12) (off : BitVec 44) (ngran : Fin 18) (tag : BitVec 16) (s : State) : Host.Outcome State Fault Refusal := .next (s.preadFlit i.val l schip.toNat off.toNat ngran.val tag.toNat)
/-- An answer to a peer request of a tier mover comes by TAG (R323, R324): a refusal ends the move, to be tried elsewhere; poisoned data ends
it with "KV poisoned" (R253). -/
def State.peerAnswer (s : State) (i : Nat) (write : Bool) (tag status : Nat) : State :=
  let s := s.giveCredit i 2
  let x := s.port i
  match x.outstanding.find? fun r => r.tag == tag && r.write == write with
  | none => s
  | some r =>
    let s := s.setPort i { x with outstanding := x.outstanding.erase r }
    match s.hbm.moves.find? fun m => m.stream == r.stream && m.block == r.block && m.step != 0 && m.step != 9 with
    | none => s
    | some m => if status = 0 then s else if status = 2 then s.moveEnds m 8 else s.moveRetry m
/-- PRDATA_FLIT (R323). -/
def State.prdataFlit (s : State) (i : Nat) (l : FlitLink) (tag status : Nat) : State :=
  let (ok, s) := s.receive i l true
  if ok then s.peerAnswer i false tag status else s
def execPrdataFlit (i : PortNo) (l : FlitLink) (tag : BitVec 16) (status : Fin 3) (data : List Granule) (s : State) : Host.Outcome State Fault Refusal := .next (s.prdataFlit i.val l tag.toNat status.val)
/-- PACK_FLIT (R323). -/
def State.packFlit (s : State) (i : Nat) (l : FlitLink) (tag status : Nat) : State :=
  let (ok, s) := s.receive i l true
  if ok then s.peerAnswer i true tag status else s
def execPackFlit (i : PortNo) (l : FlitLink) (tag : BitVec 16) (status : Fin 3) (s : State) : Host.Outcome State Fault Refusal := .next (s.packFlit i.val l tag.toNat status.val)

/-! ### The step clock (R326, R327) -/

/-- The nearest multiple of 2^20 within TOL of a count, either side (R327). -/
def alignSc (sc tol : Nat) : Option Nat :=
  let d := sc % 2 ^ 20
  if d ≤ tol then some (sc - d) else if 2 ^ 20 - d ≤ tol then some (sc + (2 ^ 20 - d)) else none
/-- RACK_SYNC (R326, R327): a pulse loads, aligns or misjudges the step clock, which read `sc`. -/
def State.rackSync (s : State) (sc : Nat) : State :=
  if s.fld Reg.LNK_SCCTL Fld.LNK_SCCTL_ARM = 1 then
    let s := (s.setSc (s.rd Reg.LNK_SCLOAD * 2 ^ 20)).setF Reg.LNK_SCCTL Fld.LNK_SCCTL_ARM 0
    let s := ({ s with lnk := { s.lnk with scLoaded := true } }).setF Reg.LNK_SCSTAT Fld.LNK_SCSTAT_QUAL 1
    s.forEach (List.range 64) State.tryStart
  else if !s.lnk.scLoaded then s.setSc sc
  else match alignSc sc (s.fld Reg.LNK_SCCTL Fld.LNK_SCCTL_TOL) with
    | some v => s.setSc (v % 2 ^ 64)
    | none =>
      let n := s.fld Reg.LNK_SCSTAT Fld.LNK_SCSTAT_MISS
      let s := ((s.setSc sc).setF Reg.LNK_SCSTAT Fld.LNK_SCSTAT_ERR 1).setF Reg.LNK_SCSTAT Fld.LNK_SCSTAT_QUAL 0
      let s := s.setF Reg.LNK_SCSTAT Fld.LNK_SCSTAT_MISS (min 0xFFFF (n + 1))
      s.sherd { code := 0x43, sev := 2, unit := unitPart, detail := [(48, s.rd Reg.LNK_SCSTAT)] }
def execRackSync (sc : BitVec 64) (s : State) : Host.Outcome State Fault Refusal := .next (s.rackSync sc.toNat)
/-- A partition of a job over several parts runs (R341). -/
def State.multiRuns (s : State) : Bool := (List.range 64).any fun p => s.run p != 0 && s.jobParts p != 0
/-- SC_ARM (R326, R341): LNK_SCCTL.ARM is written 1. -/
def State.scArm (s : State) : State :=
  if s.multiRuns then s.setF (Reg.LNK_STAT 0) Fld.LNK_STAT_WREJ 1 else s.setF Reg.LNK_SCCTL Fld.LNK_SCCTL_ARM 1
def execScArm (s : State) : Host.Outcome State Fault Refusal := .next s.scArm

/-! ### Steps across parts (R329 to R335) -/

/-- A cross-part message that comes at a port: illegal and seen ones are dropped, others are relayed and delivered (R329, R330). -/
def State.takeX (s : State) (i : Nat) (m : XMsg) : State :=
  if m.xtype = 0 ∨ 4 < m.xtype ∨ s.lnk.seen.any (fun x => x.same m) then s
  else
    let s := (s.sawX m).spreadX m (some i)
    if (List.range 64).any fun p => s.jobOf p == some m.job then { s with lnk := { s.lnk with inbox := s.lnk.inbox ++ [m] } } else s
/-- XCTL_FLIT (R330). -/
def State.xctlFlit (s : State) (i : Nat) (l : FlitLink) (ms : List XMsg) : State :=
  let (ok, s) := s.receive i l true
  if ok then (s.giveCredit i 3).forEach (ms.take 8) fun s m => s.takeX i m else s
def execXctlFlit (i : PortNo) (l : FlitLink) (ms : List XMsg) (s : State) : Host.Outcome State Fault Refusal := .next (s.xctlFlit i.val l ms)
/-- Take the first delivered message of a partition that `want` accepts. -/
def State.takeInbox (s : State) (p : Nat) (want : XMsg → Bool) : Option (XMsg × State) :=
  match s.jobOf p with
  | none => none
  | some job => (findIdx1 (fun (m : XMsg) => m.job == job && want m) s.lnk.inbox).map fun e =>
      (e.2, { s with lnk := { s.lnk with inbox := s.lnk.inbox.eraseIdx e.1 } })
/-- XDONE (R331 step 2): the lead holds a member's report for the open step; a report for a step to come waits. -/
def State.takeXdone (s : State) (p : Nat) : State :=
  match s.takeInbox p fun m => m.xtype == 1 && (!s.leads p || decide ((s.stepNo p + 65536 - m.step) % 65536 < 32768)) with
  | none => s
  | some (m, s) =>
    let x := s.xpart p
    if s.leads p ∧ m.step = s.stepNo p ∧ !x.dones.contains m.origin then s.setXpart p { x with dones := x.dones ++ [m.origin] } else s
def execXdone (p : PartNo) (s : State) : Host.Outcome State Fault Refusal := .next (s.takeXdone p.val)
/-- A plan entry for a row of the lead's commit: context, NTOK, token; the part allocates its own blocks (R274, R288). -/
def State.commitEnt (s : State) (p : Nat) (used : List Nat) (c ntok : Nat) : PlanEnt :=
  let x := s.stream c
  let n := (x.pos + ntok + 119) / 120 - x.nblk
  { ctx := c, kind := if x.state = .prompt then 2 else 1, last := x.pos + ntok == x.plen, pos := x.pos, token := 0, ntok := ntok, adp := 255,
    blocks := (s.takeBlocks p x.tenant used n).getD [] }
/-- The plan that the rows of a commit stand for. -/
def State.commitPlan (s : State) (p : Nat) : List (Nat × Nat × Option Nat) → List Nat → List PlanEnt
  | [], _ => []
  | (c, ntok, _) :: rest, used =>
    let e := s.commitEnt p used c ntok
    e :: s.commitPlan p rest (used ++ e.blocks)
/-- XCOMMIT (R331 step 5): a member applies the commit rows to its own contexts under R288. -/
def State.takeXcommit (s : State) (p : Nat) (rows : List (Nat × Nat × Option Nat)) : State :=
  match s.takeInbox p fun m => m.xtype == 2 with
  | none => s
  | some (m, s) =>
    let x := s.part p
    if s.leads p ∨ !x.opened ∨ s.run p ≠ 2 ∨ m.step ≠ s.stepNo p then s
    else
      let smp := rows.zipIdx.filterMap fun e => e.1.2.2.map fun t => ({ entry := e.2, token := some t } : Sampled)
      ((s.setPart p { x with plan := s.commitPlan p rows [], samples := smp, failed := false }).commit p).boundary p
def execXcommit (p : PartNo) (rows : List CommitRow) (s : State) : Host.Outcome State Fault Refusal := .next (s.takeXcommit p.val (rows.map fun r => (r.ctx.val, r.ntok.toNat, r.token.map (·.toNat))))
/-- The first SC at or after a value that leaves `low` on division by `period` (R331). -/
def nextSc (sc period low : Nat) : Nat := sc + (low + period - sc % period) % period
/-- XGO (R331): a member learns the start tick of the next step. A step that was not committed has failed (R335). -/
def State.takeXgo (s : State) (p sc : Nat) : State :=
  match s.takeInbox p fun m => m.xtype == 3 && (s.leads p || s.run p == 2) with
  | none => s.setSc sc
  | some (m, s) =>
    let s := s.setSc sc
    if s.leads p then s
    else
      let s := if (s.part p).opened then ((s.failStep p).stepFails p).boundary p else s
      let s := s.setXpart p { s.xpart p with nextTick := some (nextSc sc (2 ^ 24) (m.arg * 256)) }
      s.setPart p { s.part p with step := m.step, planned := true }
def execXgo (p : PartNo) (sc : BitVec 64) (s : State) : Host.Outcome State Fault Refusal := .next (s.takeXgo p.val sc.toNat)
/-- XINC (R331 step 4, R332): a step is declared incomplete on another part: the open one fails; after the commit the notice is counted and
reported as margin violated. -/
def State.takeXinc (s : State) (p : Nat) : State :=
  match s.takeInbox p fun m => m.xtype == 4 with
  | none => s
  | some (m, s) =>
    if (s.part p).opened ∧ m.step = s.stepNo p then (s.setXpart p { s.xpart p with inc := true }).failStep p
    else if m.step = s.fld (Reg.SRV_PSTAT p) Fld.SRV_PSTAT_STEP then
      (s.inc Reg.SRV_LATEINC 1).sherd { code := 0x42, sev := 2, part := p, unit := unitPartition p, detail := [(48, m.step)] }
    else s
def execXinc (p : PartNo) (s : State) : Host.Outcome State Fault Refusal := .next (s.takeXinc p.val)
/-- The lead sends XGO for the step that it has planned (R331). -/
def State.sendXgo (s : State) (p sc : Nat) : State :=
  let x := s.part p
  if !x.planned ∨ (s.xpart p).nextTick.isSome then s
  else
    let t := nextSc (sc + 256 * s.fld Reg.LNK_XTIME Fld.LNK_XTIME_GOLEAD) 256 0
    (s.setXpart p { s.xpart p with nextTick := some t }).createX p 3 x.step (t / 256 % 65536)
/-- The commit rules of the lead are met (R331 step 2): every XDONE is in, and the deadline and margin have passed. -/
def State.leadReady (s : State) (p sc : Nat) : Bool :=
  let x := s.xpart p
  let dl := ((List.range 16).filterMap fun i => (s.binding i p).map fun e => s.fld (Reg.LNK_PBB i e) Fld.LNK_PBB_DLX).headD 0
  decide (s.jobParts p < x.dones.length) && decide (x.tS + 256 * dl + 256 * s.fld Reg.LNK_XTIME Fld.LNK_XTIME_XMARGIN ≤ sc)
/-- The lead ends its open step when it may: commit with XCOMMIT, or failure (R331 steps 3 and 4). -/
def State.leadEnds (s : State) (p sc : Nat) : Option State :=
  if !(s.part p).opened then some (s.makePlan p)
  else if !s.leadReady p sc then none
  else match (if (s.xpart p).inc then s.failStep p else s).endStep p with
    | none => none
    | some t =>
      let (v, u) := t.freshNat
      some (if t.fld (Reg.SRV_PSTAT p) Fld.SRV_PSTAT_STEP = s.stepNo p then u.createX p 2 (s.stepNo p) (v % 65536) else t)
/-- LEAD_COMMIT_READY (R331): at a value of SC and of MT the lead commits or fails the open step, plans, and sends XGO. -/
def State.leadCommit (s : State) (p sc now : Nat) : State :=
  let s := (s.setSc sc).tick now
  if !s.leads p ∨ s.jobParts p = 0 ∨ s.run p ≠ 2 then s
  else match s.leadEnds p sc with
    | none => s
    | some s => s.sendXgo p sc
def execLeadCommitReady (p : PartNo) (sc now : BitVec 64) (s : State) : Host.Outcome State Fault Refusal := .next (s.leadCommit p.val sc.toNat now.toNat)
/-- START_TICK (R331): SC reaches the start tick; the step starts when the engine has granted it. -/
def State.startTick (s : State) (p sc : Nat) : State :=
  let s := s.setSc sc
  match (s.xpart p).nextTick with
  | none => s
  | some t =>
    if sc < t ∨ (s.part p).opened then s
    else
      let s := s.setXpart p { s.xpart p with nextTick := none, tS := t, dones := [], inc := false }
      (s.setRoot p { s.root p with tickOk := true }).tryStart p
def execStartTick (p : PartNo) (sc : BitVec 64) (s : State) : Host.Outcome State Fault Refusal := .next (s.startTick p.val sc.toNat)
/-- XMSG_REPEAT (R330): an origin repeats what the partition's step has not passed. -/
def State.repeatX (s : State) (p : Nat) : State :=
  let x := s.xpart p
  let keep := x.repeats.filter fun m => decide ((m.step + 65536 - s.stepNo p) % 65536 < 32768)
  (s.setXpart p { x with repeats := keep }).forEach keep fun s m => s.spreadX m none
def execXmsgRepeat (p : PartNo) (s : State) : Host.Outcome State Fault Refusal := .next (s.repeatX p.val)

end Sys2Proof.Machine
end

