-- ==== Sys2Proof/Machine/Weights.lean ====
section
/-!
DEFINITION. Loads of weight images: the load commands, the program engines, restores, spill contents (R342 to R364, R77 to R80).
-/
namespace Sys2Proof.Machine

/-! ### The load commands (R350, R351, R359, R360) -/

/-- Count what a flash read reports (R364). -/
def State.flashRead (s : State) (r : FlashRead) : State :=
  let s := ((s.inc Reg.FLS_CECNT r.ce).inc Reg.FLS_UECNT r.ue).inc Reg.FLS_RETRYCNT r.retries
  let s := s.when (r.ce != 0) fun s => s.setF Reg.FLS_STAT Fld.FLS_STAT_CE 1
  s.when (r.ue != 0) fun s => s.setF Reg.FLS_STAT Fld.FLS_STAT_UE 1
/-- A partition is loading. -/
def State.loading (s : State) (p : Nat) : Bool := s.wts.loads.any fun r => r.part == p
/-- Where firmware places the logical cores of an image of a partition: logical core l on its l-th enabled context (R351). -/
def State.placeOf (s : State) (p : Nat) : List (Option (Nat × Nat)) := (List.range 16).map fun l => (s.ctxsOf p)[l]?
/-- The group masks of the placed logical cores. -/
def State.gmaskOf (s : State) (p : Nat) : List Nat := (s.placeOf p).map fun c => match c with
  | some c => s.gmask c.1 c.2
  | none => 0
/-- The tiles of the groups that a partition owns, by key. -/
def State.ownedTiles (s : State) (p : Nat) : List Nat :=
  (List.range 16).flatMap fun k => ((List.range 16).filter fun g => (s.ownersOfGroup k g).contains p).flatMap fun g => (List.range 64).map fun t => tileKey k (64 * g + t)
/-- A spill entry lies in a valid SPILL region of the partition (R347); LREGION names the region's handle. -/
def State.spillOk (s : State) (p : Nat) (w : WSpill) : Bool :=
  match (if w.lregion < 64 then s.handleRegion p w.lregion else none) with
  | some r => s.rgnType r == 1 && w.roff % 32 == 0 && decide (w.roff / 32 + w.content.length ≤ s.regionSize r)
  | none => false
/-- Steps 2 to 8 of R350: the image with its placed tiles, or the reason of the failure. -/
def State.loadCheck (s : State) (p slot : Nat) : Nat ⊕ (WImage × List (Nat × WTile)) :=
  match (if s.fld Reg.FLS_STAT Fld.FLS_STAT_DIRVALID = 1 then s.slotImage slot else none) with
  | none => .inl 1
  | some img =>
    let at_ := img.tiles.filterMap fun w => (physTile (s.placeOf p) (s.gmaskOf p) w).map fun key => (key, w)
    if !img.hdrOk then .inl 1
    else if img.major ≠ 1 then .inl 2
    else if img.target ≠ s.fld Reg.GCTL_ID Fld.GCTL_ID_PART then .inl 3
    else if img.enc ∧ !(s.sec.models.any fun m => m.1 == img.modelKey && s.sec.tenants.any fun t => t.id == m.2 && bitAt t.pmask p) then .inl 4
    else if !img.tabOk then .inl 1
    else if at_.length ≠ img.tiles.length ∨ !(at_.all fun e => (s.ownedTiles p).contains e.1) then .inl 5
    else if !img.spills.all (s.spillOk p) then .inl 6
    else if !img.tiles.all (fun w => w.hdrOk) then .inl 1
    else if img.tiles.any fun w => w.scales.any fun c => c / 256 == 255 then .inl 7
    else .inr (img, at_.mergeSort fun a b => decide (a.1 ≤ b.1))
/-- A tile of a load enters state 1 and leaves the armed set (R105, R350 step 9). -/
def State.tileLoading (s : State) (key : Nat) : State := (s.setTileState (key / 1024) (key % 1024) 1).dropArmed (key / 1024) (key % 1024)
/-- A tile of a load fails (R359, R92): its entry reads failed; state 0 unless it is fenced. -/
def State.tileFails (s : State) (key reason : Nat) : State :=
  let s := s.loadTileFailed key reason
  s.when (s.tileFence (key / 1024) (key % 1024) == 0) fun s => s.setTileState (key / 1024) (key % 1024) 0
/-- Steps 9 on of R350: the journal, the tile states and the work of the engines. `keep`: a resume, which restores the named tiles that
are done and keeps the tiles already clear (R360). -/
def State.loadStart (s : State) (p slot : Nat) (keep : Bool) (img : WImage) (named : List (Nat × WTile)) : State :=
  let owned := s.ownedTiles p
  let others := owned.filter fun key => !(named.any fun e => e.1 == key) && s.tileFence (key / 1024) (key % 1024) == 0
  let jstate (key : Nat) : Nat := SMap.get (fun _ => 0) s.wts.jtiles key % 4
  let done (e : Nat × WTile) : Bool := keep && jstate e.1 == 2 && (s.goodRec e.1 img.imageId).isSome
  let clear := others.filter fun key => !keep || s.tileState (key / 1024) (key % 1024) != 0
  let run : LoadRun := {
    part := p
    slot := slot
    image := img
    place := s.placeOf p
    gmask := s.gmaskOf p
    program := named.filter fun e => !done e
    clear := clear
    restore := named.filter done
    spills := img.spills
    reason := 0 }
  let s := s.when (!keep) fun s => s.forEach owned fun s key => s.setJtile key p 0
  let s := s.setJpart p { state := 1, slot := slot, imageId := img.imageId, serial := Config.serial.toNat, place := run.place, gmask := run.gmask }
  let s := s.forEach ((named.map (·.1)).filter fun key => s.tileFence (key / 1024) (key % 1024) == 0) State.tileLoading
  let s := s.forEach clear State.tileLoading
  let s := { s with wts := { s.wts with loads := s.wts.loads ++ [run] } }
  let s := ((s.setF (Reg.FLS_PLOAD p) Fld.FLS_PLOAD_REASON 0).setF (Reg.FLS_PLOAD p) Fld.FLS_PLOAD_TDONE 0).setPload p 1
  s.forEach ((named.map (·.1)).filter fun key => s.tileFence (key / 1024) (key % 1024) != 0) fun s key => s.tileFails key 11
/-- The conditions of R360 for a resume. -/
def State.mayResume (s : State) (p : Nat) : Bool :=
  let j := s.jpart p
  match s.slotImage j.slot with
  | some img => j.state != 0 && img.hdrOk && img.imageId == j.imageId && j.serial == Config.serial.toNat && j.place == s.placeOf p && j.gmask == s.gmaskOf p
  | none => false
/-- A load command (R350, R360): refused while the partition runs or loads (step 1), or while rack stop is asserted (R532). A failure at
steps 2 to 8 shows its reason and changes nothing else. -/
def State.loadCmd (s : State) (p slot : Nat) (resume : Bool) (r : FlashRead) : State :=
  if s.run p ≠ 0 ∨ s.loading p ∨ s.fld Reg.IND_RSSTAT Fld.IND_RSSTAT_STOP = 1 then s.setF Reg.FLS_STAT Fld.FLS_STAT_WREJ 1
  else
    let keep := resume && s.mayResume p
    let slot := if keep then (s.jpart p).slot else slot
    let s := (s.setF (Reg.FLS_PLOAD p) Fld.FLS_PLOAD_SLOT slot).flashRead r
    match s.loadCheck p slot with
    | .inl reason => s.setF (Reg.FLS_PLOAD p) Fld.FLS_PLOAD_REASON reason
    | .inr (img, named) => s.loadStart p slot keep img named
/-- LOAD (R350). -/
def execLoad (p : PartNo) (slot : Fin 2) (r : FlashRead) (s : State) : Host.Outcome State Fault Refusal := .next (s.loadCmd p.val slot.val false r)
/-- LOAD_RESUME (R360). -/
def execLoadResume (p : PartNo) (slot : Fin 2) (r : FlashRead) (s : State) : Host.Outcome State Fault Refusal := .next (s.loadCmd p.val slot.val true r)
/-- LOAD_ABORT (R359). -/
def State.loadAbort (s : State) (p : Nat) : State :=
  match s.wts.loads.find? fun r => r.part == p with
  | some r => s.abortLoad { r with reason := if r.reason = 0 then 12 else r.reason }
  | none => s
def execLoadAbort (p : PartNo) (s : State) : Host.Outcome State Fault Refusal := .next (s.loadAbort p.val)

/-! ### Program engines (R353 to R356) -/

/-- The tiles that a load still has in work, ascending. -/
def LoadRun.keys (r : LoadRun) : List Nat := (r.program.map (·.1) ++ r.clear ++ r.restore.map (·.1)).mergeSort fun a b => decide (a ≤ b)
/-- The tile that the program engine of a tile has in hand: engine t mod 32 of a core takes the loads in the order of their commands. -/
def State.engineTile (s : State) (key : Nat) : Option Nat :=
  s.wts.loads.findSome? fun r => r.keys.find? fun x => x / 1024 == key / 1024 && x % 32 == key % 32
/-- The load that programs a tile, with the tile's chunk. -/
def State.programOf (s : State) (key : Nat) : Option (LoadRun × WTile) :=
  s.wts.loads.findSome? fun r => (r.program.find? fun e => e.1 == key).map fun e => (r, e.2)
/-- A tile's work of a load is over. -/
def State.dropTile (s : State) (key : Nat) : State :=
  let f (r : LoadRun) : LoadRun := { r with
    program := r.program.filter fun e => e.1 != key
    clear := r.clear.filter fun x => x != key
    restore := r.restore.filter fun e => e.1 != key }
  { s with wts := { s.wts with loads := s.wts.loads.map f, bursts := SMap.del key s.wts.bursts } }
/-- The chunk of a tile as it can be read (R359): from its slot, else from the other slot with the same IMAGE_ID. -/
def State.chunkOf (s : State) (r : LoadRun) (w : WTile) : Option WTile :=
  if w.readable ∧ w.crcOk then some w
  else match s.slotImage (1 - r.slot) with
    | some img =>
      if img.hdrOk ∧ img.imageId = r.image.imageId then
        img.tiles.find? fun x => x.lcore == w.lcore && x.lgroup == w.lgroup && x.tile == w.tile && x.readable && x.crcOk
      else none
    | none => none
/-- The weight integer of a row and logical column of a chunk (R26, R346). -/
def WTile.m (w : WTile) (r c : Nat) : Int := weightM w.fmt (nth 0 w.codes (1024 * r + c))
/-- The resolution of a pair for target weight m with its stuck cells (R51, R77): the levels of the pair, or none. -/
def resolvePair (m : Int) (plus minus : Option (Option (Fin 16))) : Option (Nat × Nat) :=
  match plus, minus with
  | none, none => some (nominalLevels m)
  | none, some (some x) => if 0 ≤ m + (x.val : Int) ∧ m + (x.val : Int) ≤ 15 then some ((m + (x.val : Int)).toNat, x.val) else none
  | some (some x), none => if 0 ≤ (x.val : Int) - m ∧ (x.val : Int) - m ≤ 15 then some (x.val, ((x.val : Int) - m).toNat) else none
  | some (some x), some (some y) => if (x.val : Int) - (y.val : Int) = m then some (x.val, y.val) else none
  | _, _ => none
/-- What is known of a cell: none when it is good, else the level at which it is stuck. -/
def Burst.cell (b : Burst) (r pc : Nat) (minus : Bool) : Option (Option (Fin 16)) :=
  (b.known.find? fun f => f.row.val == r && f.pcol.val == pc && f.minus == minus).map fun f => f.level
/-- The spare in use for a logical column (R78). -/
def Burst.spareFor (b : Burst) (c : Nat) : Option Nat := (findIdx1 (fun (x : Option Nat) => x == some c) b.spareMap).map (·.1)
/-- Program a pair to its levels. -/
def State.setPair (s : State) (key pc r : Nat) (lv : Nat × Nat) : State :=
  let i := (key * 2048 + pc) * 1024 + r
  { s with core := { s.core with cells := SMap.set cellDefault s.core.cells i (lv.1 * 16 + lv.2) } }
/-- The level of a cell of an unrepaired pair (R80): the nominal level when the cell is good, its stuck level, or a level left open. -/
def State.reach (s : State) (nominal : Nat) (c : Option (Option (Fin 16))) : Nat × State :=
  match c with
  | none => (nominal, s)
  | some (some x) => (x.val, s)
  | some none => (s.freshNat.1 % 16, s.freshNat.2)
/-- Program a pair of an unrepaired column (R80). -/
def State.reachPair (s : State) (key pc r : Nat) (m : Int) (b : Burst) : State :=
  let n := nominalLevels m
  let x := s.reach n.1 (b.cell r pc false)
  let y := x.2.reach n.2 (b.cell r pc true)
  y.2.setPair key pc r (x.1, y.1)
/-- Program a whole spare column with a logical column's weights (R78); none when a pair of its own cannot hold its weight. -/
def State.fillSpare (s : State) (key i c : Nat) (w : WTile) (b : Burst) : Option State :=
  (List.range 1024).foldl (fun (a : Option State) r => match a, resolvePair (w.m r c) (b.cell r (sparePcol i) false) (b.cell r (sparePcol i) true) with
    | some s, some lv => some (s.setPair key (sparePcol i) r lv)
    | _, _ => none) (some s)
/-- Move a logical column to the next free spare, in ascending order (R78, R79); spares that fail stay unused. -/
def State.moveColumn (s : State) (key c : Nat) (w : WTile) (b : Burst) : Nat → State × Option Nat × Burst
  | 0 => (s, none, b)
  | fuel + 1 =>
    match (List.range 64).find? fun i => nth none b.spareMap i == none && !b.unused.contains i with
    | none => (s, none, b)
    | some i => match s.fillSpare key i c w b with
      | some s => (s, some i, { b with spareMap := setNth b.spareMap i (some c) })
      | none => s.moveColumn key c w { b with unused := b.unused ++ [i] } fuel
/-- Program the pair of a row and logical column (R77 to R80). -/
def State.programPair (s : State) (key r c : Nat) (w : WTile) (b : Burst) : State × Burst :=
  let home := weightPcol c
  if b.unrep.contains c then (s.reachPair key home r (w.m r c) b, b)
  else
    let pc := match b.spareFor c with
      | some i => sparePcol i
      | none => home
    match resolvePair (w.m r c) (b.cell r pc false) (b.cell r pc true) with
    | some lv => (s.setPair key pc r lv, b)
    | none =>
      let b := match b.spareFor c with
        | some i => { b with spareMap := setNth b.spareMap i none, unused := b.unused ++ [i] }
        | none => b
      let (s, i, b) := s.moveColumn key c w b 65
      match i with
      | some _ => (s, b)
      | none =>
        let b := { b with unrep := b.unrep ++ [c] }
        ((List.range (r + 1)).foldl (fun (s : State) j => s.reachPair key home j (w.m j c) b) s, b)
/-- Cells are found stuck; a free spare that holds one is left unused (R79). -/
def Burst.learn (b : Burst) (found : List FoundCell) : Burst :=
  let new := found.filter fun f => (b.cell f.row.val f.pcol.val f.minus).isNone
  let bad := (List.range 64).filter fun i => nth none b.spareMap i == none && !b.unused.contains i && new.any fun f => f.pcol.val == sparePcol i
  { b with known := b.known ++ new, unused := b.unused ++ bad }
/-- The burst state of a tile. -/
def State.burst (s : State) (key : Nat) : Burst := SMap.get (fun _ => {}) s.wts.bursts key
/-- Set the burst state of a tile. -/
def State.setBurst (s : State) (key : Nat) (b : Burst) : State :=
  { s with wts := { s.wts with bursts := SMap.set (fun _ => ({} : Burst)) s.wts.bursts key b } }
/-- The tile's row is programmed in ascending column order (R353). -/
def State.programRow (s : State) (key : Nat) (w : WTile) (found : List FoundCell) : State :=
  let b := (s.burst key).learn found
  let r := b.next
  let (s, b) := (List.range 1024).foldl (fun (a : State × Burst) c => a.1.programPair key r c w a.2) (s, b)
  s.setBurst key { b with next := r + 1, held := false }
/-- PROGRAM_BURST (R353, R354, R359): the engine of a tile programs its next row when the core's ring-oscillator temperature lies in
[15, 75) degrees Celsius. The first burst of a tile reads its chunk (`r`) and marks it in progress. `found` are the cells found stuck. -/
def State.programBurst (s : State) (key : Nat) (found : List FoundCell) (r : FlashRead) : State :=
  match s.programOf key with
  | none => s
  | some (run, w) =>
    let b := s.burst key
    let t := s.roOf (key / 1024)
    if s.engineTile key ≠ some key ∨ 1024 ≤ b.next ∨ !s.writeWindow then s
    else if t < 60 ∨ 300 ≤ t then
      if b.held then s else (s.inc Reg.FLS_TGATECNT 1).setBurst key { b with held := true }
    else
      let s := if b.next = 0 then s.flashRead r else s
      match s.chunkOf run w with
      | none => s.tileFails key 9
      | some x =>
        if !x.pathOk then s.tileFails key 10
        else (s.when (b.next == 0) fun s => s.setJtile key run.part 1).programRow key x found
def execProgramBurst (k : CoreNo) (t : TileNo) (found : List FoundCell) (r : FlashRead) (s : State) : Host.Outcome State Fault Refusal := .next (s.programBurst (tileKey k.val t.val) found r)

/-- A tile's stuck-cell record of a known cell (R84), with the action that the final assignment of spares gives. -/
def stuckRec (key : Nat) (w : WTile) (b : Burst) (f : FoundCell) : StuckRec :=
  let r := f.row.val
  let pc := f.pcol.val
  let cell := b2n f.minus + 2 * (r / 256) + 8 * b2n f.level.isNone
  let level := match f.level with
    | some x => x.val
    | none => 255
  let mk (lcol : Nat) (target : Int) (action spare : Nat) : StuckRec :=
    { tile := key, row := r, pcol := pc, lcol := lcol, cell := cell, level := level, target := target, action := action, spare := spare }
  if isRefPcol pc then mk (0x8000 + pc / 64) 0 3 0xFFFF
  else if isSparePcol pc then
    match nth none b.spareMap (pc / 16) with
    | some c => mk c (w.m r c) 0 0xFFFF
    | none => mk (0x4000 + pc / 16) 0 4 0xFFFF
  else
    let c := ((List.range 1024).find? fun c => weightPcol c == pc).getD 0
    let m := w.m r c
    match b.spareFor c with
    | some i => mk c m 1 i
    | none => mk c m (if (resolvePair m (b.cell r pc false) (b.cell r pc true)).isSome then 0 else 2) 0xFFFF
/-- The order of R85. -/
def StuckRec.before (a b : StuckRec) : Bool :=
  let k (x : StuckRec) : Nat := ((x.tile * 2048 + x.pcol) * 1024 + x.row) * 2 + x.cell % 2
  decide (k a ≤ k b)
/-- The stuck-cell map entries of a tile are replaced (R84, R85); without an area for it the part keeps no map. -/
def State.replaceStuck (s : State) (key : Nat) (l : List StuckRec) : State :=
  let all := ((s.wts.stuck.filter fun r => r.tile != key) ++ l).mergeSort StuckRec.before
  { s with wts := { s.wts with
    stuck := if s.wts.mapArea then all.take 2097152 else []
    stuckTotal := all.length } }
/-- TILE_PROGRAM_DONE (R355): after the verify sweeps, in which `found` cells failed, the tile record is written, the journal entry done, the
tile ready or degraded, its corrections initialised. -/
def State.tileDone (s : State) (key : Nat) (found : List FoundCell) : State :=
  match s.programOf key with
  | none => s
  | some (run, w) =>
    let b := s.burst key
    if b.next ≠ 1024 ∨ !s.writeWindow then s
    else
      let x := (s.chunkOf run w).getD w
      let b := b.learn found
      let redo := found.filterMap fun f =>
        ((List.range 1024).find? fun c => (match b.spareFor c with
          | some i => sparePcol i
          | none => weightPcol c) == f.pcol.val).map fun c => (f.row.val, c)
      let (s, b) := redo.foldl (fun (a : State × Burst) e => a.1.programPair key e.1 e.2 x a.2) (s, b)
      let spares := b.spareMap.map fun c => match c with
        | some c => 0x8000 + c
        | none => 0
      let rec_ : TileRec := {
        imageId := run.image.imageId
        tile := key
        degraded := b.unrep != []
        fmt := x.fmt
        unrep := b.unrep.length
        sparesUsed := (b.spareMap.filter fun c => c.isSome).length
        ok := true
        spares := spares
        unrepCols := b.unrep }
      let s := { s with wts := { s.wts with recs := SMap.set (fun _ => none) s.wts.recs key (some rec_) } }
      let s := (s.setJtile key run.part 2).writeTileCfg key x spares
      let s := (s.tileReady key rec_).replaceStuck key (b.known.map (stuckRec key x b))
      let n := s.fld (Reg.FLS_PLOAD run.part) Fld.FLS_PLOAD_TDONE
      (s.dropTile key).setF (Reg.FLS_PLOAD run.part) Fld.FLS_PLOAD_TDONE (n + 1)
def execTileProgramDone (k : CoreNo) (t : TileNo) (found : List FoundCell) (s : State) : Host.Outcome State Fault Refusal := .next (s.tileDone (tileKey k.val t.val) found)

/-- TILE_CLEAR_DONE (R356): every pair of the weight and spare columns of an unnamed tile holds (0, 0), its spares are free, and it is left in
state 0. -/
def State.tileClear (s : State) (key : Nat) : State :=
  let t := s.roOf (key / 1024)
  if !(s.wts.loads.any fun r => r.clear.contains key) ∨ s.engineTile key ≠ some key ∨ !s.writeWindow ∨ t < 60 ∨ 300 ≤ t then s
  else
    let k := key / 1024
    let n := key % 1024
    let s := { s with core := { s.core with cells := s.core.cells.filter fun e => e.1 / 1024 / 2048 != key || isRefPcol (e.1 / 1024 % 2048) } }
    let s := s.forEach (List.range 64) fun s i => s.wr (Reg.TILE_SPARE k n i) 0
    (s.setTileState k n 0).dropTile key
def execTileClearDone (k : CoreNo) (t : TileNo) (s : State) : Host.Outcome State Fault Refusal := .next (s.tileClear (tileKey k.val t.val))

/-- TILE_RESTORE (R361): the engine reads the first unit of the tile's chunk and its tile record, and no cell is programmed. A record that
does not check makes the tile be programmed. -/
def State.tileRestore (s : State) (key : Nat) (r : FlashRead) : State :=
  match s.wts.loads.findSome? fun run => (run.restore.find? fun e => e.1 == key).map fun e => (run, e.2) with
  | none => s
  | some (run, w) =>
    if s.engineTile key ≠ some key then s
    else
      let s := s.flashRead r
      match s.chunkOf run w, s.goodRec key run.image.imageId with
      | some x, some rec_ =>
        let n := s.fld (Reg.FLS_PLOAD run.part) Fld.FLS_PLOAD_TDONE
        ((s.restoreTile key x rec_).dropTile key).setF (Reg.FLS_PLOAD run.part) Fld.FLS_PLOAD_TDONE (n + 1)
      | none, _ => s.tileFails key 9
      | _, none =>
        let f (x : LoadRun) : LoadRun := if x.part = run.part then { x with
            restore := x.restore.filter fun e => e.1 != key
            program := (x.program ++ [(key, w)]).mergeSort fun a b => decide (a.1 ≤ b.1) } else x
        { s with wts := { s.wts with loads := s.wts.loads.map f } }
def execTileRestore (k : CoreNo) (t : TileNo) (r : FlashRead) (s : State) : Host.Outcome State Fault Refusal := .next (s.tileRestore (tileKey k.val t.val) r)

/-! ### Spill contents and the end of a load (R350 steps 11 and 12) -/

/-- Replace a load in progress. -/
def State.setLoad (s : State) (p : Nat) (f : LoadRun → LoadRun) : State :=
  { s with wts := { s.wts with loads := s.wts.loads.map fun r => if r.part = p then f r else r } }
/-- The content of a spill entry as it can be read (R359). -/
def State.spillOf (s : State) (r : LoadRun) (w : WSpill) : Option WSpill :=
  if w.readable ∧ w.crcOk then some w
  else match s.slotImage (1 - r.slot) with
    | some img =>
      if img.hdrOk ∧ img.imageId = r.image.imageId then
        img.spills.find? fun x => x.lregion == w.lregion && x.roff == w.roff && x.readable && x.crcOk
      else none
    | none => none
/-- SPILL_WRITE (R350 step 11): after the tiles, the next spill content is written into its region, which must have been initialised. -/
def State.spillWrite (s : State) (p : Nat) (r : FlashRead) : State :=
  match s.wts.loads.find? fun x => x.part == p with
  | none => s
  | some run => match run.spills with
    | [] => s
    | w :: rest => match s.handleRegion p w.lregion with
      | none => s.setLoad p fun x => { x with spills := rest, reason := if x.reason = 0 then 6 else x.reason }
      | some rgn =>
        if run.keys ≠ [] ∨ s.rgnInit rgn then s
        else
          let s := s.flashRead r
          match s.spillOf run w with
          | none => s.setLoad p fun x => { x with spills := rest, reason := if x.reason = 0 then 9 else x.reason }
          | some c =>
            let g := s.regionBase rgn + c.roff / 32
            let s := s.forEach c.content.zipIdx fun s e => s.setGran (g + e.2) e.1 false
            (s.addHbmb (s.rgnTenant rgn) (32 * c.content.length)).setLoad p fun x => { x with spills := rest }
def execSpillWrite (p : PartNo) (r : FlashRead) (s : State) : Host.Outcome State Fault Refusal := .next (s.spillWrite p.val r)
/-- LOAD_COMPLETE (R350 step 12, R359): with nothing left to do the partition record is loaded, or failed with the first reason. -/
def State.loadComplete (s : State) (p : Nat) : State :=
  match s.wts.loads.find? fun x => x.part == p with
  | none => s
  | some run =>
    if run.keys ≠ [] ∨ run.spills ≠ [] then s
    else
      let s := { s with wts := { s.wts with lastImage := run.image.imageId } }
      if run.reason ≠ 0 then s.failLoad p run.reason
      else
        let s := { s with wts := { s.wts with loads := s.wts.loads.filter fun x => x.part != p } }
        (s.setJpart p { s.jpart p with state := 2 }).setPload p 2
def execLoadComplete (p : PartNo) (s : State) : Host.Outcome State Fault Refusal := .next (s.loadComplete p.val)

end Sys2Proof.Machine
end

