-- ==== Sys2Proof/Machine/Images.lean ====
section
/-!
DEFINITION. Firing images and route sets: their layout, the checks of a load, relocation and what a load writes (R149 to R158, R214,
R215).
-/
namespace Sys2Proof.Machine

/-! ### Layout (R151 to R157, R214) -/

/-- Bytes of a file. -/
def SignedFile.part (f : SignedFile) (off n : Nat) : List Nat := (f.bytes.drop off).take n
/-- A little-endian number of `n` bytes. -/
def SignedFile.le (f : SignedFile) (off n : Nat) : Nat := bytesVal (f.part off n)
/-- A section of the section table (R152). -/
structure Sect where
  type : Nat
  lcore : Nat
  off : Nat
  size : Nat
  count : Nat
  first : Nat
  crc : Nat
  resv : Nat
  deriving DecidableEq, Repr
/-- Section table entry i (R152). -/
def SignedFile.sect (f : SignedFile) (i : Nat) : Sect :=
  let a := f.le 32 4 + 32 * i
  { type := f.le a 1
    lcore := f.le (a + 1) 1
    off := f.le (a + 4) 4
    size := f.le (a + 8) 4
    count := f.le (a + 12) 4
    first := f.le (a + 16) 4
    crc := f.le (a + 20) 4
    resv := f.le (a + 2) 2 + f.le (a + 24) 8 }
/-- NSECT, NLCORE and NRELOC (R151). -/
def SignedFile.nsect (f : SignedFile) : Nat := f.le 24 2
def SignedFile.nlcore (f : SignedFile) : Nat := f.le 26 2
def SignedFile.nreloc (f : SignedFile) : Nat := f.le 28 4
/-- IMAGE_ID and WEIGHT_ID (R151). -/
def SignedFile.imageId (f : SignedFile) : Nat := f.le 12 4
def SignedFile.weightId (f : SignedFile) : Nat := f.le 16 4
/-- The section table. -/
def SignedFile.sects (f : SignedFile) : List Sect := (List.range f.nsect).map f.sect
/-- A relocation record: KIND, SECT, BITOFF (R155). -/
structure Reloc where
  kind : Nat
  sect : Nat
  bitoff : Nat
  deriving DecidableEq, Repr
/-- The relocation table. -/
def SignedFile.relocs (f : SignedFile) : List Reloc :=
  (List.range f.nreloc).map fun i =>
    let a := f.le 36 4 + 8 * i
    { kind := f.le a 1, sect := f.le (a + 2) 2, bitoff := f.le (a + 4) 4 }
/-- Entry bytes of a section type (R153, R214); 0: not a type of the file. -/
def entryBytes (route : Bool) (type : Nat) : Nat :=
  if route then (if type = 0x10 then 8 else if type = 0x11 then 16 else 0)
  else nth 0 [0, 32, 32, 8, 32, 16, 16, 8, 544] type
/-- Bytes of the entry of a logical index; 0 where no section gives it (R153). -/
def SignedFile.entry (f : SignedFile) (type lcore i : Nat) : List Nat :=
  let n := entryBytes (decide (0x10 ≤ type)) type
  match f.sects.find? fun x => x.type == type && x.lcore == lcore && decide (x.first ≤ i) && decide (i < x.first + x.count) with
  | some x => f.part (x.off + n * (i - x.first)) n
  | none => List.replicate n 0
/-- The logical indices that sections of a type give for a logical core. -/
def SignedFile.given (f : SignedFile) (type lcore : Nat) : List Nat :=
  (f.sects.filter fun x => x.type == type && x.lcore == lcore).flatMap fun x => (List.range x.count).map fun i => x.first + i
/-- A field of an entry. -/
def leOf (l : List Nat) (off n : Nat) : Nat := bytesVal ((l.drop off).take n)

/-- What a logical core declares (R154). -/
structure Resources where
  rows : Nat
  prog : Nat
  desc : Nat
  buf : Nat
  dtmpl : Nat
  wtmpl : Nat
  ste : Nat
  queues : Nat
  counters : Nat
  groups : Nat
  wshare : Nat
  regions : Nat
  ports : Nat
  resv : Nat
  deriving DecidableEq, Repr
/-- The RESOURCES entry of a logical core (R154). -/
def SignedFile.res (f : SignedFile) (l : Nat) : Resources :=
  let e := f.entry 1 l 0
  { rows := leOf e 0 2
    prog := leOf e 2 2
    desc := leOf e 4 2
    buf := leOf e 6 2
    dtmpl := leOf e 8 2
    wtmpl := leOf e 10 2
    ste := leOf e 12 2
    queues := leOf e 14 1
    counters := leOf e 15 1
    groups := leOf e 16 1
    wshare := leOf e 17 1
    regions := leOf e 18 1
    ports := leOf e 19 1
    resv := leOf e 20 12 }
/-- The legal ranges of R154. -/
def Resources.legal (r : Resources) : Bool :=
  decide (1 ≤ r.rows ∧ r.rows ≤ 49152 ∧ 1 ≤ r.prog ∧ r.prog ≤ 6144 ∧ r.desc ≤ 1024 ∧ r.buf ≤ 256 ∧ r.dtmpl ≤ 256 ∧ r.wtmpl ≤ 256) &&
    decide (r.ste ≤ 256 ∧ r.queues ≤ 16 ∧ r.counters ≤ 64 ∧ r.groups ≤ 16 ∧ r.wshare ≤ 64 ∧ r.regions ≤ 64 ∧ r.ports ≤ 16 ∧ r.resv = 0)
/-- The declared count of a section type (R153). -/
def Resources.declared (r : Resources) (type : Nat) : Nat := nth 0 [0, 1, r.prog, r.buf, r.desc, r.dtmpl, r.wtmpl, r.ste, r.rows] type

/-! ### Steps 1 to 5 of R158 -/

/-- Step 1: magic, lengths, reserved fields, offsets (R151, R152, R155, R157). -/
def SignedFile.shapeOk (f : SignedFile) (route : Bool) : Bool :=
  let total := f.bytes.length
  let sig := f.le 40 4
  decide (176 ≤ total) && f.le 0 4 == (if route then 0x45545246 else 0x474D4946) && f.le 6 2 == 64 && decide (f.le 10 2 < 2) &&
    f.le 20 4 == total && f.le 52 12 == 0 && decide (1 ≤ f.nsect) && decide (f.nsect ≤ 256) && decide (1 ≤ f.nlcore) && decide (f.nlcore ≤ 16) &&
    decide (f.nreloc ≤ (if route then 0 else 1048576)) && f.le 32 4 % 32 == 0 && f.le 36 4 % 8 == 0 &&
    decide (f.le 32 4 + 32 * f.nsect ≤ total) && decide (f.le 36 4 + 8 * f.nreloc ≤ total) && sig + 112 == total &&
    (f.le 10 2 == 1 || f.le 44 4 == 0) && f.le sig 4 == 0x47495346 && f.le (sig + 104) 8 == 0 &&
    f.sects.all (fun x => x.resv == 0 && x.off % 32 == 0 && decide (x.off + x.size ≤ total)) &&
    (List.range f.nreloc).all fun i => f.le (f.le 36 4 + 8 * i + 1) 1 == 0
/-- The signing key belongs to the operator or to a tenant registered to the partition (R496). -/
def State.signerOk (s : State) (p : Nat) (f : SignedFile) : Bool :=
  f.sigOk && s.sec.signers.any fun g => g.1 == f.le (f.le 40 4 + 4) 4 &&
    (g.2 == 0xFFFF || s.sec.tenants.any fun t => t.id == g.2 && bitAt t.pmask p)
/-- The model key of an encrypted file is held and its tenant is registered to the partition (R157, R493). -/
def State.modelKeyOk (s : State) (p : Nat) (f : SignedFile) : Bool :=
  f.le 10 2 == 0 || s.sec.models.any fun m => m.1 == f.le 44 4 && s.sec.tenants.any fun t => t.id == m.2 && bitAt t.pmask p
/-- Entries of one type and logical core do not overlap. -/
def SignedFile.noOverlap (f : SignedFile) : Bool :=
  let l := f.sects.zipIdx
  l.all fun a => l.all fun b => a.2 == b.2 || a.1.type != b.1.type || a.1.lcore != b.1.lcore ||
    decide (a.1.first + a.1.count ≤ b.1.first) || decide (b.1.first + b.1.count ≤ a.1.first)
/-- The section rules of a firing image (R153, R154). -/
def SignedFile.imageSects (f : SignedFile) : Bool :=
  f.noOverlap &&
    (List.range f.nlcore).all (fun l => (f.sects.filter fun x => x.type == 1 && x.lcore == l).length == 1 && (f.res l).legal) &&
    f.sects.all fun x => entryBytes false x.type != 0 && x.size == x.count * entryBytes false x.type && decide (x.lcore < f.nlcore) &&
      decide (x.first + x.count ≤ (f.res x.lcore).declared x.type) && (x.type != 1 || x.count == 1)
/-- An entry of a FLOWS section is legal (R214). -/
def flowLegal (e : List Nat) : Bool :=
  decide (leOf e 0 1 ≤ 0x23) && (decide (leOf e 0 1 < 0x10) || leOf e 1 1 == 0xFF) && leOf e 2 2 != 0 && leOf e 4 4 == 0
/-- An entry of a REDUCTIONS section is legal (R214). -/
def redLegal (e : List Nat) : Bool :=
  decide (1 ≤ leOf e 4 1) && decide (leOf e 4 1 ≤ 64) && leOf e 5 3 == 0 && leOf e 8 4 != 0 && leOf e 12 4 == 0
/-- The section rules of a route set (R214). -/
def SignedFile.routeSects (f : SignedFile) : Bool :=
  f.sects.all (fun x => entryBytes true x.type != 0 && x.size == x.count * entryBytes true x.type && decide (x.lcore < f.nlcore) &&
    decide (x.first + x.count ≤ (if x.type = 0x10 then 2048 else 256)) && (x.type != 0x10 || x.lcore == 0)) &&
    decide ((f.sects.filter fun x => x.type == 0x10).length ≤ 1) &&
    (List.range 16).all (fun l => decide ((f.sects.filter fun x => x.type == 0x11 && x.lcore == l).length ≤ 1)) &&
    (f.given 0x10 0).all (fun i => flowLegal (f.entry 0x10 0 i)) &&
    (List.range 16).all fun l => (f.given 0x11 l).all fun i => redLegal (f.entry 0x11 l i)
/-- Steps 1 to 5 of R158: the reason of the first failure. -/
def State.fileCheck (s : State) (p : Nat) (route : Bool) (f : SignedFile) : Option ImageEnd :=
  if !f.shapeOk route then some .invalidImage
  else if f.le 5 1 ≠ 1 then some .unsupportedVersion
  else if f.le 8 2 ≠ s.fld Reg.GCTL_ID Fld.GCTL_ID_PART then some .wrongTarget
  else if !s.signerOk p f then some .signatureInvalid
  else if !s.modelKeyOk p f ∨ !f.sects.all (fun x => crc32 (f.part x.off x.size) == x.crc) then some .sectionCrc
  else if !(if route then f.routeSects else f.imageSects) then some .invalidImage
  else none

/-! ### Mapping and relocation (R155, R156) -/

/-- The rank-th set bit of a mask of 64. -/
def ranked (mask i : Nat) : Option Nat := ((List.range 64).filter fun b => bitAt mask b)[i]?
/-- Where a table of a context begins. -/
def State.tblBase (s : State) (c : Nat × Nat) (type : Nat) : Nat :=
  if type = 2 then s.fld (Reg.CORE_CTXPROG c.1 c.2) Fld.CORE_CTXPROG_PBASE
  else if type = 3 then s.bufBase c.1 c.2
  else if type = 4 then s.fld (Reg.CORE_CTXDESC c.1 c.2) Fld.CORE_CTXDESC_DBASE
  else if type = 5 then s.fld (Reg.CORE_CTXDT c.1 c.2) Fld.CORE_CTXDT_BASE
  else if type = 6 then s.fld (Reg.CORE_CTXWT c.1 c.2) Fld.CORE_CTXWT_BASE
  else if type = 7 then s.fld (Reg.CORE_CTXST c.1 c.2) Fld.CORE_CTXST_BASE
  else s.rowBase c.1 c.2
/-- The declared resources of a logical core fit what its context and its partition own (R158 step 7). -/
def State.resFit (s : State) (p : Nat) (c : Nat × Nat) (r : Resources) : Bool :=
  let (k, n) := c
  decide (r.rows ≤ s.rowCount k n) && decide (r.prog ≤ s.fld (Reg.CORE_CTXPROG k n) Fld.CORE_CTXPROG_PCOUNT) &&
    decide (r.desc ≤ s.fld (Reg.CORE_CTXDESC k n) Fld.CORE_CTXDESC_DCOUNT) && decide (r.buf ≤ s.bufCount k n) &&
    decide (r.dtmpl ≤ s.fld (Reg.CORE_CTXDT k n) Fld.CORE_CTXDT_COUNT) && decide (r.wtmpl ≤ s.fld (Reg.CORE_CTXWT k n) Fld.CORE_CTXWT_COUNT) &&
    decide (r.ste ≤ s.fld (Reg.CORE_CTXST k n) Fld.CORE_CTXST_COUNT) && decide (r.queues ≤ popCount 16 (s.rd (Reg.CORE_CTXQ k n))) &&
    decide (r.counters ≤ popCount 64 (s.ctrMask k n)) && decide (r.groups ≤ popCount 16 (s.gmask k n)) &&
    decide (r.wshare ≤ s.fld (Reg.CORE_CTXTG k n) Fld.CORE_CTXTG_WSHARE) &&
    (List.range r.regions).all (fun h => (s.handleRegion p h).isSome) && decide (r.ports ≤ (s.memberPorts p).length)
/-- Field width, bound and base or rank mask of a relocation kind (R155); none for an undefined kind. -/
def State.relocKind (s : State) (c : Nat × Nat) (r : Resources) (kind : Nat) : Option (Nat × Nat × (Nat → Option Nat)) :=
  match kind with
  | 1 => some (16, r.rows, fun v => some (v + s.tblBase c 8))
  | 2 => some (10, r.desc, fun v => some (v + s.tblBase c 4))
  | 3 => some (8, r.dtmpl, fun v => some (v + s.tblBase c 5))
  | 4 => some (8, r.wtmpl, fun v => some (v + s.tblBase c 6))
  | 5 => some (8, r.ste, fun v => some (v + s.tblBase c 7))
  | 6 => some (4, r.queues, ranked (s.rd (Reg.CORE_CTXQ c.1 c.2)))
  | 7 => some (6, r.counters, ranked (s.ctrMask c.1 c.2))
  | 8 => some (4, r.groups, ranked (s.gmask c.1 c.2))
  | 9 => some (8, r.buf, fun v => some (v + s.tblBase c 3))
  | _ => none
/-- The context of a logical core under the partition's placement. -/
def State.lctx (s : State) (p l : Nat) : Nat × Nat := ((s.ctxsOf p)[l]?).getD (0, 0)
/-- One relocation record: the reason it is refused with, or the field's place, width and new value. -/
def State.relocate (s : State) (p : Nat) (f : SignedFile) (r : Reloc) : ImageEnd ⊕ (Nat × Nat × Nat) :=
  let x := f.sect r.sect
  if f.nsect ≤ r.sect ∨ x.type ≠ 2 then .inl .invalidImage
  else match s.relocKind (s.lctx p x.lcore) (f.res x.lcore) r.kind with
    | none => .inl .invalidImage
    | some (w, bound, map) =>
      if x.size * 8 < r.bitoff + w then .inl .invalidImage
      else
        let v := bits (bytesVal (f.part x.off x.size)) r.bitoff w
        match (if v < bound then map v else none) with
        | some y => if y < 2 ^ w then .inr (r.bitoff, w, y) else .inl .relocation
        | none => .inl .relocation
/-- The patched contents of a PROGRAM section, as one number. -/
def State.patchedSect (s : State) (p : Nat) (f : SignedFile) (i : Nat) : Nat :=
  let x := f.sect i
  (f.relocs.filter fun r => r.sect == i).foldl (fun v r => match s.relocate p f r with
    | .inr (lo, w, y) => putFld ⟨lo, w⟩ v y
    | .inl _ => v) (bytesVal (f.part x.off x.size))
/-- A descriptor's fields are in bounds (R156). -/
def descOk (r : Resources) (e : List Nat) : Bool := decide (leOf e 2 2 < r.counters) && decide (leOf e 4 2 < r.buf) && decide (leOf e 12 1 < r.regions)
/-- A dispatch template's rows are in bounds (R156). -/
def dtmplOk (r : Resources) (e : List Nat) : Bool :=
  decide (leOf e 0 2 + 11 ≤ r.rows) && (leOf e 2 2 == 0xFFFF || decide (leOf e 2 2 + 11 ≤ r.rows))
/-- The destination of a send entry, mapped (R156): DEST byte and base row; none when it names no logical core or port. -/
def State.sendDest (s : State) (p nl ports : Nat) (e : List Nat) : Option (Nat × Nat) :=
  let d := leOf e 0 1 % 32
  if d < 16 then (if d < nl then some ((s.lctx p d).1, leOf e 2 2 + s.rowBase (s.lctx p d).1 (s.lctx p d).2) else none)
  else if d - 16 < ports then (s.memberPorts p)[d - 16]?.map fun n => (n, leOf e 2 2)
  else none
/-- R156 for a logical core: every given descriptor, template and send entry can be patched. -/
def State.tablesOk (s : State) (p l : Nat) (f : SignedFile) : Bool :=
  let r := f.res l
  (f.given 4 l).all (fun i => descOk r (f.entry 4 l i)) && (f.given 5 l).all (fun i => dtmplOk r (f.entry 5 l i)) &&
    (f.given 7 l).all fun i => match s.sendDest p f.nlcore r.ports (f.entry 7 l i) with
      | some (_, row) => decide (row < 65536)
      | none => false
/-- R150 for a logical core. -/
def SignedFile.buffersOk (f : SignedFile) (l : Nat) : Bool :=
  (f.given 3 l).all fun i => leOf (f.entry 3 l i) 0 4 < 2 ^ 31 || decide (leOf (f.entry 3 l i) 0 2 + leOf (f.entry 3 l i) 4 2 ≤ (f.res l).rows)
/-- Steps 6 and 7 of R158, with R351's demand on the mapping. -/
def State.imageFits (s : State) (p : Nat) (f : SignedFile) : Option ImageEnd :=
  let ls := List.range f.nlcore
  let j := s.jpart p
  if j.state ≠ 2 ∨ j.imageId ≠ f.weightId then some .weightMismatch
  else if (s.ctxsOf p).length < f.nlcore ∨ j.place ≠ s.placeOf p ∨ j.gmask ≠ s.gmaskOf p then some .exceedsAllocation
  else if !ls.all (fun l => s.resFit p (s.lctx p l) (f.res l)) then some .exceedsAllocation
  else if !ls.all f.buffersOk then some .bufferOutsideRows
  else match f.relocs.findSome? fun r => match s.relocate p f r with
      | .inl e => some e
      | .inr _ => none with
    | some e => some e
    | none => if ls.all fun l => s.tablesOk p l f then none else some .relocation

/-! ### The route set (R214, R215) -/

/-- Where a route list of `n` entries fits the free route-list memory: the lowest base (R202). -/
def State.routeBase (s : State) (p n : Nat) : Option Nat :=
  (List.range 2049).find? fun b => decide (b + n ≤ 2048) && (List.range 64).all fun q =>
    let a := Reg.RTR_RLSEG 0 q
    let lo := s.fld a Fld.RTR_RLSEG_BASE
    let c := s.fld a Fld.RTR_RLSEG_COUNT
    q == p || c == 0 || n == 0 || decide (b + n ≤ lo) || decide (lo + c ≤ b)
/-- The reduction table entries of a core that a route set of the partition can use: free ones and its own. -/
def State.redFree (s : State) (p k : Nat) : List Nat :=
  (List.range 256).filter fun e => s.fld (Reg.RTR_REDA k e) Fld.RTR_REDA_VALID == 0 || s.fld (Reg.RTR_REDA k e) Fld.RTR_REDA_PART == p
/-- The reductions of a physical core: RID, DROW with the context's row base, NROWS, EXPECT. -/
def State.redOn (s : State) (p k : Nat) (f : SignedFile) : List (Nat × Nat × Nat × Nat) :=
  ((List.range f.nlcore).filter fun l => (s.lctx p l).1 == k).flatMap fun l => (f.given 0x11 l).map fun i =>
    let e := f.entry 0x11 l i
    (leOf e 0 2, leOf e 2 2 + s.rowBase k (s.lctx p l).2, leOf e 4 1, leOf e 8 4)
/-- A flow's source node and send entry, mapped (R215); none when it names no logical core, entry or port of the image. -/
def State.flowOf (s : State) (p : Nat) (img : SignedFile) (e : List Nat) : Option (Nat × Nat × Nat) :=
  let src := leOf e 0 1
  let ste := leOf e 1 1
  let n := leOf e 2 2
  if src < 0x10 then
    let c := s.lctx p src
    if img.nlcore ≤ src then none
    else if ste = 0xFF then some (c.1, 0xFF, n)
    else if (img.res src).ste ≤ ste then none
    else some (c.1, ste + s.tblBase c 7, n)
  else if src < 0x20 then (s.memberPorts p)[src - 0x10]?.map fun x => (x, 0xFF, n)
  else some (nth 0x3F [0x3F, 40, 41, 42] (src - 0x20), 0xFF, n)
/-- The checks of R215 on the mapped route set. -/
def State.routeFits (s : State) (p : Nat) (img f : SignedFile) : Option ImageEnd :=
  let flows := (f.given 0x10 0).map fun i => s.flowOf p img (f.entry 0x10 0 i)
  let inRows (l : Nat) : Bool := (f.given 0x11 l).all fun i => decide (leOf (f.entry 0x11 l i) 2 2 + leOf (f.entry 0x11 l i) 4 1 ≤ (img.res l).rows)
  let apart (k : Nat) : Bool :=
    let l := (s.redOn p k f).zipIdx
    l.all fun a => l.all fun b => a.2 == b.2 || a.1.1 != b.1.1 || decide (a.1.2.1 + a.1.2.2.1 ≤ b.1.2.1) || decide (b.1.2.1 + b.1.2.2.1 ≤ a.1.2.1)
  if f.imageId ≠ img.imageId ∨ f.weightId ≠ img.weightId ∨ f.nlcore ≠ img.nlcore then some .routeSetMismatch
  else if !flows.all (fun x => x.isSome) ∨ !(List.range f.nlcore).all inRows ∨ !(List.range 16).all apart then some .invalidImage
  else if (s.routeBase p flows.length).isNone then some .exceedsAllocation
  else if (List.range 16).any (fun k => decide ((s.redFree p k).length < (s.redOn p k f).length)) then some .exceedsAllocation
  else none
/-- Every check of an image and the route set that comes with it (R158 steps 1 to 7, R215). -/
def State.pairCheck (s : State) (p : Nat) (img f : SignedFile) : Option ImageEnd :=
  if s.run p ≠ 0 then some .notStopped
  else ((s.fileCheck p false img).or (s.imageFits p img)).or ((s.fileCheck p true f).or (s.routeFits p img f))

/-! ### What a load writes (R158 step 8, R215) -/

/-- Write little-endian words from bytes. -/
def State.wrBytes (s : State) (a : Nat) (l : List Nat) : State :=
  s.forEach (List.range (l.length / 4)) fun s i => s.wr (a + 4 * i) (leOf l (4 * i) 4)
/-- A patched descriptor (R156); REGION already is the partition's handle. -/
def State.patchDesc (s : State) (c : Nat × Nat) (given : Bool) (e : List Nat) : List Nat :=
  if !given then e
  else e.take 2 ++ bytesOf 2 ((ranked (s.ctrMask c.1 c.2) (leOf e 2 2)).getD 0) ++ bytesOf 2 (leOf e 4 2 + s.tblBase c 3) ++ e.drop 6
/-- A patched dispatch template (R156). -/
def State.patchDtmpl (s : State) (c : Nat × Nat) (given : Bool) (e : List Nat) : List Nat :=
  if !given then e
  else bytesOf 2 (leOf e 0 2 + s.tblBase c 8) ++ bytesOf 2 (if leOf e 2 2 = 0xFFFF then 0xFFFF else leOf e 2 2 + s.tblBase c 8) ++ e.drop 4
/-- A patched send entry (R156). -/
def State.patchSend (s : State) (p nl ports : Nat) (given : Bool) (e : List Nat) : List Nat :=
  match (if given then s.sendDest p nl ports e else none) with
  | some (d, row) => [leOf e 0 1 / 32 * 32 + d] ++ (e.drop 1).take 1 ++ bytesOf 2 row ++ e.drop 4
  | none => e
/-- A buffer entry that the core would refuse: valid with LEN 0 (R146). -/
def badBuffer (e : List Nat) : Bool := decide (2 ^ 31 ≤ leOf e 0 4) && leOf e 4 2 == 0
/-- Write the tables, program and rows of a logical core into its context (R156, R158 step 8). -/
def State.writeLcore (s : State) (p l : Nat) (f : SignedFile) : State :=
  let c := s.lctx p l
  let (k, n) := c
  let r := f.res l
  let s0 := s
  let has (type i : Nat) : Bool := (f.given type l).contains i
  let s := (s.setF (Reg.CORE_CTXCTL k n) Fld.CORE_CTXCTL_PART p).setF (Reg.CORE_CTXCTL k n) Fld.CORE_CTXCTL_EN 1
  let s := s.forEach (List.range r.buf) fun s i =>
    let e := f.entry 3 l i
    let a := leOf e 0 4 + (if has 3 i then s0.tblBase c 8 else 0)
    let b := s0.tblBase c 3 + i
    (s.wr (Reg.SHELF_BUFA k b) (a &&& writable (Reg.SHELF_BUFA k b))).wr (Reg.SHELF_BUFB k b) (leOf e 4 4 &&& writable (Reg.SHELF_BUFB k b))
  let s := s.forEach (List.range r.desc) fun s i =>
    s.wrBytes (Reg.QUE_DESC k (8 * (s0.tblBase c 4 + i))) (s0.patchDesc c (has 4 i) (f.entry 4 l i))
  let s := s.forEach (List.range r.dtmpl) fun s i =>
    s.wrBytes (Reg.CORE_DTPL k (4 * (s0.tblBase c 5 + i))) (s0.patchDtmpl c (has 5 i) (f.entry 5 l i))
  let s := s.forEach (List.range r.wtmpl) fun s i => s.wrBytes (Reg.CORE_WTPL k (4 * (s0.tblBase c 6 + i))) (f.entry 6 l i)
  let s := s.forEach (List.range r.ste) fun s i =>
    s.wrBytes (Reg.CORE_SENT k (2 * (s0.tblBase c 7 + i))) (s0.patchSend p f.nlcore r.ports (has 7 i) (f.entry 7 l i))
  let s := s.forEach (List.range r.rows) fun s i =>
    let a := s0.rowBase k n + i
    s.setShelfRow k a { data := rowOf (f.entry 8 l i), full := (s0.shelfRow k a).full, poison := false, ecc := 0 }
  let s := s.forEach (List.range r.prog) fun s b => s.wrBytes (Reg.CORE_PMEM k (8 * (s0.tblBase c 2 + b))) (f.entry 2 l b)
  let pm := k * 32768 + 4 * s0.tblBase c 2
  let s := { s with core := { s.core with pmEcc := s.core.pmEcc.filter fun e => !(decide (pm ≤ e.1) && decide (e.1 < pm + 4 * r.prog)) } }
  s.forEach ((List.range f.nsect).filter fun i => (f.sect i).type == 2 && (f.sect i).lcore == l) fun s i =>
    let x := f.sect i
    s.wrBytes (Reg.CORE_PMEM k (8 * (s0.tblBase c 2 + x.first))) (bytesOf x.size (s0.patchedSect p f i))
/-- Set the end of a load of a firing image. -/
def State.imageEnd (s : State) (p : Nat) (e : ImageEnd) : State :=
  { s with wts := { s.wts with imageEnds := SMap.set (fun _ => 0) s.wts.imageEnds p e.code } }
/-- Set the end of a load of a route set. -/
def State.routeEnd (s : State) (p : Nat) (e : ImageEnd) : State :=
  { s with wts := { s.wts with routeEnds := SMap.set (fun _ => 0) s.wts.routeEnds p e.code } }
/-- A signature block joins those of the partition's loaded files (R499). -/
def State.countSig (s : State) (p : Nat) : State :=
  { s with wts := { s.wts with loadedSigs := SMap.set (fun _ => 0) s.wts.loadedSigs p (SMap.get (fun _ => 0) s.wts.loadedSigs p + 1) } }
/-- FIRING_IMAGE_LOAD (R158): an image with the route set that accompanies it. Nothing is written unless both pass their checks (R215). A
write that the core would refuse leaves every context of the partition disabled. -/
def State.imageLoad (s : State) (p : Nat) (img f : SignedFile) : State :=
  match s.pairCheck p img f with
  | some e => s.imageEnd p e
  | none =>
    let ls := List.range img.nlcore
    let refused := ls.any fun l => (img.given 3 l).any (fun i => badBuffer (img.entry 3 l i)) || s.ctxRun (s.lctx p l).1 (s.lctx p l).2 != 0
    if refused then
      let s := s.forEach (ls.map fun l => (s.lctx p l).1) fun s k => s.setF (Reg.CORE_STAT k) Fld.CORE_STAT_WREJ 1
      let s := s.forEach (s.ctxsOf p) fun s c => s.setF (Reg.CORE_CTXCTL c.1 c.2) Fld.CORE_CTXCTL_EN 0
      s.imageEnd p .writeRefused
    else ((s.forEach ls fun s l => s.writeLcore p l img).countSig p).imageEnd p .loaded
def execFiringImageLoad (p : PartNo) (image : SignedFile) (routes : SignedFile) (s : State) : Host.Outcome State Fault Refusal := .next (s.imageLoad p.val image routes)

/-- The route list of a partition on every router: entries first, then the segment (R202). -/
def State.writeRoutes (s : State) (p : Nat) (flows : List (Nat × Nat × Nat)) : State :=
  match s.routeBase p flows.length with
  | none => s
  | some b => s.forEach (List.range 16) fun s r =>
    let s := s.forEach flows.zipIdx fun s e => s.wr (Reg.RTR_RLIST r (b + e.2)) (e.1.1 * 2 ^ 26 + e.1.2.1 * 2 ^ 18 + e.1.2.2)
    let s := s.wr (Reg.RTR_RLSEG r p) (flows.length * 2 ^ 16 + b % 2048)
    s.forEach (List.range 8) fun s o => s.setRoutePos r o p {}
/-- The reduction table entries of a partition on a core: its old ones are dropped, the new ones take the lowest free places. -/
def State.writeReds (s : State) (p k : Nat) (f : SignedFile) : State :=
  let free := s.redFree p k
  let new := s.redOn p k f
  let clear (s : State) (e : Nat) : State :=
    (((s.wr (Reg.RTR_REDA k e) 0).wr (Reg.RTR_REDB k e) 0).wr (Reg.RTR_REDC k e) 0).wr64 (Reg.RTR_REDSP_LO k e) 0
  let s := s.forEach (free.filter fun e => s.fld (Reg.RTR_REDA k e) Fld.RTR_REDA_VALID == 1) clear
  s.forEach (free.zip new) fun s x =>
    let s := (s.wr (Reg.RTR_REDB k x.1) (x.2.1 * 2 ^ 16 + x.2.2.1)).wr (Reg.RTR_REDC k x.1) x.2.2.2.2
    let s := (s.wr (Reg.RTR_REDSP_LO k x.1) 0).wr (Reg.RTR_REDSP_HI k x.1) 0
    s.wr (Reg.RTR_REDA k x.1) (2 ^ 31 + p * 2 ^ 8 + x.2.2.2.1)
/-- ROUTE_SET_LOAD (R215): the route set of a firing image, with that image. -/
def State.routeLoad (s : State) (p : Nat) (img f : SignedFile) : State :=
  match s.pairCheck p img f with
  | some e => s.routeEnd p e
  | none =>
    let flows := (f.given 0x10 0).filterMap fun i => s.flowOf p img (f.entry 0x10 0 i)
    let s := s.writeRoutes p flows
    let s := s.forEach (List.range 16) fun s k => s.writeReds p k f
    (s.countSig p).routeEnd p .loaded
def execRouteSetLoad (p : PartNo) (image : SignedFile) (routes : SignedFile) (s : State) : Host.Outcome State Fault Refusal := .next (s.routeLoad p.val image routes)

end Sys2Proof.Machine
end

