-- ==== Sys2Proof/Machine/Partition.lean ====
section
/-!
DEFINITION. Stop and start of a partition by command (R387 to R390).
-/
namespace Sys2Proof.Machine

/-- GCTL_PCSTAT shows the last command: RESULT 1 done, 2 refused, 3 pending, with its REASON (R390). -/
def State.pcStat (s : State) (p result reason : Nat) : State :=
  let s := s.setF Reg.GCTL_PCSTAT Fld.GCTL_PCSTAT_RESULT result
  let s := s.setF Reg.GCTL_PCSTAT Fld.GCTL_PCSTAT_REASON reason
  s.setF Reg.GCTL_PCSTAT Fld.GCTL_PCSTAT_PART p

/-- STOP (R387, R389): pending until every context is stopped; refused with reason 4 while the partition is stopped or stopping. A
partition in a reclaim ends stopped. -/
def State.stopCommand (s : State) (p : Nat) : State :=
  if s.run p = 0 ∨ (s.part p).stopping ≠ 0 then s.pcStat p 2 4
  else if s.run p = 3 then (s.pcStat p 3 0).setPart p { s.part p with stopping := 1 }
  else (s.pcStat p 3 0).orderStop p
/-- PARTITION_STOP (R387): GCTL_PCMD is written with OP = STOP. -/
def execPartitionStop (p : PartNo) (s : State) : Host.Outcome State Fault Refusal := .next (s.stopCommand p.val)

/-- A region of the partition is being initialised (R388). -/
def State.regionsInit (s : State) (p : Nat) : Bool := s.validRegions.any fun r => s.fld (Reg.HBM_RGNA r) Fld.HBM_RGNA_PART == p && s.rgnInit r
/-- Why a START is refused (R388, R389, R269); 0 when it is not. A failed part starts no partition (R471). -/
def State.startReason (s : State) (p : Nat) : Nat :=
  if (s.part p).stopping ≠ 0 ∨ s.run p = 3 then 5
  else if s.run p ≠ 0 ∨ s.failed then 4
  else if s.fld (Reg.FLS_PLOAD p) Fld.FLS_PLOAD_STATE ≠ 2 then 1
  else if s.regionsInit p then 2
  else if s.hold then 3
  else if s.fld Reg.IND_RSSTAT Fld.IND_RSSTAT_STOP = 1 then 6
  else if s.balanced p ∧ s.jobCores p < s.fld (Reg.SRV_PBAL p) Fld.SRV_PBAL_UNITS then 4
  else 0
/-- START (R388): PSTART goes to every member, or the command is refused. -/
def State.startCommand (s : State) (p : Nat) (remap : Bool) : State :=
  let r := s.startReason p
  if r ≠ 0 then s.pcStat p 2 r else (s.pcStat p 1 0).launch p remap
/-- PARTITION_START (R388): GCTL_PCMD is written with OP = START. `remap`: the job was re-mapped onto a spare since the stop (R338). -/
def execPartitionStart (p : PartNo) (remap : Bool) (s : State) : Host.Outcome State Fault Refusal := .next (s.startCommand p.val remap)

/-- STOP_TIMEOUT (R387 step 3): the boundary has not come within STOPTO, and firmware reclaims the partition. -/
def State.stopTimeout (s : State) (p : Nat) : State :=
  if (s.part p).stopping = 1 ∧ (s.part p).opened then s.startReclaim p [] else s
def execStopTimeout (p : PartNo) (s : State) : Host.Outcome State Fault Refusal := .next (s.stopTimeout p.val)

/-- A write of GCTL_PCMD (R390): OP 3 changes nothing. -/
def State.writePcmd (s : State) (v : Nat) : State :=
  let p := bits v 0 6
  if bits v 30 2 = 1 then s.stopCommand p else if bits v 30 2 = 2 then s.startCommand p false else s

/-- The ROM starts (R365 phase 2; step 4 of R367): after Off it releases pad groups 0, 3 and 5 (R420); it sets REFEN (R442) and the
converters run their sequences (R444); Psikuster tests itself (R490). -/
def State.romStart (s : State) : State :=
  let s := s.setF Reg.CFG_BOOT Fld.CFG_BOOT_PHASE 2
  let s := s.padRelease 0b101001
  ((s.writeRefen true).startConverters).setSec 1
/-- A write of GCTL_RESET (R366, R390): 0xB007 starts a bring-up from phase 2 while every partition is stopped; in phases 2 and 3 it is
ignored (R386). -/
def State.writeReset (s : State) (v : Nat) : State :=
  if v % 65536 ≠ 0xB007 ∨ !s.allStopped ∨ s.phase < 4 then s else (s.bringUp 2 3).romStart

end Sys2Proof.Machine
end

