-- ==== Sys2Proof/Machine/RegWrite.lean ====
section
/-!
DEFINITION. Writes and reads of control registers: access codes (R15 to R18), legal values and the conditions under which each block
refuses a write, and the registers whose writes or reads are commands or views.
-/
namespace Sys2Proof.Machine

/-! ### The common part -/

/-- Every field (lowest bit, width, least, greatest) of a word lies in its range. -/
def fieldsIn (w : Nat) (l : List (Nat × Nat × Nat × Nat)) : Bool := l.all fun (lo, n, a, b) => decide (a ≤ bits w lo n) && decide (bits w lo n ≤ b)
/-- The writable fields of a register at this moment: LK fields only while their LOCK bit is clear (R15). -/
def State.openMask (s : State) (a : Nat) : Nat :=
  match regRow a with
  | some r => if a = Reg.LNK_CHIP ∧ s.fld a Fld.LNK_CHIP_LOCK = 1 then r.rw else r.rw ||| r.lk
  | none => 0
/-- The word with its writable fields as a write gives them. -/
def State.merged (s : State) (a v : Nat) : Nat := (s.rd a &&& (0xFFFFFFFF ^^^ s.openMask a)) ||| (v &&& s.openMask a)
/-- A write by access codes alone (R15, R16): RW and unlocked LK fields take the value, W1C bits clear, W1S bits set, all else stays. -/
def State.writeMasked (s : State) (a v : Nat) : State :=
  match regRow a with
  | some r => s.wr a ((s.merged a v &&& (0xFFFFFFFF ^^^ (v &&& r.w1c))) ||| (v &&& r.w1s))
  | none => s
/-- A write that its block accepts, or refuses with a WREJ bit. -/
def State.writeIf (s : State) (ok : Bool) (rej : Nat) (f : Fld) (a v : Nat) : State := if ok then s.writeMasked a v else s.setF rej f 1

/-! ### GCTL, SEC, LOG, MTR -/

/-- GCTL (R390). -/
def State.writeGctl (s : State) (a v : Nat) : State :=
  if a = Reg.GCTL_CTL then (if bits v 8 16 = 0 then s else s.writeMasked a v)
  else if a = Reg.GCTL_PCMD then s.writePcmd v
  else if a = Reg.GCTL_RESET then s.writeReset v
  else s.writeMasked a v
/-- SEC (R507). The commands that SEC_CMD names are commands of their own; another value is refused. -/
def State.writeSec (s : State) (a v : Nat) : State :=
  if a = Reg.SEC_CMD then
    (if s.sec.zeroising ∨ bits v 0 8 = 0 ∨ 9 < bits v 0 8 then s.setF Reg.SEC_STAT Fld.SEC_STAT_WREJ 1 else s)
  else s.writeMasked a v
/-- LOG_FCMD (R470, R484). -/
def State.writeFcmd (s : State) (v : Nat) : State :=
  let kind := bits v 28 2
  let k := bits v 10 4
  let i := bits v 0 10
  if bits v 30 2 = 0 then s
  else if bits v 30 2 = 1 then s.fenceOrder kind k i
  else if bits v 30 2 = 2 then s.fenceClear kind k i
  else s.setF Reg.LOG_STAT Fld.LOG_STAT_WREJ 1
/-- LOG (R484). -/
def State.writeLog (s : State) (a v : Nat) : State :=
  let w := s.merged a v
  let ok : Bool :=
    if a = Reg.LOG_CTL then decide (bits w 2 3 ≤ 4)
    else if a = Reg.LOG_ESC then s.quiet && fieldsIn w [(24, 8, 1, 16), (16, 8, 1, 16), (8, 8, 1, 64), (0, 8, 1, 255)]
    else if a = Reg.LOG_RDIDX then !(bitAt w 31 && decide (2048 ≤ bits w 5 14))
    else true
  if a = Reg.LOG_FCMD then s.writeFcmd v
  else if a = Reg.LOG_TCMD then s.testCommand v
  else s.writeIf ok Reg.LOG_STAT Fld.LOG_STAT_WREJ a v
/-- MTR (R521 to R526, R534). -/
def State.writeMtr (s : State) (a v : Nat) : State :=
  let w := s.merged a v
  let ok : Bool :=
    if a = Reg.MTR_TSLEW then decide (-500000 ≤ signed 32 w) && decide (signed 32 w ≤ 500000)
    else if a = Reg.MTR_PCFG then s.quiet && fieldsIn w [(0, 17, 60, 86400)]
    else if a = Reg.MTR_ECFG then s.quiet && fieldsIn w [(16, 16, 1, 65535), (0, 16, 1, 65535)]
    else if a = Reg.MTR_HIDX then decide (bits w 0 5 < 24)
    else true
  if a = Reg.MTR_TCMD then (if bitAt v 0 then s.timeSet else s)
  else if a = Reg.MTR_MIDX then s.meterSnapshot v
  else s.writeIf ok Reg.MTR_TSTAT Fld.MTR_TSTAT_WREJ a v

/-! ### CLK, PWR, HOLD, MADC, THM, IND -/

/-- CLK_REFCTL (R404, R409): the fields but ORDER need the whole part stopped; ORDER starts a switch. -/
def State.writeRefctl (s : State) (v : Nat) : State :=
  let a := Reg.CLK_REFCTL
  let same := s.merged a v == s.rd a
  if !same ∧ !s.quiet then s.setF Reg.CLK_STAT Fld.CLK_STAT_WREJ 1
  else
    let s := s.wr a (s.merged a v)
    if bitAt v 1 then s.refOrder else s
/-- CLK (R409). -/
def State.writeClk (s : State) (a v : Nat) : State :=
  let w := s.merged a v
  let ok : Bool :=
    if a = Reg.CLK_OSCDLY then s.quiet && decide (bits w 0 3 ≤ 5)
    else if a = Reg.CLK_BOOST then s.quiet && fieldsIn w [(16, 16, 1, 65535), (0, 16, 1, 65535)]
    else if a = Reg.CLK_SEQ then s.quiet && decide (1 ≤ bits w 0 8)
    else if a = Reg.CLK_AVS then s.quiet && (List.range 4).all fun q => decide (bits w (4 * q) 4 ≤ 14)
    else true
  if a = Reg.CLK_REFCTL then s.writeRefctl v
  else if a = Reg.CLK_OPREQ then s.opRequest v
  else if a = Reg.CLK_ISW then s.islandSwitch v
  else if inSpan a 0x400100 0x400140 ∧ a % 16 = 0 then s.freqStart ((a - 0x400100) / 16) v
  else s.writeIf ok Reg.CLK_STAT Fld.CLK_STAT_WREJ a v
/-- PWR_CAP (R5, R400): a cap above the fused limit is clamped to it, counted under PKG and reported. -/
def State.writeCap (s : State) (v : Nat) : State :=
  let fuse := s.fld Reg.GCTL_SKU Fld.GCTL_SKU_POWER_LIMIT_W
  if !s.quiet ∨ bits v 0 16 = 0 then s.setF Reg.PWR_STAT Fld.PWR_STAT_WREJ 1
  else if fuse < bits v 0 16 then (s.setF Reg.PWR_CAP Fld.PWR_CAP_CAP fuse).clamp 0
  else s.setF Reg.PWR_CAP Fld.PWR_CAP_CAP (bits v 0 16)
/-- PWR_ABUDGET (R429, R452): the thermal array limit follows the budget while no throttle has lowered it. -/
def State.writeBudget (s : State) (v : Nat) : State :=
  let old := s.fld Reg.PWR_ABUDGET Fld.PWR_ABUDGET_ABUDGET
  let ath := s.fld Reg.THM_CEIL Fld.THM_CEIL_ATH
  let s := s.wr Reg.PWR_ABUDGET v
  s.setF Reg.THM_CEIL Fld.THM_CEIL_ATH (if ath = old then bits v 0 16 else min ath (bits v 0 16))
/-- PWR_CMD (R414, R437). -/
def State.writePwrCmd (s : State) (v : Nat) : State :=
  let op := bits v 0 3
  if op = 0 then s
  else if op = 4 then s.powerRun
  else if op < 4 then s.powerRequest (op + 1)
  else s.setF Reg.PWR_STAT Fld.PWR_STAT_WREJ 1
/-- PWR and HOLD (R437). -/
def State.writePwr (s : State) (a v : Nat) : State :=
  let w := s.merged a v
  let ok : Bool :=
    if a = Reg.PWR_CFG then s.quiet && decide (1 ≤ bits w 8 16) && decide (1 ≤ bits w 0 8)
    else if a = Reg.PWR_WAKECFG then s.quiet
    else if a = Reg.PWR_ABUDGET then s.quiet && fieldsIn w [(16, 16, 1, 65535), (0, 16, 1, 65535)] && decide (s.fld Reg.PWR_GOV Fld.PWR_GOV_AFLOOR ≤ bits w 0 16)
    else if a = Reg.PWR_GOV then s.quiet && decide (1 ≤ bits w 0 8) && decide (bits w 8 16 ≤ s.fld Reg.PWR_ABUDGET Fld.PWR_ABUDGET_ABUDGET)
    else if a = Reg.HOLD_CFG then s.quiet && decide (1 ≤ bits w 8 8)
    else true
  if a = Reg.PWR_CMD then s.writePwrCmd v
  else if a = Reg.PWR_PADREL then s.padRelease (v % 64)
  else if a = Reg.PWR_CAP then s.writeCap v
  else if a = Reg.PWR_ABUDGET ∧ ok then s.writeBudget v
  else if a = Reg.HOLD_CFG ∧ ok then (s.writeMasked a v).charger
  else s.writeIf ok Reg.PWR_STAT Fld.PWR_STAT_WREJ a v
/-- MADC (R442 to R445, R464): a write of a sequence is judged as it leaves the diodes. -/
def State.writeMadc (s : State) (a v : Nat) : State :=
  let c := (a - 0x500100) / 0x100
  let o := (a - 0x500100) % 0x100
  if a = Reg.MADC_CTL then s.writeRefen (bitAt v 0)
  else if a < 0x500100 then s.writeMasked a v
  else if o = 8 then s.urgentConversion c v
  else
    let t := s.writeMasked a v
    let legal := o < 0x40 || entryLegal v
    if t = s then s
    else if !s.quiet ∨ !legal ∨ !t.diodeRule then s.setF Reg.MADC_STAT Fld.MADC_STAT_WREJ 1
    else (t.showPeriod c).startConverters
/-- A cone register's field values and the limits of R449, on the registers as written. -/
def State.conesLegal (t : State) : Bool :=
  let thr (a : Nat) : Nat := bits (t.rd a) 16 10
  let h (a : Nat) : Bool := fieldsIn (t.rd a) [(0, 6, 4, 60)]
  decide (280 ≤ thr Reg.THM_CONE1) && decide (thr Reg.THM_CONE1 ≤ 420) && decide (340 ≤ thr Reg.THM_CONE2) && decide (thr Reg.THM_CONE2 ≤ 440) &&
    decide (420 ≤ thr Reg.THM_CONE3) && decide (thr Reg.THM_CONE3 ≤ 480) && h Reg.THM_CONE1 && h Reg.THM_CONE2 && h Reg.THM_CONE3 &&
    decide (thr Reg.THM_CONE1 ≤ thr Reg.THM_CONE2) && decide (thr Reg.THM_CONE2 + 20 ≤ thr Reg.THM_CONE3)
/-- THM (R464). -/
def State.writeThm (s : State) (a v : Nat) : State :=
  let w := s.merged a v
  let ok : Bool :=
    if a = Reg.THM_CONE1 ∨ a = Reg.THM_CONE2 ∨ a = Reg.THM_CONE3 then s.quiet && (s.writeMasked a v).conesLegal
    else if a = Reg.THM_THROT then s.quiet && fieldsIn w [(24, 8, 0, 40), (16, 8, 1, 255), (0, 8, 1, 255)]
    else if a = Reg.THM_BT0 then s.quiet && decide (w ≠ 0)
    else if a = Reg.THM_BT1 then s.quiet && fieldsIn w [(16, 16, 1, 65535), (0, 16, 1, 65535)]
    else true
  if a = Reg.THM_ROCMD then s.roCommand v else s.writeIf ok Reg.THM_STAT Fld.THM_STAT_WREJ a v
/-- IND and board I/O (R527 to R534). Clearing DFAULT judges rack stop again; clearing CHATTER unfreezes an input. -/
def State.writeInd (s : State) (a v : Nat) : State :=
  let w := s.merged a v
  let ok : Bool :=
    if inSpan a 0x600010 0x600020 then fieldsIn w [(28, 2, 0, 2), (20, 5, 1, 20), (8, 9, 0, 256), (0, 8, 10, 255)]
    else if a = Reg.IND_RSCFG then s.quiet && fieldsIn w [(16, 10, 1, 1000), (0, 8, 1, 255)]
    else if a = Reg.IND_GPICFG then decide (1 ≤ bits w 16 8)
    else true
  if a = Reg.IND_RSSTAT then (s.writeMasked a v).judgeRackStop
  else if a = Reg.IND_GPISTAT then
    let s := s.writeMasked a v
    { s with mgmt := { s.mgmt with gpi := s.mgmt.gpi.mapIdx fun i g => if bitAt v (16 + i) then { g with frozen := false } else g } }
  else s.writeIf ok Reg.IND_STAT Fld.IND_STAT_WREJ a v

/-! ### PCI and the windows of the virtual functions -/

/-- A word of an MSI-X table (R551, R552): address and data words are kept; the vector control word masks the vector, and unmasking a
pending one sends it. -/
def State.writeMsixPf (s : State) (i v : Nat) : State :=
  if i % 4 ≠ 3 then { s with host := { s.host with pfTable := SMap.set (fun _ => (0 : Word)) s.host.pfTable i (BitVec.ofNat 32 v) } }
  else
    let n := i / 4
    let s := { s with host := { s.host with pfMask := putBit s.host.pfMask n (bitAt v 0) } }
    if !bitAt v 0 ∧ bitAt s.host.pfPba n then
      { s with host := { s.host with pfPba := putBit s.host.pfPba n false, pfIrqs := s.host.pfIrqs ++ [n] } }
    else s
/-- A word of the MSI-X table of a virtual function. -/
def State.writeMsixVf (s : State) (p i v : Nat) : State :=
  let f := s.vf p
  if i % 4 ≠ 3 then s.setVf p { f with table := SMap.set (fun _ => (0 : Word)) f.table i (BitVec.ofNat 32 v) }
  else
    let n := i / 4
    let f := { f with mask := putBit f.mask n (bitAt v 0) }
    if !bitAt v 0 ∧ bitAt f.pba n then s.setVf p { f with pba := putBit f.pba n false, irqs := f.irqs ++ [n] } else s.setVf p f
/-- The window of a VF (R542, R559): bases and sizes only while the rings are off. -/
def State.writeVf (s : State) (p o a v : Nat) : State :=
  let w := s.merged a v
  let off := s.fld (Reg.PCI_VCTL p) Fld.PCI_VCTL_EN == 0
  let ok : Bool :=
    if o = 0x10 ∨ o = 0x20 then off && decide (bits w 0 12 = 0)
    else if o = 0x14 ∨ o = 0x24 then off
    else if o = 0x18 then off && fieldsIn w [(0, 17, 2, 4096)]
    else if o = 0x28 then off && fieldsIn w [(0, 17, 64, 65536)]
    else if o = 0x30 then fieldsIn w [(8, 8, 1, 255), (0, 8, 1, 255)]
    else true
  if o = 0x08 then s.ringEnable p (bitAt v 0)
  else if o = 0x1000 then s.sqDoorbell p (v % 65536)
  else if o = 0x1004 then s.cqDoorbell p (v % 65536)
  else if inSpan o 0x2000 0x2020 then s.writeMsixVf p ((o - 0x2000) / 4) v
  else s.writeIf ok (Reg.PCI_VSTAT p) Fld.PCI_VSTAT_WREJ a v

/-! ### SRV and ADP -/

/-- The context allotments of two partitions do not overlap, and each ends within the store (SRV_PCTX). -/
def State.allotmentsOk (t : State) (p : Nat) : Bool :=
  let base (q : Nat) : Nat := t.fld (Reg.SRV_PCTX q) Fld.SRV_PCTX_BASE
  let n (q : Nat) : Nat := t.fld (Reg.SRV_PCTX q) Fld.SRV_PCTX_COUNT
  decide (base p + n p ≤ 16384) && (List.range 64).all fun q => q == p || n q == 0 || n p == 0 ||
    decide (base p + n p ≤ base q) || decide (base q + n q ≤ base p)
/-- A per-partition SRV register holds legal values (R293). -/
def State.srvLegal (t : State) (p o w : Nat) : Bool :=
  if o = 0x00 then decide (1 ≤ bits w 16 4)
  else if o = 0x04 then t.allotmentsOk p
  else if o = 0x08 then decide (3 ≤ bits w 24 8) && decide (1 ≤ bits w 16 8)
  else if o = 0x0C then fieldsIn w [(0, 19, 2, 262144)]
  else if o = 0x10 then fieldsIn w [(16, 16, 1, 65535), (0, 16, 1, 65535)]
  else if o = 0x14 then
    fieldsIn w [(26, 6, 2, 63), (8, 6, 1, 63), (0, 8, 1, 255)] && decide (1 ≤ bits w 20 6) && decide (bits w 20 6 ≤ bits w 14 6) && decide (bits w 14 6 < bits w 26 6)
  else if o = 0x1C then decide (1 ≤ bits w 16 16)
  else true
/-- SRV (R293). -/
def State.writeSrv (s : State) (a v : Nat) : State :=
  let p := (a - 0x801000) / 0x100
  let o := (a - 0x801000) % 0x100
  if a < 0x801000 then s.writeMasked a v
  else if a = Reg.SRV_PCMD p then (if bitAt v 0 then s.replayCmd p else s)
  else s.writeIf (s.run p == 0 && (s.writeMasked a v).srvLegal p o (s.merged a v)) Reg.SRV_STAT Fld.SRV_STAT_WREJ a v
/-- ADP (R285, R287, R293). ADP_SCMD orders are taken in the order STOP, LOAD, START. -/
def State.writeAdp (s : State) (a v : Nat) : State :=
  let i := (a - 0x840000) / 0x20
  let o := (a - 0x840000) % 0x20
  let w := s.merged a v
  let host : Bool := match s.handleRegion (i / 64) (bits w 26 6) with
    | some r => s.fld (Reg.HBM_RGNA r) Fld.HBM_RGNA_HOST == 1
    | none => false
  let ok : Bool :=
    if 0x860000 ≤ a then !(a % 16 = 8) || (decide (32 ≤ w) && w % 32 == 0)
    else if o = 0x0C ∨ o = 0x10 then s.run (i / 64) == 0 && !host
    else if o = 0x1C then decide (w ≠ 0)
    else true
  if a < 0x860000 ∧ a = Reg.ADP_SCMD i then
    (((s.when (bitAt v 0) fun s => s.adpStop i).when (bitAt v 1) fun s => s.adpLoad i).when (bitAt v 2) fun s => s.adpStart i)
  else s.writeIf ok Reg.SRV_STAT Fld.SRV_STAT_WREJ a v

/-! ### Core windows: contexts, tables, drift, shelf, queues (R111, R113, R146, R147, R160, R110) -/

/-- Two ranges given by base and count overlap. -/
def overlaps (a b : Nat × Nat) : Bool := a.2 != 0 && b.2 != 0 && decide (a.1 < b.1 + b.2) && decide (b.1 < a.1 + a.2)
/-- The ranges of a context: rows, descriptors, buffers, bundles, dispatch and wheel templates, send entries, with what bounds each. -/
def State.ctxRanges (s : State) (k n : Nat) : List (Nat × Nat × Nat) :=
  let c (a : Nat) : Nat × Nat := (bits (s.rd a) 0 8, bits (s.rd a) 16 9)
  [(s.rowBase k n, s.rowCount k n, 49152),
   (bits (s.rd (Reg.CORE_CTXDESC k n)) 0 10, bits (s.rd (Reg.CORE_CTXDESC k n)) 16 11, 1024),
   (s.bufBase k n, s.bufCount k n, 256),
   (bits (s.rd (Reg.CORE_CTXPROG k n)) 0 16, bits (s.rd (Reg.CORE_CTXPROG k n)) 16 16, 6144),
   ((c (Reg.CORE_CTXDT k n)).1, (c (Reg.CORE_CTXDT k n)).2, 256),
   ((c (Reg.CORE_CTXWT k n)).1, (c (Reg.CORE_CTXWT k n)).2, 256),
   ((c (Reg.CORE_CTXST k n)).1, (c (Reg.CORE_CTXST k n)).2, 256)]
/-- Two contexts own something in common (R111, R160). -/
def State.ctxClash (s : State) (k n m : Nat) : Bool :=
  ((s.ctxRanges k n).zip (s.ctxRanges k m)).any (fun x => overlaps (x.1.1, x.1.2.1) (x.2.1, x.2.2.1)) ||
    (s.rd (Reg.CORE_CTXQ k n) &&& s.rd (Reg.CORE_CTXQ k m)) != 0 || (s.ctrMask k n &&& s.ctrMask k m) != 0 || (s.gmask k n &&& s.gmask k m) != 0
/-- A valid buffer lies within the rows of every enabled context whose buffer range holds it (R147). -/
def State.bufferFits (s : State) (k b : Nat) : Bool :=
  s.fld (Reg.SHELF_BUFA k b) Fld.SHELF_BUFA_VALID == 0 || (List.range 4).all fun n =>
    !s.ctxEn k n || decide (b < s.bufBase k n) || decide (s.bufBase k n + s.bufCount k n ≤ b) ||
      (decide (s.rowBase k n ≤ s.fld (Reg.SHELF_BUFA k b) Fld.SHELF_BUFA_BASE) &&
        decide (s.fld (Reg.SHELF_BUFA k b) Fld.SHELF_BUFA_BASE + s.fld (Reg.SHELF_BUFB k b) Fld.SHELF_BUFB_LEN ≤ s.rowBase k n + s.rowCount k n))
/-- The contexts of a core as a write leaves them: legal fields (R146, R160), no overlap, wheel shares, buffers in range. -/
def State.ctxsLegal (t : State) (k n : Nat) : Bool :=
  (t.ctxRanges k n).all (fun x => x.2.1 == 0 || decide (x.1 + x.2.1 ≤ x.2.2)) && decide (bits (t.rd (Reg.CORE_CTXTG k n)) 16 7 ≤ 64) &&
    (!t.ctxEn k n ||
      (decide (1 ≤ t.rowCount k n) && decide (1 ≤ bits (t.rd (Reg.CORE_CTXPROG k n)) 16 16) &&
        (List.range 4).all (fun m => m == n || !t.ctxEn k m || !t.ctxClash k n m) &&
        decide (sumNat 4 (fun m => if t.ctxEn k m then bits (t.rd (Reg.CORE_CTXTG k m)) 16 7 else 0) ≤ 64) &&
        (List.range (t.bufCount k n)).all fun i => t.bufferFits k (t.bufBase k n + i)))
/-- Every context whose range (of the given place in `ctxRanges`) holds an entry is stopped (R113, R146, R160). -/
def State.ownersStopped (s : State) (k range i : Nat) : Bool :=
  (List.range 4).all fun n =>
    let x := nth (0, 0, 0) (s.ctxRanges k n) range
    decide (i < x.1) || decide (x.1 + x.2.1 ≤ i) || s.ctxRun k n == 0
/-- A refused write of a core's configuration (R113). -/
def State.coreRej (s : State) (k : Nat) : State := s.setF (Reg.CORE_STAT k) Fld.CORE_STAT_WREJ 1
/-- A register of a context (R113, R160). A loading partition keeps its tile groups (R363). -/
def State.writeCtx (s : State) (k n a v : Nat) : State :=
  let t := s.writeMasked a v
  let held := s.ctxEn k n && s.loading (s.ctxPart k n) && (s.gmask k n != t.gmask k n || !t.ctxEn k n || s.ctxPart k n != t.ctxPart k n)
  if s.ctxRun k n ≠ 0 ∨ held ∨ !t.ctxsLegal k n then s.coreRej k else t
/-- An entry of a table of a core: written while its owning contexts are stopped. -/
def State.writeTable (s : State) (k range i a v : Nat) : State := if s.ownersStopped k range i then s.writeMasked a v else s.coreRej k
/-- A word of program memory: the write renews the check bits of its 64-bit word. -/
def State.writePmem (s : State) (k j a v : Nat) : State :=
  if s.ownersStopped k 3 (j / 8) then
    let t := s.writeMasked a v
    { t with core := { t.core with pmEcc := SMap.set (fun _ => 0) t.core.pmEcc (k * 32768 + j / 2) 0 } }
  else s.coreRej k
/-- A shelf buffer entry (R146, R147). -/
def State.writeBuf (s : State) (k b a v : Nat) : State :=
  let t := s.writeMasked a v
  let len := t.fld (Reg.SHELF_BUFB k b) Fld.SHELF_BUFB_LEN
  let ok := decide (len ≤ 49152) && (t.fld (Reg.SHELF_BUFA k b) Fld.SHELF_BUFA_VALID == 0 || len != 0)
  if s.ownersStopped k 2 b ∧ ok ∧ t.bufferFits k b then t else s.coreRej k
/-- The drift registers of a core (R105, R110). -/
def State.writeDrift (s : State) (k a v : Nat) : State :=
  let o := a % 0x100
  let w := s.merged a v
  let ok : Bool :=
    if o = 0x00 then decide (bits w 0 2 < 3)
    else if o = 0x04 then fieldsIn w [(24, 8, 1, 255), (16, 8, 1, 255), (8, 5, 16, 24), (0, 5, 12, 20)]
    else if o = 0x08 then fieldsIn w [(16, 16, 1, 65535), (0, 16, 1, 65535)]
    else if o = 0x0C then fieldsIn w [(24, 8, 1, 255), (16, 8, 1, 255), (8, 8, 1, 255)] && decide (bits w 0 8 ≤ bits w 8 8)
    else if o = 0x10 then fieldsIn w [(24, 8, 1, 255), (16, 8, 1, 255), (0, 8, 1, 255)] && decide (bits w 0 8 < bits w 8 8)
    else true
  if o = 0x18 then (((s.when (bitAt v 2) fun s => s.discardSet k).when (bitAt v 1) fun s => s.openRound k).when (bitAt v 0) fun s => s.arm k)
  else if o = 0x20 then s.shadowWrite k (BitVec.ofNat 32 v)
  else if o = 0x04 ∧ ok then (s.writeMasked a v).newWindows k
  else s.writeIf ok (Reg.CORE_DSTAT k) Fld.CORE_DSTAT_WREJ a v
/-- The registers of a router (R199, R202, R211, R228): refused writes set RTR_STAT.WREJ. -/
def State.rtrRej (s : State) (k : Nat) : State := s.setF (Reg.RTR_STAT k) Fld.RTR_STAT_WREJ 1
/-- RTR_SHARE (R199). -/
def State.writeShare (s : State) (base a v : Nat) : Option State :=
  let j := (a - base) / 4
  let w := s.merged a v
  let changed := (List.range 4).any fun i => bits w (8 * i) 7 != bits (s.rd a) (8 * i) 7 && s.run (4 * j + i) != 0
  let t := s.writeMasked a v
  let sum := sumNat 64 fun p => bits (t.rd (base + p / 4 * 4)) (8 * (p % 4)) 7
  if changed ∨ 64 < sum ∨ !fieldsIn w [(24, 7, 0, 64), (16, 7, 0, 64), (8, 7, 0, 64), (0, 7, 0, 64)] then none else some t
/-- RTR_RLSEG (R202): the segment may not overlap another's nor take in an entry of COUNT 0. The positions of the partition start anew. -/
def State.writeRlseg (s : State) (k p a v : Nat) : State :=
  let t := s.writeMasked a v
  let seg (q : Nat) : Nat × Nat := (t.fld (Reg.RTR_RLSEG k q) Fld.RTR_RLSEG_BASE, t.fld (Reg.RTR_RLSEG k q) Fld.RTR_RLSEG_COUNT)
  let x := seg p
  let ok := decide (x.1 + x.2 ≤ 2048) && (List.range 64).all (fun q => q == p || !overlaps x (seg q)) &&
    (List.range x.2).all fun i => t.fld (Reg.RTR_RLIST k (x.1 + i)) Fld.RTR_RLIST_COUNT != 0
  if s.run p ≠ 0 ∨ !ok then s.rtrRej k else t.forEach (List.range 8) fun s o => s.setRoutePos k o p {}
/-- RTR_RLIST (R202): the partition whose segment holds the entry must be stopped. -/
def State.writeRlist (s : State) (k i a v : Nat) : State :=
  let w := s.merged a v
  let owner := (List.range 64).find? fun q => overlaps (i, 1) (s.fld (Reg.RTR_RLSEG k q) Fld.RTR_RLSEG_BASE, s.fld (Reg.RTR_RLSEG k q) Fld.RTR_RLSEG_COUNT)
  let ok : Bool := match owner with
    | some q => s.run q == 0 && bits w 0 16 != 0
    | none => true
  if !ok ∨ (44 ≤ bits w 26 6 ∧ bits w 26 6 ≠ 0x3F) then s.rtrRej k else s.writeMasked a v
/-- A word of a reduction table entry (R211). -/
def State.writeRed (s : State) (k e a v : Nat) : State :=
  let t := s.writeMasked a v
  let valid (x : State) : Bool := x.fld (Reg.RTR_REDA k e) Fld.RTR_REDA_VALID == 1
  let part (x : State) (i : Nat) : Nat := x.fld (Reg.RTR_REDA k i) Fld.RTR_REDA_PART
  let rows (x : State) (i : Nat) : Nat × Nat := (x.fld (Reg.RTR_REDB k i) Fld.RTR_REDB_DROW, x.fld (Reg.RTR_REDA k i) Fld.RTR_REDA_NROWS)
  let rid (x : State) (i : Nat) : Nat := x.fld (Reg.RTR_REDB k i) Fld.RTR_REDB_RID
  let r := rows t e
  let fits := (t.ctxsOn (part t e) k).any fun n => decide (t.rowBase k n ≤ r.1) && decide (r.1 + r.2 ≤ t.rowBase k n + t.rowCount k n)
  let clash := (List.range 256).any fun i => i != e && t.fld (Reg.RTR_REDA k i) Fld.RTR_REDA_VALID == 1 && part t i == part t e && rid t i == rid t e && overlaps r (rows t i)
  let ok := decide (1 ≤ r.2) && decide (r.2 ≤ 64) && t.rd (Reg.RTR_REDC k e) != 0 && decide (r.1 + r.2 ≤ 49152) && fits && !clash
  if s.run (part t e) ≠ 0 ∨ (valid s ∧ s.run (part s e) ≠ 0) ∨ (valid t ∧ !ok) then s.rtrRej k else t
/-- The RTR block of a core window. -/
def State.writeRtr (s : State) (k c a v : Nat) : State :=
  if c < 0x78100 then s.writeMasked a v
  else if c < 0x78300 then match s.writeShare (Reg.RTR_SHARE k ((c - 0x78100) / 0x40) 0) a v with
    | some t => t
    | none => s.rtrRej k
  else if c < 0x79000 then s.writeRlseg k ((c - 0x78300) / 4) a v
  else if c < 0x7C000 then s.writeRlist k ((c - 0x79000) / 4) a v
  else s.writeRed k ((c - 0x7C000) / 0x20) a v
/-- The TILE block of a core window (R76, R86). -/
def State.writeTile (s : State) (k c a v : Nat) : State :=
  let t := (c - 0x80000) / 0x200
  let o := (c - 0x80000) % 0x200
  if o = 0x50 then (if bitAt v 0 then s.tileClr k t else s)
  else if o = 0x04 ∨ o = 0x44 then s.writeMasked a v
  else if writable a = 0 then s
  else s.tileCfgWrite k t o (writable a) v
/-- A core window. -/
def State.writeCore (s : State) (a v : Nat) : State :=
  let k := (a - 0x1000000) / 0x100000
  let c := a % 0x100000
  let w := s.merged a v
  if c = 4 then (if bits w 0 16 = 0 then s.coreRej k else s.writeMasked a v)
  else if inSpan c 0x100 0x180 then s.writeCtx k ((c - 0x100) / 0x20) a v
  else if inSpan c 0x200 0x280 then s.writeCtx k ((c - 0x200) / 0x20) a v
  else if inSpan c 0xC000 0x10000 then
    let l := (c - 0xC000) / 0x40
    if c % 0x40 = 0x20 then s.lthrWrite k l false v
    else if c % 0x40 = 0x24 then s.lthrWrite k l true v
    else if c % 0x40 = 0x2C then (if bitAt v 0 then s.layerClr k l else s)
    else s.writeMasked a v
  else if c = 0x10010 then (if bits w 0 16 = 0 then s.coreRej k else s.writeMasked a v)
  else if c = 0x10014 then (if 49152 ≤ bits w 0 16 then s.coreRej k else s.writeMasked a v)
  else if inSpan c 0x11000 0x11800 then s.writeBuf k ((c - 0x11000) / 8) a v
  else if inSpan c 0x28000 0x30000 then s.writeTable k 1 ((c - 0x28000) / 0x20) a v
  else if inSpan c 0x30000 0x31000 then s.writeTable k 4 ((c - 0x30000) / 0x10) a v
  else if inSpan c 0x31000 0x32000 then s.writeTable k 5 ((c - 0x31000) / 0x10) a v
  else if inSpan c 0x32000 0x32800 then s.writeTable k 6 ((c - 0x32000) / 8) a v
  else if inSpan c 0x40000 0x70000 then s.writePmem k ((c - 0x40000) / 4) a v
  else if inSpan c 0x70000 0x78000 then s.writeDrift k a v
  else if inSpan c 0x78000 0x80000 then s.writeRtr k c a v
  else if 0x80000 ≤ c then s.writeTile k c a v
  else s.writeMasked a v

/-! ### Link, HBM, CNET, FLS -/

/-- A refused write of a port (R302, R319). -/
def State.lnkRej (s : State) (i : Nat) : State := s.setF (Reg.LNK_STAT i) Fld.LNK_STAT_WREJ 1
/-- LNK_CTL (R298, R302, R369): the fields other than EN only while EN = 0; EN stays 0 until the interfaces open. -/
def State.writeLnkCtl (s : State) (i v : Nat) : State :=
  let a := Reg.LNK_CTL i
  let on := bitAt (s.rd a) 31
  let w := s.merged a v % 2 ^ 31
  if on ∧ w ≠ s.rd a % 2 ^ 31 then s.lnkRej i
  else if bits w 12 2 = 3 ∨ bits w 12 2 < bits w 10 2 then s.lnkRej i
  else
    let s := s.wr a (w + (if on then 2 ^ 31 else 0))
    if bitAt v 31 then (if s.phase < 8 ∨ 9 < s.phase then s else s.portEnable i) else if on then s.disablePort i else s
/-- The binding entries of a port as a write leaves them (R315, R318). -/
def State.bindingsOk (t : State) (i j : Nat) : Bool :=
  let valid (n : Nat) : Bool := bitAt (t.rd (Reg.LNK_PBA i n)) 31
  let part (n : Nat) : Nat := bits (t.rd (Reg.LNK_PBA i n)) 0 6
  let share (n : Nat) : Nat := bits (t.rd (Reg.LNK_PBA i n)) 16 7
  decide (share j ≤ 64) &&
    (!valid j || (bits (t.rd (Reg.LNK_PBB i j)) 0 16 != 0 && (List.range 64).all fun n => n == j || !valid n || part n != part j)) &&
    decide (sumNat 64 (fun n => if valid n then share n else 0) ≤ 64)
/-- A binding entry (R319). -/
def State.writeBinding (s : State) (i j a v : Nat) : State :=
  let t := s.writeMasked a v
  let named (x : State) : Bool := bitAt (x.rd (Reg.LNK_PBA i j)) 31 && x.run (bits (x.rd (Reg.LNK_PBA i j)) 0 6) != 0
  if named s ∨ named t ∨ !t.bindingsOk i j then s.lnkRej i else t
/-- A landing window as a write leaves it (R316). -/
def State.windowsOk (t : State) (i j : Nat) : Bool :=
  let a (n : Nat) : Nat := t.rd (Reg.LNK_LWA i n)
  let b (n : Nat) : Nat := t.rd (Reg.LNK_LWB i n)
  let rows (n : Nat) : Nat × Nat := (bits (a n) 0 16, bits (b n) 16 16)
  let node := bits (b j) 0 6
  (decide (node < 16) || node == 41) && decide ((rows j).1 ≤ 49151) && decide ((rows j).2 ≤ 49152) &&
    (!bitAt (a j) 31 || ((rows j).2 != 0 && decide ((rows j).1 + (rows j).2 ≤ 49152) &&
      (List.range 64).all fun n => n == j || !bitAt (a n) 31 || bits (a n) 16 6 != bits (a j) 16 6 || !overlaps (rows n) (rows j)))
/-- A landing window (R319). -/
def State.writeWindowReg (s : State) (i j a v : Nat) : State :=
  let t := s.writeMasked a v
  let named (x : State) : Bool := bitAt (x.rd (Reg.LNK_LWA i j)) 31 && x.run (bits (x.rd (Reg.LNK_LWA i j)) 16 6) != 0
  if named s ∨ named t ∨ !t.windowsOk i j then s.lnkRej i else t
/-- The common link registers (R322, R326, R341). -/
def State.writeLnkCommon (s : State) (a v : Nat) : State :=
  let w := s.merged a v
  if a = Reg.LNK_SCCTL then
    (if s.multiRuns then s.lnkRej 0 else
      let s := s.wr a w
      if bitAt v 31 then s.scArm else s)
  else if a = Reg.LNK_SCLOAD then (if s.multiRuns then s.lnkRej 0 else s.writeMasked a v)
  else if a = Reg.LNK_XTIME then
    (if s.multiRuns ∨ !fieldsIn w [(16, 16, 1, 65535), (0, 16, 1, 65535)] then s.lnkRej 0 else s.writeMasked a v)
  else s.writeMasked a v
/-- LNK (R302, R319, R340, R341). -/
def State.writeLnk (s : State) (a v : Nat) : State :=
  let i := (a - 0x2000000) / 0x10000
  let o := a % 0x10000
  let w := s.merged a v
  if 0x2100000 ≤ a then s.writeLnkCommon a v
  else if o = 0 then s.writeLnkCtl i v
  else if o = 0x10 then (if bitAt (s.rd (Reg.LNK_CTL i)) 31 then s.lnkRej i else s.writeMasked a v)
  else if o = 0x14 then (if fieldsIn w [(24, 8, 1, 255), (16, 8, 1, 255), (8, 8, 1, 255)] then s.writeMasked a v else s.lnkRej i)
  else if inSpan o 0x100 0x500 then s.writeBinding i ((o - 0x100) / 0x10) a v
  else if inSpan o 0x800 0xA00 then s.writeWindowReg i ((o - 0x800) / 8) a v
  else s.writeMasked a v
/-- HBM (R236, R240, R242). -/
def State.writeHbm (s : State) (a v : Nat) : State :=
  let m := (a - 0x2800000) / 0x10000
  let o := a % 0x10000
  let w := s.merged a v
  if inSpan a 0x2804000 0x2808000 then (if writable a = 0 then s else s.regionWrite ((a - 0x2804000) / 0x10) ((a - 0x2804000) % 0x10 / 4) v)
  else if inSpan a 0x2808000 0x280C000 then s.hmapWrite ((a - 0x2808000) / 4 / 64) ((a - 0x2808000) / 4 % 64) v
  else if o = 0x1C then (if bits w 0 16 = 0 then s.setF (Reg.HBM_STAT m) Fld.HBM_STAT_WREJ 1 else s.writeMasked a v)
  else if inSpan o 0x100 0x140 then match s.writeShare (Reg.HBM_SHARE m 0) a v with
    | some t => t
    | none => s.setF (Reg.HBM_STAT m) Fld.HBM_STAT_WREJ 1
  else s.writeMasked a v
/-- CNET (R229). -/
def State.writeCnet (s : State) (a v : Nat) : State :=
  let w := s.merged a v
  let ok : Bool :=
    if a = Reg.CNET_RECLTO then bits w 0 16 != 0
    else if 0x3000100 ≤ a ∧ a % 8 = 0 then s.run ((a - 0x3000100) / 8) == 0
    else true
  s.writeIf ok Reg.CNET_STAT Fld.CNET_STAT_WREJ a v
/-- FLS (R364). -/
def State.writeFls (s : State) (a v : Nat) : State :=
  let w := s.merged a v
  let p := bits v 0 6
  if a = Reg.FLS_LCMD then
    (if bits v 30 2 = 1 then s.loadCmd p (bits v 8 1) (bitAt v 29) { ce := 0, ue := 0, retries := 0 }
    else if bits v 30 2 = 2 then s.loadAbort p
    else if bits v 30 2 = 3 then s.setF Reg.FLS_STAT Fld.FLS_STAT_WREJ 1
    else s)
  else
    let ok : Bool := if a = Reg.FLS_PCTL then s.wts.loads.isEmpty && fieldsIn w [(8, 2, 1, 3), (0, 6, 8, 63)] else true
    s.writeIf ok Reg.FLS_STAT Fld.FLS_STAT_WREJ a v

/-! ### The write and the read of a register -/

/-- The blocks whose islands stop in Sleep (R427). -/
def islandStops (a : Nat) : Bool :=
  inSpan a 0x1000000 0x2100000 || inSpan a 0x2800000 0x2880000 || inSpan a 0x3000000 0x3001000 || inSpan a 0x800000 0x870000
/-- The part sleeps and the access reaches a stopped island (R427). -/
def State.asleep (s : State) (a : Nat) : Bool := s.fld Reg.PWR_STAT Fld.PWR_STAT_STATE == 2 && islandStops a
/-- A write of a register by its block (R539). -/
def State.writeBlock (s : State) (a v : Nat) : State :=
  if 0x10000000 ≤ a then s.writeVf ((a - 0x10000000) / 0x100000) (a % 0x100000) a v
  else if inSpan a 0x780000 0x780080 then s.writeMsixPf ((a - 0x780000) / 4) v
  else if (regRow a).isNone then s
  else if a < 0x1000 then s.writeGctl a v
  else if inSpan a 0x200000 0x202000 then s.writeSec a v
  else if inSpan a 0x300000 0x301000 then s.writeLog a v
  else if inSpan a 0x380000 0x381000 then s.writeMtr a v
  else if inSpan a 0x400000 0x401000 then s.writeClk a v
  else if inSpan a 0x480000 0x481000 then s.writePwr a v
  else if inSpan a 0x500000 0x501000 then s.writeMadc a v
  else if inSpan a 0x580000 0x581000 then s.writeThm a v
  else if inSpan a 0x600000 0x601000 then s.writeInd a v
  else if inSpan a 0x800000 0x840000 then s.writeSrv a v
  else if inSpan a 0x840000 0x870000 then s.writeAdp a v
  else if inSpan a 0x1000000 0x2000000 then s.writeCore a v
  else if inSpan a 0x2000000 0x2101000 then s.writeLnk a v
  else if inSpan a 0x2800000 0x2880000 then s.writeHbm a v
  else if inSpan a 0x3000000 0x3001000 then s.writeCnet a v
  else if inSpan a 0x3800000 0x3801000 then s.writeFls a v
  else s.writeMasked a v
/-- A write of a register (R15, R16, R427). -/
def State.writeReg (s : State) (a v : Nat) : State :=
  if s.asleep a then s.setF Reg.PWR_STAT Fld.PWR_STAT_SLPACC 1 else s.writeBlock a v
/-- REGISTER_WRITE (R15). -/
def execRegisterWrite (r : RegAddr) (v : Word) (s : State) : Host.Outcome State Fault Refusal := .next (s.writeReg r.off v.toNat)

/-- The low words of the 64-bit counters (R18). -/
def isLow (a : Nat) : Bool :=
  a == Reg.LOG_SEQ_LO || a == Reg.SRV_MT_LO || a == Reg.LNK_SC_LO ||
    (inSpan a 0x1000000 0x2000000 && ((inSpan (a % 0x100000) 0xC000 0x10000 && a % 0x40 == 0) || (decide (0x80000 ≤ a % 0x100000) && a % 0x200 == 0x1C))) ||
    (List.range 8).any fun m => a == Reg.HBM_RDG_LO m || a == Reg.HBM_WRG_LO m
/-- COUNTER_LOW_READ (R18): the low word is returned and the high word latched. -/
def State.readLow (s : State) (a : Nat) : State :=
  if s.asleep a then ({ s with host := { s.host with readData := 0xFFFFFFFF } }).setF Reg.PWR_STAT Fld.PWR_STAT_SLPACC 1
  else if !isLow a then s
  else { s with
    latches := SMap.set (fun _ => (0 : Word)) s.latches (a + 4) (BitVec.ofNat 32 (s.rd (a + 4)))
    host := { s.host with readData := s.rd a } }
def execCounterLowRead (r : RegAddr) (s : State) : Host.Outcome State Fault Refusal := .next (s.readLow r.off)

end Sys2Proof.Machine
end

