-- ==== Sys2Proof/Machine/Startup.lean ====
section
/-!
DEFINITION. Power-up, straps and slow inputs, the configuration image, and the phases of bring-up (R365 to R386, 11_startup.md).
-/
namespace Sys2Proof.Machine

/-- Bring-up is in a phase, and neither a supply sag nor a thermal shutdown has stopped the part (R386, R434, R455). -/
def State.inPhase (s : State) (n : Nat) : Bool := s.boot.pwrgood && s.phase == n && !s.pwr.dead && s.thm.step == 0

/-! ### Power and crystal -/

/-- The flash devices of a board, as they are when power first rises on them (log entry 28). -/
def State.fitBoard (s : State) (b : Board) : State :=
  { s with
    boot := { s.boot with
      copy0 := b.copy0
      copy1 := b.copy1 }
    wts := { s.wts with
      dir0 := b.dir0
      dir1 := b.dir1
      mapArea := b.mapArea
      lens := b.lens
      slot0 := b.slot0
      slot1 := b.slot1 }
    log := { s.log with test := b.test }
    core := { s.core with
      calInvalid := !b.calOk
      cal := b.cal.foldl (fun m e => SMap.set (fun _ => ({} : CalTile)) m e.1 e.2) []
      exc := b.exc.foldl (fun m e => SMap.set (fun _ => none) m e.1 (some e.2)) [] } }
/-- PWRGOOD_RISE (R366): a cold start from phase 1; while banking still runs it waits for its end (R569). `board` counts at the first
rise alone. -/
def State.powerUp (s : State) (board : Board) : State :=
  if s.boot.pwrgood then s
  else
    let s := s.when (s.boot.bootNo == 0) fun s => s.fitBoard board
    let s := { s with boot := { s.boot with pwrgood := true } }
    if s.pwr.banking ≠ [] then { s with boot := { s.boot with rise := true } } else s.bringUp 1 0
def execPwrgoodRise (board : Board) (s : State) : Host.Outcome State Fault Refusal := .next (s.powerUp board)

/-- PWRGOOD_FALL (R567, R569): taken as a sag when none has been acted on, so that banking runs when it is armed; the part is then
held in reset, with the always-on domain on, and a thermal shutdown ends (R455). -/
def State.powerDown (s : State) : State :=
  if !s.boot.pwrgood then s
  else
    let s := s.supplySag
    let s := { s with
      boot := { s.boot with
        pwrgood := false
        rise := false
        service := 0 }
      thm := { s.thm with staged := none } }
    (s.losePower).keepRegs fun a => if alwaysOn a then 0xFFFFFFFF else 0
def execPwrgoodFall (s : State) : Host.Outcome State Fault Refusal := .next s.powerDown

/-- CRYSTAL_DELAY_END (R394): the start delay is over and XPLL starts. -/
def execCrystalDelayEnd (s : State) : Host.Outcome State Fault Refusal :=
  .next (if s.boot.pwrgood ∧ !s.pwr.dead then { s with clk := { s.clk with crystal := true } } else s)
/-- XPLL_LOCK_TIMEOUT (R394): XPLL has not locked 1 ms after the delay. -/
def execXpllLockTimeout (s : State) : Host.Outcome State Fault Refusal :=
  .next (if s.clk.crystal ∧ !s.clk.xpll then s.setF Reg.CLK_STAT Fld.CLK_STAT_XLOSS 1 else s)

/-! ### Straps and slow inputs -/

/-- Phase 1 ends once every strap is latched and XPLL has locked in time (R365, R367, R394); at a cold start CLK_OSCDLY takes
STRAP_OSC, with 6 and 7 as 5. -/
def State.oscDone (s : State) : State :=
  if !s.inPhase 1 ∨ !s.boot.sampled ∨ s.boot.recheck ≠ 0 ∨ !s.clk.xpll ∨ s.fld Reg.CLK_STAT Fld.CLK_STAT_XLOSS = 1 then s
  else
    let o := s.fld Reg.GCTL_STRAP Fld.GCTL_STRAP_OSC
    let s := s.when (!s.boot.warm) fun s => s.setF Reg.CLK_OSCDLY Fld.CLK_OSCDLY_DLY (if 5 < o then 5 else o)
    s.romStart
/-- XPLL_LOCK (R394, R406). -/
def execXpllLock (s : State) : Host.Outcome State Fault Refusal :=
  .next (({ s with clk := { s.clk with crystal := true, xpll := true } }).autoReturn).oscDone

/-- The pull defaults of the strap pins (R372): OSC 0b101, the others 0. -/
def strapDefault : Nat := 5
/-- Latch the strap pins of a mask at the levels given (R373). -/
def State.latchStraps (s : State) (mask levels : Nat) : State :=
  s.forEach ((List.range 9).filter fun i => bitAt mask i) fun s i => s.setF Reg.GCTL_STRAP ⟨i, 1⟩ (bits levels i 1)
/-- The safe states of the slow inputs (R374): PWRFAIL and the rack-stop channels asserted, WAKE deasserted. -/
def slowSafe : Nat := 0b1101
/-- STRAP_LATCH (R373, R374): straps and slow inputs are sampled, with the pins that lie in their bands; after an exit from Off the
straps are not read again. -/
def State.strapLatch (s : State) (pins band slow slowBand : Nat) : State :=
  if !s.inPhase 1 ∨ !s.clk.crystal ∨ s.boot.sampled then s
  else
    let s := s.when (!s.boot.warm) fun s => s.latchStraps (511 ^^^ band) pins
    let s := (s.setF Reg.GCTL_INPUT Fld.GCTL_INPUT_BAND slowBand).setF Reg.GCTL_INPUT Fld.GCTL_INPUT_HELD slowBand
    let s := { s with boot := { s.boot with
      sampled := true
      recheck := if s.boot.warm then 0 else band
      slow := (slow &&& (15 ^^^ slowBand)) ||| (slowSafe &&& slowBand) } }
    s.oscDone
def execStrapLatch (pins : BitVec 9) (band : BitVec 9) (slow : BitVec 4) (slowBand : BitVec 4) (s : State) : Host.Outcome State Fault Refusal :=
  .next (s.strapLatch pins.toNat band.toNat slow.toNat slowBand.toNat)
/-- STRAP_RECHECK (R373): the pins found in their bands are read again after 10 ms; one still in its band takes its pull default. -/
def State.strapRecheck (s : State) (pins band : Nat) : State :=
  if !s.inPhase 1 ∨ s.boot.recheck = 0 then s
  else
    let r := s.boot.recheck
    let s := s.latchStraps (r &&& (511 ^^^ band)) pins
    let s := s.latchStraps (r &&& band) strapDefault
    let s := s.setF Reg.GCTL_STRAP Fld.GCTL_STRAP_BAND (r &&& band)
    ({ s with boot := { s.boot with recheck := 0 } }).oscDone
def execStrapRecheck (pins : BitVec 9) (band : BitVec 9) (s : State) : Host.Outcome State Fault Refusal := .next (s.strapRecheck pins.toNat band.toNat)
/-- SLOW_INPUT_QUALIFIED (R374): the 10 ms of an input held in its safe state end; one found back inside its band starts them again.
A rack-stop channel that leaves the safe state changes its accepted level by debouncing alone (R531); PWRFAIL and WAKE take the
level read. -/
def State.slowQualified (s : State) (i : Nat) (asserted inBand : Bool) : State :=
  if inBand ∨ !bitAt (s.fld Reg.GCTL_INPUT Fld.GCTL_INPUT_HELD) i then s
  else
    let s := s.setF Reg.GCTL_INPUT ⟨8 + i, 1⟩ 0
    if i < 2 then { s with boot := { s.boot with slow := putBit s.boot.slow i asserted } } else s
def execSlowInputQualified (i : QuadNo) (asserted : Bool) (inBand : Bool) (s : State) : Host.Outcome State Fault Refusal :=
  .next (s.slowQualified i.val asserted inBand)

/-! ### The configuration copies -/

/-- The verdict of R379 on a copy, step 5 apart: the reason code, 0 when it passes. -/
def State.copyReason (s : State) (c : Option CfgImage) : Nat :=
  match c with
  | none => 1
  | some img =>
    let v := s.copyVerdict img
    if v ≠ 0 then v else if [0x10, 1, 2, 0x32].all fun t => (img.recs.filter fun r => r.type == t).length == 1 then 0 else 1
/-- A copy passes (R379): its firmware runs, and phase 4 begins. -/
def State.copyPasses (s : State) (n : Nat) (img : CfgImage) : State :=
  let s := s.setF Reg.CFG_BOOT Fld.CFG_BOOT_COPY n
  let s := s.setF Reg.CFG_BOOT Fld.CFG_BOOT_FALLBACK (b2n (s.boot.tried != 0))
  let s := s.wr Reg.CFG_ID img.configId
  let s := s.wr Reg.CFG_SVN img.svn
  let s := s.setF Reg.CFG_BOOT Fld.CFG_BOOT_PHASE 4
  { s with boot := { s.boot with image := some img, order := 1 } }
/-- CONFIG_COPY_READ (R375, R379): the copy that STRAP_COPY names, and when it fails the other one, is read and judged. The verdict
waits for Psikuster's tests and, in phase 2, for PWRFAIL to be deasserted. -/
def State.copyRead (s : State) : State :=
  if !s.inPhase 2 ∨ !s.boot.selfOk ∨ bitAt s.boot.slow 0 then s
  else
    let n := (s.fld Reg.GCTL_STRAP Fld.GCTL_STRAP_COPY + s.boot.tried) % 2
    let c := if n = 0 then s.boot.copy0 else s.boot.copy1
    let r := s.copyReason c
    if r ≠ 0 then
      if s.boot.tried = 0 then { s.setF Reg.CFG_BOOT Fld.CFG_BOOT_REASON0 r with boot := { s.boot with tried := 1 } } else s.bootFail r
    else match c with
      | some img => s.copyPasses n img
      | none => s
def execConfigCopyRead (s : State) : Host.Outcome State Fault Refusal := .next s.copyRead

/-! ### Records -/

/-- The record types by order (R380). -/
def recOrder : List Nat := [0x10, 0x13, 0x11, 0x12, 0x14, 0x15, 0x16, 0x17, 0x22, 0x20, 0x21, 0x30, 0x31, 0x32]
/-- The register blocks that a write of a record type may name (R380). -/
def recAllows (type a : Nat) : Bool :=
  match type with
  | 0x11 => inSpan a 0x400000 0x401000
  | 0x12 => inSpan a 0x400000 0x401000 || inSpan a 0x480000 0x481000
  | 0x14 => inSpan a 0x480000 0x481000
  | 0x15 => inSpan a 0x580000 0x581000
  | 0x16 => inSpan a 0x500000 0x501000
  | 0x17 => inSpan a 0x600000 0x601000
  | 0x20 => inSpan a 0x1000000 0x2000000 || inSpan a 0x2800000 0x2880000 || inSpan a 0x3000000 0x3001000 || inSpan a 0x800000 0x870000
  | 0x21 => inSpan a 0x2000000 0x2101000 && a != Reg.LNK_CHIP
  | _ => false
/-- The WREJ bits that a refused write at an offset may set. -/
def wrejBits (a : Nat) : List (Nat × Fld) :=
  if inSpan a 0x400000 0x401000 then [(Reg.CLK_STAT, Fld.CLK_STAT_WREJ)]
  else if inSpan a 0x480000 0x481000 then [(Reg.PWR_STAT, Fld.PWR_STAT_WREJ)]
  else if inSpan a 0x500000 0x501000 then [(Reg.MADC_STAT, Fld.MADC_STAT_WREJ)]
  else if inSpan a 0x580000 0x581000 then [(Reg.THM_STAT, Fld.THM_STAT_WREJ)]
  else if inSpan a 0x600000 0x601000 then [(Reg.IND_STAT, Fld.IND_STAT_WREJ)]
  else if inSpan a 0x800000 0x870000 then [(Reg.SRV_STAT, Fld.SRV_STAT_WREJ)]
  else if inSpan a 0x1000000 0x2000000 then
    let k := (a - 0x1000000) / 0x100000
    [(Reg.CORE_STAT k, Fld.CORE_STAT_WREJ), (Reg.CORE_DSTAT k, Fld.CORE_DSTAT_WREJ), (Reg.RTR_STAT k, Fld.RTR_STAT_WREJ)] ++
      (if 0x80000 ≤ a % 0x100000 then [(Reg.TILE_STAT k (a % 0x80000 / 0x200), Fld.TILE_STAT_WREJ)] else [])
  else if inSpan a 0x2000000 0x2100000 then [(Reg.LNK_STAT ((a - 0x2000000) / 0x10000), Fld.LNK_STAT_WREJ)]
  else if inSpan a 0x2100000 0x2101000 then [(Reg.LNK_STAT 0, Fld.LNK_STAT_WREJ)]
  else if inSpan a 0x2800000 0x2880000 then [(Reg.HBM_STAT ((a - 0x2800000) / 0x10000), Fld.HBM_STAT_WREJ), (Reg.HBM_STAT 0, Fld.HBM_STAT_WREJ)]
  else if inSpan a 0x3000000 0x3001000 then [(Reg.CNET_STAT, Fld.CNET_STAT_WREJ)]
  else []
/-- CFG_BOOTREC names a record and an entry of it, and bring-up fails (R381). -/
def State.recFail (s : State) (i j reason : Nat) : State :=
  let s := (s.setF Reg.CFG_BOOTREC Fld.CFG_BOOTREC_RECORD i).setF Reg.CFG_BOOTREC Fld.CFG_BOOTREC_ENTRY j
  s.bootFail reason
/-- One register write of a record (R381). -/
def State.cfgWrite (s : State) (type i j : Nat) (w : Nat × Nat) : State :=
  if s.phase = 15 then s
  else if !recAllows type w.1 ∨ w.1 % 4 ≠ 0 ∨ (bitAt w.2 31 ∧ (List.range 16).any fun p => w.1 == Reg.LNK_CTL p) then s.recFail i j 9
  else
    let l := wrejBits w.1
    let set := l.filter fun x => s.fld x.1 x.2 == 1
    let t := (s.forEach l fun s x => s.setF x.1 x.2 0).writeReg w.1 w.2
    if l.any fun x => t.fld x.1 x.2 == 1 then t.recFail i j 10 else t.forEach set fun s x => s.setF x.1 x.2 1
/-- Apply one record (R380 to R383); i is its index in image order. -/
def State.applyRec (s : State) (i : Nat) (r : CfgRec) : State :=
  if s.phase = 15 then s
  else match r.body with
    | .ident chip lock => s.wr Reg.LNK_CHIP (chip % 4096 + (if lock then 2 ^ 31 else 0))
    | .pmbus ents => { s with boot := { s.boot with pmbus := s.boot.pmbus ++ ents.zipIdx.map fun e => (i, e.2, e.1) } }
    | .writes ws => s.forEach ws.zipIdx fun s e => s.cfgWrite r.type i e.2 e.1
    | .test cores fp tmax => { s with boot := { s.boot with test := some (cores, fp, tmax) } }
    | .bootact acts =>
      let all := s.boot.acts.map (·.part)
      match findIdx1 (fun (e : BootAct × Nat) => (all ++ (acts.take e.2).map (·.part)).contains e.1.part) acts.zipIdx with
      | some (j, _) => s.recFail i j 9
      | none => { s with boot := { s.boot with acts := s.boot.acts ++ acts } }
    | .opens en => { s with boot := { s.boot with portEn := en } }
    | _ => s
/-- The records of the image in force, with their indices. -/
def State.cfgRecs (s : State) : List (CfgRec × Nat) := match s.boot.image with
  | some img => img.recs.zipIdx
  | none => []
/-- Apply every record of an order (R380). The entries of the TENANT records go to Psikuster together (R494). -/
def State.applyOrder (s : State) (o : Nat) : State :=
  let rs := s.cfgRecs.filter fun e => e.1.type == nth 0 recOrder (o - 1)
  if s.phase = 15 then s
  else if o = 9 then
    let bodies := rs.filterMap fun e => match e.1.body with
      | .tenant lock ents => some (lock, ents)
      | _ => none
    if bodies = [] then s else s.applyTenants (bodies.any (·.1)) (bodies.flatMap (·.2))
  else s.forEach rs fun s e => s.applyRec e.2 e.1
/-- Records of unlisted types (R380): skipped and counted, or a failure when critical. -/
def State.skipRecs (s : State) : State :=
  s.forEach (s.cfgRecs.filter fun e => !(recOrder ++ [1, 2]).contains e.1.type) fun s e =>
    if s.phase = 15 then s
    else if e.1.crit then s.recFail e.2 0 8
    else s.inc Reg.CFG_SKIPCNT 1

/-! ### What firmware does at phase 4 beside the records -/

/-- One page of the save set is applied (R433, R435, R482). -/
def State.applyPage (s : State) (pg : SavePage) : State :=
  match pg.body with
  | .counters m l _ =>
    let s := { s with hbm := { s.hbm with moveseq := max s.hbm.moveseq m } }
    s.wr64 Reg.LOG_SEQ_LO (max (s.rd64 Reg.LOG_SEQ_LO) l)
  | .journal ents =>
    s.forEach ents fun s e => { s with wts := { s.wts with
      jtiles := SMap.set (fun _ => 0) s.wts.jtiles e.1 e.2
      jstore := SMap.set (fun _ => 0) s.wts.jstore e.1 e.2 } }
  | .faults ds =>
    s.forEach (ds.filter fun d => !(s.log.queue.any fun x => x.seq == d.seq)) fun s d => s.stageSherd { d with flags := d.flags ||| 2 }
  | .meters ms =>
    s.forEach ms fun s e => { s with mgmt := { s.mgmt with
      meters := SMap.set (fun _ => {}) s.mgmt.meters e.1 e.2
      stored := SMap.set (fun _ => {}) s.mgmt.stored e.1 e.2 } }
  | _ => s
def SavePage.isNote (pg : SavePage) : Bool := match pg.body with
  | .note _ => true
  | _ => false
def SavePage.isHeader (pg : SavePage) : Bool := match pg.body with
  | .header _ _ _ => true
  | _ => false
/-- Hold-up recovery (R435): HOLD_LAST, the pages of the written half, its erase; MOVESEQ advances when the loss was not banked
whole (R251). -/
def State.holdRecovery (s : State) : State :=
  let half := if s.pwr.half = 0 then s.pwr.save0 else s.pwr.save1
  let notes := half.filter SavePage.isNote
  let bank := half.filter fun pg => !pg.isNote && pg.crcOk
  let hdr := bank.filter SavePage.isHeader
  let sq := match hdr.getLast? with
    | some h => h.seq
    | none => bank.foldl (fun m pg => max m pg.seq) 0
  let use := bank.filter fun pg => pg.seq == sq
  let loss := !s.boot.warm && !s.pwr.rested
  let result := if !s.pwr.session then 0 else if !loss then 1 else if bank = [] then 4 else if hdr = [] then 3 else 2
  let s := s.forEach use State.applyPage
  let s := (s.setF Reg.HOLD_LAST Fld.HOLD_LAST_RESULT result).setF Reg.HOLD_LAST Fld.HOLD_LAST_PAGES use.length
  let s := s.setF Reg.HOLD_LAST Fld.HOLD_LAST_NOTES (min 15 notes.length)
  let s := s.when (result == 3 || result == 4) fun s => { s with hbm := { s.hbm with moveseq := (s.hbm.moveseq + 2 ^ 32) % 2 ^ 64 } }
  let w := { s.pwr with session := true, rested := false }
  if s.pwr.half = 0 then { s with pwr := { w with save0 := [], erased0 := true } } else { s with pwr := { w with save1 := [], erased1 := true } }
/-- The calibration record (R91, R92): sherd 0x0060 when it does not check, else a fence of each tile that failed calibration. -/
def State.calibrationCheck (s : State) : State :=
  if s.core.calInvalid then s.sherd { code := 0x60, sev := 2, unit := unitStore }
  else
    s.forEach ((s.core.cal.filter fun e => !e.2.passed).map (·.1)) fun s key =>
      let k := key / 1024
      let t := key % 1024
      if s.tileFence k t ≠ 0 then s.sherd { code := 0x10, sev := 3, part := s.groupPart k (t / 64), unit := unitTile k t, detail := [(48, 4)] }
      else s.fenceTile k t 4
/-- The reserved log sector and the shutdown area are read (R458, R481): entries above the last exported and the last reported. -/
def State.readRecords (s : State) : State :=
  let ds := (s.log.resv.filterMap (·.2)).filter fun (d : Sherd) => decide (s.log.resvLast < d.seq)
  let s : State := s.forEach (ds.mergeSort fun (a b : Sherd) => decide (a.seq ≤ b.seq)) State.export
  let s : State := { s with log := { s.log with resvLast := ds.foldl (fun (m : Nat) (d : Sherd) => max m d.seq) s.log.resvLast } }
  let rs := s.thm.area.filter fun r => decide (s.thm.reported < r.seq)
  let s : State := s.forEach rs fun s r => s.sherd { code := 0x55, sev := 4, unit := unitPart, detail := [(48, r.seq % 2 ^ 32), (52, r.seq / 2 ^ 32)] }
  let s : State := s.setF Reg.THM_STAT Fld.THM_STAT_NOREC (if s.thm.noRec then 1 else s.fld Reg.THM_STAT Fld.THM_STAT_NOREC)
  let pages := if s.thm.erasedPages < 256 then s.thm.erasedPages + 256 else s.thm.erasedPages
  { s with thm := { s.thm with
    reported := rs.foldl (fun (m : Nat) (r : ShutRec) => max m r.seq) s.thm.reported
    noRec := false
    erasedPages := pages
    area := s.thm.area.drop (s.thm.area.length + pages - 2048) } }
/-- The flash directory is read, and FLS_PLOAD shows how each partition's last load ended (R343, R358). -/
def State.readDirectory (s : State) : State :=
  let s := s.setF Reg.FLS_STAT Fld.FLS_STAT_DIRVALID (b2n (s.wts.dir0 || s.wts.dir1))
  let s := s.setF Reg.FLS_STAT Fld.FLS_STAT_DIRONE (b2n (s.wts.dir0 != s.wts.dir1))
  s.forEach (List.range 64) fun s p => s.when ((s.jpart p).state != 2) fun s => s.setF (Reg.FLS_PLOAD p) Fld.FLS_PLOAD_STATE (s.jpart p).state
/-- What firmware does at order 1 beside the IDENT record (R380, R420, R435, R458, R470, R481). -/
def State.firmwareStart (s : State) : State :=
  let s := s.padRelease 0b010110
  let s := s.holdRecovery
  let s := s.readDirectory
  let s := s.applyFences
  let s := s.calibrationCheck
  s.readRecords

/-- CONFIG_APPLY (R380): in phase 4, first what comes before the PMBus entries (R382), then, once these are done, the records of orders 3
to 9, after which phase 5 begins. -/
def State.configApply (s : State) : State :=
  if !s.inPhase 4 ∨ s.boot.pmbus ≠ [] then s
  else
    let s := if s.boot.order ≠ 1 then s else
      let t := (((s.firmwareStart).skipRecs).applyOrder 1).applyOrder 2
      { t with boot := { t.boot with order := 3 } }
    if s.boot.pmbus ≠ [] ∨ s.phase = 15 then s
    else
      let s := s.forEach [3, 4, 5, 6, 7, 8, 9] State.applyOrder
      if s.phase = 15 then s
      else (({ s with boot := { s.boot with order := 10 } }).setF Reg.CFG_BOOT Fld.CFG_BOOT_PHASE 5).judgeArmed
def execConfigApply (s : State) : Host.Outcome State Fault Refusal := .next s.configApply

/-- PMBUS_TRANSACTION (R382): the next entry is carried out; `ack` and `data` are what the device answers. A wait, and an entry of an
illegal KIND, take no answer. -/
def State.pmbusTransaction (s : State) (ack : Bool) (data : Nat) : State :=
  match s.boot.pmbus with
  | [] => s
  | (i, j, e) :: rest =>
    let done := { s with boot := { s.boot with
      pmbus := rest
      tries := 0
      fails := 0 } }
    if !s.inPhase 4 then s
    else if 4 ≤ e.kind then done
    else if !ack then
      if 2 ≤ s.boot.tries then s.recFail i j 11 else { s with boot := { s.boot with tries := s.boot.tries + 1 } }
    else if e.kind = 3 ∧ data &&& e.aux ≠ e.data &&& e.aux then
      if 2 ≤ s.boot.fails then s.recFail i j 12
      else { s with boot := { s.boot with
        tries := 0
        fails := s.boot.fails + 1 } }
    else done
def execPmbusTransaction (ack : Bool) (data : BitVec 16) (s : State) : Host.Outcome State Fault Refusal := .next (s.pmbusTransaction ack data.toNat)

/-! ### Stacks, test, weights, interfaces -/

/-- HBM_TRAINING_DONE (R231, R244, R384): training ends; `bad` names the stacks that failed, `repaired` the recorded DRAM rows whose hard
repair was made. With every stack trained the records of orders 10 to 14 are applied, and phase 6 or 7 begins. -/
def State.trainingDone (s : State) (bad : Nat) (repaired : List Nat) : State :=
  if !s.inPhase 5 then s
  else if bad ≠ 0 then (s.forEach ((List.range 8).filter fun m => bitAt bad m) State.stackFailure).bootFail 13
  else
    let s := { s with hbm := { s.hbm with repair := s.hbm.repair.filter fun k => !repaired.contains k } }
    let s := s.forEach (List.range 8) State.stackTrained
    let s := s.forEach [10, 11, 12, 13, 14] State.applyOrder
    if s.phase = 15 then s
    else match s.boot.test with
      | none => s.setF Reg.CFG_BOOT Fld.CFG_BOOT_PHASE 7
      | some (cores, _, _) =>
        let s := (s.setF Reg.CFG_BOOT Fld.CFG_BOOT_PHASE 6).testStart cores true
        if s.fld Reg.LOG_TSTAT Fld.LOG_TSTAT_BUSY = 1 then s else s.setF Reg.CFG_BOOT Fld.CFG_BOOT_PHASE 7
def execHbmTrainingDone (bad : BitVec 8) (repaired : List Nat) (s : State) : Host.Outcome State Fault Refusal := .next (s.trainingDone bad.toNat repaired)

/-- TEST_PHASE_TIMEOUT (R384): the test has outlasted TMAX. -/
def execTestPhaseTimeout (s : State) : Host.Outcome State Fault Refusal :=
  .next (
    if !s.inPhase 6 then s
    else
      let s := (s.setF Reg.LOG_TSTAT Fld.LOG_TSTAT_BUSY 0).setF Reg.LOG_TCMD Fld.LOG_TCMD_GO 0
      ({ s with log := { s.log with
        testLeft := []
        testRound := []
        testBoot := false } }).bootFail 15)

/-- One boot action (R383). -/
def State.bootAct (s : State) (a : BootAct) (r : FlashRead) : State :=
  match a.action with
  | 1 => s.restorePart a.part
  | 2 => s.loadCmd a.part (s.jpart a.part).slot true r
  | 3 => s.loadCmd a.part 0 false r
  | 4 => s.loadCmd a.part 1 false r
  | _ => s
/-- BOOT_ACTIONS (R375, R383): in phase 7, once neither rack-stop channel is asserted; `reads` are the flash counts of the actions in
their order. -/
def State.bootActions (s : State) (reads : List FlashRead) : State :=
  if !s.inPhase 7 ∨ s.boot.acted ∨ bits (s.rd Reg.IND_RSSTAT) 0 2 ≠ 0 then s
  else
    let s := { s with boot := { s.boot with acted := true } }
    if s.fld Reg.GCTL_STRAP Fld.GCTL_STRAP_NOLOAD = 1 then s
    else
      let named := s.boot.acts.map (·.part)
      let s := s.forEach s.boot.acts.zipIdx fun s e => s.bootAct e.1 (nth ⟨0, 0, 0⟩ reads e.2)
      s.forEach ((List.range 64).filter fun p => !named.contains p) State.restorePart
def execBootActions (reads : List FlashRead) (s : State) : Host.Outcome State Fault Refusal := .next (s.bootActions reads)

/-- A START of a boot action at READY (R383): not acted on when the action's load failed. -/
def State.bootStart (s : State) (a : BootAct) : State :=
  if !a.start ∨ (2 ≤ a.action ∧ a.action ≤ 4 ∧ s.fld (Reg.FLS_PLOAD a.part) Fld.FLS_PLOAD_STATE ≠ 2) then s else s.startCommand a.part false
/-- INTERFACES_OPEN (R369, R383, R470): once the loads of phase 7 have ended, the ports of PORTEN train, and the part enters READY. -/
def State.interfacesOpen (s : State) : State :=
  if !s.inPhase 7 ∨ !s.boot.acted ∨ s.wts.loads ≠ [] then s
  else
    let s := s.setF Reg.CFG_BOOT Fld.CFG_BOOT_PHASE 8
    let s := s.forEach ((List.range 16).filter fun i => bitAt s.boot.portEn i) State.portEnable
    let s := (s.setF Reg.CFG_BOOT Fld.CFG_BOOT_PHASE 9).stampTime
    let s := { s with boot := { s.boot with service := 0 } }
    let s := s.when s.partnReached fun s => s.partFail 0x12
    s.forEach s.boot.acts State.bootStart
def execInterfacesOpen (s : State) : Host.Outcome State Fault Refusal := .next s.interfacesOpen

/-- RESTART (R366, R385, R455): a write of GCTL_RESET, or the management restart, which acts as one; over Ethernet it needs a session
but in FAILED and in a thermal shutdown (R510). -/
def State.restart (s : State) (via : RestartVia) : State :=
  match via with
  | .register v => s.writeReset v.toNat
  | .management c sess =>
    let early := s.phase == 15 || (s.shutDown && s.coolEnough)
    s.request c sess "Restart" (if s.phase = 15 ∨ s.shutDown then .open_ else .sessionOnEth) early fun s answer =>
      if s.allStopped then (answer .success [] s).writeReset 0xB007 else answer .refused [] s
def execRestart (via : RestartVia) (s : State) : Host.Outcome State Fault Refusal := .next (s.restart via)

end Sys2Proof.Machine
end

