-- ==== Sys2Proof/Machine/Dispatch.lean ====
section
/-!
DEFINITION. One arm for each command of Syntax.lean: the command's effect on everything but the queue.
-/
namespace Sys2Proof.Machine

/-- The effect of a command (the queue of waiting commands is no part of it). -/
def exec (i : Instr) (s : State) : Host.Outcome State Fault Refusal :=
  match i with
  | .registerWrite r v => Sys2Proof.Machine.execRegisterWrite r v s
  | .counterLowRead r => Sys2Proof.Machine.execCounterLowRead r s
  | .logQstatRead => Sys2Proof.Machine.execLogQstatRead s
  | .barMisalignedAccess off size => Sys2Proof.Machine.execBarMisalignedAccess off size s
  | .layerClr k layer => Sys2Proof.Machine.execLayerClr k layer s
  | .lthrWrite k layer hi w => Sys2Proof.Machine.execLthrWrite k layer hi w s
  | .tileReadStart k t => Sys2Proof.Machine.execTileReadStart k t s
  | .tileCheck k t => Sys2Proof.Machine.execTileCheck k t s
  | .tileDeliver k t => Sys2Proof.Machine.execTileDeliver k t s
  | .flagWindowEnd k t => Sys2Proof.Machine.execFlagWindowEnd k t s
  | .tileFlagwinWrite k t v => Sys2Proof.Machine.execTileFlagwinWrite k t v s
  | .tileClr k t => Sys2Proof.Machine.execTileClr k t s
  | .accumulate k g => Sys2Proof.Machine.execAccumulate k g s
  | .refWindowClose k t => Sys2Proof.Machine.execRefWindowClose k t s
  | .colWindowClose k t => Sys2Proof.Machine.execColWindowClose k t s
  | .roundTimer k => Sys2Proof.Machine.execRoundTimer k s
  | .tempRoundTrigger k => Sys2Proof.Machine.execTempRoundTrigger k s
  | .build k => Sys2Proof.Machine.execBuild k s
  | .buildComplete k => Sys2Proof.Machine.execBuildComplete k s
  | .arm k => Sys2Proof.Machine.execArm k s
  | .discardSet k => Sys2Proof.Machine.execDiscardSet k s
  | .shadowWordWrite k v => Sys2Proof.Machine.execShadowWordWrite k v s
  | .idlePeriodFlip p => Sys2Proof.Machine.execIdlePeriodFlip p s
  | .dispatch k n => Sys2Proof.Machine.execDispatch k n s
  | .nop k n => Sys2Proof.Machine.execNop k n s
  | .copy k n => Sys2Proof.Machine.execCopy k n s
  | .copyk k n => Sys2Proof.Machine.execCopyk k n s
  | .fillz k n => Sys2Proof.Machine.execFillz k n s
  | .mmnt k n => Sys2Proof.Machine.execMmnt k n s
  | .mmnn k n => Sys2Proof.Machine.execMmnn k n s
  | .merge k n => Sys2Proof.Machine.execMerge k n s
  | .conv k n => Sys2Proof.Machine.execConv k n s
  | .func k n => Sys2Proof.Machine.execFunc k n s
  | .add k n => Sys2Proof.Machine.execAdd k n s
  | .mul k n => Sys2Proof.Machine.execMul k n s
  | .reduce k n => Sys2Proof.Machine.execReduce k n s
  | .bscale k n => Sys2Proof.Machine.execBscale k n s
  | .send k n => Sys2Proof.Machine.execSend k n s
  | .sendk k n => Sys2Proof.Machine.execSendk k n s
  | .enqT k n => Sys2Proof.Machine.execEnqT k n s
  | .enqS k n => Sys2Proof.Machine.execEnqS k n s
  | .clr k n => Sys2Proof.Machine.execClr k n s
  | .jump k n => Sys2Proof.Machine.execJump k n s
  | .loop k n => Sys2Proof.Machine.execLoop k n s
  | .setl k n => Sys2Proof.Machine.execSetl k n s
  | .seta k n => Sys2Proof.Machine.execSeta k n s
  | .adda k n => Sys2Proof.Machine.execAdda k n s
  | .waitAbs k n => Sys2Proof.Machine.execWaitAbs k n s
  | .waitOut k n => Sys2Proof.Machine.execWaitOut k n s
  | .waitSatisfied k n => Sys2Proof.Machine.execWaitSatisfied k n s
  | .switch k n => Sys2Proof.Machine.execSwitch k n s
  | .switchComplete k n => Sys2Proof.Machine.execSwitchComplete k n s
  | .barrier k n => Sys2Proof.Machine.execBarrier k n s
  | .step k n => Sys2Proof.Machine.execStep k n s
  | .stepDrained k n => Sys2Proof.Machine.execStepDrained k n s
  | .drain k n => Sys2Proof.Machine.execDrain k n s
  | .drainComplete k n => Sys2Proof.Machine.execDrainComplete k n s
  | .event k n => Sys2Proof.Machine.execEvent k n s
  | .halt k n => Sys2Proof.Machine.execHalt k n s
  | .haltComplete k n => Sys2Proof.Machine.execHaltComplete k n s
  | .watchdogExpiry k n => Sys2Proof.Machine.execWatchdogExpiry k n s
  | .blockedAccessRetry k w => Sys2Proof.Machine.execBlockedAccessRetry k w s
  | .scrubRow k found => Sys2Proof.Machine.execScrubRow k found s
  | .descriptorStart k q => Sys2Proof.Machine.execDescriptorStart k q s
  | .descriptorRowLand k q j n0 cycles => Sys2Proof.Machine.execDescriptorRowLand k q j n0 cycles s
  | .descriptorComplete k q => Sys2Proof.Machine.execDescriptorComplete k q s
  | .routerForward r o sb dat => Sys2Proof.Machine.execRouterForward r o sb dat s
  | .meshRowDeliver k n => Sys2Proof.Machine.execMeshRowDeliver k n s
  | .reduceRowArrive k n => Sys2Proof.Machine.execReduceRowArrive k n s
  | .barArrive k p => Sys2Proof.Machine.execBarArrive k p s
  | .barQuery node p => Sys2Proof.Machine.execBarQuery node p s
  | .barCount node p => Sys2Proof.Machine.execBarCount node p s
  | .barRequeryTimer p => Sys2Proof.Machine.execBarRequeryTimer p s
  | .barRelease k p => Sys2Proof.Machine.execBarRelease k p s
  | .stepDone k p => Sys2Proof.Machine.execStepDone k p s
  | .boundary k p => Sys2Proof.Machine.execBoundary k p s
  | .boundaryAck k p => Sys2Proof.Machine.execBoundaryAck k p s
  | .stepStart k p => Sys2Proof.Machine.execStepStart k p s
  | .pstop node p => Sys2Proof.Machine.execPstop node p s
  | .pstart node p => Sys2Proof.Machine.execPstart node p s
  | .forceSched k n => Sys2Proof.Machine.execForceSched k n s
  | .discard node p => Sys2Proof.Machine.execDiscard node p s
  | .creditReclaim r p => Sys2Proof.Machine.execCreditReclaim r p s
  | .tagReclaim k n => Sys2Proof.Machine.execTagReclaim k n s
  | .reclaimDone node p => Sys2Proof.Machine.execReclaimDone node p s
  | .fault node p taken bad => Sys2Proof.Machine.execFault node p taken bad s
  | .incomplete n0 p taken => Sys2Proof.Machine.execIncomplete n0 p taken s
  | .cnetEvent k taken bad => Sys2Proof.Machine.execCnetEvent k taken bad s
  | .sched k p => Sys2Proof.Machine.execSched k p s
  | .telem node p arg taken bad => Sys2Proof.Machine.execTelem node p arg taken bad s
  | .reclaim p dead => Sys2Proof.Machine.execReclaim p dead s
  | .reclaimTimeout p => Sys2Proof.Machine.execReclaimTimeout p s
  | .firingImageLoad p image routes => Sys2Proof.Machine.execFiringImageLoad p image routes s
  | .routeSetLoad p image routes => Sys2Proof.Machine.execRouteSetLoad p image routes s
  | .regionWrite x w => Sys2Proof.Machine.execRegionWrite x w s
  | .initFillComplete r => Sys2Proof.Machine.execInitFillComplete r s
  | .hbmRequest m => Sys2Proof.Machine.execHbmRequest m s
  | .hbmReadData m j found => Sys2Proof.Machine.execHbmReadData m j found s
  | .hbmWriteAck m => Sys2Proof.Machine.execHbmWriteAck m s
  | .patrolScrub m found => Sys2Proof.Machine.execPatrolScrub m found s
  | .ceWindowEnd m => Sys2Proof.Machine.execCeWindowEnd m s
  | .kvMoveOut c b found lend => Sys2Proof.Machine.execKvMoveOut c b found lend s
  | .kvMoveOutConfirm c b result => Sys2Proof.Machine.execKvMoveOutConfirm c b result s
  | .kvMoveIn c b t => Sys2Proof.Machine.execKvMoveIn c b t s
  | .kvMoveInDone c b => Sys2Proof.Machine.execKvMoveInDone c b s
  | .admitStream p cid rec now => Sys2Proof.Machine.execAdmitStream p cid rec now s
  | .cancel p cid => Sys2Proof.Machine.execCancel p cid s
  | .stepCommit p now => Sys2Proof.Machine.execStepCommit p now s
  | .stepGrant p => Sys2Proof.Machine.execStepGrant p s
  | .replay p => Sys2Proof.Machine.execReplay p s
  | .parkTimer c now => Sys2Proof.Machine.execParkTimer c now s
  | .pauseExpiry c now => Sys2Proof.Machine.execPauseExpiry c now s
  | .adpStop p slot => Sys2Proof.Machine.execAdpStop p slot s
  | .adpLoad p slot => Sys2Proof.Machine.execAdpLoad p slot s
  | .adpLoadDone p slot data => Sys2Proof.Machine.execAdpLoadDone p slot data s
  | .adpStart p slot => Sys2Proof.Machine.execAdpStart p slot s
  | .portEnable n0 => Sys2Proof.Machine.execPortEnable n0 s
  | .portDisable n0 => Sys2Proof.Machine.execPortDisable n0 s
  | .partnerDetected n0 => Sys2Proof.Machine.execPartnerDetected n0 s
  | .equaliseDone n0 pass => Sys2Proof.Machine.execEqualiseDone n0 pass s
  | .lockDone n0 => Sys2Proof.Machine.execLockDone n0 s
  | .recordsAgreed n0 r => Sys2Proof.Machine.execRecordsAgreed n0 r s
  | .creditsReceived n0 => Sys2Proof.Machine.execCreditsReceived n0 s
  | .trainTimeout n0 => Sys2Proof.Machine.execTrainTimeout n0 s
  | .failedRetry n0 => Sys2Proof.Machine.execFailedRetry n0 s
  | .retrainStart n0 lost => Sys2Proof.Machine.execRetrainStart n0 lost s
  | .retrainDone n0 r => Sys2Proof.Machine.execRetrainDone n0 r s
  | .retrainTimeout n0 => Sys2Proof.Machine.execRetrainTimeout n0 s
  | .flitTransmit n0 ksw => Sys2Proof.Machine.execFlitTransmit n0 ksw s
  | .rowFlit n0 l sc p reduce poison wt drow step data => Sys2Proof.Machine.execRowFlit n0 l sc p reduce poison wt drow step data s
  | .pwriteFlit n0 l schip off ngran tag data => Sys2Proof.Machine.execPwriteFlit n0 l schip off ngran tag data s
  | .preadFlit n0 l schip off ngran tag => Sys2Proof.Machine.execPreadFlit n0 l schip off ngran tag s
  | .prdataFlit n0 l tag status data => Sys2Proof.Machine.execPrdataFlit n0 l tag status data s
  | .packFlit n0 l tag status => Sys2Proof.Machine.execPackFlit n0 l tag status s
  | .xctlFlit n0 l ms => Sys2Proof.Machine.execXctlFlit n0 l ms s
  | .nakFlit n0 l => Sys2Proof.Machine.execNakFlit n0 l s
  | .idleFlit n0 l => Sys2Proof.Machine.execIdleFlit n0 l s
  | .replayTimeout n0 => Sys2Proof.Machine.execReplayTimeout n0 s
  | .stepDeadline n0 e sc => Sys2Proof.Machine.execStepDeadline n0 e sc s
  | .rackSync sc => Sys2Proof.Machine.execRackSync sc s
  | .scArm => Sys2Proof.Machine.execScArm s
  | .xdone p => Sys2Proof.Machine.execXdone p s
  | .xcommit p rows => Sys2Proof.Machine.execXcommit p rows s
  | .xgo p sc => Sys2Proof.Machine.execXgo p sc s
  | .xinc p => Sys2Proof.Machine.execXinc p s
  | .leadCommitReady p sc now => Sys2Proof.Machine.execLeadCommitReady p sc now s
  | .startTick p sc => Sys2Proof.Machine.execStartTick p sc s
  | .xmsgRepeat p => Sys2Proof.Machine.execXmsgRepeat p s
  | .load p slot r => Sys2Proof.Machine.execLoad p slot r s
  | .loadResume p slot r => Sys2Proof.Machine.execLoadResume p slot r s
  | .loadAbort p => Sys2Proof.Machine.execLoadAbort p s
  | .programBurst k t found r => Sys2Proof.Machine.execProgramBurst k t found r s
  | .tileProgramDone k t found => Sys2Proof.Machine.execTileProgramDone k t found s
  | .tileClearDone k t => Sys2Proof.Machine.execTileClearDone k t s
  | .tileRestore k t r => Sys2Proof.Machine.execTileRestore k t r s
  | .spillWrite p r => Sys2Proof.Machine.execSpillWrite p r s
  | .loadComplete p => Sys2Proof.Machine.execLoadComplete p s
  | .pwrgoodRise board => Sys2Proof.Machine.execPwrgoodRise board s
  | .pwrgoodFall => Sys2Proof.Machine.execPwrgoodFall s
  | .crystalDelayEnd => Sys2Proof.Machine.execCrystalDelayEnd s
  | .xpllLockTimeout => Sys2Proof.Machine.execXpllLockTimeout s
  | .strapLatch pins band slow slowBand => Sys2Proof.Machine.execStrapLatch pins band slow slowBand s
  | .strapRecheck pins band => Sys2Proof.Machine.execStrapRecheck pins band s
  | .slowInputQualified n0 asserted inBand => Sys2Proof.Machine.execSlowInputQualified n0 asserted inBand s
  | .psikusterSelftestPass fail => Sys2Proof.Machine.execPsikusterSelftestPass fail s
  | .configCopyRead => Sys2Proof.Machine.execConfigCopyRead s
  | .configApply => Sys2Proof.Machine.execConfigApply s
  | .pmbusTransaction ack data => Sys2Proof.Machine.execPmbusTransaction ack data s
  | .hbmTrainingDone bad repaired => Sys2Proof.Machine.execHbmTrainingDone bad repaired s
  | .testPhaseTimeout => Sys2Proof.Machine.execTestPhaseTimeout s
  | .bootActions reads => Sys2Proof.Machine.execBootActions reads s
  | .interfacesOpen => Sys2Proof.Machine.execInterfacesOpen s
  | .restart via => Sys2Proof.Machine.execRestart via s
  | .partitionStop p => Sys2Proof.Machine.execPartitionStop p s
  | .partitionStart p remap => Sys2Proof.Machine.execPartitionStart p remap s
  | .stopTimeout p => Sys2Proof.Machine.execStopTimeout p s
  | .opRequest w => Sys2Proof.Machine.execOpRequest w s
  | .avsWriteAck q ack => Sys2Proof.Machine.execAvsWriteAck q ack s
  | .voltageReadbackOk q => Sys2Proof.Machine.execVoltageReadbackOk q s
  | .settleElapsed q => Sys2Proof.Machine.execSettleElapsed q s
  | .frequencySlewDone q => Sys2Proof.Machine.execFrequencySlewDone q s
  | .raiseTimeout q => Sys2Proof.Machine.execRaiseTimeout q s
  | .boostLimit q => Sys2Proof.Machine.execBoostLimit q s
  | .boostRestEnd q => Sys2Proof.Machine.execBoostRestEnd q s
  | .islandSwitch w => Sys2Proof.Machine.execIslandSwitch w s
  | .rackRefLost => Sys2Proof.Machine.execRackRefLost s
  | .refQualWindow count missing => Sys2Proof.Machine.execRefQualWindow count missing s
  | .refSwitchOrder => Sys2Proof.Machine.execRefSwitchOrder s
  | .srefSwitchDone edges => Sys2Proof.Machine.execSrefSwitchDone edges s
  | .pllRelock => Sys2Proof.Machine.execPllRelock s
  | .crystalLost => Sys2Proof.Machine.execCrystalLost s
  | .clockGate n0 => Sys2Proof.Machine.execClockGate n0 s
  | .clockUngate n0 => Sys2Proof.Machine.execClockUngate n0 s
  | .freqMeasureStart u w => Sys2Proof.Machine.execFreqMeasureStart u w s
  | .freqMeasureDone u edges => Sys2Proof.Machine.execFreqMeasureDone u edges s
  | .idleEntry k => Sys2Proof.Machine.execIdleEntry k s
  | .idleBias k => Sys2Proof.Machine.execIdleBias k s
  | .idleExit k => Sys2Proof.Machine.execIdleExit k s
  | .sleep => Sys2Proof.Machine.execSleep s
  | .deep => Sys2Proof.Machine.execDeep s
  | .off => Sys2Proof.Machine.execOff s
  | .run => Sys2Proof.Machine.execRun s
  | .powerDownDrain timeout => Sys2Proof.Machine.execPowerDownDrain timeout s
  | .entryCommit => Sys2Proof.Machine.execEntryCommit s
  | .wake asserted lost => Sys2Proof.Machine.execWake asserted lost s
  | .linkActivityWake p lost => Sys2Proof.Machine.execLinkActivityWake p lost s
  | .stokePattern p bursts lost => Sys2Proof.Machine.execStokePattern p bursts lost s
  | .pcieWake lost => Sys2Proof.Machine.execPcieWake lost s
  | .exitComplete => Sys2Proof.Machine.execExitComplete s
  | .padRelease mask => Sys2Proof.Machine.execPadRelease mask s
  | .auxBrownout => Sys2Proof.Machine.execAuxBrownout s
  | .powerGovernorTick pkg array => Sys2Proof.Machine.execPowerGovernorTick pkg array s
  | .readCreditTick => Sys2Proof.Machine.execReadCreditTick s
  | .chargeComplete ms => Sys2Proof.Machine.execChargeComplete ms s
  | .supplySag => Sys2Proof.Machine.execSupplySag s
  | .bankPageDone => Sys2Proof.Machine.execBankPageDone s
  | .powerReturn => Sys2Proof.Machine.execPowerReturn s
  | .conversionDone c r => Sys2Proof.Machine.execConversionDone c r s
  | .shutdownRecordWritten => Sys2Proof.Machine.execShutdownRecordWritten s
  | .throttleStep => Sys2Proof.Machine.execThrottleStep s
  | .releaseStep => Sys2Proof.Machine.execReleaseStep s
  | .urgentConversion c w => Sys2Proof.Machine.execUrgentConversion c w s
  | .urgentConversionDone c r => Sys2Proof.Machine.execUrgentConversionDone c r s
  | .refen on => Sys2Proof.Machine.execRefen on s
  | .refReady => Sys2Proof.Machine.execRefReady s
  | .roCount k cmd => Sys2Proof.Machine.execRoCount k cmd s
  | .roBackgroundCount k => Sys2Proof.Machine.execRoBackgroundCount k s
  | .roCountDone k t0 t1 t2 t3 => Sys2Proof.Machine.execRoCountDone k t0 t1 t2 t3 s
  | .fwWatchdogExpiry => Sys2Proof.Machine.execFwWatchdogExpiry s
  | .advisoryRepeat k => Sys2Proof.Machine.execAdvisoryRepeat k s
  | .parityError u => Sys2Proof.Machine.execParityError u s
  | .fence kind k n0 => Sys2Proof.Machine.execFence kind k n0 s
  | .fenceClear kind k n0 => Sys2Proof.Machine.execFenceClear kind k n0 s
  | .testStart cores => Sys2Proof.Machine.execTestStart cores s
  | .testRoundDone obs => Sys2Proof.Machine.execTestRoundDone obs s
  | .logWriteDone r => Sys2Proof.Machine.execLogWriteDone r s
  | .logWindowFallback n0 => Sys2Proof.Machine.execLogWindowFallback n0 s
  | .logSectorEraseDone => Sys2Proof.Machine.execLogSectorEraseDone s
  | .selftest ok => Sys2Proof.Machine.execSelftest ok s
  | .loadmk unwrapOk => Sys2Proof.Machine.execLoadmk unwrapOk s
  | .dropmk => Sys2Proof.Machine.execDropmk s
  | .setlink unwrapOk => Sys2Proof.Machine.execSetlink unwrapOk s
  | .droplink => Sys2Proof.Machine.execDroplink s
  | .svnraise => Sys2Proof.Machine.execSvnraise s
  | .zeroise session => Sys2Proof.Machine.execZeroise session s
  | .dbgchal => Sys2Proof.Machine.execDbgchal s
  | .dbgresp keyOk sigOk => Sys2Proof.Machine.execDbgresp keyOk sigOk s
  | .setfwk session => Sys2Proof.Machine.execSetfwk session s
  | .revoke session slot => Sys2Proof.Machine.execRevoke session slot s
  | .debugLock => Sys2Proof.Machine.execDebugLock s
  | .tamperCheck opened => Sys2Proof.Machine.execTamperCheck opened s
  | .periodicSelftest ok => Sys2Proof.Machine.execPeriodicSelftest ok s
  | .entropyTestFail test => Sys2Proof.Machine.execEntropyTestFail test s
  | .entropyRestartPass => Sys2Proof.Machine.execEntropyRestartPass s
  | .debugNonceExpiry => Sys2Proof.Machine.execDebugNonceExpiry s
  | .mgmtDatagram d => Sys2Proof.Machine.execMgmtDatagram d s
  | .getstatus => Sys2Proof.Machine.execGetstatus s
  | .setdasa static dyn => Sys2Proof.Machine.execSetdasa static dyn s
  | .entdaa dyn => Sys2Proof.Machine.execEntdaa dyn s
  | .setEndpointId c eid => Sys2Proof.Machine.execSetEndpointId c eid s
  | .getEndpointId c => Sys2Proof.Machine.execGetEndpointId c s
  | .getEndpointUuid c => Sys2Proof.Machine.execGetEndpointUuid c s
  | .getMctpVersionSupport c => Sys2Proof.Machine.execGetMctpVersionSupport c s
  | .getMessageTypeSupport c => Sys2Proof.Machine.execGetMessageTypeSupport c s
  | .gettid c sess => Sys2Proof.Machine.execGettid c sess s
  | .settid c sess tid => Sys2Proof.Machine.execSettid c sess tid s
  | .getpldmversion c sess type => Sys2Proof.Machine.execGetpldmversion c sess type s
  | .getpldmtypes c sess => Sys2Proof.Machine.execGetpldmtypes c sess s
  | .getpldmcommands c sess type => Sys2Proof.Machine.execGetpldmcommands c sess type s
  | .getpdrrepositoryinfo c sess => Sys2Proof.Machine.execGetpdrrepositoryinfo c sess s
  | .getpdr c sess rec => Sys2Proof.Machine.execGetpdr c sess rec s
  | .getsensorreading c sess x => Sys2Proof.Machine.execGetsensorreading c sess x s
  | .getstatesensorreadings c sess x => Sys2Proof.Machine.execGetstatesensorreadings c sess x s
  | .seteventreceiver c sess on => Sys2Proof.Machine.execSeteventreceiver c sess on s
  | .pollforplatformeventmessage c sess => Sys2Proof.Machine.execPollforplatformeventmessage c sess s
  | .getfrurecordtablemetadata c sess => Sys2Proof.Machine.execGetfrurecordtablemetadata c sess s
  | .getfrurecordtable c sess => Sys2Proof.Machine.execGetfrurecordtable c sess s
  | .querydeviceidentifiers c sess => Sys2Proof.Machine.execQuerydeviceidentifiers c sess s
  | .getfirmwareparameters c sess => Sys2Proof.Machine.execGetfirmwareparameters c sess s
  | .requestupdate c sess => Sys2Proof.Machine.execRequestupdate c sess s
  | .passcomponenttable c sess => Sys2Proof.Machine.execPasscomponenttable c sess s
  | .updatecomponent c sess comp size => Sys2Proof.Machine.execUpdatecomponent c sess comp size s
  | .firmwareDataReceived bytes content => Sys2Proof.Machine.execFirmwareDataReceived bytes content s
  | .activatefirmware c sess => Sys2Proof.Machine.execActivatefirmware c sess s
  | .getstatusPldm c sess => Sys2Proof.Machine.execGetstatusPldm c sess s
  | .cancelupdatecomponent c sess => Sys2Proof.Machine.execCancelupdatecomponent c sess s
  | .cancelupdate c sess => Sys2Proof.Machine.execCancelupdate c sess s
  | .readmeter c sess set => Sys2Proof.Machine.execReadmeter c sess set s
  | .readhistory c sess entry => Sys2Proof.Machine.execReadhistory c sess entry s
  | .readlog c sess nor entry => Sys2Proof.Machine.execReadlog c sess nor entry s
  | .readstuckmap c sess => Sys2Proof.Machine.execReadstuckmap c sess s
  | .readshutdownrecords c sess => Sys2Proof.Machine.execReadshutdownrecords c sess s
  | .getVersion c => Sys2Proof.Machine.execGetVersion c s
  | .getCapabilities c => Sys2Proof.Machine.execGetCapabilities c s
  | .negotiateAlgorithms c offered => Sys2Proof.Machine.execNegotiateAlgorithms c offered s
  | .getDigests c => Sys2Proof.Machine.execGetDigests c s
  | .getCertificate c slot => Sys2Proof.Machine.execGetCertificate c slot s
  | .challenge c => Sys2Proof.Machine.execChallenge c s
  | .getMeasurements c index => Sys2Proof.Machine.execGetMeasurements c index s
  | .keyExchange c root => Sys2Proof.Machine.execKeyExchange c root s
  | .finish c id ok => Sys2Proof.Machine.execFinish c id ok s
  | .heartbeat c id => Sys2Proof.Machine.execHeartbeat c id s
  | .keyUpdate c id => Sys2Proof.Machine.execKeyUpdate c id s
  | .endSession c id => Sys2Proof.Machine.execEndSession c id s
  | .respondIfReady c => Sys2Proof.Machine.execRespondIfReady c s
  | .spdmHeartbeatExpiry id => Sys2Proof.Machine.execSpdmHeartbeatExpiry id s
  | .pmbusPoll answers => Sys2Proof.Machine.execPmbusPoll answers s
  | .smbalert answers => Sys2Proof.Machine.execSmbalert answers s
  | .secondWrap => Sys2Proof.Machine.execSecondWrap s
  | .timeSet => Sys2Proof.Machine.execTimeSet s
  | .timeRead nanos => Sys2Proof.Machine.execTimeRead nanos s
  | .meterSnapshot w => Sys2Proof.Machine.execMeterSnapshot w s
  | .meterPersist => Sys2Proof.Machine.execMeterPersist s
  | .indicatorDiagnosis n opened dark => Sys2Proof.Machine.execIndicatorDiagnosis n opened dark s
  | .rackstopAccept b asserted => Sys2Proof.Machine.execRackstopAccept b asserted s
  | .rackstopDiscrepancy => Sys2Proof.Machine.execRackstopDiscrepancy s
  | .gpiAccept n0 high => Sys2Proof.Machine.execGpiAccept n0 high s
  | .gpiStuck n0 => Sys2Proof.Machine.execGpiStuck n0 s
  | .gpiChatterWindow n0 edges => Sys2Proof.Machine.execGpiChatterWindow n0 edges s
  | .sqDoorbell p n0 => Sys2Proof.Machine.execSqDoorbell p n0 s
  | .cqDoorbell p n0 => Sys2Proof.Machine.execCqDoorbell p n0 s
  | .sqEntryFetch p e => Sys2Proof.Machine.execSqEntryFetch p e s
  | .hostNop p cid => Sys2Proof.Machine.execHostNop p cid s
  | .copyIn p cid data => Sys2Proof.Machine.execCopyIn p cid data s
  | .copyOut p cid => Sys2Proof.Machine.execCopyOut p cid s
  | .copyDone p cid hostErr => Sys2Proof.Machine.execCopyDone p cid hostErr s
  | .t2add p cid => Sys2Proof.Machine.execT2add p cid s
  | .t2del p cid => Sys2Proof.Machine.execT2del p cid s
  | .irqTimer p => Sys2Proof.Machine.execIrqTimer p s
  | .ringEnable p on => Sys2Proof.Machine.execRingEnable p on s
  | .vfFlr p => Sys2Proof.Machine.execVfFlr p s
  | .pfReset link => Sys2Proof.Machine.execPfReset link s
  | .pcieConfigRequest r => Sys2Proof.Machine.execPcieConfigRequest r s
  | .xpllLock => Sys2Proof.Machine.execXpllLock s
  | .xpllLossTimeout => Sys2Proof.Machine.execXpllLossTimeout s
  | .islandSwitchDone => Sys2Proof.Machine.execIslandSwitchDone s
  | .ageMaxReached k t => Sys2Proof.Machine.execAgeMaxReached k t s
  | .stackSensorReading m t => Sys2Proof.Machine.execStackSensorReading m t s
  | .hbmStackFailure m => Sys2Proof.Machine.execHbmStackFailure m s
  | .zeroisationComplete => Sys2Proof.Machine.execZeroisationComplete s
  | .managementRestartDone => Sys2Proof.Machine.execManagementRestartDone s
  | .boardReadingStale => Sys2Proof.Machine.execBoardReadingStale s
  | .moveDrainTimeout p => Sys2Proof.Machine.execMoveDrainTimeout p s

end Sys2Proof.Machine
end

