-- ==== Sys2Proof/Machine/View.lean ====
section
/-!
DEFINITION. What a read of a control register returns (R14, R15, R18): most registers return the word they hold; the ones of this file
show state that another store holds. A read changes no state, but for the reads that are commands of their own (R18, R485, R521).
-/
namespace Sys2Proof.Machine

/-- The 128 bytes of a stream context (R258). -/
def Stream.bytes (x : Stream) : List Nat :=
  [x.state.code, x.prio % 8 + 8 * b2n x.pcnt] ++ bytesOf 2 x.tenant ++ [x.part, x.aslot, x.abank, x.status] ++ bytesOf 4 x.agen ++
    bytesOf 4 x.gen ++ bytesOf 8 x.seed ++ bytesOf 4 x.pos ++ bytesOf 4 x.plen ++ bytesOf 4 x.maxtok ++ bytesOf 4 x.tokdl ++
    bytesOf 8 x.tlast ++ bytesOf 8 x.tpause ++ bytesOf 4 x.parkt ++ bytesOf 4 x.ttl ++ bytesOf 2 x.temp ++ bytesOf 2 x.topk ++
    bytesOf 4 x.topp ++ bytesOf 2 x.rep ++ bytesOf 2 x.pres ++ bytesOf 2 x.freq ++ bytesOf 2 0 ++
    ((List.range 4).map fun i => bytesOf 4 (nth 0xFFFFFFFF x.stops i)).flatten ++ bytesOf 8 x.rcoff ++ [x.rcreg, x.rcexp] ++
    bytesOf 2 x.nblk ++ [x.tiers, 0, 0, 0] ++ bytesOf 8 (x.plocOff + x.plocReg * 2 ^ 40) ++ bytesOf 8 0
/-- Word `w` of context `c` (R258, SRV_CTXDATA). -/
def State.ctxWord (s : State) (c w : Nat) : Nat := nth 0 (wordsOf (SMap.get (fun _ => ({} : Stream)) s.srv.streams c).bytes) w
/-- The 16 bytes of entry `b` of the KV block table of context `c` (R258); an entry that holds no block is 0. -/
def State.kvBytes (s : State) (c b : Nat) : List Nat :=
  match s.kv c b with
  | some e => bytesOf 8 (e.tier * 2 ^ 62 + e.chip * 2 ^ 44 + e.off) ++ bytesOf 8 e.seq
  | none => bytesOf 16 0

/-- PMASK of the tenant that SEC_TENIDX selects (R507). -/
def State.tenPmask (s : State) : Nat :=
  match s.sec.tenants.find? fun t => t.id == s.fld Reg.SEC_TENIDX Fld.SEC_TENIDX_TENANT with
  | some t => t.pmask
  | none => 0
/-- The correction word that CORE_DCIDX selects (R109). -/
def State.dcData (s : State) (k : Nat) : Nat :=
  let t := s.fld (Reg.CORE_DCIDX k) Fld.CORE_DCIDX_TILE
  let c := s.fld (Reg.CORE_DCIDX k) Fld.CORE_DCIDX_PCOL
  if s.fld (Reg.CORE_DCIDX k) Fld.CORE_DCIDX_BANK = 1 then (s.actWord k t c).toNat else (s.shdWord k t c).toNat
/-- Tag and poison of the row that SHELF_TAGIDX selects. -/
def State.tagData (s : State) (k : Nat) : Nat :=
  let r := s.shelfRow k (s.fld (Reg.SHELF_TAGIDX k) Fld.SHELF_TAGIDX_ROW)
  b2n r.full + 2 * b2n r.poison
/-- FLS_TINFO: the last load, the format and the journal state of the tile that FLS_TSEL selects (R358, R353). -/
def State.tinfo (s : State) : Nat :=
  let k := s.fld Reg.FLS_TSEL Fld.FLS_TSEL_CORE
  let t := s.fld Reg.FLS_TSEL Fld.FLS_TSEL_TILE
  let j := SMap.get (fun _ => 0) s.wts.jtiles (tileKey k t)
  j % 4 + 16 * b2n (s.eng k t).fmt + 256 * (j / 4 % 64)

/-- A 64-bit counter's high word: it reads the word latched with the last read of the low word (R18). -/
def isHigh (a : Nat) : Bool := decide (4 ≤ a) && isLow (a - 4)

/-- A register of a core's window, at offset `a`, core `k`. -/
def State.viewCore (s : State) (k a : Nat) : Nat :=
  if inSpan a (Reg.CORE_ASUM k 0) (Reg.CORE_ASUM k 8) then s.asum k ((a - Reg.CORE_ASUM k 0) / 4)
  else if a = Reg.SHELF_TAGDATA k then s.tagData k
  else if a = Reg.CORE_DSTAT k then putFld Fld.CORE_DSTAT_STATE (s.rd a) (s.coreDrift k)
  else if a = Reg.CORE_DCDATA k then s.dcData k
  else if a = Reg.CORE_DTRES k then s.dtres k (s.fld (Reg.CORE_DTSEL k) Fld.CORE_DTSEL_TILE)
  else if a = Reg.CORE_DTINFO k then s.dtinfo k (s.fld (Reg.CORE_DTSEL k) Fld.CORE_DTSEL_TILE)
  else if decide (0x80000 ≤ a % 0x100000) && a % 0x200 == 0x48 then
    let t := (a % 0x100000 - 0x80000) / 0x200
    s.scaleWord k t (s.fld (Reg.TILE_CSIDX k t) Fld.TILE_CSIDX_LCOL)
  else s.rd a
/-- A register of the window of a virtual function (R542): a context outside the partition's allotment reads 0. -/
def State.viewVf (s : State) (p a : Nat) : Nat :=
  if a = Reg.PCI_VCTXDATA p then
    let c := s.fld (Reg.PCI_VCTXIDX p) Fld.PCI_VCTXIDX_CTX
    let b := s.fld (Reg.SRV_PCTX p) Fld.SRV_PCTX_BASE
    if b ≤ c ∧ c < b + s.fld (Reg.SRV_PCTX p) Fld.SRV_PCTX_COUNT then s.ctxWord c (s.fld (Reg.PCI_VCTXIDX p) Fld.PCI_VCTXIDX_WORD) else 0
  else s.rd a
/-- What a read of the register at offset `a` returns. -/
def State.view (s : State) (a : Nat) : Nat :=
  if s.asleep a then 0xFFFFFFFF
  else if isHigh a then (SMap.get (fun _ => (0 : Word)) s.latches a).toNat
  else if 0x10000000 ≤ a then s.viewVf ((a - 0x10000000) / 0x100000) a
  else if inSpan a 0x1000000 0x2000000 then s.viewCore ((a - 0x1000000) / 0x100000) a
  else if a = Reg.SEC_TENPM_LO then s.tenPmask % 2 ^ 32
  else if a = Reg.SEC_TENPM_HI then s.tenPmask / 2 ^ 32 % 2 ^ 32
  else if a = Reg.LOG_RDDATA then
    nth 0 (s.logWords (s.fld Reg.LOG_RDIDX Fld.LOG_RDIDX_NOR == 1) (s.fld Reg.LOG_RDIDX Fld.LOG_RDIDX_ENTRY))
      (s.fld Reg.LOG_RDIDX Fld.LOG_RDIDX_WORD)
  else if a = Reg.MTR_MDATA then nth 0 s.mgmt.snap (s.fld Reg.MTR_MIDX Fld.MTR_MIDX_WORD)
  else if a = Reg.MTR_HDATA then
    nth 0 (s.histWords (s.fld Reg.MTR_HIDX Fld.MTR_HIDX_SET)) (s.fld Reg.MTR_HIDX Fld.MTR_HIDX_WORD)
  else if a = Reg.SRV_CTXDATA then
    s.ctxWord (s.fld Reg.SRV_CTXIDX Fld.SRV_CTXIDX_CTX) (s.fld Reg.SRV_CTXIDX Fld.SRV_CTXIDX_WORD)
  else if a = Reg.FLS_TINFO then s.tinfo
  else if a = Reg.PWR_PADREL then 0
  else s.rd a

end Sys2Proof.Machine
end

