-- ==== Sys2Proof/Safety.lean ====
section
/-!
DEFINITION. The terms in which claims about the block are stated: a command that completes, a change that leaves state alone,
the canonical form of the register store, a run that stops nowhere, and the conditions on the state that several claims share.
-/
namespace Sys2Proof

open Sys2Proof.Machine

/-- A command completes at a state: its meaning answers a next state, of which `E` holds. -/
def Completes (c : Instr) (s : State) (E : State → Prop) : Prop := ∃ t, exec c s = .next t ∧ E t

/-- A run of `n` steps stops at no fault and no refusal. -/
def SafeRun (n : Nat) (s : State) : Prop := ∃ t, core.run n s = .next t

/-- The canonical form of the register store: offsets strictly rising, none listed at its reset value. -/
abbrev RegsCanonical (s : State) : Prop := SMap.wf resetWord s.regs = true

/-- The stores of the block with an address are in canonical form: control registers, shelf rows, HBM granules and cells. -/
abbrev StoresCanonical (s : State) : Prop :=
  RegsCanonical s ∧ SMap.wf (fun _ => ({} : ShelfRow)) s.core.shelf = true ∧ SMap.wf (fun _ => (0 : Granule)) s.hbm.mem = true ∧
    SMap.wf cellDefault s.core.cells = true

/-- Every register but those of a list holds in `t` what it held in `s`. -/
def RegsExcept (l : List Nat) (s t : State) : Prop := ∀ a, a ∉ l → t.rd a = s.rd a

/-- The registers of the log that the creation of a record may change (R475, R478): the sequence number, the queue's fill, the count of
suppressed records and the status. -/
def logRegs : List Nat := [Reg.LOG_SEQ_LO, Reg.LOG_SEQ_HI, Reg.LOG_QSTAT, Reg.LOG_SUPCNT, Reg.LOG_STAT]

/-- The registers that the clamps of a quadrant may change (R400, R406): CLK_LIMSTAT and the five counters. -/
def clampRegs : List Nat := Reg.CLK_LIMSTAT :: (List.range 5).map fun i => Reg.CLK_LIMCNT0 + 4 * i

/-- A bring-up has started in a phase for a cause (R366): the bring-up number has risen, and what the loss of the domains clears is clear. -/
abbrev BroughtUp (s t : State) (phase : Nat) (cause : Fld) : Prop :=
  t.phase = phase ∧ t.fld Reg.PWR_RSTCAUSE cause = 1 ∧ t.boot.bootNo = s.boot.bootNo + 1 ∧ t.pwr.off = false ∧ t.pwr.dead = false ∧
  t.srv = {} ∧ t.lnk = {} ∧ t.core.shelf = [] ∧ t.core.ctxs = [] ∧ t.core.cells = s.core.cells ∧ t.log.ring = s.log.ring

/-- No stream is held and no tier move is ordered or under way: the end of a partition has nothing to release. -/
def noStreams (s : State) : Bool := s.srv.streams == [] && s.hbm.moves == []

/-! ### Contexts and bundles -/

/-- A bundle of a context has issued; the next of its slots to be performed is `slot`, it holds the operation `op`, and the slot's unit can
accept (R164). -/
def issuedAt (s : State) (k n slot op : Nat) (i : Issued) : Bool :=
  (s.ctx k n).cur == some i && i.next? == some slot && slotOp i.bundle slot == op && (slot == 5 || s.unitFree k n slot)

/-- The state in which the bundle at the pc of a context has been fetched (R160). -/
def afterFetch (s : State) (k n : Nat) : State := s.fetch k (s.fld (Reg.CORE_CTXPROG k n) Fld.CORE_CTXPROG_PBASE + s.pcOf k n)

/-- A context runs, has performed every slot so far, and the bundle `b` at its pc passes the checks of R165 and finds its units free. -/
def fetchesOk (s : State) (k n b : Nat) : Bool :=
  let r := afterFetch s k n
  let phys := s.fld (Reg.CORE_CTXPROG k n) Fld.CORE_CTXPROG_PBASE + s.pcOf k n
  s.ctxRun k n == 1 && (s.ctx k n).cur.isNone && ((s.ctx k n).wait == .none || (s.ctx k n).wait == .counter) &&
    decide (s.pcOf k n < s.pcount k n) && b == r.bundleNat k n (s.pcOf k n) && (List.range 4).all (fun i => r.pmWord k phys i != 2) &&
    bits b 255 1 == b2n (r.tagged k n) && ((decodeCheck b).or (r.operandCheck k n b (s.ctx k n).a)).isNone &&
    (List.range 5).all fun j => slotOp b j == 0 || r.unitFree k n j

/-- The wait that a bundle holds can be judged, is legal, holds, and its counter shows no error (R140, R141, R139). -/
def waitPasses (s : State) (k n b : Nat) : Bool :=
  let r := afterFetch s k n
  (r.op k (8 + n)).isNone && (r.waitCheck k n b).isNone && r.waitHolds k b && (r.waitError k b).isNone

/-- A shelf row that an access in scheduled mode of a context reads as it stands: it lies in the context's rows, is not poisoned, has clean
check bits, and no descriptor still has to land on it (R127, R120, R121, R248). -/
def plainRow (s : State) (k n r : Nat) : Bool :=
  s.inRows k n r && !s.spillPending k r && !(s.shelfRow k r).poison && (s.shelfRow k r).ecc == 0

/-- A row in tagged mode that a context may access by a class, whose tag is as given, neither poisoned nor with check errors (R126, R127). -/
def taggedRow (s : State) (k n r : Nat) (cls : Cls) (fill full : Bool) : Bool :=
  s.inRows k n r && s.tagAllowed k n cls fill r && (s.shelfRow k r).full == full && !(s.shelfRow k r).poison && (s.shelfRow k r).ecc == 0

/-- The context is to fetch, and the bundle at its pc lies in its program and has no uncorrectable word (R164, R165). -/
def fetches (s : State) (k n : Nat) : Bool :=
  s.ctxRun k n == 1 && (s.ctx k n).cur.isNone && ((s.ctx k n).wait == .none || (s.ctx k n).wait == .counter) &&
    decide (s.pcOf k n < s.pcount k n) &&
    (List.range 4).all fun i => s.pmWord k (s.fld (Reg.CORE_CTXPROG k n) Fld.CORE_CTXPROG_PBASE + s.pcOf k n) i != 2

/-- The commands of the slots of a context's bundle (R162 to R184). -/
def slotCommands (k : CoreNo) (n : CtxNo) : List Instr :=
  [.nop k n, .dispatch k n, .copy k n, .copyk k n, .fillz k n, .mmnt k n, .mmnn k n, .merge k n, .conv k n, .func k n, .add k n,
   .mul k n, .reduce k n, .bscale k n, .send k n, .sendk k n, .enqT k n, .enqS k n, .clr k n, .jump k n, .loop k n, .setl k n,
   .seta k n, .adda k n, .waitAbs k n, .waitOut k n, .switch k n, .barrier k n, .step k n, .drain k n, .event k n, .halt k n]

/-! ### P40 rows and rounding -/

/-- A P40 row whose fields fit the layout of R25: values beyond its blocks are 0. -/
def P40.fits (p : P40) : Bool :=
  decide (-2 ^ 15 ≤ p.exp) && decide (p.exp < 2 ^ 15) && decide (-2 ^ 15 ≤ p.top) && decide (p.top < 2 ^ 15) && decide (p.contrib < 2 ^ 32) &&
  decide (p.rid < 2 ^ 16) && decide (p.col0 < 2 ^ 16) && decide (p.nblk ≤ 3) && decide (p.flags < 8) && decide (p.zero < 2 ^ 32) &&
  p.csat.length == 3 && p.csat.all (fun c => decide (c < 2 ^ 16)) && p.cund.length == 3 && p.cund.all (fun c => decide (c < 2 ^ 16)) &&
  p.s.length == 96 && p.s.all (fun v => decide (-2 ^ 39 ≤ v) && decide (v < 2 ^ 39)) && (p.s.drop (32 * p.nblk)).all (· == 0)
/-- Every row of a list has the key of a row: rows that merge (R32). -/
def sameKeys (p : P40) (l : List P40) : Bool := l.all p.sameKey
/-- The least exponent of a row and a list of rows. -/
def leastExp (p : P40) (l : List P40) : Int := l.foldl (fun e q => min e q.exp) p.exp
/-- The sum of the values j of a row and a list of rows, in units of 2^e. -/
def valueSum (p : P40) (l : List P40) (e : Int) (j : Nat) : Int :=
  l.foldl (fun x q => x + nth 0 q.s j * (2 ^ (q.exp - e).toNat : Nat)) (nth 0 p.s j * (2 ^ (p.exp - e).toNat : Nat))
/-- A contribution of R29: its own exponent, one contribution, values within the bound of R30. -/
def isContribution (p : P40) : Bool := p.top == p.exp && p.contrib == 1 && p.s.all fun v => decide (v.natAbs ≤ 8372224)
/-- The value m x 2^t. -/
def scaled (m t : Int) : Rat := (m : Rat) * (2 : Rat) ^ t

/-! ### Management requests -/

/-- A management request that the part serves now (R369, R385, R420, R509, R510): the island runs, on Ethernet the request has come in a
datagram, the part is in full service or the request is one of the exceptions, and the requester is authorised. -/
def canServe (s : State) (c : Channel) (sess : Option Nat) (a : Access) (early : Bool) : Bool :=
  s.mgmtOn c && (c == .i3c || s.mgmt.ethReqs != []) && (s.mgmtReady || early) && s.authorised a c sess
/-- The state in which a request that is served has left the requests in work. -/
def taken (s : State) (c : Channel) : State :=
  match c with
  | .i3c => s
  | .eth => { s with mgmt := { s.mgmt with ethReqs := s.mgmt.ethReqs.drop 1 } }
/-- The SEQ that the answer to a served request echoes (R509). -/
def reqSeq (s : State) (c : Channel) : Nat :=
  match c with
  | .i3c => 0
  | .eth => nth 0 s.mgmt.ethReqs 0
/-- A request is answered after a change of the management controller's state; nothing else changes. -/
def answerOf (s : State) (c : Channel) (name : String) (code : Completion) (data : List Nat) (f : MgmtBlk → MgmtBlk) : State :=
  State.reply { taken s c with mgmt := f (taken s c).mgmt } { chan := c, seq := reqSeq s c, name := name, code := code, data := data }

/-! ### Commands of the host -/

/-- The oldest command in flight of a virtual function is `c`, with this CID and OP, not started, on a part that has not failed. -/
def firstCmd (s : State) (p cid op : Nat) (c : VfCmd) : Bool :=
  (s.vf p).cmds.head? == some c && c.entry.cid == cid && c.entry.op == op && !c.started && !s.failed

/-- The oldest command in flight of a virtual function has left it, and its completion entry is the newest of the ring (R544, R545); the
registers, the cores, the mesh and the log hold what they held. -/
abbrev Answered (s t : State) (p cid status gen value : Nat) : Prop :=
  (t.vf p).cmds = (s.vf p).cmds.drop 1 ∧
  (t.vf p).cq = (s.vf p).cq ++ [{ kind := 1, phase := (s.vf p).phase, status := status, cid := cid, gen := gen, value := value, pos := 0 }] ∧
  RegsExcept [] s t ∧ t.core = s.core ∧ t.mesh = s.mesh ∧ t.log = s.log

end Sys2Proof
end

