-- ==== Sys2Proof/WellFormed.lean ====
section
/-!
DEFINITION. Which commands the outside can give: what the types of the operands do not already say. The meanings are total; a command that
is not well formed spells nothing that the spec lets a sender form.
-/
namespace Sys2Proof

open Sys2Proof.Machine

/-- An access to a BAR0 that R538 performs: 4 bytes aligned to 4, or 8 bytes aligned to 8. -/
def barAligned (off size : Nat) : Bool := (size == 4 && off % 4 == 0) || (size == 8 && off % 8 == 0)
/-- A cross-part message whose fields fit their widths, of a legal XTYPE (R329). -/
def xmsgFits (m : XMsg) : Bool :=
  decide (1 ≤ m.xtype) && decide (m.xtype ≤ 4) && decide (m.job < 2 ^ 16) && decide (m.origin < 2 ^ 12) &&
    decide (m.step < 2 ^ 16) && decide (m.arg < 2 ^ 16)
/-- The cell that a verify failure names (R77): one report for each. -/
def foundKey (c : FoundCell) : Nat × Nat × Bool := (c.row.val, c.pcol.val, c.minus)
/-- The numeric sensors of R514. -/
def sensorExists : Sensor → Bool
  | .diode i => decide (i < 20)
  | .rail i => decide (20 ≤ i) && decide (i ≤ 28)
  | .stack m => decide (m < 8)
  | .packagePower | .arrayPower | .board => true
/-- The state sensors of R514. -/
def stateSensorExists : StateSensor → Bool
  | .indicator n => decide (n < 4)
  | .gpi i => decide (i < 8)
  | .rackStop => true
/-- The fields of a fetched submission entry fit their widths (R543). -/
def sqFits : Option SqEntry → Bool
  | none => true
  | some e => decide (e.op < 256) && decide (e.cid < 2 ^ 16) && decide (e.ctx < 2 ^ 16) && decide (e.len < 2 ^ 32)

/-- A command that a sender can form. -/
def Instr.wf : Instr → Bool
  | .registerWrite _ _ | .counterLowRead _ | .logQstatRead => true
  | .barMisalignedAccess x y => decide (barAligned x y = false)
  | .layerClr _ _ | .lthrWrite _ _ _ _ | .tileReadStart _ _ | .tileCheck _ _ | .tileDeliver _ _ | .flagWindowEnd _ _
  | .tileFlagwinWrite _ _ _ | .tileClr _ _ | .accumulate _ _ | .refWindowClose _ _ | .colWindowClose _ _ | .roundTimer _
  | .tempRoundTrigger _ | .build _ | .buildComplete _ | .arm _ | .discardSet _ | .shadowWordWrite _ _ | .idlePeriodFlip _
  | .dispatch _ _ | .nop _ _ | .copy _ _ | .copyk _ _ | .fillz _ _ | .mmnt _ _ | .mmnn _ _ | .merge _ _ | .conv _ _
  | .func _ _ | .add _ _ | .mul _ _ | .reduce _ _ | .bscale _ _ | .send _ _ | .sendk _ _ | .enqT _ _ | .enqS _ _ | .clr _ _
  | .jump _ _ | .loop _ _ | .setl _ _ | .seta _ _ | .adda _ _ | .waitAbs _ _ | .waitOut _ _ | .waitSatisfied _ _
  | .switch _ _ | .switchComplete _ _ | .barrier _ _ | .step _ _ | .stepDrained _ _ | .drain _ _ | .drainComplete _ _
  | .event _ _ | .halt _ _ | .haltComplete _ _ | .watchdogExpiry _ _ | .blockedAccessRetry _ _ | .scrubRow _ _
  | .descriptorStart _ _ | .descriptorRowLand _ _ _ _ _ | .descriptorComplete _ _ | .routerForward _ _ _ _
  | .meshRowDeliver _ _ | .reduceRowArrive _ _ | .barArrive _ _ | .barQuery _ _ | .barCount _ _ | .barRequeryTimer _
  | .barRelease _ _ | .stepDone _ _ | .boundary _ _ | .boundaryAck _ _ | .stepStart _ _ | .pstop _ _ | .pstart _ _
  | .forceSched _ _ | .discard _ _ | .creditReclaim _ _ | .tagReclaim _ _ | .reclaimDone _ _ | .fault _ _ _ _
  | .incomplete _ _ _ | .cnetEvent _ _ _ | .sched _ _ | .telem _ _ _ _ _ => true
  | .reclaim _ dead => decide dead.Nodup
  | .reclaimTimeout _ | .firingImageLoad _ _ _ | .routeSetLoad _ _ _ | .regionWrite _ _ | .initFillComplete _ | .hbmRequest _
  | .hbmReadData _ _ _ | .hbmWriteAck _ | .patrolScrub _ _ | .ceWindowEnd _ => true
  | .kvMoveOut _ _ found _ => decide (found.map Prod.fst).Nodup
  | .kvMoveOutConfirm _ _ _ | .kvMoveIn _ _ _ | .kvMoveInDone _ _ | .admitStream _ _ _ _ | .cancel _ _ | .stepCommit _ _
  | .stepGrant _ | .replay _ | .parkTimer _ _ | .pauseExpiry _ _ | .adpStop _ _ | .adpLoad _ _ | .adpLoadDone _ _ _
  | .adpStart _ _ | .portEnable _ | .portDisable _ | .partnerDetected _ | .equaliseDone _ _ | .lockDone _
  | .recordsAgreed _ _ | .creditsReceived _ | .trainTimeout _ | .failedRetry _ | .retrainStart _ _ | .retrainDone _ _
  | .retrainTimeout _ | .flitTransmit _ _ => true
  | .rowFlit _ _ _ _ _ _ wt _ _ _ => decide (1 ≤ wt.toNat)
  | .pwriteFlit _ _ _ _ ngran _ data => decide (1 ≤ ngran.val) && decide (data.length = ngran.val)
  | .preadFlit _ _ _ _ ngran _ => decide (1 ≤ ngran.val)
  | .prdataFlit _ _ _ _ data => decide (1 ≤ data.length) && decide (data.length ≤ 17)
  | .packFlit _ _ _ _ => true
  | .xctlFlit _ _ ms => decide (1 ≤ ms.length) && decide (ms.length ≤ 8) && ms.all xmsgFits
  | .nakFlit _ _ | .idleFlit _ _ | .replayTimeout _ | .stepDeadline _ _ _ | .rackSync _ | .scArm | .xdone _ => true
  | .xcommit _ rows => decide (rows.map (·.ctx)).Nodup
  | .xgo _ _ | .xinc _ | .leadCommitReady _ _ _ | .startTick _ _ | .xmsgRepeat _ | .load _ _ _ | .loadResume _ _ _
  | .loadAbort _ => true
  | .programBurst _ _ found _ => decide (found.map foundKey).Nodup
  | .tileProgramDone _ _ found => decide (found.map foundKey).Nodup
  | .tileClearDone _ _ | .tileRestore _ _ _ | .spillWrite _ _ | .loadComplete _ | .pwrgoodRise _ | .pwrgoodFall
  | .crystalDelayEnd | .xpllLockTimeout | .strapLatch _ _ _ _ | .strapRecheck _ _ | .slowInputQualified _ _ _
  | .psikusterSelftestPass _ | .configCopyRead | .configApply | .pmbusTransaction _ _ => true
  | .hbmTrainingDone _ repaired => decide repaired.Nodup
  | .testPhaseTimeout | .bootActions _ | .interfacesOpen | .restart _ | .partitionStop _ | .partitionStart _ _
  | .stopTimeout _ | .opRequest _ | .avsWriteAck _ _ | .voltageReadbackOk _ | .settleElapsed _ | .frequencySlewDone _
  | .raiseTimeout _ | .boostLimit _ | .boostRestEnd _ | .islandSwitch _ | .rackRefLost | .refQualWindow _ _ | .refSwitchOrder
  | .srefSwitchDone _ | .pllRelock | .crystalLost | .clockGate _ | .clockUngate _ | .freqMeasureStart _ _
  | .freqMeasureDone _ _ | .idleEntry _ | .idleBias _ | .idleExit _ | .sleep | .deep | .off | .run | .powerDownDrain _
  | .entryCommit | .wake _ _ | .linkActivityWake _ _ | .stokePattern _ _ _ | .pcieWake _ | .exitComplete | .padRelease _
  | .auxBrownout | .powerGovernorTick _ _ | .readCreditTick | .chargeComplete _ | .supplySag | .bankPageDone | .powerReturn
  | .conversionDone _ _ | .shutdownRecordWritten | .throttleStep | .releaseStep | .urgentConversion _ _
  | .urgentConversionDone _ _ | .refen _ | .refReady | .roCount _ _ | .roBackgroundCount _ | .roCountDone _ _ _ _ _
  | .fwWatchdogExpiry | .advisoryRepeat _ | .parityError _ | .fence _ _ _ | .fenceClear _ _ _ | .testStart _
  | .testRoundDone _ | .logWriteDone _ | .logWindowFallback _ | .logSectorEraseDone | .selftest _ | .loadmk _ | .dropmk
  | .setlink _ | .droplink | .svnraise | .zeroise _ | .dbgchal | .dbgresp _ _ | .setfwk _ | .revoke _ _ | .debugLock
  | .tamperCheck _ | .periodicSelftest _ | .entropyTestFail _ | .entropyRestartPass | .debugNonceExpiry => true
  | .mgmtDatagram d => decide (d.port < 65536) && decide (d.version < 256) && decide (d.mtype < 256)
  | .getstatus | .setdasa _ _ | .entdaa _ | .setEndpointId _ _ | .getEndpointId _ | .getEndpointUuid _
  | .getMctpVersionSupport _ | .getMessageTypeSupport _ | .gettid _ _ | .settid _ _ _ | .getpldmversion _ _ _
  | .getpldmtypes _ _ | .getpldmcommands _ _ _ | .getpdrrepositoryinfo _ _ | .getpdr _ _ _ => true
  | .getsensorreading _ _ x => sensorExists x
  | .getstatesensorreadings _ _ x => stateSensorExists x
  | .seteventreceiver _ _ _ | .pollforplatformeventmessage _ _ | .getfrurecordtablemetadata _ _ | .getfrurecordtable _ _
  | .querydeviceidentifiers _ _ | .getfirmwareparameters _ _ | .requestupdate _ _ | .passcomponenttable _ _
  | .updatecomponent _ _ _ _ | .firmwareDataReceived _ _ | .activatefirmware _ _ | .getstatusPldm _ _
  | .cancelupdatecomponent _ _ | .cancelupdate _ _ | .readmeter _ _ _ | .readhistory _ _ _ | .readlog _ _ _ _
  | .readstuckmap _ _ | .readshutdownrecords _ _ | .getVersion _ | .getCapabilities _ | .negotiateAlgorithms _ _
  | .getDigests _ | .getCertificate _ _ | .challenge _ | .getMeasurements _ _ | .keyExchange _ _ | .finish _ _ _
  | .heartbeat _ _ | .keyUpdate _ _ | .endSession _ _ | .respondIfReady _ | .spdmHeartbeatExpiry _ => true
  | .pmbusPoll answers => decide (answers.map (·.addr)).Nodup
  | .smbalert answers => decide (answers.map (·.addr)).Nodup
  | .secondWrap | .timeSet | .timeRead _ | .meterSnapshot _ | .meterPersist | .indicatorDiagnosis _ _ _ | .rackstopAccept _ _
  | .rackstopDiscrepancy | .gpiAccept _ _ | .gpiStuck _ | .gpiChatterWindow _ _ | .sqDoorbell _ _ | .cqDoorbell _ _ => true
  | .sqEntryFetch _ e => sqFits e
  | .hostNop _ _ | .copyIn _ _ _ | .copyOut _ _ | .copyDone _ _ _ | .t2add _ _ | .t2del _ _ | .irqTimer _ | .ringEnable _ _
  | .vfFlr _ | .pfReset _ | .pcieConfigRequest _ | .xpllLock | .xpllLossTimeout | .islandSwitchDone | .ageMaxReached _ _
  | .stackSensorReading _ _ | .hbmStackFailure _ | .zeroisationComplete | .managementRestartDone | .boardReadingStale
  | .moveDrainTimeout _ => true

end Sys2Proof
end

