-- ==== Sys2Proof/Certificates/Slice0/Obligations.lean ====
section
/-!
DEFINITION. The statements for the provers: what every command does when it completes, what it leaves alone, and the rules of the machine
as a whole. Each docstring says which rules of the spec a statement formalises or rests on.
-/
section

open Sys2Proof Sys2Proof.Machine

/-- The register commands and the layer commands complete with their own effect (Rests on R15, R18, R485, R538, R42, R43, R484). A write of LOG_CTL
with a legal MINSEV, a read of the low word of LOG_SEQ, a read of LOG_QSTAT, a misaligned access to BAR0, a clear of a layer's counters and a write of
a layer's thresholds each complete; the registers they name take the values of the rules and other state stays. -/
def Obligations.RegisterCommandsComplete : Prop :=
  (∀ (s : State) (v : Word), bits v.toNat 2 3 ≤ 4 →
    Completes (.registerWrite (.pf ⟨0xC0001, by decide⟩) v) s fun t => t.rd Reg.LOG_CTL = v.toNat % 32 ∧ RegsExcept [Reg.LOG_CTL] s t ∧
    t.log = s.log ∧ t.core = s.core ∧ t.host = s.host) ∧
  (∀ (s : State),
    Completes (.counterLowRead (.pf ⟨0xC0003, by decide⟩)) s fun t => t.latches = SMap.set (fun _ => (0 : Word)) s.latches Reg.LOG_SEQ_HI (BitVec.ofNat 32 (s.rd Reg.LOG_SEQ_HI)) ∧
    t.host.readData = s.rd Reg.LOG_SEQ_LO ∧ RegsExcept [] s t) ∧
  (∀ (s : State), Completes (.logQstatRead) s fun t => t.fld Reg.LOG_QSTAT Fld.LOG_QSTAT_MAX = 0 ∧
    t.fld Reg.LOG_QSTAT Fld.LOG_QSTAT_CUR = s.fld Reg.LOG_QSTAT Fld.LOG_QSTAT_CUR ∧ RegsExcept [Reg.LOG_QSTAT] s t ∧ t.log = s.log) ∧
  (∀ (s : State) (o n : Nat), barAligned o n = false →
    Completes (.barMisalignedAccess o n) s fun t => t = { s with host := { s.host with aerCa := s.host.aerCa + 1 } }) ∧
  (∀ (s : State) (k : CoreNo) (l : Fin 256), Completes (.layerClr k l) s fun t => (∀ c ∈ LCnt.all, t.lget k l c = 0) ∧
    t.rd (Reg.CORE_LSTAT k l) = s.rd (Reg.CORE_LSTAT k l) ∧ t.core = s.core ∧ t.log = s.log) ∧
  (∀ (s : State) (k : CoreNo) (l : Fin 256) (w : Word),
    Completes (.lthrWrite k l false w) s fun t => t.rd (Reg.CORE_LTHR0 k l) = w.toNat &&& 0x9F9F9F9F ∧ t.core = s.core) ∧
  (∀ (s : State) (k : CoreNo) (l : Fin 256) (w : Word),
    Completes (.lthrWrite k l true w) s fun t => t.rd (Reg.CORE_LTHR1 k l) = w.toNat &&& 0x009F9F9F ∧ t.core = s.core)

/-- The tile commands complete with their own effect (Rests on R53, R57, R58, R62, R66, R70, R72, R76, R86). A physical read starts when a segment
waits and the governor has a credit, and counts in TILE_RDCNT; the check of a read goes on to the next read of a sequence or accepts it; delivery
hands the sums to the group accumulator and shows the read in TILE_LAST0; a flag window ends and its count returns to 0; a legal write of TILE_FLAGWIN
takes effect; TILE_CLR zeroes the four counters. -/
def Obligations.TileCommandsComplete : Prop :=
  (∀ (s : State) (k : CoreNo) (x : TileNo) (job : TileJob), (s.eng k x).bufs[(s.eng k x).drains.length]? = some job → (s.eng k x).phase ≠ .check →
    s.thm.step = 0 → SMap.get (fun _ => 0) s.pwr.credits k ≠ 0 ∨ s.pwr.pool ≠ 0 →
    Completes (.tileReadStart k x) s fun t => (t.eng k x).phase = .check ∧ t.rdcnt k x = (s.rdcnt k x + 1) % 2 ^ 64 ∧ t.pwr.used = s.pwr.used + 1 ∧
    RegsExcept [Reg.TILE_RDCNT_LO k x, Reg.TILE_RDCNT_HI k x] s t ∧ t.mesh = s.mesh ∧ t.hbm = s.hbm ∧ t.srv = s.srv ∧ t.log = s.log) ∧
  (∀ (s : State) (k : CoreNo) (x : TileNo) (job : TileJob), (s.eng k x).bufs[(s.eng k x).drains.length]? = some job → (s.eng k x).phase = .check →
    (s.eng k x).n + 1 < (s.eng k x).target →
    Completes (.tileCheck k x) s fun t => t = s.setEng k x { s.eng k x with n := (s.eng k x).n + 1, phase := .read }) ∧
  (∀ (s : State) (k : CoreNo) (x : TileNo) (job : TileJob), (s.eng k x).bufs[(s.eng k x).drains.length]? = some job → (s.eng k x).phase = .check →
    (s.eng k x).target ≤ (s.eng k x).n + 1 → s.readCap k x ≤ (s.eng k x).target → Completes (.tileCheck k x) s fun t => (t.eng k x).phase = .idle ∧
    (t.eng k x).drains.length = (s.eng k x).drains.length + 1 ∧ (t.eng k x).bufs = (s.eng k x).bufs ∧ RegsExcept [] s t ∧ t.mesh = s.mesh ∧
    t.log = s.log) ∧
  (∀ (s : State) (k : CoreNo) (x : TileNo) (d : TileDrain) (rest : List TileDrain), (s.eng k x).drains = d :: rest →
    ctxKey k d.job.ctx ∉ s.mesh.dropSums → d.flagged = false → s.op k 0 = none →
    Completes (.tileDeliver k x) s fun t => t.group k (x / 64) = s.group k (x / 64) ++ [s.delivered k x d] ∧ (t.eng k x).drains = rest ∧
    (t.eng k x).bufs = (s.eng k x).bufs.drop 1 ∧ t.rd (Reg.TILE_LAST2 k x) = d.job.seg.iblk % 2 ^ 32 ∧
    t.rd (Reg.TILE_REFIRECNT k x) = satAdd 0xFFFFFFFF (s.rd (Reg.TILE_REFIRECNT k x)) (b2n (decide (2 ≤ d.n))) ∧ t.mesh = s.mesh ∧ t.hbm = s.hbm ∧
    t.srv = s.srv) ∧
  (∀ (s : State) (k : CoreNo) (x : TileNo), s.windowEnd k x ≤ s.rdcnt k x →
    Completes (.flagWindowEnd k x) s fun t => t.fld (Reg.TILE_WINFLAG k x) Fld.TILE_WINFLAG_COUNT = 0 ∧ (t.eng k x).evInWin = false ∧
    (t.eng k x).winStart = s.windowEnd k x - 1 ∧ RegsExcept [Reg.TILE_WINFLAG k x] s t ∧ t.log = s.log ∧ t.mesh = s.mesh) ∧
  (∀ (s : State) (k : CoreNo) (x : TileNo) (v : Word), s.tileCfgRefused k x = false →
    tileLegal 0x18 ((s.rd (Reg.TILE_FLAGWIN k x) &&& 0xFFFF00E0) ||| (v.toNat &&& 0xFF1F)) = true →
    Completes (.tileFlagwinWrite k x v) s fun t => t.rd (Reg.TILE_FLAGWIN k x) = ((s.rd (Reg.TILE_FLAGWIN k x) &&& 0xFFFF00E0) ||| (v.toNat &&& 0xFF1F)) ∧
    RegsExcept [Reg.TILE_FLAGWIN k x, Reg.TILE_WINFLAG k x] s t ∧ t.log = s.log ∧ t.mesh = s.mesh) ∧
  (∀ (s : State) (k : CoreNo) (x : TileNo), Completes (.tileClr k x) s fun t => t.rd (Reg.TILE_REFIRECNT k x) = 0 ∧ t.rd (Reg.TILE_FLAGCNT k x) = 0 ∧
    t.rd (Reg.TILE_UNCHKCNT k x) = 0 ∧ t.rd (Reg.TILE_CLIPCNT k x) = 0 ∧
    RegsExcept [Reg.TILE_REFIRECNT k x, Reg.TILE_FLAGCNT k x, Reg.TILE_UNCHKCNT k x, Reg.TILE_CLIPCNT k x] s t ∧ t.core = s.core)

/-- The drift commands complete with their own effect (Rests on R94, R95, R97, R99, R100, R103, R104, R105, R106, R107). A full reference window
closes with an estimate when it qualifies and is counted as thin when not; a full column window restarts; an elapsed period, a temperature step or
CORE_DCMD opens a round; a built set arms in AUTO and is ready in HOLD; ARM freezes a ready set; DISCARD copies the active words into the shadow; a
shadow word is written in MANUAL; an idle partition's armed tiles flip; a tile's age reaches AGE_MAX. -/
def Obligations.DriftCommandsComplete : Prop :=
  (∀ (s : State) (k : CoreNo) (x : TileNo), 2 ^ s.fld (Reg.CORE_DWIN k) Fld.CORE_DWIN_REF_WIN_EXP ≤ (s.drift k x).reads →
    s.refQualifies k (s.drift k x) = false → (s.drift k x).evPending = false → Completes (.refWindowClose k x) s fun t => (t.drift k x).reads = 0 ∧
    (t.drift k x).m = 0 ∧ t.rd (Reg.CORE_DTHINCNT k) = satAdd 0xFFFFFFFF (s.rd (Reg.CORE_DTHINCNT k)) 1 ∧ RegsExcept [Reg.CORE_DTHINCNT k] s t ∧
    t.log = s.log) ∧
  (∀ (s : State) (k : CoreNo) (x : TileNo), 2 ^ s.fld (Reg.CORE_DWIN k) Fld.CORE_DWIN_REF_WIN_EXP ≤ (s.drift k x).reads →
    s.refQualifies k (s.drift k x) = true → (s.drift k x).evPending = false → Completes (.refWindowClose k x) s fun t => (t.drift k x).reads = 0 ∧
    (t.drift k x).m = 0 ∧ (t.drift k x).qual = true ∧ (t.drift k x).last = some (windowEstimate (s.drift k x)) ∧
    t.rd (Reg.CORE_DTHINCNT k) = s.rd (Reg.CORE_DTHINCNT k)) ∧
  (∀ (s : State) (k : CoreNo) (x : TileNo), 2 ^ s.fld (Reg.CORE_DWIN k) Fld.CORE_DWIN_COL_WIN_EXP ≤ (s.drift k x).colReads →
    Completes (.colWindowClose k x) s fun t => (t.drift k x).colReads = 0 ∧ RegsExcept [Reg.CORE_DCTHINCNT k] s t ∧ t.log = s.log ∧ t.mesh = s.mesh) ∧
  (∀ (s : State) (k : CoreNo) (x : TileNo), (s.drift k x).est.isSome = true → s.dbusy k = false → s.dmode k ≠ 2 →
    Completes (.roundTimer k) s fun t => t.fld (Reg.CORE_DSTAT k) Fld.CORE_DSTAT_BUILD = 1 ∧ SMap.get (fun _ => 0) t.core.dmode k = s.dmode k + 1 ∧
    RegsExcept [Reg.CORE_DSTAT k, Reg.CORE_DCLAMPCNT k] s t ∧ t.log = s.log) ∧
  (∀ (s : State) (k : CoreNo) (x : TileNo), s.tileState k x = 2 →
    s.fld (Reg.CORE_DTIME k) Fld.CORE_DTIME_TEMP_REQ ≤ (s.roOf k - (s.drift k x).tcommit).natAbs → s.fld (Reg.CORE_DCTL k) Fld.CORE_DCTL_TEMP_EN = 1 →
    s.dbusy k = false → s.dmode k ≠ 2 → Completes (.tempRoundTrigger k) s fun t => t.fld (Reg.CORE_DSTAT k) Fld.CORE_DSTAT_BUILD = 1 ∧
    (t.drift k x).built = true ∧ RegsExcept [Reg.CORE_DSTAT k, Reg.CORE_DCLAMPCNT k] s t ∧ t.log = s.log) ∧
  (∀ (s : State) (k : CoreNo), s.dbusy k = false → s.dmode k ≠ 2 → Completes (.build k) s fun t => t.fld (Reg.CORE_DSTAT k) Fld.CORE_DSTAT_BUILD = 1 ∧
    SMap.get (fun _ => 0) t.core.dmode k = s.dmode k + 1 ∧ RegsExcept [Reg.CORE_DSTAT k, Reg.CORE_DCLAMPCNT k] s t ∧ t.log = s.log) ∧
  (∀ (s : State) (k : CoreNo), s.fld (Reg.CORE_DSTAT k) Fld.CORE_DSTAT_BUILD = 1 → SMap.get (fun _ => 0) s.core.dmode k = 2 →
    Completes (.buildComplete k) s fun t => t.fld (Reg.CORE_DSTAT k) Fld.CORE_DSTAT_BUILD = 0 ∧ t.fld (Reg.CORE_DSTAT k) Fld.CORE_DSTAT_READY = 1 ∧
    RegsExcept [Reg.CORE_DSTAT k] s t ∧ t.core.shd = s.core.shd ∧ t.core.act = s.core.act) ∧
  (∀ (s : State) (k : CoreNo), s.fld (Reg.CORE_DSTAT k) Fld.CORE_DSTAT_BUILD = 1 → SMap.get (fun _ => 0) s.core.dmode k = 1 →
    Completes (.buildComplete k) s fun t => t.fld (Reg.CORE_DSTAT k) Fld.CORE_DSTAT_BUILD = 0 ∧ t.fld (Reg.CORE_DSTAT k) Fld.CORE_DSTAT_READY = 0 ∧
    (if t.armedTiles k = [] then t.fld (Reg.CORE_DSTAT k) Fld.CORE_DSTAT_DONE = 1 else t.fld (Reg.CORE_DSTAT k) Fld.CORE_DSTAT_ARMED = 1) ∧
    RegsExcept [Reg.CORE_DSTAT k] s t ∧ t.core.act = s.core.act) ∧
  (∀ (s : State) (k : CoreNo), s.dmode k ≠ 2 → s.fld (Reg.CORE_DSTAT k) Fld.CORE_DSTAT_READY = 1 →
    Completes (.arm k) s fun t => t.fld (Reg.CORE_DSTAT k) Fld.CORE_DSTAT_READY = 0 ∧
    (if t.armedTiles k = [] then t.fld (Reg.CORE_DSTAT k) Fld.CORE_DSTAT_DONE = 1 else t.fld (Reg.CORE_DSTAT k) Fld.CORE_DSTAT_ARMED = 1) ∧
    RegsExcept [Reg.CORE_DSTAT k] s t ∧ t.core.act = s.core.act) ∧
  (∀ (s : State) (k : CoreNo) (x : TileNo) (c : Fin 1104), s.fld (Reg.CORE_DSTAT k) Fld.CORE_DSTAT_READY = 1 →
    Completes (.discardSet k) s fun t => t.fld (Reg.CORE_DSTAT k) Fld.CORE_DSTAT_READY = 0 ∧ t.shdWord k x c = s.actWord k x c ∧
    (t.drift k x).built = false ∧ RegsExcept [Reg.CORE_DSTAT k] s t ∧ t.core.act = s.core.act) ∧
  (∀ (s : State) (k : CoreNo) (v : Word), s.dmode k = 2 → s.fld (Reg.CORE_DSTAT k) Fld.CORE_DSTAT_BUILD ≠ 1 →
    s.fld (Reg.CORE_DSTAT k) Fld.CORE_DSTAT_ARMED ≠ 1 → s.fld (Reg.CORE_DCIDX k) Fld.CORE_DCIDX_BANK ≠ 1 →
    s.fld (Reg.CORE_DCIDX k) Fld.CORE_DCIDX_PCOL < 1104 →
    Completes (.shadowWordWrite k v) s fun t => t.shdWord k (s.fld (Reg.CORE_DCIDX k) Fld.CORE_DCIDX_TILE) (s.fld (Reg.CORE_DCIDX k) Fld.CORE_DCIDX_PCOL) = v ∧
    RegsExcept [] s t ∧ t.core.act = s.core.act ∧ t.log = s.log) ∧
  (∀ (s : State) (p : PartNo) (k : CoreNo) (x : TileNo), (s.part p).opened = false → (s.part p).held = false → s.run p ≠ 1 →
    (s.drift k x).armed = true → (s.ownersOfGroup k (x / 64)).contains p.val = true →
    Completes (.idlePeriodFlip (some p)) s fun t => (t.drift k x).armed = false ∧ (t.drift k x).tcommit = (s.drift k x).tbuild ∧
    t.actWord k x 5 = s.shdWord k x 5 ∧ t.core.shd = s.core.shd) ∧
  (∀ (s : State) (k : CoreNo) (x : TileNo),
    Completes (.ageMaxReached k x) s fun t => (t.drift k x).age = max (s.drift k x).age (s.fld (Reg.CORE_DTIME k) Fld.CORE_DTIME_AGE_MAX * 100) ∧
    RegsExcept logRegs s t ∧ t.core.act = s.core.act ∧ t.core.shd = s.core.shd)

/-- The operations of slots 0, 1, 3 and 4 complete with their own effect (Rests on R164, R167, R174, R179, R180, R182, R142, R123, R134). For an
issued bundle whose next slot holds the operation and whose rows it may access: DISPATCH hands the aligned segment to its tile; COPY, COPYK and FILLZ
write the destination row, COPY alone emptying the source tag; SEND and SENDK put the row into the router's input; ENQ_T and ENQ_S append the checked
descriptor and count it in ENQ; CLR zeroes the counter; a bundle of NOPs moves the pc on. -/
def Obligations.SlotCommandsComplete : Prop :=
  (∀ (s : State) (k : CoreNo) (n : CtxNo) (b : Nat), fetchesOk s k n b = true → slotsOf b = 0 →
    Completes (.nop k n) s fun t => t.pcOf k n = s.pcOf k n + 1 ∧ (t.ctx k n).cur = none ∧ (t.ctx k n).wait = .none ∧ t.mesh = s.mesh ∧ t.log = s.log) ∧
  (∀ (s : State) (k : CoreNo) (n : CtxNo) (i : Issued), issuedAt s k n 0 1 i = true → bits i.bundle 23 7 = 1 → bitAt i.bundle 255 = false →
    plainRow s k n (i.row 9 1) = true → (s.eng k (64 * bits i.bundle 36 4 + bits i.bundle 30 6)).bufs.length < 2 →
    Completes (.dispatch k n) s fun t => let x := 64 * bits i.bundle 36 4 + bits i.bundle 30 6;
    (t.eng k x).bufs = (s.eng k x).bufs ++ [{ seg := alignSegment (s.shelfRow k (i.row 9 1)).data, ctx := n, pc := i.next - 1, tmpl := s.dispTmpl k (bits i.bundle 13 8) }] ∧
    t.op k 0 = none ∧ RegsExcept [] s t ∧ t.mesh = s.mesh) ∧
  (∀ (s : State) (k : CoreNo) (n : CtxNo) (i : Issued), issuedAt s k n 1 1 i = true → bits i.bundle 44 4 = 1 → bitAt i.bundle 255 = true →
    taggedRow s k n (i.row 68 60) .mov false true = true → taggedRow s k n (i.row 56 48) .mov true false = true →
    Completes (.copy k n) s fun t => t.shelfRow k (i.row 56 48) = { data := (s.shelfRow k (i.row 68 60)).data, full := true } ∧
    t.shelfRow k (i.row 68 60) = { s.shelfRow k (i.row 68 60) with full := false } ∧ t.op k 1 = none ∧ RegsExcept [] s t ∧ t.mesh = s.mesh) ∧
  (∀ (s : State) (k : CoreNo) (n : CtxNo) (i : Issued), issuedAt s k n 1 1 i = true → bits i.bundle 44 4 = 1 → bitAt i.bundle 255 = false →
    plainRow s k n (i.row 68 60) = true → s.inRows k n (i.row 56 48) = true → s.spillPending k (i.row 56 48) = false →
    Completes (.copy k n) s fun t => t.shelfRow k (i.row 56 48) = { data := (s.shelfRow k (i.row 68 60)).data, full := (s.shelfRow k (i.row 56 48)).full } ∧
    t.op k 1 = none ∧ RegsExcept [] s t ∧ t.mesh = s.mesh) ∧
  (∀ (s : State) (k : CoreNo) (n : CtxNo) (i : Issued), issuedAt s k n 1 2 i = true → bits i.bundle 44 4 = 1 → bitAt i.bundle 255 = true →
    taggedRow s k n (i.row 68 60) .mov false true = true → taggedRow s k n (i.row 56 48) .mov true false = true →
    Completes (.copyk k n) s fun t => t.shelfRow k (i.row 56 48) = { data := (s.shelfRow k (i.row 68 60)).data, full := true } ∧
    t.shelfRow k (i.row 68 60) = { s.shelfRow k (i.row 68 60) with full := true } ∧ t.op k 1 = none ∧ RegsExcept [] s t ∧ t.mesh = s.mesh) ∧
  (∀ (s : State) (k : CoreNo) (n : CtxNo) (i : Issued), issuedAt s k n 1 2 i = true → bits i.bundle 44 4 = 1 → bitAt i.bundle 255 = false →
    plainRow s k n (i.row 68 60) = true → s.inRows k n (i.row 56 48) = true → s.spillPending k (i.row 56 48) = false →
    Completes (.copyk k n) s fun t => t.shelfRow k (i.row 56 48) = { data := (s.shelfRow k (i.row 68 60)).data, full := (s.shelfRow k (i.row 56 48)).full } ∧
    t.op k 1 = none ∧ RegsExcept [] s t ∧ t.mesh = s.mesh) ∧
  (∀ (s : State) (k : CoreNo) (n : CtxNo) (i : Issued), issuedAt s k n 1 3 i = true → bits i.bundle 44 4 = 1 → bitAt i.bundle 255 = false →
    s.inRows k n (i.row 56 48) = true → s.spillPending k (i.row 56 48) = false →
    Completes (.fillz k n) s fun t => t.shelfRow k (i.row 56 48) = { data := 0, full := (s.shelfRow k (i.row 56 48)).full } ∧ t.op k 1 = none ∧
    RegsExcept [] s t ∧ t.mesh = s.mesh) ∧
  (∀ (s : State) (k : CoreNo) (n : CtxNo) (i : Issued), issuedAt s k n 3 1 i = true → bits i.bundle 136 4 = 1 → bitAt i.bundle 255 = true →
    taggedRow s k n (i.row 156 148) .msh false true = true → (s.inputQ k 4 0).length < 8 →
    Completes (.send k n) s fun t => let w := s.rd (Reg.CORE_SENT k (2 * bits i.bundle 160 8));
    t.inputQ k 4 0 = s.inputQ k 4 0 ++ [{ data := (s.shelfRow k (i.row 156 148)).data, poison := false, dnode := bits w 0 5, snode := k, part := s.ctxPart k n, vc := 0, reduce := bitAt w 8, ste := bits i.bundle 160 8, drow := bits w 16 16 + bits i.bundle 140 8, wt := 1, age := s.mesh.arrivals, srcs := [ctxKey k n] }] ∧
    (t.ctx k n).sent = (s.ctx k n).sent + 1 ∧ (t.shelfRow k (i.row 156 148)).full = false ∧ t.op k 6 = none ∧ RegsExcept [] s t) ∧
  (∀ (s : State) (k : CoreNo) (n : CtxNo) (i : Issued), issuedAt s k n 3 2 i = true → bits i.bundle 136 4 = 1 → bitAt i.bundle 255 = true →
    taggedRow s k n (i.row 156 148) .msh false true = true → (s.inputQ k 4 0).length < 8 →
    Completes (.sendk k n) s fun t => let w := s.rd (Reg.CORE_SENT k (2 * bits i.bundle 160 8));
    t.inputQ k 4 0 = s.inputQ k 4 0 ++ [{ data := (s.shelfRow k (i.row 156 148)).data, poison := false, dnode := bits w 0 5, snode := k, part := s.ctxPart k n, vc := 0, reduce := bitAt w 8, ste := bits i.bundle 160 8, drow := bits w 16 16 + bits i.bundle 140 8, wt := 1, age := s.mesh.arrivals, srcs := [ctxKey k n] }] ∧
    (t.ctx k n).sent = (s.ctx k n).sent + 1 ∧ (t.shelfRow k (i.row 156 148)).full = true ∧ t.op k 6 = none ∧ RegsExcept [] s t) ∧
  (∀ (s : State) (k : CoreNo) (n : CtxNo) (i : Issued), issuedAt s k n 4 1 i = true → bitAt i.bundle 185 = false →
    (s.queue k (bits i.bundle 196 4)).length < 256 →
    s.descCheck k n (bits i.bundle 196 4) (bits i.bundle 186 10) (s.descEntry k (bits i.bundle 186 10)) (dfield (s.descEntry k (bits i.bundle 186 10)) 16 5) = none →
    Completes (.enqT k n) s fun t => let q := bits i.bundle 196 4; let w := s.descEntry k (bits i.bundle 186 10);
    (t.queue k q).take (s.queue k q).length = s.queue k q ∧
    ((t.queue k q).drop (s.queue k q).length).map (fun d => (d.ctr, d.rows, d.hoff, d.ctx)) = [(dfield w 2 2, dfield w 8 2, dfield w 16 5, n.val)] ∧
    t.cenq k (dfield w 2 2) = s.cenq k (dfield w 2 2) + 1 ∧ t.op k (8 + n) = none) ∧
  (∀ (s : State) (k : CoreNo) (n : CtxNo) (i : Issued) (w : Nat), issuedAt s k n 4 2 i = true → bitAt i.bundle 255 = false →
    plainRow s k n (i.row 192 184) = true → w = descSlot (s.shelfRow k (i.row 192 184)).data (bits i.bundle 179 5) →
    (s.queue k (bits i.bundle 196 4)).length < 256 →
    s.descCheck k n (bits i.bundle 196 4) (0x80000000 + i.row 192 184 * 32 + bits i.bundle 179 5) w (dfield w 16 5) = none →
    Completes (.enqS k n) s fun t => let q := bits i.bundle 196 4; (t.queue k q).take (s.queue k q).length = s.queue k q ∧
    ((t.queue k q).drop (s.queue k q).length).map (fun d => (d.ctr, d.rows, d.hoff, d.ctx)) = [(dfield w 2 2, dfield w 8 2, dfield w 16 5, n.val)] ∧
    t.cenq k (dfield w 2 2) = s.cenq k (dfield w 2 2) + 1 ∧ t.op k (8 + n) = none) ∧
  (∀ (s : State) (k : CoreNo) (n : CtxNo) (i : Issued), issuedAt s k n 4 3 i = true →
    s.cenq k (bits i.bundle 190 6) = s.cdone k (bits i.bundle 190 6) → Completes (.clr k n) s fun t => let c := bits i.bundle 190 6; t.cenq k c = 0 ∧
    t.cdone k c = 0 ∧ t.rd (Reg.QUE_CSTAT k c) = 0 ∧ RegsExcept [Reg.QUE_CENQ k c, Reg.QUE_CDONE k c, Reg.QUE_CSTAT k c] s t ∧ t.mesh = s.mesh)

/-- The wheel operations complete with their own effect (Rests on R164, R175, R176, R177). For an issued bundle in scheduled mode whose operand rows
can be read and whose result rows can be written, each wheel operation writes to its rows of C the result of R176 for the template and the rows of A
and B as they stood. -/
def Obligations.WheelCommandsComplete : Prop :=
  (∀ (s : State) (k : CoreNo) (n : CtxNo) (i : Issued) (j : Nat), issuedAt s k n 2 1 i = true → bitAt i.bundle 255 = false →
    (List.range (wheelRows .mmnt (s.wheelTmpl k (bits i.bundle 118 8))).1).all (fun x => plainRow s k n (i.row 114 106 + x)) = true →
    (List.range (wheelRows .mmnt (s.wheelTmpl k (bits i.bundle 118 8))).2.1).all (fun x => plainRow s k n (i.row 102 94 + x)) = true →
    (List.range (wheelRows .mmnt (s.wheelTmpl k (bits i.bundle 118 8))).2.2).all (fun x => s.inRows k n (i.row 90 82 + x) && !s.spillPending k (i.row 90 82 + x)) = true →
    j < (wheelRows .mmnt (s.wheelTmpl k (bits i.bundle 118 8))).2.2 → Completes (.mmnt k n) s fun t => let m := s.wheelTmpl k (bits i.bundle 118 8);
    let rows := fun (a c : Nat) => (List.range c).map fun x => ((s.shelfRow k (a + x)).data, false);
    (t.shelfRow k (i.row 90 82 + j)).data = nth 0 (wheelResult .mmnt m (rows (i.row 114 106) (wheelRows .mmnt m).1) (rows (i.row 102 94) (wheelRows .mmnt m).2.1)).1 j ∧
    t.op k (2 + n) = none ∧ t.mesh = s.mesh) ∧
  (∀ (s : State) (k : CoreNo) (n : CtxNo) (i : Issued) (j : Nat), issuedAt s k n 2 2 i = true → bitAt i.bundle 255 = false →
    (List.range (wheelRows .mmnn (s.wheelTmpl k (bits i.bundle 118 8))).1).all (fun x => plainRow s k n (i.row 114 106 + x)) = true →
    (List.range (wheelRows .mmnn (s.wheelTmpl k (bits i.bundle 118 8))).2.1).all (fun x => plainRow s k n (i.row 102 94 + x)) = true →
    (List.range (wheelRows .mmnn (s.wheelTmpl k (bits i.bundle 118 8))).2.2).all (fun x => s.inRows k n (i.row 90 82 + x) && !s.spillPending k (i.row 90 82 + x)) = true →
    j < (wheelRows .mmnn (s.wheelTmpl k (bits i.bundle 118 8))).2.2 → Completes (.mmnn k n) s fun t => let m := s.wheelTmpl k (bits i.bundle 118 8);
    let rows := fun (a c : Nat) => (List.range c).map fun x => ((s.shelfRow k (a + x)).data, false);
    (t.shelfRow k (i.row 90 82 + j)).data = nth 0 (wheelResult .mmnn m (rows (i.row 114 106) (wheelRows .mmnn m).1) (rows (i.row 102 94) (wheelRows .mmnn m).2.1)).1 j ∧
    t.op k (2 + n) = none ∧ t.mesh = s.mesh) ∧
  (∀ (s : State) (k : CoreNo) (n : CtxNo) (i : Issued) (j : Nat), issuedAt s k n 2 4 i = true → bitAt i.bundle 255 = false →
    (List.range (wheelRows .conv (s.wheelTmpl k (bits i.bundle 118 8))).1).all (fun x => plainRow s k n (i.row 114 106 + x)) = true →
    (List.range (wheelRows .conv (s.wheelTmpl k (bits i.bundle 118 8))).2.1).all (fun x => plainRow s k n (i.row 102 94 + x)) = true →
    (List.range (wheelRows .conv (s.wheelTmpl k (bits i.bundle 118 8))).2.2).all (fun x => s.inRows k n (i.row 90 82 + x) && !s.spillPending k (i.row 90 82 + x)) = true →
    j < (wheelRows .conv (s.wheelTmpl k (bits i.bundle 118 8))).2.2 → Completes (.conv k n) s fun t => let m := s.wheelTmpl k (bits i.bundle 118 8);
    let rows := fun (a c : Nat) => (List.range c).map fun x => ((s.shelfRow k (a + x)).data, false);
    (t.shelfRow k (i.row 90 82 + j)).data = nth 0 (wheelResult .conv m (rows (i.row 114 106) (wheelRows .conv m).1) (rows (i.row 102 94) (wheelRows .conv m).2.1)).1 j ∧
    t.op k (2 + n) = none ∧ t.mesh = s.mesh) ∧
  (∀ (s : State) (k : CoreNo) (n : CtxNo) (i : Issued) (j : Nat), issuedAt s k n 2 5 i = true → bitAt i.bundle 255 = false →
    (List.range (wheelRows .func (s.wheelTmpl k (bits i.bundle 118 8))).1).all (fun x => plainRow s k n (i.row 114 106 + x)) = true →
    (List.range (wheelRows .func (s.wheelTmpl k (bits i.bundle 118 8))).2.1).all (fun x => plainRow s k n (i.row 102 94 + x)) = true →
    (List.range (wheelRows .func (s.wheelTmpl k (bits i.bundle 118 8))).2.2).all (fun x => s.inRows k n (i.row 90 82 + x) && !s.spillPending k (i.row 90 82 + x)) = true →
    j < (wheelRows .func (s.wheelTmpl k (bits i.bundle 118 8))).2.2 → Completes (.func k n) s fun t => let m := s.wheelTmpl k (bits i.bundle 118 8);
    let rows := fun (a c : Nat) => (List.range c).map fun x => ((s.shelfRow k (a + x)).data, false);
    (t.shelfRow k (i.row 90 82 + j)).data = nth 0 (wheelResult .func m (rows (i.row 114 106) (wheelRows .func m).1) (rows (i.row 102 94) (wheelRows .func m).2.1)).1 j ∧
    t.op k (2 + n) = none ∧ t.mesh = s.mesh) ∧
  (∀ (s : State) (k : CoreNo) (n : CtxNo) (i : Issued) (j : Nat), issuedAt s k n 2 6 i = true → bitAt i.bundle 255 = false →
    (List.range (wheelRows .add (s.wheelTmpl k (bits i.bundle 118 8))).1).all (fun x => plainRow s k n (i.row 114 106 + x)) = true →
    (List.range (wheelRows .add (s.wheelTmpl k (bits i.bundle 118 8))).2.1).all (fun x => plainRow s k n (i.row 102 94 + x)) = true →
    (List.range (wheelRows .add (s.wheelTmpl k (bits i.bundle 118 8))).2.2).all (fun x => s.inRows k n (i.row 90 82 + x) && !s.spillPending k (i.row 90 82 + x)) = true →
    j < (wheelRows .add (s.wheelTmpl k (bits i.bundle 118 8))).2.2 → Completes (.add k n) s fun t => let m := s.wheelTmpl k (bits i.bundle 118 8);
    let rows := fun (a c : Nat) => (List.range c).map fun x => ((s.shelfRow k (a + x)).data, false);
    (t.shelfRow k (i.row 90 82 + j)).data = nth 0 (wheelResult .add m (rows (i.row 114 106) (wheelRows .add m).1) (rows (i.row 102 94) (wheelRows .add m).2.1)).1 j ∧
    t.op k (2 + n) = none ∧ t.mesh = s.mesh) ∧
  (∀ (s : State) (k : CoreNo) (n : CtxNo) (i : Issued) (j : Nat), issuedAt s k n 2 7 i = true → bitAt i.bundle 255 = false →
    (List.range (wheelRows .mul (s.wheelTmpl k (bits i.bundle 118 8))).1).all (fun x => plainRow s k n (i.row 114 106 + x)) = true →
    (List.range (wheelRows .mul (s.wheelTmpl k (bits i.bundle 118 8))).2.1).all (fun x => plainRow s k n (i.row 102 94 + x)) = true →
    (List.range (wheelRows .mul (s.wheelTmpl k (bits i.bundle 118 8))).2.2).all (fun x => s.inRows k n (i.row 90 82 + x) && !s.spillPending k (i.row 90 82 + x)) = true →
    j < (wheelRows .mul (s.wheelTmpl k (bits i.bundle 118 8))).2.2 → Completes (.mul k n) s fun t => let m := s.wheelTmpl k (bits i.bundle 118 8);
    let rows := fun (a c : Nat) => (List.range c).map fun x => ((s.shelfRow k (a + x)).data, false);
    (t.shelfRow k (i.row 90 82 + j)).data = nth 0 (wheelResult .mul m (rows (i.row 114 106) (wheelRows .mul m).1) (rows (i.row 102 94) (wheelRows .mul m).2.1)).1 j ∧
    t.op k (2 + n) = none ∧ t.mesh = s.mesh) ∧
  (∀ (s : State) (k : CoreNo) (n : CtxNo) (i : Issued) (j : Nat), issuedAt s k n 2 8 i = true → bitAt i.bundle 255 = false →
    (List.range (wheelRows .reduce (s.wheelTmpl k (bits i.bundle 118 8))).1).all (fun x => plainRow s k n (i.row 114 106 + x)) = true →
    (List.range (wheelRows .reduce (s.wheelTmpl k (bits i.bundle 118 8))).2.1).all (fun x => plainRow s k n (i.row 102 94 + x)) = true →
    (List.range (wheelRows .reduce (s.wheelTmpl k (bits i.bundle 118 8))).2.2).all (fun x => s.inRows k n (i.row 90 82 + x) && !s.spillPending k (i.row 90 82 + x)) = true →
    j < (wheelRows .reduce (s.wheelTmpl k (bits i.bundle 118 8))).2.2 →
    Completes (.reduce k n) s fun t => let m := s.wheelTmpl k (bits i.bundle 118 8);
    let rows := fun (a c : Nat) => (List.range c).map fun x => ((s.shelfRow k (a + x)).data, false);
    (t.shelfRow k (i.row 90 82 + j)).data = nth 0 (wheelResult .reduce m (rows (i.row 114 106) (wheelRows .reduce m).1) (rows (i.row 102 94) (wheelRows .reduce m).2.1)).1 j ∧
    t.op k (2 + n) = none ∧ t.mesh = s.mesh) ∧
  (∀ (s : State) (k : CoreNo) (n : CtxNo) (i : Issued) (j : Nat), issuedAt s k n 2 9 i = true → bitAt i.bundle 255 = false →
    (List.range (wheelRows .bscale (s.wheelTmpl k (bits i.bundle 118 8))).1).all (fun x => plainRow s k n (i.row 114 106 + x)) = true →
    (List.range (wheelRows .bscale (s.wheelTmpl k (bits i.bundle 118 8))).2.1).all (fun x => plainRow s k n (i.row 102 94 + x)) = true →
    (List.range (wheelRows .bscale (s.wheelTmpl k (bits i.bundle 118 8))).2.2).all (fun x => s.inRows k n (i.row 90 82 + x) && !s.spillPending k (i.row 90 82 + x)) = true →
    j < (wheelRows .bscale (s.wheelTmpl k (bits i.bundle 118 8))).2.2 →
    Completes (.bscale k n) s fun t => let m := s.wheelTmpl k (bits i.bundle 118 8);
    let rows := fun (a c : Nat) => (List.range c).map fun x => ((s.shelfRow k (a + x)).data, false);
    (t.shelfRow k (i.row 90 82 + j)).data = nth 0 (wheelResult .bscale m (rows (i.row 114 106) (wheelRows .bscale m).1) (rows (i.row 102 94) (wheelRows .bscale m).2.1)).1 j ∧
    t.op k (2 + n) = none ∧ t.mesh = s.mesh) ∧
  (∀ (s : State) (k : CoreNo) (n : CtxNo) (i : Issued), issuedAt s k n 2 3 i = true → bitAt i.bundle 255 = false →
    wheelRows .merge (s.wheelTmpl k (bits i.bundle 118 8)) = (1, 1, 1) → plainRow s k n (i.row 114 106) = true →
    plainRow s k n (i.row 102 94) = true → s.inRows k n (i.row 90 82) = true → s.spillPending k (i.row 90 82) = false →
    (P40.read (s.shelfRow k (i.row 114 106)).data false).sameKey (P40.read (s.shelfRow k (i.row 102 94)).data false) = true →
    Completes (.merge k n) s fun t => (t.shelfRow k (i.row 90 82)).data = ((P40.read (s.shelfRow k (i.row 114 106)).data false).merge (P40.read (s.shelfRow k (i.row 102 94)).data false)).toRow ∧
    t.op k (2 + n) = none ∧ t.mesh = s.mesh)

/-- The operations of slot 5 and the ends of waits complete with their own effect (Rests on R183, R184, R185, R186, R140, R141, R129, R130, R143). For
an issued bundle whose next slot is slot 5: JUMP, LOOP, SETL, SETA and ADDA change the pc and the context's registers as R183 says; SWITCH, BARRIER,
STEP, DRAIN, EVENT and HALT put the context into their wait or act at once; a wait whose condition holds lets its bundle issue; and each wait ends
when its condition is met. -/
def Obligations.ControlCommandsComplete : Prop :=
  (∀ (s : State) (k : CoreNo) (n : CtxNo) (i : Issued), issuedAt s k n 5 1 i = true →
    Completes (.jump k n) s fun t => t.pcOf k n = bits i.bundle 204 16 ∧ RegsExcept [Reg.CORE_CTXPC k n] s t ∧ (t.ctx k n).a = (s.ctx k n).a ∧
    (t.ctx k n).l = (s.ctx k n).l ∧ t.mesh = s.mesh) ∧
  (∀ (s : State) (k : CoreNo) (n : CtxNo) (i : Issued), issuedAt s k n 5 2 i = true → nth 0 (s.ctx k n).l (bits i.bundle 220 2) ≠ 0 →
    Completes (.loop k n) s fun t => t.pcOf k n = bits i.bundle 204 16 ∧
    (t.ctx k n).l = setNth (s.ctx k n).l (bits i.bundle 220 2) (nth 0 (s.ctx k n).l (bits i.bundle 220 2) - 1) ∧ RegsExcept [Reg.CORE_CTXPC k n] s t ∧
    (t.ctx k n).a = (s.ctx k n).a ∧ t.mesh = s.mesh) ∧
  (∀ (s : State) (k : CoreNo) (n : CtxNo) (i : Issued), issuedAt s k n 5 2 i = true → nth 0 (s.ctx k n).l (bits i.bundle 220 2) = 0 →
    Completes (.loop k n) s fun t => RegsExcept [] s t ∧ (t.ctx k n).l = (s.ctx k n).l ∧ (t.ctx k n).a = (s.ctx k n).a ∧ t.mesh = s.mesh) ∧
  (∀ (s : State) (k : CoreNo) (n : CtxNo) (i : Issued), issuedAt s k n 5 3 i = true →
    Completes (.setl k n) s fun t => (t.ctx k n).l = setNth (s.ctx k n).l (bits i.bundle 220 2) (bits i.bundle 204 16) ∧
    (t.ctx k n).a = (s.ctx k n).a ∧ RegsExcept [] s t ∧ t.mesh = s.mesh) ∧
  (∀ (s : State) (k : CoreNo) (n : CtxNo) (i : Issued), issuedAt s k n 5 4 i = true →
    Completes (.seta k n) s fun t => (t.ctx k n).a = setNth (s.ctx k n).a (bits i.bundle 220 4) (bits i.bundle 204 16) ∧
    (t.ctx k n).l = (s.ctx k n).l ∧ RegsExcept [] s t ∧ t.mesh = s.mesh) ∧
  (∀ (s : State) (k : CoreNo) (n : CtxNo) (i : Issued), issuedAt s k n 5 5 i = true →
    Completes (.adda k n) s fun t => (t.ctx k n).a = setNth (s.ctx k n).a (bits i.bundle 220 4) ((nth 0 (s.ctx k n).a (bits i.bundle 220 4) + bits i.bundle 204 16) % 65536) ∧
    (t.ctx k n).l = (s.ctx k n).l ∧ RegsExcept [] s t ∧ t.mesh = s.mesh) ∧
  (∀ (s : State) (k : CoreNo) (n : CtxNo) (b : Nat), fetchesOk s k n b = true → slotsOf b = 32 → slotOp b 5 = 6 → waitPasses s k n b = true →
    Completes (.waitAbs k n) s fun t => t.pcOf k n = s.pcOf k n + 1 ∧ (t.ctx k n).cur = none ∧ (t.ctx k n).wait = .none ∧ t.mesh = s.mesh ∧
    t.log = s.log) ∧
  (∀ (s : State) (k : CoreNo) (n : CtxNo) (b : Nat), fetchesOk s k n b = true → slotsOf b = 32 → slotOp b 5 = 7 → waitPasses s k n b = true →
    Completes (.waitOut k n) s fun t => t.pcOf k n = s.pcOf k n + 1 ∧ (t.ctx k n).cur = none ∧ (t.ctx k n).wait = .none ∧ t.mesh = s.mesh ∧
    t.log = s.log) ∧
  (∀ (s : State) (k : CoreNo) (n : CtxNo) (b : Nat), (s.ctx k n).wait = .counter → fetchesOk s k n b = true → hasWait b = true →
    waitPasses s k n b = true → Completes (.waitSatisfied k n) s fun t => t.pcOf k n = s.pcOf k n + 1 ∧ (t.ctx k n).wait = .none ∧
    (t.ctx k n).cur.map (·.left) = (if slotsOf b = 0 then none else some (slotsOf b)) ∧ t.mesh = s.mesh ∧ t.log = s.log) ∧
  (∀ (s : State) (k : CoreNo) (n : CtxNo) (i : Issued), issuedAt s k n 5 8 i = true → s.ctxRun k n = 1 →
    Completes (.switch k n) s fun t => (t.ctx k n).wait = .switch (bitAt i.bundle 230) (bits i.bundle 222 8) (bits i.bundle 213 9) (bits i.bundle 204 9) ∧
    t.ctxRun k n = 2 ∧ RegsExcept [Reg.CORE_CTXCTL k n] s t ∧ t.mesh = s.mesh) ∧
  (∀ (s : State) (k : CoreNo) (n : CtxNo) (i : Issued), issuedAt s k n 5 9 i = true → s.ctxsOn (s.ctxPart k n) k = [n.val] →
    Completes (.barrier k n) s fun t => (t.ctx k n).wait = .barrier (bits i.bundle 204 8) ∧
    t.mesh.msgs = s.mesh.msgs ++ [⟨.barArrive, k, mgmtNode, s.ctxPart k n, bits i.bundle 204 8 * 2 ^ 32 + (s.ctx k n).sent % 2 ^ 24⟩] ∧
    RegsExcept [] s t) ∧
  (∀ (s : State) (k : CoreNo) (n : CtxNo) (i : Issued), issuedAt s k n 5 10 i = true →
    Completes (.step k n) s fun t => (t.ctx k n).wait = .stepDrain ∧ RegsExcept [] s t ∧ t.mesh = s.mesh) ∧
  (∀ (s : State) (k : CoreNo) (n : CtxNo) (i : Issued), issuedAt s k n 5 11 i = true →
    Completes (.drain k n) s fun t => (t.ctx k n).wait = .drain (bits i.bundle 204 5) ∧ RegsExcept [] s t ∧ t.mesh = s.mesh) ∧
  (∀ (s : State) (k : CoreNo) (n : CtxNo) (i : Issued), issuedAt s k n 5 12 i = true → (s.events k).length < 16 →
    Completes (.event k n) s fun t => t.events k = s.events k ++ [n * 2 ^ 32 + (i.next - 1) * 2 ^ 16 + bits i.bundle 204 16] ∧
    (t.ctx k n).wait = (s.ctx k n).wait ∧ RegsExcept [] s t ∧ t.mesh = s.mesh) ∧
  (∀ (s : State) (k : CoreNo) (n : CtxNo) (i : Issued), issuedAt s k n 5 13 i = true → Completes (.halt k n) s fun t => (t.ctx k n).wait = .halting ∧
    RegsExcept [] s t ∧ t.mesh = s.mesh) ∧
  (∀ (s : State) (k : CoreNo) (n : CtxNo) (mask : Nat), (s.ctx k n).wait = .drain mask → s.ctxRun k n = 1 → s.drained k n mask = true →
    Completes (.drainComplete k n) s fun t => (t.ctx k n).wait = .none ∧ (t.ctx k n).a = (s.ctx k n).a ∧ RegsExcept [] s t ∧ t.mesh = s.mesh) ∧
  (∀ (s : State) (k : CoreNo) (n : CtxNo), (s.ctx k n).wait = .stepDrain → s.ctxRun k n = 1 → s.drained k n 31 = true →
    Completes (.stepDrained k n) s fun t => (t.ctx k n).wait = .stepWait ∧
    t.fld (Reg.CORE_CTXPC k n) Fld.CORE_CTXPC_STEP = (s.fld (Reg.CORE_CTXPC k n) Fld.CORE_CTXPC_STEP + 1) % 65536 ∧ t.pcOf k n = s.pcOf k n ∧
    RegsExcept [Reg.CORE_CTXPC k n] s t) ∧
  (∀ (s : State) (k : CoreNo) (n : CtxNo), (s.ctx k n).wait = .halting → s.ctxRun k n = 1 → s.drained k n 31 = true →
    Completes (.haltComplete k n) s fun t => (t.ctx k n).wait = .halted ∧ t.ctxRun k n = 0 ∧
    t.mesh.halts = s.mesh.halts ++ [(k.val, n.val, s.pcOf k n - 1)]) ∧
  (∀ (s : State) (k : CoreNo) (n : CtxNo) (mode : Bool) (fb nb ne : Nat), (s.ctx k n).wait = .switch mode fb nb ne → s.ctxRun k n = 2 →
    s.drained k n 31 = true → s.queuesEmpty k n = true →
    (List.range nb).all (fun x => decide (s.bufBase k n ≤ fb + x) && decide (fb + x < s.bufBase k n + s.bufCount k n)) = true →
    Completes (.switchComplete k n) s fun t => (t.ctx k n).wait = .none ∧ t.ctxRun k n = 1 ∧ t.tagged k n = mode ∧ t.pcOf k n = s.pcOf k n ∧
    ((t.slots (ctxKey k n)).all fun x => x.closed) = true) ∧
  (∀ (s : State) (k : CoreNo) (n : CtxNo) (mask : Nat), s.fld (Reg.CORE_WDOG k) Fld.CORE_WDOG_EN = 1 → s.ctxRun k n = 1 →
    (s.ctx k n).wait = .drain mask → s.fld (Reg.CORE_FLTINFO k n) Fld.CORE_FLTINFO_VALID = 0 →
    Completes (.watchdogExpiry k n) s fun t => t.ctxRun k n = 3 ∧ bits (t.rd (Reg.CORE_FLTINFO k n)) 16 8 = 0x18 ∧
    t.fld (Reg.CORE_FLTINFO k n) Fld.CORE_FLTINFO_VALID = 1 ∧ t.mesh.msgs.length = s.mesh.msgs.length + 1)

/-- The commands of queues, accumulators, the scrubber and blocked accesses complete with their own effect (Rests on R124, R122, R136, R137, R138,
R73, R170, R180, R212). A descriptor that is next starts and issues 17 requests for each row; a row of a READ whose granules have returned is written
to the shelf; a descriptor that has ended leaves its queue and counts in DONE; an accumulator writes the eleven contribution rows of the first
delivered read; a scrub visit corrects a single-bit error; a parked row whose shelf row is empty is written. -/
def Obligations.QueueCommandsComplete : Prop :=
  (∀ (s : State) (k : CoreNo) (q : Fin 16) (d : QDesc) (rest : List QDesc), s.queue k q = d :: rest → d.started = false → d.write = false →
    Completes (.descriptorStart k q) s fun t => t.hbm.reqs.length = s.hbm.reqs.length + 17 * d.rows ∧
    t.queue k q = { d with started := true, id := s.hbm.nextId } :: rest ∧ t.hbm.nextId = s.hbm.nextId + 1 ∧ t.mesh = s.mesh ∧ t.log = s.log) ∧
  (∀ (s : State) (k : CoreNo) (q : Fin 16) (j : Fin 256) (i : Fin 4096) (cycles : Nat) (d : QDesc) (gs : List Granule), (s.queue k q)[j.val]? = some d →
    d.write = false → d.started = true → i < d.rows → d.done.contains i.val = false → d.tagged = false → s.inRows k d.ctx (d.first + i) = true →
    gs.length = 17 →
    (List.range 17).all (fun g => (s.respOf k q d.id i g).map (fun r => (r.data, r.poison || r.refused)) == some (nth 0 gs g, false)) = true →
    Completes (.descriptorRowLand k q j i cycles) s fun t => t.shelfRow k (d.first + i) = { data := rowOfGranules gs, full := (s.shelfRow k (d.first + i)).full } ∧
    (t.queue k q)[j.val]? = some { d with done := d.done ++ [i.val] } ∧ t.mesh = s.mesh ∧ t.log = s.log) ∧
  (∀ (s : State) (k : CoreNo) (q : Fin 16) (d : QDesc) (rest : List QDesc), s.queue k q = d :: rest → s.descEnded k q d = true → d.ended = false →
    d.ctr < 64 → (List.range 4).all (fun n => (s.op k (8 + n)).isNone) = true → Completes (.descriptorComplete k q) s fun t => t.queue k q = rest ∧
    t.cdone k d.ctr = (s.cdone k d.ctr + 1) % 2 ^ 32 ∧ t.cenq k d.ctr = s.cenq k d.ctr ∧ t.mesh = s.mesh ∧ t.log = s.log) ∧
  (∀ (s : State) (k : CoreNo) (g : GroupNo) (d : Delivered) (rest : List Delivered) (i : Nat), s.group k g = d :: rest → s.op k (16 + g) = none →
    d.job.tmpl.psrc = 0xFFFF → s.tagged k d.job.ctx = false → s.headroom k d.tile d.job.tmpl.base = none →
    (List.range 11).all (fun x => s.inRows k d.job.ctx (d.job.tmpl.odst + x) && !s.spillPending k (d.job.tmpl.odst + x)) = true → i < 11 →
    Completes (.accumulate k g) s fun t => (t.shelfRow k (d.job.tmpl.odst + i)).data = (s.contribRow k d i).toRow ∧ t.group k g = rest ∧
    t.op k (16 + g) = none ∧ RegsExcept [] s t ∧ t.mesh = s.mesh) ∧
  (∀ (s : State) (k : CoreNo), s.fld (Reg.SHELF_SCRUB k) Fld.SHELF_SCRUB_EN = 1 →
    (s.shelfRow k (SMap.get (fun _ => 0) s.core.scrub k)).poison = false → (s.shelfRow k (SMap.get (fun _ => 0) s.core.scrub k)).ecc ≤ 1 →
    Completes (.scrubRow k 1) s fun t => let r := SMap.get (fun _ => 0) s.core.scrub k; SMap.get (fun _ => 0) t.core.scrub k = (r + 1) % 49152 ∧
    (t.shelfRow k r).ecc = 0 ∧ (t.shelfRow k r).data = (s.shelfRow k r).data ∧
    t.rd (Reg.SHELF_CECNT k) = satAdd 0xFFFFFFFF (s.rd (Reg.SHELF_CECNT k)) 1 ∧ t.fld (Reg.SHELF_ECCSTAT k) Fld.SHELF_ECCSTAT_CE = 1 ∧
    RegsExcept [Reg.SHELF_CECNT k, Reg.SHELF_ECCSTAT k] s t ∧ t.log = s.log) ∧
  (∀ (s : State) (k : CoreNo) (n : Fin 4) (i : Fin 16) (r : MeshRow), (s.parked (ctxKey k n))[i.val]? = some r → r.reduce = false →
    s.tagged k n = true → s.inRows k n r.drow = true → s.tagAllowed k n .msh true r.drow = true → (s.shelfRow k r.drow).full = false →
    ((s.parked (ctxKey k n)).take i).any (fun q => q.drow == r.drow) = false → s.mayRetry k r.drow (64 + n) = true →
    (s.slots (ctxKey k n)).all (fun x => !x.closed) = true →
    Completes (.blockedAccessRetry k (.parked n i)) s fun t => t.shelfRow k r.drow = { data := r.data, full := true, poison := r.poison } ∧
    t.parked (ctxKey k n) = (s.parked (ctxKey k n)).eraseIdx i ∧ RegsExcept [] s t)

/-- The mesh commands complete with their own effect (Rests on R194, R197, R180, R205, R206, R207, R212, R213). A router output with one head that can
go sends it to its neighbour's input and frees its place; the head of a delivery queue is written at its row; a REDUCE row of a tagged context that
matches an entry opens a slot with its contents. -/
def Obligations.MeshCommandsComplete : Prop :=
  (∀ (s : State) (r : CoreNo) (o : Fin 8) (h : Head), s.headsFor r o = [h] → (s.nextFeed r 5).isNone ∧ (s.nextFeed r 6).isNone ∧
    (s.nextFeed r 7).isNone → h.1 < 4 → o.val < 4 → h.2.1 = 1 → Completes (.routerForward r o 0 0) s fun t => let d := neighbour r o;
    t.inputQ d.1 d.2 1 = s.inputQ d.1 d.2 1 ++ [{ h.2.2 with age := s.mesh.arrivals }] ∧ t.inputQ r h.1 1 = (s.inputQ r h.1 1).drop 1 ∧
    t.mesh.arrivals = s.mesh.arrivals + 1 ∧ t.mesh.pos = s.mesh.pos ∧ RegsExcept [Reg.RTR_MERGECNT r] s t ∧ t.core = s.core) ∧
  (∀ (s : State) (k : CoreNo) (n : CtxNo) (r : MeshRow) (rest : List MeshRow), s.deliv (ctxKey k n) = r :: rest → s.tagged k n = false →
    r.reduce = false → s.inRows k n r.drow = true → s.spillPending k r.drow = false → s.parkedFor k n r.drow = false →
    Completes (.meshRowDeliver k n) s fun t => t.shelfRow k r.drow = { data := r.data, poison := r.poison, full := (s.shelfRow k r.drow).full } ∧
    t.deliv (ctxKey k n) = rest ∧ t.parked (ctxKey k n) = s.parked (ctxKey k n) ∧ RegsExcept [] s t ∧ t.log = s.log) ∧
  (∀ (s : State) (k : CoreNo) (n : CtxNo) (r : MeshRow) (rest : List MeshRow) (e : Nat), s.deliv (ctxKey k n) = r :: rest → s.tagged k n = true →
    r.reduce = true → s.redEntry k r = some e → s.slots (ctxKey k n) = [] → s.spilled k e r.drow = false →
    (P40.ofRow r.data).contrib < s.rd (Reg.RTR_REDC k e) →
    Completes (.reduceRowArrive k n) s fun t => t.slots (ctxKey k n) = [{ entry := e, drow := r.drow, row := P40.ofRow r.data, poison := r.poison, closed := false, snode := r.snode }] ∧
    t.deliv (ctxKey k n) = rest ∧ t.core.shelf = s.core.shelf ∧ RegsExcept [] s t ∧ t.log = s.log)

/-- The messages of barriers and steps are taken with their own effect (Rests on R184, R185, R216, R220, R221). BAR_ARRIVE is recorded at the root;
BAR_QUERY is answered with the weight the node ejected; BAR_COUNT with equal sums releases the barrier, with a missing reply it is kept; after unequal
sums the root queries again; BAR_RELEASE lets the waiting contexts go on; STEP_DONE is recorded; BOUNDARY is answered; BOUNDARY_ACK is recorded;
STEP_START lets waiting contexts begin; each message is taken. -/
def Obligations.BarrierCommandsComplete : Prop :=
  (∀ (s u : State) (k : CoreNo) (p : PartNo) (m : Msg), s.takeMsg .barArrive k mgmtNode p = some (m, u) → s.run p ≠ 3 →
    Completes (.barArrive k p) s fun t => (t.root p).arrived = ((s.root p).arrived.filter fun a => a.1 != k.val) ++ [(k.val, m.arg / 2 ^ 32, m.arg % 2 ^ 24)] ∧
    t.fld (Reg.CNET_PSTAT p) Fld.CNET_PSTAT_BAR = 1 ∧ t.run p = s.run p ∧ RegsExcept [Reg.CNET_PSTAT p] s t ∧ t.core = s.core ∧ t.log = s.log) ∧
  (∀ (s u : State) (k : CoreNo) (p : PartNo) (m : Msg), s.takeMsg .barArrive k mgmtNode p = some (m, u) → s.run p = 3 →
    Completes (.barArrive k p) s fun t => t = u) ∧
  (∀ (s u : State) (node : Fin 32) (p : PartNo) (m : Msg), s.takeMsg .barQuery mgmtNode node p = some (m, u) →
    Completes (.barQuery node p) s fun t => let w := SMap.get (fun _ => 0) s.mesh.ejected (node * 64 + p);
    t.mesh.msgs = u.mesh.msgs ++ [⟨.barCount, node, mgmtNode, p, m.arg / 2 ^ 32 * 2 ^ 32 + w % 2 ^ 24⟩] ∧
    SMap.get (fun _ => 0) t.mesh.reported (node * 64 + p) = w ∧ t.mesh.ejected = s.mesh.ejected ∧ RegsExcept [] s t ∧ t.core = s.core ∧ t.log = s.log) ∧
  (∀ (s u : State) (node : Fin 32) (p : PartNo) (m : Msg) (id total : Nat) (counts : List (Nat × Nat)), s.takeMsg .barCount node mgmtNode p = some (m, u) →
    (s.root p).query = some (id, total) → counts = ((s.root p).counts.filter fun c => c.1 != node.val) ++ [(node.val, m.arg % 2 ^ 24)] →
    (s.members p).all (fun m => counts.any fun c => c.1 == m) = false →
    Completes (.barCount node p) s fun t => t = u.setRoot p { s.root p with counts := counts }) ∧
  (∀ (s u : State) (node : Fin 32) (p : PartNo) (m : Msg) (id total : Nat) (counts : List (Nat × Nat)), s.takeMsg .barCount node mgmtNode p = some (m, u) →
    (s.root p).query = some (id, total) → counts = ((s.root p).counts.filter fun c => c.1 != node.val) ++ [(node.val, m.arg % 2 ^ 24)] →
    (s.members p).all (fun m => counts.any fun c => c.1 == m) = true → s.run p ≠ 3 → counts.foldl (fun a c => a + c.2) 0 % 2 ^ 24 = total % 2 ^ 24 →
    id < 256 → Completes (.barCount node p) s fun t => t.fld (Reg.CNET_PSTAT p) Fld.CNET_PSTAT_BAR = 0 ∧
    t.fld (Reg.CNET_PSTAT p) Fld.CNET_PSTAT_BARID = id ∧ t.root p = { s.root p with arrived := [], query := none, counts := [] } ∧
    t.mesh.msgs = u.mesh.msgs ++ (s.memberCores p).map (fun k => ⟨.barRelease, mgmtNode, k, p, id * 2 ^ 32⟩) ∧ RegsExcept [Reg.CNET_PSTAT p] s t) ∧
  (∀ (s : State) (p : PartNo) (id total : Nat), (s.root p).query = some (id, total) → (s.root p).counts = [] →
    s.inFlight p [.barQuery, .barCount] = false →
    Completes (.barRequeryTimer p) s fun t => t.mesh.msgs = s.mesh.msgs ++ (s.members p).map (fun m => ⟨.barQuery, mgmtNode, m, p, id * 2 ^ 32⟩) ∧
    t.root p = s.root p ∧ RegsExcept [] s t ∧ t.core = s.core ∧ t.log = s.log) ∧
  (∀ (s u : State) (k : CoreNo) (p : PartNo) (m : Msg) (n : CtxNo), s.takeMsg .barRelease mgmtNode k p = some (m, u) → n.val ∈ s.ctxsOn p k →
    (s.ctx k n).wait = .barrier (m.arg / 2 ^ 32) → Completes (.barRelease k p) s fun t => (t.ctx k n).wait = .none ∧ (t.ctx k n).sent = 0 ∧
    t.mesh.msgs = u.mesh.msgs ∧ RegsExcept [] s t ∧ t.log = s.log) ∧
  (∀ (s u : State) (k j : CoreNo) (p : PartNo) (m : Msg), s.takeMsg .stepDone k mgmtNode p = some (m, u) → j.val ∈ s.memberCores p → j ≠ k ∧
    (s.root p).stepDone.contains j.val = false ∧ s.allHalted p j = false →
    Completes (.stepDone k p) s fun t => t = u.setRoot p { s.root p with stepDone := ((s.root p).stepDone.filter fun c => c != k.val) ++ [k.val] }) ∧
  (∀ (s u : State) (k : CoreNo) (p : PartNo) (m : Msg), s.takeMsg .stepDone k mgmtNode p = some (m, u) → s.run p = 1 → s.memberCores p = [k.val] →
    s.allHalted p k = false → s.jobParts p ≠ 0 → Completes (.stepDone k p) s fun t => t.run p = 2 ∧
    t.root p = { s.root p with boundary := true, stepDone := [], acks := [] } ∧
    t.mesh.msgs = u.mesh.msgs ++ [⟨.boundary, mgmtNode, k, p, s.stepNo p⟩] ∧ t.core = s.core ∧ t.log = s.log ∧
    RegsExcept [Reg.CNET_PSTAT p, Reg.PCI_VSTAT p] s t) ∧
  (∀ (s u : State) (k : CoreNo) (p : PartNo) (m : Msg), s.takeMsg .boundary mgmtNode k p = some (m, u) → s.armedTiles k = [] →
    Completes (.boundary k p) s fun t => t.mesh.msgs = u.mesh.msgs ++ [⟨.boundaryAck, k, mgmtNode, p, m.arg⟩] ∧ RegsExcept [] s t ∧ t.core = s.core ∧
    t.log = s.log) ∧
  (∀ (s u : State) (k j : CoreNo) (p : PartNo) (m : Msg), s.takeMsg .boundaryAck k mgmtNode p = some (m, u) → j.val ∈ s.memberCores p → j ≠ k ∧
    (s.root p).acks.contains j.val = false →
    Completes (.boundaryAck k p) s fun t => t = u.setRoot p { s.root p with acks := ((s.root p).acks.filter fun c => c != k.val) ++ [k.val] }) ∧
  (∀ (s u : State) (k : CoreNo) (p : PartNo) (m : Msg) (n : CtxNo), s.takeMsg .stepStart mgmtNode k p = some (m, u) →
    (s.mesh.msgs.any fun m => m.type == .pstart && m.dnode == k && m.part == p) = false → n.val ∈ s.ctxsOn p k → (s.ctx k n).wait = .stepWait →
    Completes (.stepStart k p) s fun t => (t.ctx k n).wait = .none ∧ t.mesh.msgs = u.mesh.msgs ∧ RegsExcept [] s t ∧ t.log = s.log)

/-- The messages that start, stop and reclaim a partition are taken with their own effect (Rests on R114, R161, R183, R217, R219, R224, R226, R227,
R387, R388). PSTOP of the last member ends the stop when no step is open; PSTART starts the contexts of its node; FORCE_SCHED takes a context out of
tagged mode and is answered; DISCARD turns the sinks on or off and is answered; CREDIT_RECLAIM restores the credits of an attachment and takes it
down; TAG_RECLAIM empties the tags; RECLAIM_DONE is counted off; FAULT, EVENT and TELEM reach the store of messages; RECLAIM begins with FORCE_SCHED
to every context; its time-out fails the part. -/
def Obligations.PartitionMessagesComplete : Prop :=
  (∀ (s u : State) (node : Fin 32) (p : PartNo) (m : Msg), s.takeMsg .pstop mgmtNode node p = some (m, u) →
    (u.mesh.msgs.any fun m => m.type == .pstop && m.part == p) = true → Completes (.pstop node p) s fun t => t = u) ∧
  (∀ (s u : State) (node : Fin 32) (p : PartNo) (m : Msg), s.takeMsg .pstop mgmtNode node p = some (m, u) →
    (u.mesh.msgs.any fun m => m.type == .pstop && m.part == p) = false → (s.part p).stopping = 2 → (s.part p).opened = false → s.run p = 2 →
    (s.hbm.moves.any fun m => m.part == p && m.step != 0 && m.step != 9) = false → Completes (.pstop node p) s fun t => t.run p = 0 ∧
    (t.part p).stopping = 0) ∧
  (∀ (s u : State) (node : Fin 32) (p : PartNo) (m : Msg) (n : CtxNo), node.val < 16 → s.takeMsg .pstart mgmtNode node p = some (m, u) →
    s.jobParts p ≠ 0 → s.ctxsOn p node = [n.val] → Completes (.pstart node p) s fun t => t.pcOf node n = 0 ∧ t.ctxRun node n = 1 ∧
    t.ctx node n = { wait := .stepWait } ∧ t.tagged node n = false ∧ t.log = s.log ∧ t.srv = s.srv) ∧
  (∀ (s u : State) (k : CoreNo) (n : CtxNo), s.takeArg .forceSched mgmtNode k (s.ctxPart k n) n = some u →
    ∀ q ∈ List.range 16, ∀ d ∈ s.queue k q, d.ctr < 64 → Completes (.forceSched k n) s fun t => t.tagged k n = false ∧ (t.ctx k n).wait = .halted ∧
    (t.ctx k n).cur = none ∧ ctxKey k n ∈ t.mesh.dropSums ∧ t.mesh.msgs = u.mesh.msgs ++ [(⟨.reclaimDone, k, mgmtNode, s.ctxPart k n, 11⟩ : Msg)] ∧
    (∀ i ∈ List.range 4096, t.rd (Reg.CORE_PMEM k i) = s.rd (Reg.CORE_PMEM k i))) ∧
  (∀ (s u : State) (node : Fin 32) (p : PartNo) (m : Msg), s.takeMsg .discard mgmtNode node p = some (m, u) →
    Completes (.discard node p) s fun t => t.discOn (nodeOut node).1 p = bitAt m.arg 0 ∧ t.fld (Reg.CNET_PSTAT p) Fld.CNET_PSTAT_DISC = m.arg % 2 ∧
    t.mesh.msgs = u.mesh.msgs ++ [⟨.reclaimDone, node, mgmtNode, p, 12⟩] ∧ t.log = s.log) ∧
  (∀ (s u : State) (r : CoreNo) (p : PartNo) (m : Msg) (a : Fin 3), s.takeMsg .creditReclaim mgmtNode r p = some (m, u) → m.arg % 8 = a.val →
    Completes (.creditReclaim r p) s fun t => t.attDown r (5 + a) = true ∧ (∀ v ∈ List.range 3, t.attCredit r (5 + a) v = 8) ∧
    t.mesh.msgs = u.mesh.msgs ++ [(⟨.reclaimDone, r, mgmtNode, p, 13⟩ : Msg)] ∧ RegsExcept [Reg.RTR_STAT r] s t ∧ t.core = s.core ∧ t.log = s.log) ∧
  (∀ (s : State) (k : CoreNo) (n : CtxNo) (m : Msg) (r : Nat), s.mesh.msgs = [m] → SMap.wf (fun _ => ({} : ShelfRow)) s.core.shelf = true →
    m.type = .tagReclaim ∧ m.dnode = k.val ∧ m.part = s.ctxPart k n ∧ m.arg % 4 = n.val → bitAt m.arg 2 = false → s.inRows k n r = true → r < 49152 →
    Completes (.tagReclaim k n) s fun t => (t.shelfRow k r).full = false ∧ (t.shelfRow k r).data = (s.shelfRow k r).data ∧
    t.mesh.msgs = [(⟨.reclaimDone, k, mgmtNode, s.ctxPart k n, 14⟩ : Msg)] ∧ (∀ c ∈ List.range 64, bitAt (s.ctrMask k n) c = true →
    t.rd (Reg.QUE_CDONE k c) = 0) ∧ t.log = s.log) ∧
  (∀ (s u : State) (node : Fin 32) (p : PartNo) (m : Msg), s.takeMsg .reclaimDone node mgmtNode p = some (m, u) →
    (s.recl p).awaited.erase node.val ≠ [] →
    Completes (.reclaimDone node p) s fun t => t = u.setRecl p { s.recl p with awaited := (s.recl p).awaited.erase node.val }) ∧
  (∀ (s u : State) (node : Fin 64) (p : PartNo) (taken : Nat) (m : Msg), ({ s with mesh := { s.mesh with storeU := s.mesh.storeU.drop taken } } : State).takeMsg .fault node mgmtNode p = some (m, u) →
    u.mesh.storeU.length < 1024 → Completes (.fault node p taken false) s fun t => t.mesh.storeU = s.mesh.storeU.drop taken ++ [m] ∧
    t.mesh.msgs = u.mesh.msgs ∧ RegsExcept [] s t ∧ t.log = s.log ∧ t.core = s.core) ∧
  (∀ (s : State) (node : Fin 64) (p : PartNo) (arg : BitVec 40) (taken : Nat), (s.mesh.storeB.drop taken).length < 256 →
    Completes (.telem node p arg taken false) s fun t => t.mesh.storeB = s.mesh.storeB.drop taken ++ [⟨.telem, node, mgmtNode, p, arg.toNat⟩] ∧
    t.mesh.storeU = s.mesh.storeU ∧ RegsExcept [] s t ∧ t.log = s.log ∧ t.core = s.core) ∧
  (∀ (s : State) (k : CoreNo) (taken e : Nat) (rest : List Nat), s.events k = e :: rest → (s.mesh.storeB.drop taken).length < 256 →
    ((List.range 4).all fun n => (s.ctx k n).wait == .none) = true → Completes (.cnetEvent k taken false) s fun t => t.events k = rest ∧
    t.mesh.storeB = s.mesh.storeB.drop taken ++ [⟨.event, k, mgmtNode, s.ctxPart k (e / 2 ^ 32 % 4), e⟩] ∧ RegsExcept [] s t ∧ t.log = s.log) ∧
  (∀ (s : State) (p : PartNo), s.run p = 1 ∨ s.run p = 2 → (s.part p).opened = false → s.ctxsOf p ≠ [] →
    Completes (.reclaim p []) s fun t => t.run p = 3 ∧ (t.recl p).step = 1 ∧ (t.recl p).awaited = (s.ctxsOf p).map (·.1) ∧
    (∀ c ∈ s.ctxsOf p, ⟨.forceSched, mgmtNode, c.1, p, c.2⟩ ∈ t.mesh.msgs) ∧ t.root p = {} ∧ t.fld (Reg.CNET_PSTAT p) Fld.CNET_PSTAT_BAR = 0 ∧
    t.core = s.core ∧ t.log = s.log) ∧
  (∀ (s : State) (p : PartNo), s.run p = 3 → (s.recl p).step = 4 → s.failed = false → noStreams s = true →
    Completes (.reclaimTimeout p) s fun t => t.fld Reg.LOG_PFAIL Fld.LOG_PFAIL_FAILED = 1 ∧ t.fld Reg.LOG_PFAIL Fld.LOG_PFAIL_CODE = 0x45 ∧
    t.failed = true)

/-- The commands of the HBM controllers complete with their own effect (Rests on R236, R237, R238, R240, R241, R243, R244, R245, R246). A legal write
of a region entry makes it valid and starts its fill, one of a partition in use is refused; the fill zeroes the region; a request is accepted as a
read or a write, or counted and refused; a read returns its data; a write becomes visible; the patrol moves on; the corrected-error window restarts; a
stack reading is shown; a failed stack fails the part. -/
def Obligations.HbmCommandsComplete : Prop :=
  (∀ (s u : State) (r : Fin 1024) (j : Fin 4) (w : Word), u = s.wr (Reg.HBM_RGNA r + 4 * j) ((s.rd (Reg.HBM_RGNA r + 4 * j) - (s.rd (Reg.HBM_RGNA r + 4 * j) &&& writable (Reg.HBM_RGNA r + 4 * j))) + (w.toNat &&& writable (Reg.HBM_RGNA r + 4 * j))) →
    s.allTrained = true → s.inUse (s.rgnPart r) = false ∧ s.inUse (u.rgnPart r) = false → s.rgnValid r = false ∧ u.rgnValid r = true →
    u.regionFields r = true ∧ u.regionOk r = true → Completes (.regionWrite (.rgn r j) w) s fun t => t.rgnValid r = true ∧ t.rgnInit r = true ∧
    RegsExcept [Reg.HBM_RGND r] u t ∧ t.hbm = s.hbm ∧ t.core = s.core ∧ t.log = s.log) ∧
  (∀ (s : State) (r : Fin 1024) (j : Fin 4) (w : Word), s.inUse (s.rgnPart r) = true →
    Completes (.regionWrite (.rgn r j) w) s fun t => t.fld (Reg.HBM_STAT 0) Fld.HBM_STAT_WREJ = 1 ∧ RegsExcept [Reg.HBM_STAT 0] s t ∧ t.hbm = s.hbm ∧
    t.core = s.core ∧ t.log = s.log) ∧
  (∀ (s : State) (p : PartNo) (h : Fin 64) (w : Word), s.run p = 0 → s.rgnValid (bits w.toNat 0 10) = true ∧ s.rgnPart (bits w.toNat 0 10) = p.val →
    Completes (.regionWrite (.hmap p h) w) s fun t => t.rd (Reg.HBM_HMAP (p * 64 + h)) = w.toNat &&& writable (Reg.HBM_HMAP (p * 64 + h)) ∧
    p.val * 64 + h.val ∉ t.hbm.stale ∧ RegsExcept [Reg.HBM_HMAP (p * 64 + h)] s t ∧ t.core = s.core ∧ t.log = s.log) ∧
  (∀ (s : State) (r : Fin 1024) (g : Nat), s.rgnInit r = true →
    (s.hbm.writes.any fun w => decide (s.regionBase r ≤ w.g) && decide (w.g < s.regionBase r + s.regionSize r)) = false → s.regionBase r ≤ g ∧
    g < s.regionBase r + s.regionSize r → Completes (.initFillComplete r) s fun t => t.gran g = 0 ∧ t.granCond g = 0 ∧ t.rgnInit r = false ∧
    t.core = s.core ∧ t.log = s.log) ∧
  (∀ (s : State) (m : StackNo) (q : HbmReq), s.hbm.reqs = [q] → q.ctl = m.val → q.part < 64 → s.pwr.selfRefresh = false → s.reqAllowed q = true →
    q.write = true → s.hbm.writes.length < 2048 → Completes (.hbmRequest m) s fun t => t.hbm.reqs = [] ∧ t.hbm.writes = s.hbm.writes ++ [q] ∧
    t.hbm.reads = s.hbm.reads ∧ t.hbm.mem = s.hbm.mem ∧ RegsExcept [] s t ∧ t.core = s.core ∧ t.log = s.log) ∧
  (∀ (s : State) (m : StackNo) (q : HbmReq), s.hbm.reqs = [q] → q.ctl = m.val → q.part < 64 → s.pwr.selfRefresh = false → s.reqAllowed q = true →
    q.write = false → s.hbm.reads.length < 8192 → (s.hbm.writes.all fun w => w.g != q.g) = true →
    Completes (.hbmRequest m) s fun t => t.hbm.reqs = [] ∧ t.hbm.reads = s.hbm.reads ++ [{ q with data := s.gran q.g, cond := s.granCond q.g }] ∧
    t.hbm.writes = s.hbm.writes ∧ t.hbm.mem = s.hbm.mem ∧ RegsExcept [] s t ∧ t.core = s.core ∧ t.log = s.log) ∧
  (∀ (s : State) (m : StackNo) (q : HbmReq) (k u id x y : Nat), s.hbm.reqs = [q] → q.ctl = m.val → q.part < 64 → s.pwr.selfRefresh = false →
    s.reqAllowed q = false → q.by_ = .desc k u id x y → ((s.queue k u).any fun d => d.started && d.id == id) = true →
    Completes (.hbmRequest m) s fun t => t.hbm.reqs = [] ∧
    t.hbm.resps = s.hbm.resps ++ [{ by_ := q.by_, write := q.write, data := 0, poison := false, refused := true }] ∧
    t.rd (Reg.HBM_REFCNT m) = satAdd 0xFFFFFFFF (s.rd (Reg.HBM_REFCNT m)) 1 ∧ t.hbm.mem = s.hbm.mem ∧ RegsExcept [Reg.HBM_REFCNT m] s t ∧
    t.core = s.core ∧ t.log = s.log) ∧
  (∀ (s : State) (m : StackNo) (q : HbmReq) (k u id x y : Nat), s.hbm.reads = [q] → q.ctl = m.val → q.cond = 0 → q.by_ = .desc k u id x y →
    ((s.queue k u).any fun d => d.started && d.id == id) = true → Completes (.hbmReadData m 0 0) s fun t => t.hbm.reads = [] ∧
    t.hbm.resps = s.hbm.resps ++ [{ by_ := q.by_, write := q.write, data := q.data, poison := false, refused := false }] ∧
    t.rd64 (Reg.HBM_RDG_LO m) = (s.rd64 (Reg.HBM_RDG_LO m) + 1) % 2 ^ 64 ∧ t.hbm.mem = s.hbm.mem ∧
    RegsExcept [Reg.HBM_RDG_LO m, Reg.HBM_RDG_LO m + 4] s t ∧ t.core = s.core ∧ t.log = s.log) ∧
  (∀ (s : State) (m : StackNo) (q : HbmReq) (rest : List HbmReq) (k u id x y : Nat), s.hbm.writes = q :: rest → q.ctl = m.val →
    q.by_ = .desc k u id x y → Completes (.hbmWriteAck m) s fun t => t.gran q.g = q.data ∧ t.granCond q.g = (if q.poison then 3 else 0) ∧
    (∀ g, g ≠ q.g → t.gran g = s.gran g ∧ t.granCond g = s.granCond g) ∧ t.hbm.writes = rest ∧
    RegsExcept [Reg.HBM_WRG_LO m, Reg.HBM_WRG_LO m + 4] s t ∧ t.core = s.core ∧ t.log = s.log) ∧
  (∀ (s : State) (m : StackNo), s.granCond (8 * SMap.get (fun _ => 0) s.hbm.patrol m + m) = 0 →
    Completes (.patrolScrub m 0) s fun t => SMap.get (fun _ => 0) t.hbm.patrol m = (SMap.get (fun _ => 0) s.hbm.patrol m + 1) % 1207959552 ∧
    t.hbm.mem = s.hbm.mem ∧ t.hbm.cond = s.hbm.cond ∧ RegsExcept [] s t ∧ t.core = s.core ∧ t.log = s.log) ∧
  (∀ (s : State) (m : StackNo), Completes (.ceWindowEnd m) s fun t => SMap.get (fun _ => 0) t.hbm.ceWin m = 0 ∧
    SMap.get (fun _ => false) t.hbm.ceEv m = false ∧ t.hbm.mem = s.hbm.mem ∧ RegsExcept [] s t ∧ t.core = s.core ∧ t.log = s.log) ∧
  (∀ (s : State) (m : StackNo) (b : Byte), s.fld (Reg.HBM_STAT m) Fld.HBM_STAT_TRAINED = 1 →
    Completes (.stackSensorReading m b) s fun t => t.fld (Reg.HBM_TEMP m) Fld.HBM_TEMP_TEMP = b.toNat ∧
    t.fld (Reg.HBM_STAT m) Fld.HBM_STAT_HOT = (if 85 ≤ b.toNat then 1 else 0) ∧ RegsExcept [Reg.HBM_TEMP m, Reg.HBM_STAT m] s t ∧ t.hbm = s.hbm ∧
    t.log = s.log) ∧
  (∀ (s : State) (m : StackNo), s.failed = false → noStreams s = true → Completes (.hbmStackFailure m) s fun t => t.failed = true ∧
    t.fld Reg.LOG_PFAIL Fld.LOG_PFAIL_CODE = 0x32)

/-- The commands of the tier movers complete with their own effect (Rests on R249, R250, R251, R252, R253, R254, R272, R274). An outward move to tier
2 seals the block under the next MOVESEQ; its confirmation makes the slot the block's place; an inward move whose trailer names the block has its
plaintext; its end puts the block into the lowest free tier-0 block. -/
def Obligations.KvMoveCommandsComplete : Prop :=
  (∀ (s : State) (c : StreamNo) (b : Fin 1024) (m : Move) (e : KvEnt) (i : Nat), (s.hbm.moves.find? fun m => m.stream == c.val && m.block == b.val && m.out && m.step == 0) = some m →
    s.kv c b = some e → e.tier = 0 → s.moveDest m none = some (2, 0, i) → s.movesInFlight < 64 → s.pwr.selfRefresh = false →
    (s.hbm.cond.all fun x => !(decide (e.off / 32 ≤ x.1) && decide (x.1 < e.off / 32 + 2048))) = true →
    Completes (.kvMoveOut c b [] none) s fun t => let x := s.stream c; t.hbm.moveseq = (s.hbm.moveseq + 1) % 2 ^ 64 ∧
    t.hbm.sealed = s.hbm.sealed ++ [{ srcchip := s.chip, tenant := x.tenant, ctx := c, block := b, gen := x.gen, seq := (s.hbm.moveseq + 1) % 2 ^ 64, tier := 2, chip := 0, slot := i, data := s.blockData (e.off / 32) }] ∧
    { m with tier := 2, chip := 0, slot := i, step := 3, seq := (s.hbm.moveseq + 1) % 2 ^ 64 } ∈ t.hbm.moves ∧ t.hbm.mem = s.hbm.mem ∧
    t.kv c b = s.kv c b ∧ t.core = s.core ∧ t.log = s.log) ∧
  (∀ (s : State) (c : StreamNo) (b : Fin 1024) (m : Move), (s.hbm.moves.find? fun m => m.stream == c.val && m.block == b.val && m.out && m.step == 3) = some m →
    m.tier = 2 → (s.stream c).state = .run → (s.part m.part).stopping = 0 →
    Completes (.kvMoveOutConfirm c b 0) s fun t => t.kv c b = some { tier := 2, off := m.slot, chip := m.chip, seq := m.seq } ∧ m ∉ t.hbm.moves ∧
    t.hbm.sealed = s.hbm.sealed ∧ t.rd (Reg.HBM_MVCNT (blockCtl 0)) = satAdd 0xFFFFFFFF (s.rd (Reg.HBM_MVCNT (blockCtl 0))) 1 ∧
    RegsExcept [Reg.HBM_MVCNT (blockCtl 0)] s t ∧ t.log = s.log) ∧
  (∀ (s : State) (c : StreamNo) (b : Fin 1024) (m : Move) (e : KvEnt) (d : Sealed) (id : SealId), (s.hbm.moves.find? fun m => m.stream == c.val && m.block == b.val && !m.out && decide (m.step < 2)) = some m →
    s.kv c b = some e → m.step = 0 → s.movesInFlight < 64 → s.pwr.selfRefresh = false → e.tier = 2 → s.dmaOn = true →
    (s.hbm.sealed.find? fun d => d.seq == e.seq) = some d → id.tenant = (s.stream c).tenant ∧ id.ctx = c.val ∧ id.block = b.val ∧
    id.gen = (s.stream c).gen ∧ id.seq = e.seq → Completes (.kvMoveIn c b (some id)) s fun t => { m with step := 4, data := d.data } ∈ t.hbm.moves ∧
    t.hbm.moves.length = s.hbm.moves.length ∧ t.hbm.mem = s.hbm.mem ∧ t.kv c b = s.kv c b ∧ RegsExcept [] s t ∧ t.core = s.core ∧ t.log = s.log) ∧
  (∀ (s : State) (c : StreamNo) (b : Fin 1024) (m : Move) (e : KvEnt) (off : Nat), (s.hbm.moves.find? fun m => m.stream == c.val && m.block == b.val && !m.out && m.step == 4) = some m →
    s.kv c b = some e → s.freeBlock m.part (s.stream c).tenant [] = some off → (s.stream c).state = .run → (s.part m.part).stopping = 0 →
    Completes (.kvMoveInDone c b) s fun t => t.kv c b = some { tier := 0, off := off, chip := 0, seq := e.seq } ∧ m ∉ t.hbm.moves ∧
    (∀ i ∈ List.range m.data.length, t.gran (off / 32 + i) = nth 0 m.data i) ∧ t.core = s.core ∧ t.log = s.log)

/-- The commands of steps and streams complete with their own effect (Rests on R260, R262, R264, R272, R273, R287, R288, R289, R290, R254). A core
takes SCHED; an admission that passes its checks makes a queued stream and one that does not is answered with its reason; CANCEL marks a stream; a
granted step opens with STEP_START to every member core; a step of a partition without streams commits and the next one is planned; a pending replay
is planned; a paused stream parks when its time has come and ends with status 4 at its time to live; a stop that has waited too long aborts its moves.
-/
def Obligations.StepCommandsComplete : Prop :=
  (∀ (s u : State) (k : CoreNo) (p : PartNo) (m : Msg), s.takeMsg .sched 41 k p = some (m, u) → Completes (.sched k p) s fun t => t = u) ∧
  (∀ (s : State) (p : PartNo) (cid : BitVec 16) (w : BitVec 1024) (now : BitVec 64) (c : Nat) (x : VfCmd), firstCmd s p cid.toNat 1 x = true →
    s.dmaOn = true → s.run p ≠ 0 → (s.tick now.toNat).admitCheck p w.toNat = .inl c →
    Completes (.admitStream p cid (some w) now) s fun t => let gen := ((s.stream c).gen + 1) % 2 ^ 32;
    t.stream c = admStream w.toNat gen (max s.mt now.toNat % 2 ^ 64) (s.part p).seqNext ∧ (t.stream c).state = .queued ∧
    (t.part p).seqNext = (s.part p).seqNext + 1 ∧ (t.vf p).cmds = (s.vf p).cmds.drop 1 ∧
    (t.vf p).cq = (s.vf p).cq ++ [{ kind := 1, phase := (s.vf p).phase, status := 0, cid := cid.toNat, gen := gen, value := c, pos := 0 }] ∧
    (t.vf p).ends = (s.vf p).ends ++ [c] ∧ t.core = s.core ∧ t.mesh = s.mesh ∧ t.log = s.log) ∧
  (∀ (s : State) (p : PartNo) (cid : BitVec 16) (w : BitVec 1024) (now : BitVec 64) (reason : Nat) (x : VfCmd), firstCmd s p cid.toNat 1 x = true →
    s.dmaOn = true → s.run p ≠ 0 → (s.tick now.toNat).admitCheck p w.toNat = .inr reason →
    Completes (.admitStream p cid (some w) now) s fun t => t.srv = s.srv ∧ Answered (s.tick now.toNat) t p cid.toNat 6 0 reason) ∧
  (∀ (s : State) (p : PartNo) (cid : BitVec 16) (x : VfCmd), firstCmd s p cid.toNat 2 x = true → (s.stream x.entry.ctx).part = p.val ∧
    (s.stream x.entry.ctx).gen = x.entry.gen → (s.stream x.entry.ctx).state ≠ .free ∧ (s.stream x.entry.ctx).state ≠ .ended →
    Completes (.cancel p cid) s fun t => t.stream x.entry.ctx = { s.stream x.entry.ctx with cancel := true } ∧ t.srv.parts = s.srv.parts ∧
    t.hbm = s.hbm ∧ Answered s t p cid.toNat 0 0 0) ∧
  (∀ (s : State) (p : PartNo), s.jobParts p = 0 → s.run p = 2 → (s.part p).planned = true ∧ (s.part p).opened = false ∧ (s.part p).stopping = 0 ∧
    (s.part p).step < 65536 → s.engineBusy p = false → (s.memberCores p).all (fun k => (s.root p).acks.contains k) = true →
    Completes (.stepGrant p) s fun t => t.run p = 1 ∧ t.stepNo p = (s.part p).step ∧ (t.part p).opened = true ∧ (t.part p).plan = (s.part p).plan ∧
    t.root p = {} ∧ t.mesh.msgs = s.mesh.msgs ++ (s.memberCores p).map (fun k => ⟨.stepStart, mgmtNode, k, p, (s.part p).step⟩) ∧
    RegsExcept [Reg.CNET_PSTAT p, Reg.PCI_VSTAT p] s t ∧ t.core = s.core ∧ t.hbm = s.hbm ∧ t.log = s.log) ∧
  (∀ (s : State) (p : PartNo) (now : BitVec 64), s.jobParts p = 0 → s.run p = 2 → (s.part p).planned = false ∧ (s.part p).opened = true ∧
    (s.part p).failed = false ∧ (s.part p).stopping = 0 → (s.part p).plan = [] → s.srv.streams = [] →
    (s.mesh.msgs.any fun m => m.type == .pstart && m.part == p) = false → s.fld (Reg.SRV_PSTAT p) Fld.SRV_PSTAT_PEND = 0 →
    Completes (.stepCommit p now) s fun t => t.rd Reg.SRV_COMMITCNT = satAdd 0xFFFFFFFF (s.rd Reg.SRV_COMMITCNT) 1 ∧
    t.fld (Reg.SRV_PSTAT p) Fld.SRV_PSTAT_STEP = s.stepNo p ∧ t.fld (Reg.SRV_PSTAT p) Fld.SRV_PSTAT_FAILS = 0 ∧ (t.part p).opened = false ∧
    (t.part p).planned = true ∧ (t.part p).step = ((s.part p).step + 1) % 65536 ∧ t.core = s.core ∧ t.log = s.log) ∧
  (∀ (s : State) (p : PartNo), s.jobParts p = 0 → s.run p = 2 → (s.part p).planned = false ∧ (s.part p).opened = false ∧ (s.part p).stopping = 0 ∧
    (s.part p).replay = true → (s.mesh.msgs.any fun m => m.type == .pstart && m.part == p) = false → s.fld (Reg.SRV_PSTAT p) Fld.SRV_PSTAT_PEND = 1 →
    s.fld (Reg.SRV_PCTX p) Fld.SRV_PCTX_COUNT ≠ 0 → (s.replayPlan p).isSome = true →
    Completes (.replay p) s fun t => t.fld (Reg.SRV_PSTAT p) Fld.SRV_PSTAT_PEND = 0 ∧ (t.part p).planned = true ∧ (t.part p).replay = true ∧
    (t.part p).step = ((s.part p).step + 1) % 65536 ∧ t.rd Reg.SRV_REPLAYCNT = satAdd 0xFFFFFFFF (s.rd Reg.SRV_REPLAYCNT) 1 ∧
    RegsExcept [Reg.SRV_PSTAT p, Reg.SRV_REPLAYCNT] s t ∧ t.core = s.core ∧ t.log = s.log) ∧
  (∀ (s : State) (c : StreamNo) (now : BitVec 64) (b : Nat) (e : KvEnt), (s.stream c).state = .paused →
    (s.stream c).tpause + 1000 * (s.stream c).parkt ≤ max s.mt now.toNat → (s.hbm.moves.any fun m => m.stream == c.val) = false →
    b < (s.stream c).nblk ∧ s.kv c b = some e ∧ e.tier = 0 → (s.part (s.stream c).part).stopping = 0 →
    Completes (.parkTimer c now) s fun t => t.stream c = { s.stream c with state := .parking } ∧
    { part := (s.stream c).part, stream := c, block := b, out := true, tier := 0, chip := 0, slot := 0, step := 0, seq := 0, data := [] } ∈ t.hbm.moves ∧
    RegsExcept [Reg.SRV_MT_LO, Reg.SRV_MT_LO + 4] s t ∧ t.kv c b = s.kv c b ∧ t.core = s.core ∧ t.log = s.log) ∧
  (∀ (s : State) (c : StreamNo) (now : BitVec 64), (s.stream c).inPause = true →
    (s.stream c).tpause + 1000000 * (s.stream c).ttl ≤ max s.mt now.toNat → (s.stream c).pinned = false ∧ (s.stream c).flr = false →
    Completes (.pauseExpiry c now) s fun t => (t.stream c).state = .ended ∧ (t.stream c).status = 4 ∧ (t.stream c).pos = (s.stream c).pos ∧
    t.rd Reg.SRV_EXPCNT = satAdd 0xFFFFFFFF (s.rd Reg.SRV_EXPCNT) 1 ∧ RegsExcept [Reg.SRV_MT_LO, Reg.SRV_MT_LO + 4, Reg.SRV_EXPCNT] s t ∧
    t.core = s.core ∧ t.log = s.log) ∧
  (∀ (s : State) (p : PartNo) (m : Move), (s.part p).stopping = 2 ∧ (s.part p).opened = false → s.run p = 2 → s.hbm.moves = [m] → m.part = p.val ∧
    m.step = 1 ∧ m.out = false → (s.stream m.stream).state = .resuming → (s.mesh.msgs.any fun m => m.type == .pstop && m.part == p) = false →
    Completes (.moveDrainTimeout p) s fun t => t.run p = 0 ∧ (t.part p).stopping = 0 ∧ t.hbm.moves = [{ m with step := 9, data := [] }] ∧
    t.rd (Reg.HBM_MVFAIL (blockCtl 0)) = satAdd 0xFFFFFFFF (s.rd (Reg.HBM_MVFAIL (blockCtl 0))) 1 ∧ t.stream m.stream = s.stream m.stream)

/-- The adapter commands complete with their own effect (Rests on R284, R285, R287). STOP stops a slot that does not load and is refused while it
loads; a legal LOAD clears LOADED and begins; its end writes the source into the inactive bank and sets LOADED; START of a loaded slot waits for the
boundary. -/
def Obligations.AdapterCommandsComplete : Prop :=
  (∀ (s : State) (p : PartNo) (i : Fin 64), (s.adp (p * 64 + i)).loading = false →
    Completes (.adpStop p i) s fun t => t.fld (Reg.ADP_SCTL (p * 64 + i)) Fld.ADP_SCTL_STATE = 0 ∧ RegsExcept [Reg.ADP_SCTL (p * 64 + i)] s t ∧
    t.srv = s.srv ∧ t.log = s.log) ∧
  (∀ (s : State) (p : PartNo) (i : Fin 64), (s.adp (p * 64 + i)).loading = true →
    Completes (.adpStop p i) s fun t => t.fld (Reg.ADP_SSTAT (p * 64 + i)) Fld.ADP_SSTAT_REF = 1 ∧ RegsExcept [Reg.ADP_SSTAT (p * 64 + i)] s t ∧
    t.srv = s.srv ∧ t.log = s.log) ∧
  (∀ (s : State) (p : PartNo) (i : Fin 64) (src : Nat) (b : Nat × Nat), src = s.rd (Reg.ADP_SRC_LO p) + 2 ^ 32 * s.rd (Reg.ADP_SRC_HI p) + 2 ^ 64 * s.rd (Reg.ADP_SRCLEN p) →
    (s.adp (p * 64 + i)).loading = false → s.fld (Reg.ADP_SCTL (p * 64 + i)) Fld.ADP_SCTL_CFG = 1 ∧
    s.fld (Reg.ADP_SCTL (p * 64 + i)) Fld.ADP_SCTL_STATE ≠ 2 → s.otherPin (p * 64 + i) = 0 → s.otherBank (p * 64 + i) = some b → bitAt src 63 = true ∧
    bits src 0 40 % 32 = 0 → bits src 64 32 ≠ 0 ∧ bits src 64 32 % 32 = 0 ∧ bits src 64 32 / 32 ≤ b.2 →
    Completes (.adpLoad p i) s fun t => t.fld (Reg.ADP_SSTAT (p * 64 + i)) Fld.ADP_SSTAT_LOADED = 0 ∧
    t.adp (p * 64 + i) = { s.adp (p * 64 + i) with loading := true, src := src } ∧ RegsExcept [Reg.ADP_SSTAT (p * 64 + i)] s t ∧ t.hbm = s.hbm ∧
    t.log = s.log) ∧
  (∀ (s : State) (p : PartNo) (i : Fin 64) (data : List Granule) (b : Nat × Nat) (j : Nat), (s.adp (p * 64 + i)).loading = true →
    s.otherBank (p * 64 + i) = some b → bitAt (s.adp (p * 64 + i)).src 63 = true → j < bits (s.adp (p * 64 + i)).src 64 32 / 32 →
    Completes (.adpLoadDone p i data) s fun t => t.gran (b.1 + j) = nth 0 data j ∧ t.fld (Reg.ADP_SSTAT (p * 64 + i)) Fld.ADP_SSTAT_LOADED = 1 ∧
    t.adp (p * 64 + i) = { s.adp (p * 64 + i) with loading := false } ∧ t.core = s.core ∧ t.log = s.log) ∧
  (∀ (s : State) (p : PartNo) (i : Fin 64), (s.adp (p * 64 + i)).loading = false → s.fld (Reg.ADP_SSTAT (p * 64 + i)) Fld.ADP_SSTAT_LOADED = 1 ∧
    s.fld (Reg.ADP_SCTL (p * 64 + i)) Fld.ADP_SCTL_STATE ≠ 2 → s.otherPin (p * 64 + i) = 0 →
    Completes (.adpStart p i) s fun t => t.fld (Reg.ADP_SCTL (p * 64 + i)) Fld.ADP_SCTL_STATE = 2 ∧ RegsExcept [Reg.ADP_SCTL (p * 64 + i)] s t ∧
    t.srv = s.srv ∧ t.log = s.log)

/-- The commands of the host interface complete with their own effect (Rests on R543, R544, R545, R546, R547, R548, R549, R551, R553, R555, R556,
R369). A doorbell within the ring moves its index and one outside is a ring error; a fetched entry joins the commands in flight; a host NOP, an ended
copy, T2ADD and T2DEL are answered; a copy issues one request for each granule; the interrupt timer raises vector 0; enabling empties the rings; a
reset of a VF returns it to its reset state; a configuration request before READY is answered with Retry Status. -/
def Obligations.HostCommandsComplete : Prop :=
  (∀ (s : State) (p : PartNo) (i : BitVec 16), i.toNat < s.fld (Reg.PCI_VSQSIZE p) Fld.PCI_VSQSIZE_ENTRIES →
    Completes (.sqDoorbell p i) s fun t => t.rd (Reg.PCI_VSQDB p) = i.toNat ∧ RegsExcept [Reg.PCI_VSQDB p] s t ∧ t.host = s.host ∧ t.log = s.log) ∧
  (∀ (s : State) (p : PartNo) (i : BitVec 16), s.fld (Reg.PCI_VSQSIZE p) Fld.PCI_VSQSIZE_ENTRIES ≤ i.toNat →
    Completes (.sqDoorbell p i) s fun t => t.fld (Reg.PCI_VSTAT p) Fld.PCI_VSTAT_RERR = 1 ∧ t.fld (Reg.PCI_VSTAT p) Fld.PCI_VSTAT_RCAUSE = 1 ∧
    (t.vf p).fetchOff = true ∧ t.srv = s.srv ∧ t.log = s.log) ∧
  (∀ (s : State) (p : PartNo) (i : BitVec 16) (n : Nat), n = (i.toNat + s.fld (Reg.PCI_VCQSIZE p) Fld.PCI_VCQSIZE_ENTRIES - (s.vf p).cqHead) % s.fld (Reg.PCI_VCQSIZE p) Fld.PCI_VCQSIZE_ENTRIES →
    i.toNat < s.fld (Reg.PCI_VCQSIZE p) Fld.PCI_VCQSIZE_ENTRIES ∧ n ≤ (s.vf p).cq.length →
    Completes (.cqDoorbell p i) s fun t => (t.vf p).cq = (s.vf p).cq.drop n ∧ (t.vf p).cqHead = i.toNat ∧ t.rd (Reg.PCI_VCQDB p) = i.toNat ∧
    RegsExcept [Reg.PCI_VCQDB p] s t ∧ t.log = s.log ∧ t.hbm = s.hbm) ∧
  (∀ (s : State) (p : PartNo) (e : SqEntry), s.dmaOn = true → s.fld (Reg.PCI_VCTL p) Fld.PCI_VCTL_EN = 1 ∧ (s.vf p).fetchOff = false →
    s.rd (Reg.PCI_VSQDB p) ≠ (s.vf p).sqHead ∧ (s.vf p).cmds.length < 256 → 2 ≤ s.cqFree p → e.valid = true →
    Completes (.sqEntryFetch p (some e)) s fun t => (t.vf p).cmds = (s.vf p).cmds ++ [{ entry := e }] ∧ (t.vf p).cq = (s.vf p).cq ∧
    RegsExcept [] s t ∧ t.srv = s.srv ∧ t.hbm = s.hbm ∧ t.log = s.log) ∧
  (∀ (s : State) (p : PartNo) (cid : BitVec 16) (x : VfCmd), firstCmd s p cid.toNat 0 x = true → Completes (.hostNop p cid) s fun t => t.srv = s.srv ∧
    t.hbm = s.hbm ∧ Answered s t p cid.toNat 0 0 0) ∧
  (∀ (s : State) (p : PartNo) (cid : BitVec 16) (x : VfCmd) (r : Nat) (data : List (Granule × Bool)), firstCmd s p cid.toNat 3 x = true →
    s.dmaOn = true → s.copyRegion p x.entry = some r → data.length = x.entry.len / 32 →
    Completes (.copyIn p cid data) s fun t => t.hbm.reqs = s.hbm.reqs ++ data.zipIdx.map (fun d => { by_ := .copy p cid.toNat d.2, part := p, g := s.regionBase r + x.entry.off / 32 + d.2, write := true, data := d.1.1, poison := d.1.2, ok := true }) ∧
    (t.vf p).cmds = { x with started := true, left := data.length, status := if data.any (·.2) then 5 else 0 } :: (s.vf p).cmds.drop 1 ∧
    RegsExcept [] s t ∧ t.srv = s.srv ∧ t.log = s.log) ∧
  (∀ (s : State) (p : PartNo) (cid : BitVec 16) (x : VfCmd) (r : Nat), firstCmd s p cid.toNat 4 x = true → s.dmaOn = true →
    s.copyRegion p x.entry = some r →
    Completes (.copyOut p cid) s fun t => t.hbm.reqs = s.hbm.reqs ++ (List.range (x.entry.len / 32)).map (fun i => { by_ := .copy p cid.toNat i, part := p, g := s.regionBase r + x.entry.off / 32 + i, write := false, data := 0, poison := false, ok := true }) ∧
    (t.vf p).cmds = { x with started := true, left := x.entry.len / 32, status := 0 } :: (s.vf p).cmds.drop 1 ∧ RegsExcept [] s t ∧ t.srv = s.srv ∧
    t.log = s.log) ∧
  (∀ (s : State) (p : PartNo) (cid : BitVec 16) (x : VfCmd) (rest : List VfCmd) (err : Bool), (s.vf p).cmds = x :: rest → x.entry.cid = cid.toNat ∧
    x.started = true ∧ x.left = 0 ∧ s.failed = false → x.entry.op = 3 ∨ x.entry.op = 4 → Completes (.copyDone p cid err) s fun t => t.srv = s.srv ∧
    t.hbm = s.hbm ∧ Answered s t p cid.toNat (if err then 4 else x.status) 0 0) ∧
  (∀ (s : State) (p : PartNo) (cid : BitVec 16) (x : VfCmd) (i : Nat), firstCmd s p cid.toNat 5 x = true →
    ((List.range 16).find? fun i => !((s.vf p).ranges.any fun r => r.index == i)) = some i →
    (s.vf p).ranges.foldl (fun a r => a + r.slots) 0 + x.entry.len ≤ 16384 →
    Completes (.t2add p cid) s fun t => (t.vf p).ranges = (s.vf p).ranges ++ [{ index := i, base := x.entry.addr, slots := x.entry.len }] ∧
    t.srv = s.srv ∧ t.hbm = s.hbm ∧ Answered s t p cid.toNat 0 0 i) ∧
  (∀ (s : State) (p : PartNo) (cid : BitVec 16) (x : VfCmd) (r : T2Range), firstCmd s p cid.toNat 6 x = true → (s.vf p).ranges = [r] →
    r.index = x.entry.ctx ∧ r.used = [] → Completes (.t2del p cid) s fun t => (t.vf p).ranges = [] ∧ t.srv = s.srv ∧ t.hbm = s.hbm ∧
    Answered s t p cid.toNat 0 0 0) ∧
  (∀ (s : State) (p : PartNo) (cid : BitVec 16) (x : VfCmd) (r : T2Range), firstCmd s p cid.toNat 6 x = true → (s.vf p).ranges = [r] →
    r.index = x.entry.ctx ∧ r.used ≠ [] → Completes (.t2del p cid) s fun t => (t.vf p).ranges = [r] ∧ t.srv = s.srv ∧ t.hbm = s.hbm ∧
    Answered s t p cid.toNat 9 0 0) ∧
  (∀ (s : State) (p : PartNo), (s.vf p).sinceIrq ≠ 0 → bitAt (s.vf p).mask 0 = false →
    Completes (.irqTimer p) s fun t => (t.vf p).irqs = (s.vf p).irqs ++ [0] ∧ (t.vf p).sinceIrq = 0 ∧ (t.vf p).cq = (s.vf p).cq ∧ RegsExcept [] s t ∧
    t.srv = s.srv ∧ t.log = s.log) ∧
  (∀ (s : State) (p : PartNo), Completes (.ringEnable p true) s fun t => t.fld (Reg.PCI_VCTL p) Fld.PCI_VCTL_EN = 1 ∧ t.rd (Reg.PCI_VSQDB p) = 0 ∧
    t.rd (Reg.PCI_VCQDB p) = 0 ∧ (t.vf p).cq = [] ∧ (t.vf p).sqHead = 0 ∧ (t.vf p).cqHead = 0 ∧ (t.vf p).phase = true ∧ (t.vf p).fetchOff = false ∧
    (t.vf p).ranges = (s.vf p).ranges ∧ RegsExcept [Reg.PCI_VCTL p, Reg.PCI_VSQDB p, Reg.PCI_VCQDB p] s t ∧ t.srv = s.srv ∧ t.log = s.log) ∧
  (∀ (s : State) (p : PartNo), Completes (.vfFlr p) s fun t => t.vf p = {} ∧ t.fld (Reg.PCI_VSTAT p) Fld.PCI_VSTAT_PRUN = s.run p ∧
    t.rd (Reg.PCI_VSQDB p) = 0 ∧ t.fld (Reg.PCI_VCTL p) Fld.PCI_VCTL_EN = 0 ∧ t.core = s.core ∧ t.mesh = s.mesh ∧ t.log = s.log) ∧
  (∀ (s : State) (p : PartNo) (link : BitVec 12), Completes (.pfReset link) s fun t => t.vf p = {} ∧ t.host.pfMask = 255 ∧ t.host.pfPba = 0 ∧
    t.host.pfTable = [] ∧ t.host.vfEnable = false ∧ t.core = s.core ∧ t.mesh = s.mesh ∧ t.log = s.log) ∧
  (∀ (s : State) (r : CfgReq), s.phase ≠ 9 ∧ s.failed = false →
    Completes (.pcieConfigRequest r) s fun t => t = { s with host := { s.host with crs := s.host.crs + 1 } }) ∧
  (∀ (s : State) (on : Bool), s.phase = 9 ∨ s.failed = true →
    Completes (.pcieConfigRequest (.vfEnable on)) s fun t => t = { s with host := { s.host with vfEnable := on } })

/-- The commands that train a port complete with their own effect (Rests on R297, R298, R299, R300, R308, R309, R312, R336). Enabling a port starts it
in DETECT, disabling it discards its buffers; each event of training takes it to the next state, with the lanes, the negotiated version and features
and the partner shown; a time-out and lanes that fail give FAILED with the reason; UP begins with new sequence numbers and credits; a retrain goes on
from the replay buffer in the next epoch or ends DOWN. -/
def Obligations.PortTrainingCommandsComplete : Prop :=
  (∀ (s : State) (i : PortNo), s.fld (Reg.LNK_CTL i) Fld.LNK_CTL_EN = 0 → (s.port i).outstanding = [] →
    Completes (.portEnable i) s fun t => t.portState i = 1 ∧ t.fld (Reg.LNK_CTL i) Fld.LNK_CTL_EN = 1 ∧
    t.fld (Reg.LNK_STAT i) Fld.LNK_STAT_REASON = 0 ∧ t.fld (Reg.LNK_STAT i) Fld.LNK_STAT_LANES = 0 ∧
    t.port i = { epoch := (s.port i).epoch, rxEpoch := (s.port i).rxEpoch } ∧ RegsExcept [Reg.LNK_CTL i, Reg.LNK_STAT i] s t ∧ t.core = s.core ∧
    t.log = s.log) ∧
  (∀ (s : State) (i : PortNo), (s.port i).outstanding = [] → Completes (.portDisable i) s fun t => t.portState i = 0 ∧
    t.fld (Reg.LNK_CTL i) Fld.LNK_CTL_EN = 0 ∧ t.fld (Reg.LNK_STAT i) Fld.LNK_STAT_LANES = 0 ∧
    t.port i = { epoch := (s.port i).epoch, rxEpoch := (s.port i).rxEpoch } ∧ RegsExcept [Reg.LNK_CTL i, Reg.LNK_STAT i] s t ∧ t.core = s.core ∧
    t.log = s.log) ∧
  (∀ (s : State) (i : PortNo), s.portState i = 1 → Completes (.partnerDetected i) s fun t => t.portState i = 2 ∧ RegsExcept [Reg.LNK_STAT i] s t ∧
    t.lnk = s.lnk ∧ t.log = s.log) ∧
  (∀ (s : State) (i : PortNo) (pass : BitVec 8) (m : Nat), s.portState i = 2 →
    lanesFor pass.toNat (s.fld (Reg.LNK_CTL i) Fld.LNK_CTL_X4OK == 1) = some m → Completes (.equaliseDone i pass) s fun t => t.portState i = 3 ∧
    t.fld (Reg.LNK_STAT i) Fld.LNK_STAT_LANES = m ∧ RegsExcept [Reg.LNK_STAT i] s t ∧ t.lnk = s.lnk ∧ t.log = s.log) ∧
  (∀ (s : State) (i : PortNo) (pass : BitVec 8), s.portState i = 2 → lanesFor pass.toNat (s.fld (Reg.LNK_CTL i) Fld.LNK_CTL_X4OK == 1) = none →
    Completes (.equaliseDone i pass) s fun t => t.portState i = 9 ∧ t.fld (Reg.LNK_STAT i) Fld.LNK_STAT_REASON = 6 ∧ RegsExcept [Reg.LNK_STAT i] s t ∧
    t.lnk = s.lnk ∧ t.log = s.log) ∧
  (∀ (s : State) (i : PortNo), s.portState i = 3 → Completes (.lockDone i) s fun t => t.portState i = 4 ∧ RegsExcept [Reg.LNK_STAT i] s t ∧
    t.lnk = s.lnk ∧ t.log = s.log) ∧
  (∀ (s : State) (i : PortNo) (r : BitVec 256) (v f : Nat), s.portState i = 4 → recField r.toNat 0 2 = 0x5845 → s.negotiate i r.toNat = .inr (v, f) →
    Completes (.recordsAgreed i r) s fun t => t.portState i = 5 ∧ t.rd (Reg.LNK_NEG i) = (v * 2 ^ 8 + f) % 2 ^ 32 ∧
    t.rd (Reg.LNK_PEER i) = recField r.toNat 10 1 % 16 * 2 ^ 28 + recField r.toNat 6 2 * 2 ^ 12 + recField r.toNat 8 2 % 4096 ∧
    (t.port i).partnerChip = recField r.toNat 8 2 % 4096 ∧ RegsExcept [Reg.LNK_STAT i, Reg.LNK_NEG i, Reg.LNK_PEER i] s t ∧ t.core = s.core ∧
    t.log = s.log) ∧
  (∀ (s : State) (i : PortNo) (r : BitVec 256) (reason : Nat), s.portState i = 4 → recField r.toNat 0 2 = 0x5845 →
    s.negotiate i r.toNat = .inl reason → Completes (.recordsAgreed i r) s fun t => t.portState i = 9 ∧
    t.fld (Reg.LNK_STAT i) Fld.LNK_STAT_REASON = reason ∧ RegsExcept [Reg.LNK_STAT i] s t ∧ t.lnk = s.lnk ∧ t.log = s.log) ∧
  (∀ (s : State) (i : PortNo), s.portState i = 5 → Completes (.creditsReceived i) s fun t => t.portState i = 6 ∧
    t.port i = { epoch := ((s.port i).epoch + 1) % 2 ^ 32, rxEpoch := ((s.port i).rxEpoch + 1) % 2 ^ 32, partnerChip := (s.port i).partnerChip } ∧
    RegsExcept [Reg.LNK_STAT i] s t ∧ t.core = s.core ∧ t.log = s.log) ∧
  (∀ (s : State) (i : PortNo), 1 ≤ s.portState i ∧ s.portState i ≤ 5 → Completes (.trainTimeout i) s fun t => t.portState i = 9 ∧
    t.fld (Reg.LNK_STAT i) Fld.LNK_STAT_REASON = 1 ∧ RegsExcept [Reg.LNK_STAT i] s t ∧ t.lnk = s.lnk ∧ t.log = s.log) ∧
  (∀ (s : State) (i : PortNo), s.portState i = 9 → s.fld (Reg.LNK_CTL i) Fld.LNK_CTL_EN = 1 → (s.port i).outstanding = [] →
    Completes (.failedRetry i) s fun t => t.portState i = 1 ∧ t.fld (Reg.LNK_STAT i) Fld.LNK_STAT_REASON = 0 ∧ RegsExcept [Reg.LNK_STAT i] s t ∧
    t.core = s.core ∧ t.log = s.log) ∧
  (∀ (s : State) (i : PortNo) (lost : Bool), s.portState i = 6 → lost = true ∨ 8 ≤ (s.port i).repRun →
    Completes (.retrainStart i lost) s fun t => t.portState i = 7 ∧ t.port i = { s.port i with repFrom := none, repRun := 0 } ∧
    t.rd (Reg.LNK_RETRAINCNT i) = satAdd 0xFFFFFFFF (s.rd (Reg.LNK_RETRAINCNT i)) 1 ∧ RegsExcept [Reg.LNK_STAT i, Reg.LNK_RETRAINCNT i] s t ∧
    t.log = s.log) ∧
  (∀ (s : State) (i : PortNo), s.portState i = 7 → (s.port i).outstanding = [] → s.srv.streams = [] →
    Completes (.retrainTimeout i) s fun t => t.portState i = 8 ∧ t.fld (Reg.LNK_STAT i) Fld.LNK_STAT_DOWNEV = 1 ∧
    t.fld (Reg.LNK_STAT i) Fld.LNK_STAT_LANES = 0 ∧ t.port i = { epoch := (s.port i).epoch, rxEpoch := (s.port i).rxEpoch } ∧
    t.rd (Reg.LNK_REFCNT i) = satAdd 0xFFFFFFFF (s.rd (Reg.LNK_REFCNT i)) (((s.port i).tx.filter fun x => x.row.isSome).length) ∧ t.core = s.core) ∧
  (∀ (s : State) (i : PortNo) (r : BitVec 256), s.portState i = 7 → s.samePartner i r.toNat = true → (s.negotiate i r.toNat).isRight = true →
    Completes (.retrainDone i r) s fun t => t.portState i = 6 ∧ t.fld (Reg.LNK_STAT i) Fld.LNK_STAT_RETRAINEV = 1 ∧
    (t.port i).epoch = ((s.port i).epoch + 1) % 2 ^ 32 ∧ (t.port i).replay = (s.port i).replay ∧
    (t.port i).resend = (if (s.port i).replay = [] then none else some 0) ∧ (t.port i).nextSeq = (s.port i).nextSeq ∧
    RegsExcept [Reg.LNK_STAT i] s t ∧ t.log = s.log)

/-- The commands of flits complete with their own effect (Rests on R303, R304, R305, R309, R310, R311, R316, R318, R323, R324, R330, R333). A port in
UP sends its waiting item with the next SEQ or an idle flit; a replay begins at the oldest flit; an accepted flit gives its credits, and one with the
wrong SEQ is discarded and answered by a NAK; an accepted ROW enters the receive buffer and counts in its binding; peer requests issue their granules;
an answer frees its TAG; a cross-part message is delivered once. -/
def Obligations.FlitCommandsComplete : Prop :=
  (∀ (s : State) (i : PortNo) (x : TxItem), s.portState i = 6 → s.thm.step = 0 → (s.port i).tx = [x] → x.type = .pread ∧ x.row = none →
    (s.port i).sendNak = false ∧ (s.port i).resend = none → nth 0 (s.port i).credits 1 ≠ 0 ∧ (s.port i).replay.length < 1024 →
    Completes (.flitTransmit i false) s fun t => (t.port i).replay = (s.port i).replay ++ [{ type := .pread, seq := (s.port i).nextSeq, ack := (s.port i).expSeq, ksw := false, credits := (s.port i).giveBack.map (min · 255), body := x.body }] ∧
    (t.port i).nextSeq = ((s.port i).nextSeq + 1) % 4096 ∧ (t.port i).credits = setNth (s.port i).credits 1 (nth 0 (s.port i).credits 1 - 1) ∧
    (t.port i).tx = [] ∧ RegsExcept [] s t ∧ t.core = s.core ∧ t.log = s.log) ∧
  (∀ (s : State) (i : PortNo), s.portState i = 6 → s.thm.step = 0 → (s.port i).tx = [] → (s.port i).sendNak = false ∧ (s.port i).resend = none →
    Completes (.flitTransmit i false) s fun t => (t.port i).sent = some { type := .idle, seq := 0, ack := (s.port i).expSeq, ksw := false, credits := (s.port i).giveBack.map (min · 255), body := .none } ∧
    (t.port i).replay = (s.port i).replay ∧ (t.port i).nextSeq = (s.port i).nextSeq ∧ RegsExcept [] s t ∧ t.core = s.core ∧ t.log = s.log) ∧
  (∀ (s : State) (i : PortNo), s.portState i = 6 → (s.port i).replay ≠ [] → Completes (.replayTimeout i) s fun t => (t.port i).resend = some 0 ∧
    (t.port i).repFrom = some (s.port i).oldest ∧ (t.port i).replay = (s.port i).replay ∧
    t.rd (Reg.LNK_REPLAYCNT i) = satAdd 0xFFFFFFFF (s.rd (Reg.LNK_REPLAYCNT i)) 1 ∧ RegsExcept [Reg.LNK_REPLAYCNT i] s t ∧ t.log = s.log) ∧
  (∀ (s : State) (i : PortNo) (l : FlitLink), s.portState i = 6 → l.check = true ∧ l.fecUe = 0 ∧ l.ksw = false → l.ack.toNat = (s.port i).oldest →
    Completes (.idleFlit i l) s fun t => (t.port i).credits = (s.port i).credits.zipWith (· + ·) [l.data.toNat, l.req.toNat, l.rsp.toNat, l.xctl.toNat] ∧
    (t.port i).expSeq = (s.port i).expSeq ∧ t.rd (Reg.LNK_FECCE i) = satAdd 0xFFFFFFFF (s.rd (Reg.LNK_FECCE i)) l.fecCe ∧
    RegsExcept [Reg.LNK_FECCE i, Reg.LNK_FECUE i, Reg.LNK_CRCCNT i] s t ∧ t.core = s.core ∧ t.log = s.log) ∧
  (∀ (s u : State) (i : PortNo) (l : FlitLink), s.receive i l false = (true, u) →
    Completes (.nakFlit i l) s fun t => (t.port i).resend = (if (u.port i).replay = [] then none else some 0) ∧
    t.rd (Reg.LNK_REPLAYCNT i) = satAdd 0xFFFFFFFF (u.rd (Reg.LNK_REPLAYCNT i)) 1 ∧ RegsExcept [Reg.LNK_REPLAYCNT i] u t ∧ t.core = s.core ∧
    t.log = s.log) ∧
  (∀ (s : State) (i : PortNo) (l : FlitLink) (sc : BitVec 64) (p : PartNo) (reduce poison : Bool) (wt : BitVec 10) (drow step : BitVec 16) (data : Row), s.portState i = 6 →
    l.check = true ∧ l.fecUe = 0 → l.seq.toNat ≠ (s.port i).expSeq → (s.port i).nakFor = none →
    Completes (.rowFlit i l sc p reduce poison wt drow step data) s fun t => (t.port i).sendNak = true ∧ (t.port i).expSeq = (s.port i).expSeq ∧
    (t.port i).rxData = (s.port i).rxData ∧ (t.port i).credits = (s.port i).credits ∧ t.lnk.binds = s.lnk.binds ∧ t.core = s.core ∧ t.log = s.log) ∧
  (∀ (s u : State) (i : PortNo) (l : FlitLink) (sc : BitVec 64) (p : PartNo) (wt : BitVec 10) (drow step : BitVec 16) (data : Row) (e node : Nat), (s.setSc sc.toNat).receive i l true = (true, u) →
    s.binding i p = some e → s.run p ≠ 0 ∧ step.toNat = s.stepNo p → s.jobParts p = 0 → s.landingNode i p drow.toNat = some node →
    (s.bindSum i e p).sum + wt.toNat ≤ s.fld (Reg.LNK_PBC i e) Fld.LNK_PBC_EXPW →
    Completes (.rowFlit i l sc p false false wt drow step data) s fun t => (t.port i).rxData = (s.port i).rxData ++ [{ data := data, poison := false, dnode := node, snode := 16 + i, part := p, vc := 0, reduce := false, ste := 255, drow := drow.toNat, wt := wt.toNat }] ∧
    t.bindSum i e p = { s.bindSum i e p with sum := (s.bindSum i e p).sum + wt.toNat } ∧ (t.port i).expSeq = ((s.port i).expSeq + 1) % 4096 ∧
    t.core = s.core ∧ t.log = s.log) ∧
  (∀ (s u : State) (i : PortNo) (l : FlitLink) (schip : BitVec 12) (off : BitVec 44) (ngran : Fin 18) (tag : BitVec 16) (data : List Granule), s.receive i l true = (true, u) →
    1 ≤ ngran.val →
    Completes (.pwriteFlit i l schip off ngran tag data) s fun t => t.hbm.reqs.map (fun q => (q.g, q.write, q.data)) = s.hbm.reqs.map (fun q => (q.g, q.write, q.data)) ++ (List.range ngran).map (fun j => (off.toNat / 32 + j, true, nth 0 data j)) ∧
    (t.port i).serving = (u.port i).serving ++ [{ tag := tag.toNat, write := true, off := off.toNat, ngran := ngran, got := [] }] ∧
    RegsExcept [] u t ∧ t.hbm.mem = s.hbm.mem ∧ t.core = s.core ∧ t.log = s.log) ∧
  (∀ (s u : State) (i : PortNo) (l : FlitLink) (schip : BitVec 12) (off : BitVec 44) (ngran : Fin 18) (tag : BitVec 16), s.receive i l true = (true, u) →
    1 ≤ ngran.val →
    Completes (.preadFlit i l schip off ngran tag) s fun t => t.hbm.reqs.map (fun q => (q.g, q.write)) = s.hbm.reqs.map (fun q => (q.g, q.write)) ++ (List.range ngran).map (fun j => (off.toNat / 32 + j, false)) ∧
    (t.port i).serving = (u.port i).serving ++ [{ tag := tag.toNat, write := false, off := off.toNat, ngran := ngran, got := [] }] ∧
    RegsExcept [] u t ∧ t.hbm.mem = s.hbm.mem ∧ t.core = s.core ∧ t.log = s.log) ∧
  (∀ (s u : State) (i : PortNo) (l : FlitLink) (tag : BitVec 16) (data : List Granule) (r : PeerReq), s.receive i l true = (true, u) →
    ((u.port i).outstanding.find? fun r => r.tag == tag.toNat && r.write == false) = some r →
    Completes (.prdataFlit i l tag 0 data) s fun t => (t.port i).outstanding = (u.port i).outstanding.erase r ∧
    (t.port i).giveBack = setNth (u.port i).giveBack 2 (nth 0 (u.port i).giveBack 2 + 1) ∧ t.hbm = s.hbm ∧ RegsExcept [] u t ∧ t.core = s.core ∧
    t.log = s.log) ∧
  (∀ (s u : State) (i : PortNo) (l : FlitLink) (tag : BitVec 16) (r : PeerReq), s.receive i l true = (true, u) →
    ((u.port i).outstanding.find? fun r => r.tag == tag.toNat && r.write == true) = some r →
    Completes (.packFlit i l tag 0) s fun t => (t.port i).outstanding = (u.port i).outstanding.erase r ∧
    (t.port i).giveBack = setNth (u.port i).giveBack 2 (nth 0 (u.port i).giveBack 2 + 1) ∧ t.hbm = s.hbm ∧ RegsExcept [] u t ∧ t.core = s.core ∧
    t.log = s.log) ∧
  (∀ (s u : State) (i : PortNo) (l : FlitLink) (m : XMsg), s.receive i l true = (true, u) → 1 ≤ m.xtype ∧ m.xtype ≤ 4 →
    (s.lnk.seen.any fun x => x.same m) = false → ((List.range 64).any fun p => s.jobOf p == some m.job) = true →
    Completes (.xctlFlit i l [m]) s fun t => t.lnk.inbox = s.lnk.inbox ++ [m] ∧ t.lnk.seen.head? = some m ∧ t.hbm = s.hbm ∧ t.core = s.core ∧
    t.log = s.log)

/-- The commands of steps across parts complete with their own effect (Rests on R289, R326, R327, R329, R330, R331, R333, R335, R341). A declared step
fails at its partition; a deadline with too little weight declares the step; the step clock is armed, loaded and aligned; XDONE is recorded by the
lead; XCOMMIT commits the open step; XGO gives the start tick of the next step; XINC fails the open step; the lead announces the planned step; the
start tick is taken; a message is repeated on the ports of its job. -/
def Obligations.CrossPartCommandsComplete : Prop :=
  (∀ (s u : State) (i : PortNo) (p : PartNo) (taken : Nat) (m : Msg), s.takeMsg .incomplete (16 + i) 63 p = some (m, u) →
    (s.mesh.storeU.drop taken).length < 1024 → (s.part p).opened = true ∧ m.arg = s.stepNo p → s.jobParts p = 0 →
    Completes (.incomplete i p taken) s fun t => (t.part p).failed = true ∧ t.mesh.storeU = s.mesh.storeU.drop taken ++ [m] ∧
    t.mesh.msgs = u.mesh.msgs ∧ RegsExcept logRegs s t ∧ t.core = s.core) ∧
  (∀ (s : State) (i : PortNo) (e : Fin 64) (sc : BitVec 64) (p d : Nat), p = s.fld (Reg.LNK_PBA i e) Fld.LNK_PBA_PART →
    s.fld (Reg.LNK_PBA i e) Fld.LNK_PBA_VALID = 1 → s.deadline i e p = some d ∧ d ≤ sc.toNat → (s.part p).opened = true →
    (s.bindSum i e p).sum < s.fld (Reg.LNK_PBC i e) Fld.LNK_PBC_EXPW → (s.bindSum i e p).declared = false →
    Completes (.stepDeadline i e sc) s fun t => (t.bindSum i e p).declared = true ∧
    t.rd (Reg.LNK_INCCNT i) = satAdd 0xFFFFFFFF (s.rd (Reg.LNK_INCCNT i)) 1 ∧
    t.mesh.msgs = s.mesh.msgs ++ [⟨.incomplete, 16 + i, 63, p, s.stepNo p⟩] ∧ RegsExcept [Reg.LNK_SC_LO, Reg.LNK_SC_LO + 4, Reg.LNK_INCCNT i] s t ∧
    t.core = s.core ∧ t.log = s.log) ∧
  (∀ (s : State) (sc : BitVec 64), s.fld Reg.LNK_SCCTL Fld.LNK_SCCTL_ARM = 1 →
    Completes (.rackSync sc) s fun t => t.rd64 Reg.LNK_SC_LO = s.rd Reg.LNK_SCLOAD * 2 ^ 20 ∧ t.fld Reg.LNK_SCCTL Fld.LNK_SCCTL_ARM = 0 ∧
    t.fld Reg.LNK_SCSTAT Fld.LNK_SCSTAT_QUAL = 1 ∧ t.lnk.scLoaded = true ∧ t.core = s.core ∧ t.log = s.log) ∧
  (∀ (s : State) (sc : BitVec 64) (v : Nat), s.fld Reg.LNK_SCCTL Fld.LNK_SCCTL_ARM = 0 → s.lnk.scLoaded = true →
    alignSc sc.toNat (s.fld Reg.LNK_SCCTL Fld.LNK_SCCTL_TOL) = some v → Completes (.rackSync sc) s fun t => t.rd64 Reg.LNK_SC_LO = v % 2 ^ 64 ∧
    RegsExcept [Reg.LNK_SC_LO, Reg.LNK_SC_LO + 4] s t ∧ t.core = s.core ∧ t.log = s.log) ∧
  (∀ (s : State), s.multiRuns = false → Completes (.scArm) s fun t => t.fld Reg.LNK_SCCTL Fld.LNK_SCCTL_ARM = 1 ∧ RegsExcept [Reg.LNK_SCCTL] s t ∧
    t.lnk = s.lnk ∧ t.log = s.log) ∧
  (∀ (s u : State) (p : PartNo) (m : XMsg), (s.takeInbox p fun m => m.xtype == 1 && (!s.leads p || decide ((s.stepNo p + 65536 - m.step) % 65536 < 32768))) = some (m, u) →
    s.leads p = true ∧ m.step = s.stepNo p → (s.xpart p).dones.contains m.origin = false →
    Completes (.xdone p) s fun t => t.xpart p = { s.xpart p with dones := (s.xpart p).dones ++ [m.origin] } ∧ t.lnk.inbox = u.lnk.inbox ∧
    RegsExcept [] s t ∧ t.core = s.core ∧ t.log = s.log) ∧
  (∀ (s u : State) (p : PartNo) (m : XMsg) (rows : List CommitRow), (s.takeInbox p fun m => m.xtype == 2) = some (m, u) → s.leads p = false ∧
    s.run p = 2 ∧ m.step = s.stepNo p → (s.part p).opened = true ∧ (s.part p).stopping = 0 → s.srv.streams = [] →
    Completes (.xcommit p rows) s fun t => t.rd Reg.SRV_COMMITCNT = satAdd 0xFFFFFFFF (s.rd Reg.SRV_COMMITCNT) 1 ∧
    t.fld (Reg.SRV_PSTAT p) Fld.SRV_PSTAT_STEP = s.stepNo p ∧ (t.part p).opened = false ∧ t.lnk.inbox = u.lnk.inbox ∧ t.core = s.core ∧ t.log = s.log) ∧
  (∀ (s u : State) (p : PartNo) (m : XMsg) (sc : BitVec 64), (s.takeInbox p fun m => m.xtype == 3 && (s.leads p || s.run p == 2)) = some (m, u) →
    s.leads p = false ∧ (s.part p).opened = false →
    Completes (.xgo p sc) s fun t => (t.xpart p).nextTick = some (nextSc sc.toNat (2 ^ 24) (m.arg * 256)) ∧
    t.part p = { s.part p with step := m.step, planned := true } ∧ t.lnk.inbox = u.lnk.inbox ∧ RegsExcept [Reg.LNK_SC_LO, Reg.LNK_SC_LO + 4] s t ∧
    t.core = s.core ∧ t.log = s.log) ∧
  (∀ (s u : State) (p : PartNo) (m : XMsg), (s.takeInbox p fun m => m.xtype == 4) = some (m, u) → (s.part p).opened = true ∧ m.step = s.stepNo p →
    Completes (.xinc p) s fun t => (t.part p).failed = true ∧ (t.xpart p).inc = true ∧ t.lnk.inbox = u.lnk.inbox ∧ RegsExcept [] s t ∧
    t.core = s.core ∧ t.log = s.log) ∧
  (∀ (s : State) (p : PartNo) (sc now : BitVec 64), s.leads p = true ∧ s.jobParts p ≠ 0 ∧ s.run p = 2 → (s.part p).opened = false ∧
    (s.part p).planned = true → (s.xpart p).nextTick = none →
    Completes (.leadCommitReady p sc now) s fun t => (t.xpart p).nextTick = some (nextSc (sc.toNat + 256 * s.fld Reg.LNK_XTIME Fld.LNK_XTIME_GOLEAD) 256 0) ∧
    (t.xpart p).dones = (s.xpart p).dones ∧ t.part p = s.part p ∧
    RegsExcept [Reg.LNK_SC_LO, Reg.LNK_SC_LO + 4, Reg.SRV_MT_LO, Reg.SRV_MT_LO + 4, Reg.LNK_XDROPCNT] s t ∧ t.core = s.core ∧ t.log = s.log) ∧
  (∀ (s : State) (p : PartNo) (sc : BitVec 64) (v : Nat), (s.xpart p).nextTick = some v ∧ v ≤ sc.toNat → (s.part p).opened = false →
    (s.root p).granted = false →
    Completes (.startTick p sc) s fun t => t.xpart p = { s.xpart p with nextTick := none, tS := v, dones := [], inc := false } ∧
    t.root p = { s.root p with tickOk := true } ∧ RegsExcept [Reg.LNK_SC_LO, Reg.LNK_SC_LO + 4] s t ∧ t.core = s.core ∧ t.log = s.log) ∧
  (∀ (s : State) (p : PartNo) (m : XMsg) (i : PortNo), (s.xpart p).repeats = [m] → (m.step + 65536 - s.stepNo p) % 65536 < 32768 →
    s.carriesJob i m.job = true → ((s.port i).tx.filter fun x => x.type == .xctl).length < 64 →
    Completes (.xmsgRepeat p) s fun t => (t.port i).tx = (s.port i).tx ++ [{ type := .xctl, part := 0, wt := 0, body := .xctl s.chip [m] }] ∧
    (t.xpart p).repeats = [m] ∧ RegsExcept [Reg.LNK_XDROPCNT] s t ∧ t.core = s.core ∧ t.log = s.log)

/-- The commands of a weight load complete with their own effect (Rests on R77, R80, R350, R353, R354, R355, R356, R359, R360, R361, R363, R364). A
load that passes its checks is in progress, and so is a resume of one; an abort fails it with reason 12 and leaves no tile of it in state 1; a burst
inside the window programs the tile's next row to the levels of its weights; a programmed or restored tile is ready or degraded by its record; a
cleared tile holds no weight; spill contents reach their region; with nothing left to do the partition is loaded. -/
def Obligations.LoadCommandsComplete : Prop :=
  (∀ (s u : State) (p : PartNo) (slot : Fin 2) (r : FlashRead) (img : WImage) (named : List (Nat × WTile)), s.run p = 0 ∧ s.loading p = false ∧
    s.fld Reg.IND_RSSTAT Fld.IND_RSSTAT_STOP ≠ 1 → u = (s.setF (Reg.FLS_PLOAD p) Fld.FLS_PLOAD_SLOT slot).flashRead r →
    u.loadCheck p slot = .inr (img, named) → Completes (.load p slot r) s fun t => t.fld (Reg.FLS_PLOAD p) Fld.FLS_PLOAD_STATE = 1 ∧
    t.fld (Reg.FLS_PLOAD p) Fld.FLS_PLOAD_TDONE = 0 ∧ t.fld (Reg.FLS_PLOAD p) Fld.FLS_PLOAD_SLOT = slot ∧ (t.jpart p).state = 1 ∧
    (t.jpart p).imageId = img.imageId ∧ t.loading p = true ∧ t.core.cells = s.core.cells ∧ t.hbm = s.hbm ∧ t.mesh = s.mesh) ∧
  (∀ (s u : State) (p : PartNo) (slot : Fin 2) (r : FlashRead) (img : WImage) (named : List (Nat × WTile)), s.run p = 0 ∧ s.loading p = false ∧
    s.fld Reg.IND_RSSTAT Fld.IND_RSSTAT_STOP ≠ 1 → s.mayResume p = true →
    u = (s.setF (Reg.FLS_PLOAD p) Fld.FLS_PLOAD_SLOT (s.jpart p).slot).flashRead r → u.loadCheck p (s.jpart p).slot = .inr (img, named) →
    Completes (.loadResume p slot r) s fun t => t.fld (Reg.FLS_PLOAD p) Fld.FLS_PLOAD_STATE = 1 ∧ (t.jpart p).state = 1 ∧
    (t.jpart p).slot = (s.jpart p).slot ∧ t.loading p = true ∧ t.core.cells = s.core.cells ∧ t.hbm = s.hbm ∧ t.mesh = s.mesh) ∧
  (∀ (s : State) (p : PartNo) (r : LoadRun) (key : Nat), s.wts.loads = [r] → r.part = p.val ∧ r.reason = 0 → ∀ x ∈ r.keys, x < 16384 → key ∈ r.keys →
    Completes (.loadAbort p) s fun t => t.loading p = false ∧ t.fld (Reg.FLS_PLOAD p) Fld.FLS_PLOAD_STATE = 3 ∧
    t.fld (Reg.FLS_PLOAD p) Fld.FLS_PLOAD_REASON = 12 ∧ (t.jpart p).state = 3 ∧ t.tileState (key / 1024) (key % 1024) ≠ 1 ∧ t.core = s.core ∧
    t.hbm = s.hbm ∧ t.mesh = s.mesh) ∧
  (∀ (s : State) (k : CoreNo) (x : TileNo) (r : FlashRead) (run : LoadRun) (w c : WTile) (n col : Nat), s.programOf (tileKey k x) = some (run, w) →
    s.engineTile (tileKey k x) = some (tileKey k x) → s.burst (tileKey k x) = { next := n } → 0 < n ∧ n < 1024 ∧ col < 1024 → s.writeWindow = true ∧
    60 ≤ s.roOf k ∧ s.roOf k < 300 → s.chunkOf run w = some c ∧ c.pathOk = true →
    Completes (.programBurst k x [] r) s fun t => let lv := nominalLevels (c.m n col); (t.burst (tileKey k x)).next = n + 1 ∧
    SMap.get cellDefault t.core.cells (cellKey k x (weightPcol col) n) = lv.1 * 16 + lv.2 ∧ RegsExcept [] s t ∧ t.wts.jtiles = s.wts.jtiles ∧
    t.hbm = s.hbm ∧ t.log = s.log) ∧
  (∀ (s : State) (k : CoreNo) (x : TileNo) (run : LoadRun) (w : WTile), s.programOf (tileKey k x) = some (run, w) →
    (s.burst (tileKey k x)).next = 1024 → s.writeWindow = true → run.part < 64 →
    Completes (.tileProgramDone k x []) s fun t => t.tileState k x = (if (s.burst (tileKey k x)).unrep = [] then 2 else 3) ∧
    (SMap.get (fun _ => none) t.wts.recs (tileKey k x)).map (fun r => (r.imageId, r.tile, r.degraded)) = some (run.image.imageId, tileKey k x, (s.burst (tileKey k x)).unrep != []) ∧
    t.fld (Reg.FLS_PLOAD run.part) Fld.FLS_PLOAD_TDONE = (s.fld (Reg.FLS_PLOAD run.part) Fld.FLS_PLOAD_TDONE + 1) % 2 ^ 15 ∧
    (t.programOf (tileKey k x)).isNone = true ∧ t.core.cells = s.core.cells ∧ t.hbm = s.hbm) ∧
  (∀ (s : State) (k : CoreNo) (x : TileNo) (r pc : Nat), (s.wts.loads.any fun r => r.clear.contains (tileKey k x)) = true →
    s.engineTile (tileKey k x) = some (tileKey k x) → s.writeWindow = true ∧ 60 ≤ s.roOf k ∧ s.roOf k < 300 → r < 1024 ∧ pc < 1104 ∧
    isRefPcol pc = false → Completes (.tileClearDone k x) s fun t => t.tileState k x = 0 ∧ SMap.get cellDefault t.core.cells (cellKey k x pc r) = 0 ∧
    (∀ i ∈ List.range 64, t.rd (Reg.TILE_SPARE k x i) = 0) ∧ (t.wts.loads.any fun r => r.clear.contains (tileKey k x)) = false ∧ t.hbm = s.hbm ∧
    t.log = s.log) ∧
  (∀ (s : State) (k : CoreNo) (x : TileNo) (r : FlashRead) (run : LoadRun) (w c : WTile) (e : TileRec), (s.wts.loads.findSome? fun run => (run.restore.find? fun e => e.1 == tileKey k x).map fun e => (run, e.2)) = some (run, w) →
    s.engineTile (tileKey k x) = some (tileKey k x) → s.chunkOf run w = some c → s.goodRec (tileKey k x) run.image.imageId = some e →
    s.tileFence k x = 0 → run.part < 64 → Completes (.tileRestore k x r) s fun t => t.tileState k x = (if e.degraded then 3 else 2) ∧
    t.fld (Reg.FLS_PLOAD run.part) Fld.FLS_PLOAD_TDONE = (s.fld (Reg.FLS_PLOAD run.part) Fld.FLS_PLOAD_TDONE + 1) % 2 ^ 15 ∧
    t.core.cells = s.core.cells ∧ t.hbm = s.hbm) ∧
  (∀ (s : State) (p : PartNo) (r : FlashRead) (run : LoadRun) (w c : WSpill) (rest : List WSpill) (rgn i : Nat), s.wts.loads = [run] →
    run.part = p.val ∧ run.keys = [] → run.spills = w :: rest → s.handleRegion p w.lregion = some rgn ∧ s.rgnInit rgn = false →
    s.spillOf run w = some c → i < c.content.length →
    Completes (.spillWrite p r) s fun t => t.gran (s.regionBase rgn + c.roff / 32 + i) = nth 0 c.content i ∧
    t.wts.loads = [{ run with spills := rest }] ∧ t.core = s.core ∧ t.log = s.log) ∧
  (∀ (s : State) (p : PartNo) (run : LoadRun), s.wts.loads = [run] → run.part = p.val ∧ run.keys = [] ∧ run.spills = [] ∧ run.reason = 0 →
    Completes (.loadComplete p) s fun t => t.fld (Reg.FLS_PLOAD p) Fld.FLS_PLOAD_STATE = 2 ∧ t.jpart p = { s.jpart p with state := 2 } ∧
    t.wts.loads = [] ∧ t.wts.lastImage = run.image.imageId ∧ RegsExcept [Reg.FLS_PLOAD p] s t ∧ t.core = s.core ∧ t.hbm = s.hbm ∧ t.log = s.log)

/-- The commands that load firing images and route sets and that start and stop a partition complete with their own effect (Rests on R149, R158, R185,
R202, R214, R215, R221, R226, R387, R388, R390). A firing image and route set that pass every check are recorded as loaded, with the rows of a logical
core in its shelf and the route list's segment on every router; STOP of a running partition is pending and sends PSTOP to its members; START sends
PSTART to them; a stop whose boundary does not come begins a forced reclaim. -/
def Obligations.ImageAndPartitionCommandsComplete : Prop :=
  (∀ (s : State) (p : PartNo) (img f : SignedFile) (i : Nat), s.pairCheck p img f = none → img.nlcore = 1 →
    (img.given 3 0).any (fun i => badBuffer (img.entry 3 0 i)) = false → s.ctxRun (s.lctx p 0).1 (s.lctx p 0).2 = 0 → i < (img.res 0).rows →
    Completes (.firingImageLoad p img f) s fun t => SMap.get (fun _ => 0) t.wts.imageEnds p = 1 ∧
    SMap.get (fun _ => 0) t.wts.loadedSigs p = SMap.get (fun _ => 0) s.wts.loadedSigs p + 1 ∧
    (t.shelfRow (s.lctx p 0).1 (s.rowBase (s.lctx p 0).1 (s.lctx p 0).2 + i)).data = rowOf (img.entry 8 0 i) ∧ t.hbm = s.hbm ∧ t.mesh = s.mesh ∧
    t.srv = s.srv ∧ t.log = s.log) ∧
  (∀ (s : State) (p : PartNo) (img f : SignedFile) (r : CoreNo) (b : Nat), s.pairCheck p img f = none →
    s.routeBase p ((f.given 0x10 0).filterMap fun i => s.flowOf p img (f.entry 0x10 0 i)).length = some b →
    Completes (.routeSetLoad p img f) s fun t => SMap.get (fun _ => 0) t.wts.routeEnds p = 1 ∧
    SMap.get (fun _ => 0) t.wts.loadedSigs p = SMap.get (fun _ => 0) s.wts.loadedSigs p + 1 ∧
    t.rd (Reg.RTR_RLSEG r p) = ((f.given 0x10 0).filterMap fun i => s.flowOf p img (f.entry 0x10 0 i)).length * 2 ^ 16 + b % 2048 ∧ t.core = s.core ∧
    t.hbm = s.hbm ∧ t.srv = s.srv ∧ t.log = s.log) ∧
  (∀ (s : State) (p : PartNo), s.run p = 1 ∨ s.run p = 2 → (s.part p).stopping = 0 ∧ (s.part p).opened = true →
    Completes (.partitionStop p) s fun t => t.fld Reg.GCTL_PCSTAT Fld.GCTL_PCSTAT_RESULT = 3 ∧ t.fld Reg.GCTL_PCSTAT Fld.GCTL_PCSTAT_PART = p ∧
    t.part p = { s.part p with stopping := 1 } ∧ t.mesh.msgs = s.mesh.msgs ++ (s.members p).map (fun m => ⟨.pstop, mgmtNode, m, p, 0⟩) ∧
    RegsExcept [Reg.GCTL_PCSTAT] s t ∧ t.core = s.core ∧ t.hbm = s.hbm ∧ t.log = s.log) ∧
  (∀ (s : State) (p : PartNo), s.startReason p = 0 → s.jobParts p ≠ 0 →
    Completes (.partitionStart p false) s fun t => t.fld Reg.GCTL_PCSTAT Fld.GCTL_PCSTAT_RESULT = 1 ∧ t.run p = 2 ∧
    t.root p = { acks := s.memberCores p } ∧ t.mesh.msgs = s.mesh.msgs ++ (s.members p).map (fun m => ⟨.pstart, mgmtNode, m, p, 0⟩) ∧
    (t.part p).planned = false ∧ t.core = s.core ∧ t.hbm = s.hbm ∧ t.log = s.log) ∧
  (∀ (s : State) (p : PartNo), (s.part p).stopping = 1 ∧ (s.part p).opened = true ∧ (s.part p).plan = [] → s.run p = 1 ∨ s.run p = 2 →
    s.ctxsOf p ≠ [] → Completes (.stopTimeout p) s fun t => t.run p = 3 ∧ (t.recl p).step = 1 ∧ (t.recl p).awaited = (s.ctxsOf p).map (·.1) ∧
    (t.part p).opened = false ∧ (t.part p).stopping = 1 ∧ t.core = s.core ∧ t.hbm = s.hbm)

/-- The commands of the security module complete with their own effect (Rests on R490, R491, R492, R497, R503, R504, R505, R506, R507, R486). The
power-on self-tests make the module OPERATIONAL; a mailbox command in a state that allows it gives result 1 with the keys, minimum SVN, nonce,
revocation or zeroisation it stands for; a failed self-test or an opened mesh is a hard error that zeroises and fails the part; an entropy failure is
a soft error until the third. -/
def Obligations.SecurityCommandsComplete : Prop :=
  (∀ (s : State), s.secState = 1 → Completes (.psikusterSelftestPass none) s fun t => t.secState = 2 ∧ t.fld Reg.SEC_STAT Fld.SEC_STAT_APPROVED = 1 ∧
    t.fld Reg.SEC_STAT Fld.SEC_STAT_FWK = b2n s.sec.fwk ∧ t.rd Reg.SEC_MINSVN = s.sec.minSvn % 2 ^ 32 ∧ t.boot = { s.boot with selfOk := true } ∧
    RegsExcept [Reg.SEC_STAT, Reg.SEC_MINSVN] s t ∧ t.sec = s.sec ∧ t.log = s.log) ∧
  (∀ (s : State) (n : Nat), s.secState = 1 → n ≠ 0 → s.wts.loads = [] → noStreams s = true →
    Completes (.psikusterSelftestPass (some n)) s fun t => t.secState = 4 ∧ t.failed = true ∧ t.boot.selfOk = false ∧
    t.fld Reg.SEC_ERR Fld.SEC_ERR_TEST = n % 256 ∧ t.fld Reg.SEC_STAT Fld.SEC_STAT_TAMPER = b2n (n == 3)) ∧
  (∀ (s : State), s.sec.zeroising = false → s.secState ∈ [0, 1, 2, 3, 5] →
    Completes (.selftest true) s fun t => t.fld Reg.SEC_CSTAT Fld.SEC_CSTAT_RESULT = 1 ∧ RegsExcept [Reg.SEC_CSTAT] s t ∧ t.sec = s.sec ∧
    t.log = s.log) ∧
  (∀ (s : State), s.sec.zeroising = false → s.secState ∈ [0, 1, 2, 3, 5] → s.wts.loads = [] → noStreams s = true →
    Completes (.selftest false) s fun t => t.secState = 4 ∧ t.failed = true ∧ t.fld Reg.SEC_ERR Fld.SEC_ERR_TEST = 1 ∧ t.sec.tenants = [] ∧
    t.sec.models = [] ∧ t.sec.links = [] ∧ t.sec.signers = [] ∧ t.sec.fwk = false) ∧
  (∀ (s : State), s.sec.zeroising = false → s.secState = 2 → (s.sec.tenants.any fun x => x.id == s.mbx 0 % 2 ^ 16) = true →
    (s.sec.models.filter fun m => m.1 != s.mbx 1).length < 4096 → Completes (.loadmk true) s fun t => t.fld Reg.SEC_CSTAT Fld.SEC_CSTAT_RESULT = 1 ∧
    t.sec = { s.sec with models := (s.sec.models.filter fun m => m.1 != s.mbx 1) ++ [(s.mbx 1, s.mbx 0 % 2 ^ 16)] } ∧ RegsExcept [Reg.SEC_CSTAT] s t ∧
    t.log = s.log) ∧
  (∀ (s : State), s.sec.zeroising = false → s.secState = 2 ∨ s.secState = 3 →
    (s.wts.loads.any fun l => l.image.enc && l.image.modelKey == s.mbx 1) = false →
    Completes (.dropmk) s fun t => t.fld Reg.SEC_CSTAT Fld.SEC_CSTAT_RESULT = 1 ∧
    t.sec = { s.sec with models := s.sec.models.filter fun m => m.1 != s.mbx 1 } ∧ RegsExcept [Reg.SEC_CSTAT] s t ∧ t.log = s.log) ∧
  (∀ (s : State), s.sec.zeroising = false → s.secState = 2 → s.sec.fwk = true →
    Completes (.setlink true) s fun t => t.fld Reg.SEC_CSTAT Fld.SEC_CSTAT_RESULT = 1 ∧
    t.sec = { s.sec with links := (s.sec.links.filter fun l => l.1 != s.mbx 0 % 2 ^ 16) ++ [(s.mbx 0 % 2 ^ 16, (List.range 10).foldr (fun i a => s.mbx (2 + i) + 2 ^ 32 * a) 0)] } ∧
    RegsExcept [Reg.SEC_CSTAT] s t ∧ t.log = s.log) ∧
  (∀ (s : State), s.sec.zeroising = false → s.secState = 2 ∨ s.secState = 3 → s.portUpWithJob (s.mbx 0 % 2 ^ 16) = false →
    Completes (.droplink) s fun t => t.fld Reg.SEC_CSTAT Fld.SEC_CSTAT_RESULT = 1 ∧
    t.sec = { s.sec with links := s.sec.links.filter fun l => l.1 != s.mbx 0 % 2 ^ 16 } ∧ RegsExcept [Reg.SEC_CSTAT] s t ∧ t.log = s.log) ∧
  (∀ (s : State), s.sec.zeroising = false → s.secState = 2 ∨ s.secState = 3 → s.sec.minSvn < s.rd Reg.CFG_SVN →
    Completes (.svnraise) s fun t => t.fld Reg.SEC_CSTAT Fld.SEC_CSTAT_RESULT = 1 ∧ t.sec = { s.sec with minSvn := s.rd Reg.CFG_SVN } ∧
    t.rd Reg.SEC_MINSVN = s.rd Reg.CFG_SVN ∧ RegsExcept [Reg.SEC_CSTAT, Reg.SEC_MINSVN] s t ∧ t.log = s.log) ∧
  (∀ (s : State), s.sec.zeroising = false → s.secState = 2 ∨ s.secState = 3 → s.quiet = true → s.wts.loads = [] →
    Completes (.zeroise none) s fun t => t.secState = 5 ∧ t.fld Reg.SEC_CSTAT Fld.SEC_CSTAT_RESULT = 1 ∧ t.fld Reg.SEC_STAT Fld.SEC_STAT_FWK = 0 ∧
    t.fld Reg.SEC_STAT Fld.SEC_STAT_APPROVED = 0 ∧
    t.sec = { s.sec with fwk := false, tenants := [], models := [], signers := [], links := [], engines := [], nonce := none, zeroising := true } ∧
    (∀ r ∈ List.range 1024, t.fld (Reg.HBM_RGNA r) Fld.HBM_RGNA_VALID = 0 ∨ t.fld (Reg.HBM_RGNA r) Fld.HBM_RGNA_TYPE = 4) ∧
    RegsExcept (Reg.SEC_CSTAT :: Reg.SEC_STAT :: (List.range 1024).map Reg.HBM_RGNA) s t ∧ t.core = s.core ∧ t.log = s.log) ∧
  (∀ (s : State), Completes (.zeroisationComplete) s fun t => t = { s with sec := { s.sec with zeroising := false } }) ∧
  (∀ (s : State), s.sec.zeroising = false → s.secState = 2 → s.debugBarred = false →
    Completes (.dbgchal) s fun t => t.fld Reg.SEC_CSTAT Fld.SEC_CSTAT_RESULT = 1 ∧
    t.sec = { s.sec with nonce := some s.sec.nonces, nonces := s.sec.nonces + 1 } ∧
    (∀ i ∈ List.range 12, t.rd (Reg.SEC_MBX i) = Config.freeNat (s.free + i) % 2 ^ 32) ∧ t.free = s.free + 12 ∧
    RegsExcept (Reg.SEC_CSTAT :: (List.range 12).map Reg.SEC_MBX) s t ∧ t.log = s.log) ∧
  (∀ (s : State), s.sec.zeroising = false → s.secState = 2 ∨ s.secState = 3 → s.debugBarred = false → s.sec.nonce ≠ none → s.allStopped = true →
    s.wts.loads = [] → Completes (.dbgresp true true) s fun t => t.secState = 5 ∧ t.fld Reg.SEC_STAT Fld.SEC_STAT_DBGOPEN = 1 ∧
    t.fld Reg.SEC_STAT Fld.SEC_STAT_APPROVED = 0 ∧ t.fld Reg.SEC_CSTAT Fld.SEC_CSTAT_RESULT = 1 ∧
    t.sec = { s.sec with fwk := false, tenants := [], models := [], signers := [], links := [], engines := [], nonce := none, zeroising := true } ∧
    RegsExcept (logRegs ++ Reg.SEC_CSTAT :: Reg.SEC_STAT :: (List.range 1024).map Reg.HBM_RGNA) s t ∧ t.core = s.core) ∧
  (∀ (s : State) (k g : Bool), s.sec.zeroising = false → s.secState = 2 ∨ s.secState = 3 → s.debugBarred = false → s.sec.nonce ≠ none → ¬ (k = true ∧
    g = true) → Completes (.dbgresp k g) s fun t => t.sec = { s.sec with nonce := none } ∧ t.fld Reg.SEC_CSTAT Fld.SEC_CSTAT_RESULT = 7 ∧
    RegsExcept [Reg.SEC_CSTAT] s t ∧ t.log = s.log) ∧
  (∀ (s : State) (n : Nat), s.sec.zeroising = false → s.secState ∈ [2, 3, 5] → s.operatorSession n = true → s.sec.fwk = false →
    Completes (.setfwk n) s fun t => t.sec = { s.sec with fwk := true } ∧ t.fld Reg.SEC_STAT Fld.SEC_STAT_FWK = 1 ∧ t.secState = s.secState ∧
    t.fld Reg.SEC_CSTAT Fld.SEC_CSTAT_RESULT = 1 ∧ RegsExcept [Reg.SEC_CSTAT, Reg.SEC_STAT] s t ∧ t.log = s.log) ∧
  (∀ (s : State) (n : Nat) (i : QuadNo) (c : CfgImage), s.sec.zeroising = false → s.secState = 2 ∨ s.secState = 3 → s.operatorSession n = true →
    s.boot.image = some c → c.keyId ≠ i.val → bitAt s.sec.revoked c.keyId = false →
    Completes (.revoke n i) s fun t => t.sec = { s.sec with revoked := putBit s.sec.revoked i true } ∧ t.fld Reg.SEC_CSTAT Fld.SEC_CSTAT_RESULT = 1 ∧
    RegsExcept [Reg.SEC_CSTAT] s t ∧ t.log = s.log) ∧
  (∀ (s : State), Completes (.debugLock) s fun t => t.fld Reg.SEC_DBG Fld.SEC_DBG_LOCK = 1 ∧ RegsExcept [Reg.SEC_DBG] s t ∧ t.sec = s.sec ∧
    t.log = s.log) ∧
  (∀ (s : State), s.secState ≠ 4 → s.secState ≠ 0 → s.wts.loads = [] → noStreams s = true → Completes (.tamperCheck true) s fun t => t.secState = 4 ∧
    t.fld Reg.SEC_STAT Fld.SEC_STAT_TAMPER = 1 ∧ t.fld Reg.SEC_ERR Fld.SEC_ERR_TEST = 3 ∧ t.failed = true ∧ t.sec.tenants = [] ∧ t.sec.models = [] ∧
    t.sec.links = [] ∧ t.sec.signers = [] ∧ t.sec.fwk = false) ∧
  (∀ (s : State), Completes (.tamperCheck false) s fun t => t = s) ∧
  (∀ (s : State), Completes (.periodicSelftest true) s fun t => t = s) ∧
  (∀ (s : State), s.secState = 2 ∨ s.secState = 3 → s.wts.loads = [] → noStreams s = true →
    Completes (.periodicSelftest false) s fun t => t.secState = 4 ∧ t.fld Reg.SEC_ERR Fld.SEC_ERR_TEST = 1 ∧ t.failed = true ∧ t.sec.tenants = []) ∧
  (∀ (s : State) (i : Fin 3), s.secState = 2 ∨ s.secState = 3 → s.fld Reg.SEC_ERR Fld.SEC_ERR_SOFTN + 1 < 3 →
    Completes (.entropyTestFail i) s fun t => t.secState = 3 ∧ t.fld Reg.SEC_ERR Fld.SEC_ERR_SOFTN = s.fld Reg.SEC_ERR Fld.SEC_ERR_SOFTN + 1 ∧
    t.fld Reg.SEC_ERR Fld.SEC_ERR_TEST = 4 + i.val ∧ RegsExcept [Reg.SEC_ERR, Reg.SEC_STAT] s t ∧ t.sec = s.sec ∧ t.log = s.log) ∧
  (∀ (s : State) (i : Fin 3), s.secState = 2 ∨ s.secState = 3 → 3 ≤ s.fld Reg.SEC_ERR Fld.SEC_ERR_SOFTN + 1 → s.wts.loads = [] → noStreams s = true →
    Completes (.entropyTestFail i) s fun t => t.secState = 4 ∧ t.fld Reg.SEC_ERR Fld.SEC_ERR_TEST = 4 + i.val ∧ t.failed = true ∧ t.sec.tenants = []) ∧
  (∀ (s : State), s.secState = 3 → s.fld Reg.SEC_ERR Fld.SEC_ERR_SOFTN < 3 → Completes (.entropyRestartPass) s fun t => t.secState = 2 ∧
    RegsExcept [Reg.SEC_STAT] s t ∧ t.sec = s.sec ∧ t.log = s.log) ∧
  (∀ (s : State), Completes (.debugNonceExpiry) s fun t => t = { s with sec := { s.sec with nonce := none } })

/-- The commands of the log, of fencing and of the structural test complete with their own effect (Rests on R465, R466, R467, R468, R470, R473, R478,
R479, R480, R481). A parity error fences its unit or fails the part; a fence order fences the unit and a clear removes it; a staged record is written
to the ring, or to the reserved sector; a test starts with its first round and ends with a result. -/
def Obligations.FaultCommandsComplete : Prop :=
  (∀ (s : State), Completes (.fwWatchdogExpiry) s fun t => t.mgmt.restarting = true ∧ RegsExcept logRegs s t ∧ t.core = s.core ∧ t.sec = s.sec) ∧
  (∀ (s : State),
    Completes (.managementRestartDone) s fun t => t.mgmt = { s.mgmt with restarting := false, evEth := [], sent := s.mgmt.sent ++ s.mgmt.evEth.map (eventReply .eth) } ∧
    RegsExcept [] s t ∧ t.log = s.log) ∧
  (∀ (s : State) (k : CoreNo), s.arithRaised k = true → (s.log.advis.find? fun a => a.code == 2 && a.unit == unitCore k) = none →
    Completes (.advisoryRepeat k) s fun t => t.log.advis = ⟨2, unitCore k, s.mgmt.secs, 0⟩ :: s.log.advis ∧
    t.rd64 Reg.LOG_SEQ_LO = (s.rd64 Reg.LOG_SEQ_LO + 1) % 2 ^ 64 ∧ RegsExcept logRegs s t ∧ t.core = s.core) ∧
  (∀ (s : State) (n : Nat), s.failed = false → noStreams s = true → Completes (.parityError (.hub n)) s fun t => t.failed = true ∧
    t.fld Reg.LOG_PFAIL Fld.LOG_PFAIL_CODE = 0x21) ∧
  (∀ (s : State) (k : CoreNo), s.failed = false → noStreams s = true → Completes (.parityError (.router k)) s fun t => t.failed = true ∧
    t.fld Reg.LOG_PFAIL Fld.LOG_PFAIL_CODE = 0x21) ∧
  (∀ (s : State) (k : CoreNo) (g : Nat), bitAt (s.fld Reg.LOG_CFENCE Fld.LOG_CFENCE_FAULT) k = false →
    s.phase ≠ 9 ∨ s.fencedCores + 1 < s.fld Reg.LOG_ESC Fld.LOG_ESC_PARTN →
    Completes (.parityError (.core k g)) s fun t => bitAt (t.fld Reg.LOG_CFENCE Fld.LOG_CFENCE_FAULT) k = true ∧
    SMap.get (fun _ => 0) t.log.fenceC k = 2 ∧ t.failed = s.failed) ∧
  (∀ (s : State) (k : CoreNo) (g : GroupNo), SMap.get (fun _ => 0) s.log.fenceG (k * 16 + g) = 0 →
    popCount 16 (s.rd (Reg.LOG_GFENCE k)) + 1 < s.fld Reg.LOG_ESC Fld.LOG_ESC_COREN →
    ((List.range 64).all fun i => (s.tileReaders k (64 * g + i)).all fun r => decide (r.1 < 4)) = true →
    Completes (.parityError (.accumulator k g)) s fun t => bitAt (t.rd (Reg.LOG_GFENCE k)) g = true ∧
    SMap.get (fun _ => 0) t.log.fenceG (k * 16 + g) = 2 ∧ (∀ i ∈ List.range 64, t.tileFence k (64 * g + i) ≠ 0 ∧ (s.tileFence k (64 * g + i) = 0 →
    t.tileState k (64 * g + i) = 4)) ∧ t.failed = s.failed) ∧
  (∀ (s : State) (k : CoreNo) (i : TileNo), s.tileFence k i = 0 →
    ((List.range 64).filter fun j => s.tileFence k (i.val / 64 * 64 + j) != 0).length + 1 < s.fld Reg.LOG_ESC Fld.LOG_ESC_GRPN →
    ((s.tileReaders k i).all fun r => decide (r.1 < 4)) = true → Completes (.fence 0 k i) s fun t => t.tileFence k i = 2 ∧ t.tileState k i = 4 ∧
    (t.eng k i).bufs = [] ∧ (t.eng k i).drains = [] ∧ t.failed = s.failed) ∧
  (∀ (s : State) (k : CoreNo) (i : TileNo), i < 16 → SMap.get (fun _ => 0) s.log.fenceG (k * 16 + i) = 0 →
    popCount 16 (s.rd (Reg.LOG_GFENCE k)) + 1 < s.fld Reg.LOG_ESC Fld.LOG_ESC_COREN →
    ((List.range 64).all fun j => (s.tileReaders k (64 * i + j)).all fun r => decide (r.1 < 4)) = true →
    Completes (.fence 1 k i) s fun t => bitAt (t.rd (Reg.LOG_GFENCE k)) i = true ∧ SMap.get (fun _ => 0) t.log.fenceG (k * 16 + i) = 3 ∧
    t.failed = s.failed) ∧
  (∀ (s : State) (k : CoreNo), bitAt (s.fld Reg.LOG_CFENCE Fld.LOG_CFENCE_FAULT) k = false →
    s.phase ≠ 9 ∨ s.fencedCores + 1 < s.fld Reg.LOG_ESC Fld.LOG_ESC_PARTN →
    Completes (.fence 2 k 0) s fun t => bitAt (t.fld Reg.LOG_CFENCE Fld.LOG_CFENCE_FAULT) k = true ∧ SMap.get (fun _ => 0) t.log.fenceC k = 4 ∧
    t.failed = s.failed) ∧
  (∀ (s : State) (k : CoreNo) (i : TileNo), ((s.ownersOfGroup k (i / 64)).all fun p => s.run p == 0) = true → s.tileFence k i ≠ 4 →
    Completes (.fenceClear 0 k i) s fun t => t.tileFence k i = 0 ∧ RegsExcept [] s t ∧ t.core = s.core ∧ t.log.fenceG = s.log.fenceG ∧
    t.log.fenceC = s.log.fenceC ∧ t.log.queue = s.log.queue) ∧
  (∀ (s : State) (k : CoreNo) (i : TileNo), i < 16 → ((s.ownersOfGroup k i).all fun p => s.run p == 0) = true →
    Completes (.fenceClear 1 k i) s fun t => bitAt (t.rd (Reg.LOG_GFENCE k)) i = false ∧ SMap.get (fun _ => 0) t.log.fenceG (k * 16 + i) = 0 ∧
    RegsExcept [Reg.LOG_GFENCE k] s t ∧ t.core = s.core ∧ t.log.fenceC = s.log.fenceC ∧ t.log.queue = s.log.queue) ∧
  (∀ (s : State) (c : BitVec 16), c ≠ 0 → s.quiet = true → s.fld Reg.LOG_TSTAT Fld.LOG_TSTAT_BUSY = 0 → testCheck s.log.test = 0 →
    Completes (.testStart c) s fun t => t.fld Reg.LOG_TSTAT Fld.LOG_TSTAT_BUSY = 1 ∧ t.fld Reg.LOG_TSTAT Fld.LOG_TSTAT_RESULT = 0 ∧
    t.fld Reg.LOG_TSTAT Fld.LOG_TSTAT_FAILED = 0 ∧ t.fld Reg.LOG_CFENCE Fld.LOG_CFENCE_TEST = c.toNat ∧
    t.log.testRound = nextRound ((List.range 16).filter fun k => bitAt c.toNat k) ∧ (∀ k ∈ List.range 16, bitAt c.toNat k = true →
    ∀ i ∈ List.range 1024, t.tileState k i = 4) ∧ t.core = s.core ∧ t.log.queue = s.log.queue) ∧
  (∀ (s : State) (c : BitVec 16), c ≠ 0 → s.quiet = true → s.fld Reg.LOG_TSTAT Fld.LOG_TSTAT_BUSY = 0 → testCheck s.log.test ≠ 0 →
    Completes (.testStart c) s fun t => t.fld Reg.LOG_TSTAT Fld.LOG_TSTAT_BUSY = 0 ∧ t.fld Reg.LOG_TSTAT Fld.LOG_TSTAT_RESULT = 3 ∧
    t.fld Reg.LOG_TCMD Fld.LOG_TCMD_GO = 0 ∧ RegsExcept (logRegs ++ [Reg.LOG_TSTAT, Reg.LOG_TCMD]) s t ∧ t.core = s.core) ∧
  (∀ (s : State) (o : List (List Nat)), s.fld Reg.LOG_TSTAT Fld.LOG_TSTAT_BUSY = 1 → s.fld Reg.LOG_TSTAT Fld.LOG_TSTAT_FAILED = 0 → s.log.testLeft = [] → s.log.testBoot = false → (s.log.testRound.all fun k => decide (k < 16)) = true → ((List.range s.log.testRound.length).all fun i => (firstFailing (match s.log.test with | some c => c.sets | none => []) (nth [] o i)).isNone) = true → Completes (.testRoundDone o) s fun t => t.fld Reg.LOG_TSTAT Fld.LOG_TSTAT_BUSY = 0 ∧ t.fld Reg.LOG_TSTAT Fld.LOG_TSTAT_RESULT = 1 ∧ t.fld Reg.LOG_TCMD Fld.LOG_TCMD_GO = 0 ∧ t.log.testRound = [] ∧ (∀ k ∈ s.log.testRound, bitAt (t.fld Reg.LOG_CFENCE Fld.LOG_CFENCE_TEST) k = false)) ∧
  (∀ (s : State) (d : Sherd) (l : List Sherd), s.mgmt.restarting = false → s.fld Reg.LOG_STAT Fld.LOG_STAT_RSFAIL = 0 → s.writeWindow = true →
    s.log.queue = d :: l → s.log.hold = none →
    Completes (.logWriteDone .written) s fun t => SMap.get (fun _ => none) t.log.ring s.log.ringNext = some { d with flags := d.flags / 2 * 2 } ∧
    t.log.ringNext = (s.log.ringNext + 1) % 16384 ∧ t.log.queue = l ∧ t.log.failAt = none ∧ t.fld Reg.LOG_QSTAT Fld.LOG_QSTAT_CUR = l.length % 128 ∧
    t.fld Reg.LOG_STAT Fld.LOG_STAT_WAITWIN = 0 ∧ RegsExcept [Reg.LOG_STAT, Reg.LOG_QSTAT] s t ∧ t.mgmt = s.mgmt) ∧
  (∀ (s : State), s.log.failAt ≠ some (s.log.ringNext, 1) →
    Completes (.logWriteDone .verifyFailed) s fun t => t = { s with log := { s.log with failAt := some (s.log.ringNext, 1) } }) ∧
  (∀ (s : State) (a : Nat), s.fld Reg.LOG_STAT Fld.LOG_STAT_RSFAIL = 0 →
    Completes (.logWriteDone (.uncorrectable a)) s fun t => t.fld Reg.LOG_STAT Fld.LOG_STAT_RSFAIL = 1 ∧
    t.rd64 Reg.LOG_SEQ_LO = (s.rd64 Reg.LOG_SEQ_LO + 1) % 2 ^ 64 ∧ RegsExcept logRegs s t ∧ t.core = s.core) ∧
  (∀ (s : State) (i : Fin 64) (d : Sherd), s.log.queue[i.val]? = some d → 3 ≤ d.sev → s.fld Reg.LOG_STAT Fld.LOG_STAT_WAITWIN = 1 →
    s.log.erasing = false → s.log.resvErased ≠ 0 → s.log.hold = none →
    Completes (.logWindowFallback i) s fun t => SMap.get (fun _ => none) t.log.resv s.log.resvNext = some { d with flags := d.flags ||| 4 } ∧
    t.log.queue = s.log.queue.eraseIdx i ∧ t.log.resvErased = s.log.resvErased - 1 ∧ t.log.ring = s.log.ring ∧ RegsExcept [Reg.LOG_QSTAT] s t ∧
    t.mgmt = s.mgmt) ∧
  (∀ (s : State), s.log.erasing = true → s.fld Reg.LOG_STAT Fld.LOG_STAT_RSFAIL = 0 →
    Completes (.logSectorEraseDone) s fun t => t.log.erasing = false ∧ t.log.resvErased = s.log.resvErased + 512 ∧
    t.log.resv = SMap.setRange (fun _ => none) s.log.resv ((s.log.resvNext + s.log.resvErased) % 2048) 512 (fun _ => none) ∧
    t.log.queue = s.log.queue ∧ RegsExcept [] s t ∧ t.mgmt = s.mgmt)

/-- The commands that move a quadrant between operating points complete with their own effect (Rests on R397, R398, R399, R400, R402, R406, R409). A
legal request is stored and clears the regulator and thermal ceilings; an acknowledged write leads to the readback, the readback to the settling, the
settling to the slew, the slew to the new point; a failed raise returns to the old voltage; boost ends and rests. -/
def Obligations.OperatingPointCommandsComplete : Prop :=
  (∀ (s : State) (w : Word), opReqLegal w.toNat = true → Completes (.opRequest w) s fun t => t.rd Reg.CLK_OPREQ = w.toNat % 2 ^ 12 ∧
    (∀ q ∈ List.range 4, t.effective q = min (bits w.toNat (3 * q) 3) (min (s.quad q).powCeil (min (s.thermCeil q) (s.quad q).boostCeil))) ∧
    RegsExcept (Reg.CLK_OPREQ :: Reg.CLK_OPSTAT :: clampRegs) s t ∧ t.core = s.core ∧ t.log = s.log) ∧
  (∀ (s : State) (w : Word), opReqLegal w.toNat = false → Completes (.opRequest w) s fun t => t.fld Reg.CLK_STAT Fld.CLK_STAT_WREJ = 1 ∧
    RegsExcept [Reg.CLK_STAT] s t ∧ t.clk = s.clk ∧ t.log = s.log) ∧
  (∀ (s : State) (q : QuadNo), (s.quad q).stage = .write →
    Completes (.avsWriteAck q true) s fun t => t.quad q = { s.quad q with stage := .readback, tries := 0 } ∧ (∀ j ∈ List.range 4, j ≠ q.val →
    t.quad j = s.quad j) ∧ RegsExcept [] s t ∧ t.log = s.log) ∧
  (∀ (s : State) (q : QuadNo), (s.quad q).stage = .write → (s.quad q).tries + 1 < 3 →
    Completes (.avsWriteAck q false) s fun t => t.quad q = { s.quad q with tries := (s.quad q).tries + 1 } ∧ RegsExcept [] s t ∧ t.log = s.log) ∧
  (∀ (s : State) (q : QuadNo), (s.quad q).stage = .write → 3 ≤ (s.quad q).tries + 1 →
    Completes (.avsWriteAck q false) s fun t => (t.quad q).stage = .lowerWrite ∧ (t.quad q).target = (s.quad q).freq ∧
    (t.quad q).regCeil = (s.quad q).freq ∧ (t.quad q).confirmed = false ∧ (t.quad q).freq = (s.quad q).freq ∧ RegsExcept (logRegs ++ clampRegs) s t) ∧
  (∀ (s : State) (q : QuadNo), (s.quad q).stage = .lowerWrite → (s.quad q).freq = s.effective q ∨ (s.quad q).freq = 0 →
    Completes (.avsWriteAck q true) s fun t => (t.quad q).stage = .idle ∧ (t.quad q).confirmed = false ∧ (t.quad q).freq = (s.quad q).freq ∧
    t.fld Reg.CLK_OPSTAT ⟨16 + q, 1⟩ = 0 ∧ RegsExcept (Reg.CLK_OPSTAT :: clampRegs) s t ∧ t.log = s.log) ∧
  (∀ (s : State) (q : QuadNo), (s.quad q).stage = .lowerWrite →
    Completes (.avsWriteAck q false) s fun t => t.quad q = { s.quad q with tries := (s.quad q).tries + 1 } ∧ RegsExcept [] s t ∧ t.log = s.log) ∧
  (∀ (s : State) (q : QuadNo), (s.quad q).stage = .readback →
    Completes (.voltageReadbackOk q) s fun t => t.quad q = { s.quad q with stage := .settle, confirmed := true } ∧ RegsExcept [] s t ∧ t.log = s.log) ∧
  (∀ (s : State) (q : QuadNo), (s.quad q).stage = .confirm →
    Completes (.voltageReadbackOk q) s fun t => t.quad q = { s.quad q with stage := .write, tries := 0, confirmed := true } ∧ RegsExcept [] s t ∧
    t.log = s.log) ∧
  (∀ (s : State) (q : QuadNo), (s.quad q).stage = .settle → Completes (.settleElapsed q) s fun t => t.quad q = { s.quad q with stage := .slew } ∧
    RegsExcept [] s t ∧ t.log = s.log) ∧
  (∀ (s : State) (q : QuadNo), s.fld Reg.CLK_REFSTAT Fld.CLK_REFSTAT_LOCKED = 1 → (s.quad q).stage = .slew → (s.quad q).target = s.effective q →
    Completes (.frequencySlewDone q) s fun t => (t.quad q).freq = (s.quad q).target ∧ (t.quad q).stage = .idle ∧
    t.fld Reg.CLK_OPSTAT ⟨3 * q, 3⟩ = (s.quad q).target ∧ t.fld Reg.CLK_OPSTAT ⟨16 + q, 1⟩ = 0 ∧ RegsExcept (Reg.CLK_OPSTAT :: clampRegs) s t ∧
    t.log = s.log) ∧
  (∀ (s : State) (q : QuadNo), s.fld Reg.CLK_REFSTAT Fld.CLK_REFSTAT_LOCKED = 1 → (s.quad q).stage = .slewDown →
    Completes (.frequencySlewDone q) s fun t => (t.quad q).freq = (s.quad q).target ∧ (t.quad q).stage = .lowerWrite ∧ (t.quad q).tries = 0 ∧
    t.fld Reg.CLK_OPSTAT ⟨3 * q, 3⟩ = (s.quad q).target % 8 ∧ RegsExcept [Reg.CLK_OPSTAT] s t ∧ t.log = s.log) ∧
  (∀ (s : State) (q : QuadNo), (s.quad q).stage = .readback ∨ (s.quad q).stage = .write →
    Completes (.raiseTimeout q) s fun t => (t.quad q).stage = .lowerWrite ∧ (t.quad q).target = (s.quad q).freq ∧
    (t.quad q).regCeil = (s.quad q).freq ∧ (t.quad q).confirmed = false ∧ RegsExcept (logRegs ++ clampRegs) s t) ∧
  (∀ (s : State) (q : QuadNo), (s.quad q).boosting = true → (s.quad q).stage = .idle → (s.quad q).freq = 5 →
    Completes (.boostLimit q) s fun t => (t.quad q).boostCeil = 4 ∧ (t.quad q).stage = .slewDown ∧ (t.quad q).target = t.effective q ∧
    t.effective q ≤ 4 ∧ t.fld Reg.CLK_OPSTAT ⟨16 + q, 1⟩ = 1 ∧ RegsExcept (Reg.CLK_OPSTAT :: clampRegs) s t ∧ t.log = s.log) ∧
  (∀ (s : State) (q : QuadNo), (s.quad q).resting = true → Completes (.boostRestEnd q) s fun t => (t.quad q).resting = false ∧
    (t.quad q).boostCeil = 5 ∧ RegsExcept (Reg.CLK_OPSTAT :: clampRegs) s t ∧ t.log = s.log)

/-- The commands of the references, the islands and the frequency measurement complete with their own effect (Rests on R401, R402, R403, R404, R406,
R407, R408, R409, R468). Loss of the rack reference starts a switch to the crystal; good windows qualify it; a switch ends with the counts made up and
the PLLs to relock; an island is gated, ungated or switched; a measurement starts and ends with its count. -/
def Obligations.ClockSourceCommandsComplete : Prop :=
  (∀ (s : State), s.clk.switch = none → s.fld Reg.CLK_STAT Fld.CLK_STAT_SRC = 0 →
    Completes (.rackRefLost) s fun t => t.fld Reg.CLK_STAT Fld.CLK_STAT_REFLOSS = 1 ∧ t.fld Reg.CLK_STAT Fld.CLK_STAT_SWITCHING = 1 ∧
    t.clk = { s.clk with rack := false, switch := some (1, true) } ∧ RegsExcept (logRegs ++ [Reg.CLK_STAT]) s t ∧ t.core = s.core) ∧
  (∀ (s : State) (n : Nat), s.clk.switch = none → 15624 ≤ n ∧ n ≤ 15626 → s.fld Reg.CLK_REFCTL Fld.CLK_REFCTL_AUTORET = 0 →
    Completes (.refQualWindow n false) s fun t => t.clk = { s.clk with rack := true, windows := s.clk.windows + 1 } ∧
    t.fld Reg.CLK_REFSTAT Fld.CLK_REFSTAT_QUALMS = min 65535 ((s.clk.windows + 1) / 10) ∧
    t.fld Reg.CLK_REFSTAT Fld.CLK_REFSTAT_QUALOK = b2n (decide (1000 ≤ s.clk.windows + 1)) ∧ RegsExcept [Reg.CLK_REFSTAT] s t ∧ t.log = s.log) ∧
  (∀ (s : State) (n : Nat), s.clk.switch = none → (15618 ≤ n ∧ n < 15624) ∨ (15626 < n ∧ n ≤ 15632) →
    Completes (.refQualWindow n false) s fun t => t.clk = { s.clk with rack := true, windows := 0 } ∧
    t.fld Reg.CLK_REFSTAT Fld.CLK_REFSTAT_QUALOK = 0 ∧ RegsExcept [Reg.CLK_REFSTAT] s t ∧ t.log = s.log) ∧
  (∀ (s : State), s.clk.switch = none → s.fld Reg.CLK_REFCTL Fld.CLK_REFCTL_TARGET = 1 ∨ s.fld Reg.CLK_REFSTAT Fld.CLK_REFSTAT_QUALOK = 1 →
    Completes (.refSwitchOrder) s fun t => t.fld Reg.CLK_REFCTL Fld.CLK_REFCTL_ORDER = 1 ∧ t.fld Reg.CLK_STAT Fld.CLK_STAT_SWITCHING = 1 ∧
    t.clk = { s.clk with switch := some (s.fld Reg.CLK_REFCTL Fld.CLK_REFCTL_TARGET, false) } ∧ RegsExcept [Reg.CLK_REFCTL, Reg.CLK_STAT] s t ∧
    t.log = s.log) ∧
  (∀ (s : State) (e x n : Nat) (l : Bool), s.clk.switch = some (x, l) → n = 96 + (if l then e else 0) →
    Completes (.srefSwitchDone e) s fun t => t.fld Reg.CLK_STAT Fld.CLK_STAT_SRC = x % 2 ∧ t.fld Reg.CLK_STAT Fld.CLK_STAT_SWITCHING = 0 ∧
    t.fld Reg.CLK_STAT Fld.CLK_STAT_SWDONE = 1 ∧ t.fld Reg.CLK_REFCTL Fld.CLK_REFCTL_ORDER = 0 ∧ t.fld Reg.CLK_REFSTAT Fld.CLK_REFSTAT_LOCKED = 0 ∧
    t.fld Reg.CLK_REFSTAT Fld.CLK_REFSTAT_QUALOK = 0 ∧ t.clk = { s.clk with switch := none, windows := 0 } ∧
    t.rd64 Reg.LNK_SC_LO = (s.rd64 Reg.LNK_SC_LO + n) % 2 ^ 64 ∧ t.rd64 Reg.SRV_MT_LO = (s.rd64 Reg.SRV_MT_LO + nsSteps s.mgmt.tphase n) % 2 ^ 64 ∧
    t.mgmt = { s.mgmt with nanos := (s.mgmt.nanos + nsSteps s.mgmt.tphase n) % 1000000000, tphase := (s.mgmt.tphase + n) % 5 } ∧
    t.rd Reg.CLK_SWCNT = min 0xFFFFFFFF (s.rd Reg.CLK_SWCNT + 1) ∧ t.log = s.log) ∧
  (∀ (s : State), Completes (.pllRelock) s fun t => t.fld Reg.CLK_REFSTAT Fld.CLK_REFSTAT_LOCKED = 1 ∧ RegsExcept [Reg.CLK_REFSTAT] s t ∧
    t.clk = s.clk ∧ t.log = s.log) ∧
  (∀ (s : State), s.fld Reg.CLK_STAT Fld.CLK_STAT_SRC = 0 → Completes (.crystalLost) s fun t => t.fld Reg.CLK_STAT Fld.CLK_STAT_XLOSS = 1 ∧
    t.clk = { s.clk with xpll := false } ∧ RegsExcept [Reg.CLK_STAT] s t ∧ t.log = s.log) ∧
  (∀ (s : State), s.fld Reg.CLK_STAT Fld.CLK_STAT_SRC = 1 → Completes (.crystalLost) s fun t => t.fld Reg.CLK_STAT Fld.CLK_STAT_XLOSS = 1 ∧
    t.clk = { s.clk with xpll := false } ∧ RegsExcept (logRegs ++ [Reg.CLK_STAT]) s t ∧ t.core = s.core) ∧
  (∀ (s : State), s.clk.xpll = false → s.fld Reg.CLK_STAT Fld.CLK_STAT_SRC = 1 → s.failed = false → noStreams s = true →
    Completes (.xpllLossTimeout) s fun t => t.failed = true ∧ t.fld Reg.LOG_PFAIL Fld.LOG_PFAIL_CODE = 0x52) ∧
  (∀ (s : State) (i : Fin 62), s.neverGated i = false →
    Completes (.clockGate i) s fun t => t = { s with clk := { s.clk with gated := putBit s.clk.gated i true } }) ∧
  (∀ (s : State) (i : Fin 62), Completes (.clockUngate i) s fun t => t = { s with clk := { s.clk with gated := putBit s.clk.gated i false } }) ∧
  (∀ (s : State) (w : Word), s.quiet = true → bits w.toNat 0 7 ≤ 60 → s.fld Reg.CLK_ISW Fld.CLK_ISW_BUSY = 0 → bitAt w.toNat 31 = true →
    Completes (.islandSwitch w) s fun t => t.fld Reg.CLK_ISW Fld.CLK_ISW_BUSY = 1 ∧ t.fld Reg.CLK_ISW Fld.CLK_ISW_GO = 1 ∧
    t.fld Reg.CLK_ISW Fld.CLK_ISW_ISLAND = bits w.toNat 0 7 ∧ t.fld Reg.CLK_ISW Fld.CLK_ISW_TARGET = bits w.toNat 7 1 ∧
    t.clk = { s.clk with gated := putBit s.clk.gated (bits w.toNat 0 7) true } ∧ RegsExcept [Reg.CLK_ISW] s t ∧ t.log = s.log) ∧
  (∀ (s : State), s.fld Reg.CLK_ISW Fld.CLK_ISW_BUSY = 1 → Completes (.islandSwitchDone) s fun t => t.fld Reg.CLK_ISW Fld.CLK_ISW_BUSY = 0 ∧
    t.fld Reg.CLK_ISW Fld.CLK_ISW_GO = 0 ∧ t.fld Reg.CLK_STAT Fld.CLK_STAT_SWDONE = 1 ∧
    t.clk = { s.clk with bypass := putBit s.clk.bypass (s.fld Reg.CLK_ISW Fld.CLK_ISW_ISLAND) (s.fld Reg.CLK_ISW Fld.CLK_ISW_TARGET == 1), gated := putBit s.clk.gated (s.fld Reg.CLK_ISW Fld.CLK_ISW_ISLAND) false } ∧
    RegsExcept [Reg.CLK_ISW, Reg.CLK_STAT] s t ∧ t.log = s.log) ∧
  (∀ (s : State) (u : QuadNo) (w : Word), s.fld (Reg.CLK_FMCTL u) Fld.CLK_FMCTL_BUSY = 0 → 4 ≤ bits w.toNat 24 5 ∧ bits w.toNat 24 5 ≤ 24 →
    bits w.toNat 16 7 ≤ 65 ∧ bits w.toNat 0 7 ≤ 65 → bitAt w.toNat 31 = true →
    Completes (.freqMeasureStart u w) s fun t => t.fld (Reg.CLK_FMCTL u) Fld.CLK_FMCTL_BUSY = 1 ∧ t.fld (Reg.CLK_FMCTL u) Fld.CLK_FMCTL_START = 1 ∧
    t.fld (Reg.CLK_FMCTL u) Fld.CLK_FMCTL_WIN = bits w.toNat 24 5 ∧ t.fld (Reg.CLK_FMCTL u) Fld.CLK_FMCTL_TSEL = bits w.toNat 16 7 ∧
    t.fld (Reg.CLK_FMCTL u) Fld.CLK_FMCTL_RSEL = bits w.toNat 0 7 ∧ RegsExcept [Reg.CLK_FMCTL u] s t ∧ t.clk = s.clk ∧ t.log = s.log) ∧
  (∀ (s : State) (u : QuadNo) (n : Nat), s.fld (Reg.CLK_FMCTL u) Fld.CLK_FMCTL_BUSY = 1 →
    Completes (.freqMeasureDone u n) s fun t => t.rd (Reg.CLK_FMRES u) = min 0xFFFFFFFF n ∧
    t.fld (Reg.CLK_FMCTL u) Fld.CLK_FMCTL_OVF = b2n (decide (0xFFFFFFFF < n)) ∧ t.fld (Reg.CLK_FMCTL u) Fld.CLK_FMCTL_BUSY = 0 ∧
    t.fld (Reg.CLK_FMCTL u) Fld.CLK_FMCTL_START = 0 ∧ RegsExcept [Reg.CLK_FMCTL u, Reg.CLK_FMRES u] s t ∧ t.clk = s.clk ∧ t.log = s.log)

/-- The commands of Idle, Sleep, Deep, Off and of the wake sources complete with their own effect (Rests on R411, R412, R413, R414, R415, R416, R418,
R419, R420, R421, R423, R426). A quiet core enters Idle, and a quadrant of idle cores stops its clock; a granted state request starts the entry, which
drains, commits and is left by a wake source; latched pads are released. -/
def Obligations.IdleAndStateCommandsComplete : Prop :=
  (∀ (s : State) (k : CoreNo), s.coreQuiet k = true → bitAt s.pwr.idle k = false →
    ((quadCores (quadOf k)).all fun j => bitAt (putBit s.pwr.idle k true) j) = false →
    Completes (.idleEntry k) s fun t => t = { s with pwr := { s.pwr with idle := putBit s.pwr.idle k true } }) ∧
  (∀ (s : State) (k : CoreNo), s.coreQuiet k = true → bitAt s.pwr.idle k = false →
    ((quadCores (quadOf k)).all fun j => bitAt (putBit s.pwr.idle k true) j) = true →
    Completes (.idleEntry k) s fun t => t.pwr.idle = putBit s.pwr.idle k true ∧ t.fld Reg.PWR_STAT ⟨4 + quadOf k, 1⟩ = 1 ∧
    t.fld Reg.CLK_OPSTAT ⟨3 * quadOf k, 3⟩ = 0 ∧ t.fld Reg.CLK_OPSTAT ⟨16 + quadOf k, 1⟩ = 1 ∧
    t.clk = { s.clk with quads := setNth s.clk.quads (quadOf k) { boostAfter (s.quad (quadOf k)) 0 with freq := 0, target := 0, stage := .lowerWrite, confirmed := false, tries := 0 } } ∧
    RegsExcept [Reg.PWR_STAT, Reg.CLK_OPSTAT] s t ∧ t.core = s.core ∧ t.log = s.log) ∧
  (∀ (s : State) (k : CoreNo), bitAt s.pwr.idle k = true →
    Completes (.idleBias k) s fun t => t = { s with pwr := { s.pwr with bias := putBit s.pwr.bias k true } }) ∧
  (∀ (s : State) (k : CoreNo), bitAt s.pwr.idle k = true → s.quadIdle (quadOf k) = false →
    Completes (.idleExit k) s fun t => t = { s with pwr := { s.pwr with idle := putBit s.pwr.idle k false, bias := putBit s.pwr.bias k false } }) ∧
  (∀ (s : State) (k : CoreNo), bitAt s.pwr.idle k = true → s.quadIdle (quadOf k) = true →
    Completes (.idleExit k) s fun t => t.pwr = { s.pwr with idle := putBit s.pwr.idle k false, bias := putBit s.pwr.bias k false } ∧
    t.fld Reg.PWR_STAT ⟨4 + quadOf k, 1⟩ = 0 ∧ t.fld Reg.CLK_OPSTAT ⟨3 * quadOf k, 3⟩ = 1 ∧
    RegsExcept (Reg.PWR_STAT :: Reg.CLK_OPSTAT :: clampRegs) s t ∧ t.core = s.core ∧ t.log = s.log) ∧
  (∀ (s : State), s.fld Reg.PWR_STAT Fld.PWR_STAT_STATE = 0 → s.pwr.off = false → s.entryReason 2 = 0 →
    Completes (.sleep) s fun t => t.fld Reg.PWR_STAT Fld.PWR_STAT_STATE = 1 ∧ t.pwr = { s.pwr with entering := 2, entryStep := 1 } ∧
    t.log.queue = [] ∧ t.mgmt.stored = s.mgmt.meters ∧ t.wts.jstore = s.wts.jtiles ∧ RegsExcept [Reg.PWR_STAT, Reg.LOG_QSTAT] s t ∧ t.core = s.core) ∧
  (∀ (s : State), s.fld Reg.PWR_STAT Fld.PWR_STAT_STATE = 0 → s.pwr.off = false → s.entryReason 3 = 0 →
    Completes (.deep) s fun t => t.fld Reg.PWR_STAT Fld.PWR_STAT_STATE = 1 ∧ t.pwr = { s.pwr with entering := 3, entryStep := 1 } ∧ t.log.queue = [] ∧
    t.mgmt.stored = s.mgmt.meters ∧ t.wts.jstore = s.wts.jtiles ∧ RegsExcept [Reg.PWR_STAT, Reg.LOG_QSTAT] s t ∧ t.core = s.core) ∧
  (∀ (s : State), s.fld Reg.PWR_STAT Fld.PWR_STAT_STATE = 0 → s.pwr.off = false → s.entryReason 4 = 0 →
    Completes (.off) s fun t => t.fld Reg.PWR_STAT Fld.PWR_STAT_STATE = 1 ∧ t.pwr = { s.pwr with entering := 4, entryStep := 1 } ∧ t.log.queue = [] ∧
    t.mgmt.stored = s.mgmt.meters ∧ t.wts.jstore = s.wts.jtiles ∧ RegsExcept [Reg.PWR_STAT, Reg.LOG_QSTAT] s t ∧ t.core = s.core) ∧
  (∀ (s : State), s.fld Reg.PWR_STAT Fld.PWR_STAT_STATE = 2 → Completes (.run) s fun t => t.fld Reg.PWR_STAT Fld.PWR_STAT_STATE = 4 ∧
    t.fld Reg.PWR_WAKESRC Fld.PWR_WAKESRC_SRC = 5 ∧ t.pwr = { s.pwr with selfRefresh := false, entering := 2 } ∧
    (∀ i ∈ List.range 16, s.portState i = 10 → t.portState i = 3) ∧
    RegsExcept (Reg.PWR_STAT :: Reg.PWR_WAKESRC :: (List.range 16).map Reg.LNK_STAT) s t ∧ t.log = s.log) ∧
  (∀ (s : State), s.fld Reg.PWR_STAT Fld.PWR_STAT_STATE = 1 → s.pwr.entryStep = 1 → s.pwr.entering = 2 →
    Completes (.powerDownDrain false) s fun t => t.pwr = { s.pwr with selfRefresh := true, entryStep := 7 } ∧
    (∀ i ∈ List.range 16, s.portState i = 6 → t.portState i = 10) ∧ RegsExcept ((List.range 16).map Reg.LNK_STAT) s t ∧ t.core = s.core ∧
    t.log = s.log) ∧
  (∀ (s : State), s.fld Reg.PWR_STAT Fld.PWR_STAT_STATE = 1 → s.pwr.entryStep = 1 → 3 ≤ s.pwr.entering →
    Completes (.powerDownDrain false) s fun t => t.pwr.entryStep = 7 ∧ t.pwr.selfRefresh = true ∧ t.pwr.regulated = false ∧
    t.fld Reg.PWR_PADREL Fld.PWR_PADREL_LATCHED = 0x3F ∧ t.fld Reg.HOLD_STAT Fld.HOLD_STAT_CHARGING = 0 ∧ (∀ i ∈ List.range 16, s.portState i = 6 →
    t.portState i = 10) ∧ t.core = s.core) ∧
  (∀ (s : State), s.fld Reg.PWR_STAT Fld.PWR_STAT_STATE = 1 → s.pwr.entryStep = 1 → Completes (.powerDownDrain true) s fun t => t.pwr.entryStep = 7 ∧
    t.pwr.selfRefresh = true ∧ t.core.queues = [] ∧ t.hbm.reqs = [] ∧ t.hbm.reads = [] ∧ t.hbm.writes = [] ∧ t.hbm.resps = [] ∧
    (∀ i ∈ List.range 16, (t.port i).serving = [])) ∧
  (∀ (s : State), s.fld Reg.PWR_STAT Fld.PWR_STAT_STATE = 1 → s.pwr.entryStep = 7 → s.pwr.entering = 2 → s.levelWake = false →
    Completes (.entryCommit) s fun t => t.fld Reg.PWR_STAT Fld.PWR_STAT_STATE = 2 ∧ t.pwr = { s.pwr with entering := 0, entryStep := 0 } ∧
    RegsExcept [Reg.PWR_STAT] s t ∧ t.core = s.core ∧ t.log = s.log) ∧
  (∀ (s : State), s.fld Reg.PWR_STAT Fld.PWR_STAT_STATE = 1 → s.pwr.entryStep = 7 → s.pwr.entering = 3 → bitAt s.boot.slow 1 = false →
    Completes (.entryCommit) s fun t => t.fld Reg.PWR_STAT Fld.PWR_STAT_STATE = 3 ∧ t.pwr.rested = true ∧ t.srv = {} ∧ t.lnk = {} ∧
    t.core.shelf = [] ∧ t.core.cells = s.core.cells ∧ t.sec = s.sec ∧ t.log = s.log) ∧
  (∀ (s : State), RegsCanonical s → s.fld Reg.PWR_STAT Fld.PWR_STAT_STATE = 1 → s.pwr.entryStep = 7 → s.pwr.entering = 4 →
    s.fld Reg.PWR_WAKECFG Fld.PWR_WAKECFG_WLEVEL = 0 → Completes (.entryCommit) s fun t => t.fld Reg.PWR_STAT Fld.PWR_STAT_STATE = 0 ∧
    t.pwr.off = true ∧ t.srv = {} ∧ t.lnk = {} ∧ t.core.shelf = [] ∧ t.core.cells = s.core.cells ∧ ((∀ a, alwaysOn a = false → a ≠ Reg.PWR_WAKECFG →
    t.rd a = (resetWord a).toNat))) ∧
  (∀ (s : State), RegsCanonical s → s.fld Reg.PWR_STAT Fld.PWR_STAT_STATE = 1 → s.pwr.entryStep = 7 → s.pwr.entering = 4 → s.levelWake = true →
    Completes (.entryCommit) s fun t => BroughtUp s t 1 Fld.PWR_RSTCAUSE_OFFEXIT) ∧
  (∀ (s : State) (l : Bool), s.fld Reg.PWR_WAKECFG Fld.PWR_WAKECFG_WEN = 1 → s.pwr.off = false → s.fld Reg.PWR_STAT Fld.PWR_STAT_STATE = 2 →
    Completes (.wake true l) s fun t => t.fld Reg.PWR_STAT Fld.PWR_STAT_STATE = 4 ∧ t.fld Reg.PWR_WAKESRC Fld.PWR_WAKESRC_SRC = 1 ∧
    bitAt t.boot.slow 1 = true ∧ t.pwr = { s.pwr with selfRefresh := false, entering := 2 } ∧ (∀ i ∈ List.range 16, s.portState i = 10 →
    t.portState i = 3) ∧ t.core = s.core ∧ t.log = s.log) ∧
  (∀ (s : State) (l : Bool), s.fld Reg.PWR_WAKECFG Fld.PWR_WAKECFG_WEN = 1 → s.pwr.off = true →
    Completes (.wake true l) s fun t => BroughtUp s t 1 Fld.PWR_RSTCAUSE_OFFEXIT) ∧
  (∀ (s : State), s.fld Reg.PWR_WAKECFG Fld.PWR_WAKECFG_WEN = 1 → s.pwr.off = false → s.fld Reg.PWR_STAT Fld.PWR_STAT_STATE = 1 →
    Completes (.wake true false) s fun t => t.fld Reg.PWR_STAT Fld.PWR_STAT_STATE = 0 ∧ t.fld Reg.PWR_WAKESRC Fld.PWR_WAKESRC_SRC = 1 ∧
    t.pwr.entering = 0 ∧ t.pwr.entryStep = 0 ∧ t.pwr.selfRefresh = false ∧ t.core = s.core) ∧
  (∀ (s : State) (p : PortNo) (l : Bool), s.portState p = 10 → s.fld Reg.PWR_STAT Fld.PWR_STAT_STATE = 2 →
    Completes (.linkActivityWake p l) s fun t => t.fld Reg.PWR_STAT Fld.PWR_STAT_STATE = 4 ∧ t.fld Reg.PWR_WAKESRC Fld.PWR_WAKESRC_SRC = 2 ∧
    t.fld Reg.PWR_WAKESRC Fld.PWR_WAKESRC_PORT = p.val ∧ t.pwr = { s.pwr with selfRefresh := false, entering := 2 } ∧
    (∀ i ∈ List.range 16, s.portState i = 10 → t.portState i = 3) ∧ t.core = s.core ∧ t.log = s.log) ∧
  (∀ (s : State) (p : PortNo) (n : Nat) (l : Bool), 6 ≤ n → bitAt (s.fld Reg.PWR_WAKECFG Fld.PWR_WAKECFG_STOKE) p = true →
    s.fld Reg.PWR_STAT Fld.PWR_STAT_STATE = 3 → Completes (.stokePattern p n l) s fun t => t.fld Reg.PWR_STAT Fld.PWR_STAT_STATE = 4 ∧
    t.fld Reg.PWR_WAKESRC Fld.PWR_WAKESRC_SRC = 3 ∧ t.fld Reg.PWR_WAKESRC Fld.PWR_WAKESRC_PORT = p.val ∧ t.pwr = { s.pwr with entering := 3 } ∧
    RegsExcept [Reg.PWR_STAT, Reg.PWR_WAKESRC] s t ∧ t.core = s.core ∧ t.log = s.log) ∧
  (∀ (s : State) (l : Bool), s.fld Reg.PWR_WAKECFG Fld.PWR_WAKECFG_PEN = 1 → s.fld Reg.PWR_STAT Fld.PWR_STAT_STATE = 2 →
    Completes (.pcieWake l) s fun t => t.fld Reg.PWR_STAT Fld.PWR_STAT_STATE = 4 ∧ t.fld Reg.PWR_WAKESRC Fld.PWR_WAKESRC_SRC = 4 ∧
    t.pwr = { s.pwr with selfRefresh := false, entering := 2 } ∧ (∀ i ∈ List.range 16, s.portState i = 10 → t.portState i = 3) ∧ t.core = s.core ∧
    t.log = s.log) ∧
  (∀ (s : State), s.fld Reg.PWR_STAT Fld.PWR_STAT_STATE = 4 → s.pwr.entering = 2 →
    Completes (.exitComplete) s fun t => t.fld Reg.PWR_STAT Fld.PWR_STAT_STATE = 0 ∧ t.pwr.entering = 0 ∧ t.pwr.rested = false ∧
    RegsExcept (logRegs ++ [Reg.PWR_STAT, Reg.HOLD_STAT]) s t ∧ t.core = s.core) ∧
  (∀ (s : State), s.fld Reg.PWR_STAT Fld.PWR_STAT_STATE = 4 → s.pwr.entering = 3 →
    Completes (.exitComplete) s fun t => t.fld Reg.PWR_STAT Fld.PWR_STAT_STATE = 0 ∧ t.fld Reg.PWR_RSTCAUSE Fld.PWR_RSTCAUSE_DEEPEXIT = 1 ∧
    t.pwr.entering = 0 ∧ t.pwr.rested = false ∧ t.pwr.selfRefresh = false) ∧
  (∀ (s : State) (m : BitVec 6),
    Completes (.padRelease m) s fun t => t.fld Reg.PWR_PADREL Fld.PWR_PADREL_LATCHED = maskOf 6 (fun g => bitAt (s.fld Reg.PWR_PADREL Fld.PWR_PADREL_LATCHED) g && !bitAt m.toNat g) ∧
    RegsExcept [Reg.PWR_PADREL] s t ∧ t.core = s.core ∧ t.log = s.log)

/-- The commands of the governors, the hold-up and the supply complete with their own effect (Rests on R425, R428, R429, R431, R432, R433, R434, R436,
R460, R483, R523). The governor stores its averages and lowers or raises a ceiling; credits are shared each interval; a full charge and a stale board
reading are judged; a sag banks the save set when armed; banking ends and power returns. -/
def Obligations.PowerSupplyCommandsComplete : Prop :=
  (∀ (s : State), Completes (.auxBrownout) s fun t => BroughtUp s t 1 Fld.PWR_RSTCAUSE_BROWNOUT ∧
    t.fld Reg.PWR_RSTCAUSE Fld.PWR_RSTCAUSE_RETLOST = 1 ∧ s.mgmt.persisted < t.mgmt.secs ∧ t.mgmt.nanos = 0 ∧
    t.fld Reg.MTR_TSTAT Fld.MTR_TSTAT_SYNC = 0) ∧
  (∀ (s : State) (x y : BitVec 16), s.fld Reg.PWR_CAP Fld.PWR_CAP_CAP < x.toNat →
    Completes (.powerGovernorTick x y) s fun t => t.rd Reg.PWR_PMEAS = x.toNat + 2 ^ 16 * y.toNat ∧ t.pwr.belowCap = 0 ∧
    (∃ q ∈ List.range 4, (∀ j ∈ List.range 4, s.effective j ≤ s.effective q) ∧ (s.clk.quads.length = 4 →
    (t.quad q).powCeil = max 1 (min (s.quad q).powCeil (s.effective q) - 1))) ∧ RegsExcept (Reg.PWR_PMEAS :: Reg.CLK_OPSTAT :: clampRegs) s t ∧
    t.log = s.log) ∧
  (∀ (s : State) (x y : BitVec 16), x.toNat ≤ s.fld Reg.PWR_CAP Fld.PWR_CAP_CAP →
    s.fld Reg.PWR_CAP Fld.PWR_CAP_CAP < x.toNat + s.fld Reg.PWR_GOV Fld.PWR_GOV_MARGIN →
    Completes (.powerGovernorTick x y) s fun t => t.rd Reg.PWR_PMEAS = x.toNat + 2 ^ 16 * y.toNat ∧ t.pwr = { s.pwr with belowCap := 0 } ∧
    RegsExcept [Reg.PWR_PMEAS] s t ∧ t.clk = s.clk ∧ t.log = s.log) ∧
  (∀ (s : State), Completes (.readCreditTick) s fun t => (∀ k ∈ List.range 16, SMap.get (fun _ => 0) t.pwr.credits k = s.creditShare) ∧
    t.pwr.pool = sumNat 16 (fun k => SMap.get (fun _ => 0) s.pwr.credits k) ∧ t.pwr.used = 0 ∧ RegsExcept [] s t ∧ t.clk = s.clk ∧ t.log = s.log) ∧
  (∀ (s : State), Completes (.chargeComplete none) s fun t => t.pwr.regulated = true ∧ t.pwr.chargeOk = s.pwr.chargeOk ∧
    t.fld Reg.HOLD_STAT Fld.HOLD_STAT_CHARGING = 0 ∧ RegsExcept (logRegs ++ [Reg.HOLD_STAT]) s t ∧ t.core = s.core) ∧
  (∀ (s : State) (n : Nat), Completes (.chargeComplete (some n)) s fun t => t.pwr.regulated = true ∧
    t.pwr.chargeOk = decide (s.fld Reg.HOLD_CFG Fld.HOLD_CFG_TMIN ≤ n) ∧
    t.fld Reg.HOLD_STAT Fld.HOLD_STAT_CLOW = b2n (decide (n < s.fld Reg.HOLD_CFG Fld.HOLD_CFG_TMIN)) ∧
    t.fld Reg.HOLD_STAT Fld.HOLD_STAT_CHARGING = 0 ∧ RegsExcept (logRegs ++ [Reg.HOLD_STAT]) s t ∧ t.core = s.core) ∧
  (∀ (s : State), s.pwr.dead = false → s.fld Reg.PWR_STAT Fld.PWR_STAT_STATE = 0 → s.pwr.off = false → s.thm.step = 0 →
    s.fld Reg.HOLD_STAT Fld.HOLD_STAT_ARMED = 1 → Completes (.supplySag) s fun t => t.pwr.banking = s.saveSet ∧ t.pwr.bankSeq = s.pwr.bankSeq + 1 ∧
    t.pwr.dead = true ∧ t.pwr.sag = true ∧ t.pwr.half = (if s.pwr.erased0 then 0 else 1) ∧ RegsExcept [] s t ∧ t.core = s.core ∧ t.log = s.log) ∧
  (∀ (s : State), s.pwr.dead = false → s.fld Reg.PWR_STAT Fld.PWR_STAT_STATE = 0 → s.pwr.off = false → s.thm.step = 0 →
    s.fld Reg.HOLD_STAT Fld.HOLD_STAT_ARMED = 0 → Completes (.supplySag) s fun t => t = { s with pwr := { s.pwr with sag := true, dead := true } }) ∧
  (∀ (s : State) (x : SavePage) (l : List SavePage), s.pwr.banking = x :: l → l ≠ [] → Completes (.bankPageDone) s fun t => t.pwr.banking = l ∧
    (if s.pwr.half = 0 then t.pwr.save0 = s.pwr.save0 ++ [x] ∧ t.pwr.save1 = s.pwr.save1 else t.pwr.save1 = s.pwr.save1 ++ [x] ∧
    t.pwr.save0 = s.pwr.save0) ∧ RegsExcept [] s t ∧ t.core = s.core ∧ t.log = s.log) ∧
  (∀ (s : State) (x : SavePage), s.pwr.banking = [x] → s.boot.rise = false → s.thm.step ≠ 0 →
    Completes (.bankPageDone) s fun t => t.pwr.banking = [] ∧ t.thm = { s.thm with step := 6, tripPin := true } ∧
    (if s.pwr.half = 0 then t.pwr.save0 = s.pwr.save0 ++ [x] else t.pwr.save1 = s.pwr.save1 ++ [x]) ∧ RegsExcept [] s t) ∧
  (∀ (s : State) (x : SavePage), s.pwr.banking = [x] → s.boot.rise = true →
    Completes (.bankPageDone) s fun t => BroughtUp s t 1 Fld.PWR_RSTCAUSE_COLD ∧
    (if s.pwr.half = 0 then t.pwr.save0 = s.pwr.save0 ++ [x] else t.pwr.save1 = s.pwr.save1 ++ [x])) ∧
  (∀ (s : State), s.boot.pwrgood = true → s.pwr.dead = true → s.pwr.banking = [] →
    Completes (.powerReturn) s fun t => BroughtUp s t 1 Fld.PWR_RSTCAUSE_COLD) ∧
  (∀ (s : State), s.boot.pwrgood = true → s.pwr.dead = false →
    Completes (.powerReturn) s fun t => t = { s with boot := { s.boot with slow := putBit s.boot.slow 0 false } }) ∧
  (∀ (s : State), Completes (.boardReadingStale) s fun t => 1000 ≤ t.fld Reg.THM_BTEMP Fld.THM_BTEMP_AGE ∧
    t.fld Reg.HOLD_STAT Fld.HOLD_STAT_WINDOW = 0 ∧ t.fld Reg.HOLD_STAT Fld.HOLD_STAT_ARMED = 0 ∧ t.fld Reg.HOLD_STAT Fld.HOLD_STAT_CHARGING = 0 ∧
    RegsExcept (logRegs ++ [Reg.THM_BTEMP, Reg.HOLD_STAT]) s t ∧ t.core = s.core)

/-- The commands of the converters, the ring oscillators and the cones complete with their own effect (Rests on R441, R442, R443, R447, R450, R452,
R453, R454, R459, R464). A conversion lands its result and, of a diode, the diode's reading, or, of the thermistor, the board temperature; an urgent
conversion does the same apart from the sequence; the reference is enabled and ready; a count is ordered and gives the core's reading; ceilings step
down while cone 2 holds and up after; the shutdown record is written. -/
def Obligations.ThermalCommandsComplete : Prop :=
  (∀ (s : State) (c : QuadNo) (r : BitVec 24) (e w : Nat), s.fld (Reg.MADC_CSTAT c) Fld.MADC_CSTAT_BUSY = 1 → bitAt s.thm.urg c = false →
    e = s.fld (Reg.MADC_CSTAT c) Fld.MADC_CSTAT_CUR → w = s.rd (Reg.MADC_SEQ c e) → s.fld (Reg.MADC_CCTL c) Fld.MADC_CCTL_EN = 0 →
    bits w 0 6 ∉ [29, 31, 32] ∧ 20 ≤ bits w 0 6 →
    Completes (.conversionDone c r) s fun t => t.rd (Reg.MADC_RES c e) = resultWord (s.rd (Reg.MADC_RES c e)) (bitAt s.thm.startRdy c) (signed 24 r.toNat) ∧
    t.fld (Reg.MADC_CSTAT c) Fld.MADC_CSTAT_BUSY = 0 ∧
    t.thm = (if bitAt s.thm.startRdy c then { s.thm with rails := SMap.set (fun _ => 0) s.thm.rails (bits w 0 6) (signed 24 r.toNat) } else s.thm) ∧
    RegsExcept [Reg.MADC_RES c e, Reg.MADC_CSTAT c] s t ∧ t.log = s.log) ∧
  (∀ (s : State) (c : QuadNo) (r : BitVec 24) (e w : Nat), s.fld (Reg.MADC_CSTAT c) Fld.MADC_CSTAT_BUSY = 1 → bitAt s.thm.urg c = false →
    e = s.fld (Reg.MADC_CSTAT c) Fld.MADC_CSTAT_CUR → w = s.rd (Reg.MADC_SEQ c e) → bits w 0 6 < 20 → bitAt s.thm.startRdy c = true →
    signed 24 r.toNat ≤ s.coneT Reg.THM_CONE3 →
    Completes (.conversionDone c r) s fun t => t.thm.diodes = setNth s.thm.diodes (bits w 0 6) (some (signed 24 r.toNat)) ∧
    t.rd (Reg.MADC_RES c e) = resultWord (s.rd (Reg.MADC_RES c e)) true (signed 24 r.toNat) ∧ t.core = s.core) ∧
  (∀ (s : State) (c : QuadNo) (r : BitVec 24) (e w : Nat) (v : Int), s.fld (Reg.MADC_CSTAT c) Fld.MADC_CSTAT_BUSY = 1 → bitAt s.thm.urg c = false →
    e = s.fld (Reg.MADC_CSTAT c) Fld.MADC_CSTAT_CUR → w = s.rd (Reg.MADC_SEQ c e) → bits w 0 6 = 32 → bitAt s.thm.startRdy c = true →
    v = signed 24 r.toNat → 2 * (2 ^ 23 * (2 ^ bits w 16 2 : Nat) : Int) ≤ 100 * v ∧ 100 * v ≤ 98 * (2 ^ 23 * (2 ^ bits w 16 2 : Nat) : Int) →
    Completes (.conversionDone c r) s fun t => t.fld Reg.THM_BTEMP Fld.THM_BTEMP_VALID = 1 ∧ t.fld Reg.THM_BTEMP Fld.THM_BTEMP_AGE = 0 ∧
    t.fld Reg.THM_STAT Fld.THM_STAT_BTFAULT = 0 ∧
    (∃ x ∈ List.range 2, t.fld Reg.THM_BTEMP Fld.THM_BTEMP_TEMP = unsign 16 (boardTemp v.toNat (2 ^ bits w 16 2) (s.fld Reg.THM_BT0 Fld.THM_BT0_RNOM) (s.fld Reg.THM_BT1 Fld.THM_BT1_BETA) (s.fld Reg.THM_BT1 Fld.THM_BT1_RFIX) + (x : Nat))) ∧
    t.core = s.core) ∧
  (∀ (s : State) (c : QuadNo) (w : Word), entryLegal w.toNat = true → bitAt w.toNat 31 = true → s.fld (Reg.MADC_CSTAT c) Fld.MADC_CSTAT_BUSY = 0 →
    bitAt s.thm.urg c = false → Completes (.urgentConversion c w) s fun t => t.fld (Reg.MADC_URG c) Fld.MADC_URG_GO = 1 ∧
    t.fld (Reg.MADC_CSTAT c) Fld.MADC_CSTAT_BUSY = 1 ∧ bits (t.rd (Reg.MADC_URG c)) 0 6 = bits w.toNat 0 6 ∧
    bits (t.rd (Reg.MADC_URG c)) 16 2 = bits w.toNat 16 2 ∧ bits (t.rd (Reg.MADC_URG c)) 20 4 = bits w.toNat 20 4 ∧
    t.thm = { s.thm with urg := putBit s.thm.urg c true, urgRdy := putBit s.thm.urgRdy c (s.fld Reg.MADC_STAT Fld.MADC_STAT_REFRDY == 1) } ∧
    RegsExcept [Reg.MADC_URG c, Reg.MADC_CSTAT c] s t ∧ t.log = s.log) ∧
  (∀ (s : State) (c : QuadNo) (w : Word), entryLegal w.toNat = true → bitAt w.toNat 31 = true → s.fld (Reg.MADC_CSTAT c) Fld.MADC_CSTAT_BUSY = 1 →
    Completes (.urgentConversion c w) s fun t => t.fld Reg.MADC_STAT Fld.MADC_STAT_DROP = 1 ∧
    t.rd Reg.MADC_DROPCNT = min 0xFFFFFFFF (s.rd Reg.MADC_DROPCNT + 1) ∧ t.thm = s.thm ∧
    RegsExcept [Reg.MADC_STAT, Reg.MADC_DROPCNT, Reg.MADC_URG c] s t ∧ t.log = s.log) ∧
  (∀ (s : State) (c : QuadNo) (r : BitVec 24), bitAt s.thm.urg c = true → bits (s.rd (Reg.MADC_URG c)) 0 6 = 32 ∨ bitAt s.thm.urgRdy c = false →
    Completes (.urgentConversionDone c r) s fun t => t.rd (Reg.MADC_URES c) = resultWord (s.rd (Reg.MADC_URES c)) (bitAt s.thm.urgRdy c) (signed 24 r.toNat) ∧
    t.fld (Reg.MADC_URG c) Fld.MADC_URG_GO = 0 ∧ t.thm.urg = putBit s.thm.urg c false ∧ t.thm.diodes = s.thm.diodes ∧
    RegsExcept (Reg.MADC_URES c :: Reg.MADC_URG c :: (List.range 4).map Reg.MADC_CSTAT) s t ∧ t.log = s.log) ∧
  (∀ (s : State) (c : QuadNo) (r : BitVec 24), bitAt s.thm.urg c = true → bits (s.rd (Reg.MADC_URG c)) 0 6 < 20 → bitAt s.thm.urgRdy c = true →
    signed 24 r.toNat ≤ s.coneT Reg.THM_CONE3 →
    Completes (.urgentConversionDone c r) s fun t => t.rd (Reg.MADC_URES c) = resultWord (s.rd (Reg.MADC_URES c)) true (signed 24 r.toNat) ∧
    t.fld (Reg.MADC_URG c) Fld.MADC_URG_GO = 0 ∧ t.thm.urg = putBit s.thm.urg c false ∧
    t.thm.diodes = setNth s.thm.diodes (bits (s.rd (Reg.MADC_URG c)) 0 6) (some (signed 24 r.toNat)) ∧ t.core = s.core) ∧
  (∀ (s : State), Completes (.refen true) s fun t => t.fld Reg.MADC_CTL Fld.MADC_CTL_REFEN = 1 ∧ RegsExcept [Reg.MADC_CTL] s t ∧ t.thm = s.thm ∧
    t.log = s.log) ∧
  (∀ (s : State), ((List.range 4).any fun c => s.fld (Reg.MADC_CCTL c) Fld.MADC_CCTL_EN == 1) = false →
    Completes (.refen false) s fun t => t.fld Reg.MADC_CTL Fld.MADC_CTL_REFEN = 0 ∧ t.fld Reg.MADC_STAT Fld.MADC_STAT_REFRDY = 0 ∧
    RegsExcept [Reg.MADC_CTL, Reg.MADC_STAT] s t ∧ t.thm = s.thm ∧ t.log = s.log) ∧
  (∀ (s : State), s.fld Reg.MADC_CTL Fld.MADC_CTL_REFEN = 1 → Completes (.refReady) s fun t => t.fld Reg.MADC_STAT Fld.MADC_STAT_REFRDY = 1 ∧
    RegsExcept [Reg.MADC_STAT] s t ∧ t.thm = s.thm ∧ t.log = s.log) ∧
  (∀ (s : State) (k : CoreNo),
    Completes (.roCount k false) s fun t => t.thm = { s.thm with roWait := if s.thm.roWait.contains k.val then s.thm.roWait else s.thm.roWait ++ [k.val] } ∧
    RegsExcept [] s t ∧ t.log = s.log) ∧
  (∀ (s : State) (k : CoreNo), s.fld Reg.THM_ROCMD Fld.THM_ROCMD_BUSY = 0 →
    Completes (.roCount k true) s fun t => t.fld Reg.THM_ROCMD Fld.THM_ROCMD_BUSY = 1 ∧ t.fld Reg.THM_ROCMD Fld.THM_ROCMD_GO = 1 ∧
    t.fld Reg.THM_ROCMD Fld.THM_ROCMD_CORE = k.val ∧ t.thm.roWait.contains k.val = true ∧ RegsExcept [Reg.THM_ROCMD] s t ∧ t.log = s.log) ∧
  (∀ (s : State) (k : CoreNo), bitAt s.pwr.idle k = false →
    Completes (.roBackgroundCount k) s fun t => t.thm = { s.thm with roWait := if s.thm.roWait.contains k.val then s.thm.roWait else s.thm.roWait ++ [k.val] } ∧
    RegsExcept [] s t ∧ t.log = s.log) ∧
  (∀ (s : State) (k : CoreNo) (t0 t1 t2 t3 : Int), s.thm.roWait.contains k.val = true → (s.quad (quadOf k)).stage ∉ [.slew, .slewDown, .count] →
    Completes (.roCountDone k t0 t1 t2 t3) s fun t => SMap.get (fun _ => 0) t.thm.ro k = roReading (t0, t1, t2, t3) ∧
    t.thm.roWait = s.thm.roWait.filter (fun j => j != k.val) ∧ (s.fld Reg.THM_ROCMD Fld.THM_ROCMD_BUSY = 1 ∧
    s.fld Reg.THM_ROCMD Fld.THM_ROCMD_CORE = k.val → t.fld Reg.THM_ROCMD Fld.THM_ROCMD_BUSY = 0 ∧
    t.rd Reg.THM_RORES = k.val * 2 ^ 16 + unsign 16 (16 * roReading (t0, t1, t2, t3))) ∧ RegsExcept [Reg.THM_ROCMD, Reg.THM_RORES] s t ∧
    t.log = s.log) ∧
  (∀ (s : State), s.fld Reg.THM_STAT Fld.THM_STAT_C2Q ≠ 0 →
    Completes (.throttleStep) s fun t => (∀ q ∈ List.range 4, t.thermCeil q = if bitAt (s.fld Reg.THM_STAT Fld.THM_STAT_C2Q) q then max 1 (s.thermCeil q - 1) else s.thermCeil q) ∧
    t.fld Reg.THM_CEIL Fld.THM_CEIL_ATH = s.lowerAth.fld Reg.THM_CEIL Fld.THM_CEIL_ATH ∧
    RegsExcept (Reg.THM_CEIL :: Reg.CLK_OPSTAT :: clampRegs) s t ∧ t.log = s.log) ∧
  (∀ (s : State), s.fld Reg.THM_STAT Fld.THM_STAT_C2Q = 0 →
    Completes (.releaseStep) s fun t => (∀ q ∈ List.range 4, t.thermCeil q = min 5 (s.thermCeil q + 1)) ∧
    t.fld Reg.THM_CEIL Fld.THM_CEIL_ATH = min (s.fld Reg.PWR_ABUDGET Fld.PWR_ABUDGET_ABUDGET) (s.fld Reg.THM_CEIL Fld.THM_CEIL_ATH + s.fld Reg.PWR_ABUDGET Fld.PWR_ABUDGET_ABUDGET / 8) % 2 ^ Fld.THM_CEIL_ATH.width ∧
    RegsExcept (Reg.THM_CEIL :: Reg.CLK_OPSTAT :: clampRegs) s t ∧ t.log = s.log) ∧
  (∀ (s : State) (r : ShutRec), s.thm.step = 4 → s.thm.staged = some r → s.thm.erasedPages ≠ 0 → s.pwr.erased0 = true ∨ s.pwr.erased1 = true →
    Completes (.shutdownRecordWritten) s fun t => t.thm = { s.thm with step := 5, staged := none, area := s.thm.area ++ [r], erasedPages := s.thm.erasedPages - 1 } ∧
    t.pwr.banking = s.saveSet ∧ t.pwr.bankSeq = s.pwr.bankSeq + 1 ∧ RegsExcept [] s t ∧ t.log = s.log) ∧
  (∀ (s : State), s.thm.step = 4 → s.pwr.erased0 = false ∧ s.pwr.erased1 = false → Completes (.shutdownRecordWritten) s fun t => t.thm.step = 6 ∧
    t.thm.tripPin = true ∧ t.thm.staged = none ∧ RegsExcept [] s t ∧ t.pwr = s.pwr ∧ t.log = s.log)

/-- The commands from PWRGOOD to the verdict on the configuration complete with their own effect (Rests on R366, R367, R372, R373, R374, R375, R379,
R394, R567, R569). PWRGOOD rising starts a cold bring-up and falling clears all but the always-on registers; the crystal starts, XPLL locks, straps
and slow inputs are latched; a configuration copy is judged and taken. -/
def Obligations.PowerUpCommandsComplete : Prop :=
  (∀ (s : State) (b : Board), s.boot.pwrgood = false → s.pwr.banking = [] →
    Completes (.pwrgoodRise b) s fun t => BroughtUp (if s.boot.bootNo = 0 then s.fitBoard b else s) t 1 Fld.PWR_RSTCAUSE_COLD ∧
    t.boot.pwrgood = true ∧ (s.boot.bootNo = 0 → t.boot.copy0 = b.copy0 ∧ t.boot.copy1 = b.copy1 ∧ t.wts.slot0 = b.slot0 ∧ t.wts.slot1 = b.slot1 ∧
    t.log.test = b.test) ∧ (s.boot.bootNo ≠ 0 → t.boot.copy0 = s.boot.copy0 ∧ t.boot.copy1 = s.boot.copy1)) ∧
  (∀ (s : State) (b : Board), s.boot.pwrgood = false → s.pwr.banking ≠ [] → s.boot.bootNo ≠ 0 →
    Completes (.pwrgoodRise b) s fun t => t = { s with boot := { s.boot with pwrgood := true, rise := true } }) ∧
  (∀ (s : State), s.boot.pwrgood = true → Completes (.pwrgoodFall) s fun t => t.boot.pwrgood = false ∧ t.boot.rise = false ∧ t.boot.service = 0 ∧
    t.pwr.dead = true ∧ t.srv = {} ∧ t.lnk = {} ∧ t.mesh = {} ∧ t.core.shelf = [] ∧ t.core.cells = s.core.cells ∧ ((∀ a, alwaysOn a = false →
    t.rd a = (resetWord a).toNat))) ∧
  (∀ (s : State), s.boot.pwrgood = true → s.pwr.dead = false →
    Completes (.crystalDelayEnd) s fun t => t = { s with clk := { s.clk with crystal := true } }) ∧
  (∀ (s : State), s.clk.crystal = true → s.clk.xpll = false → Completes (.xpllLockTimeout) s fun t => t.fld Reg.CLK_STAT Fld.CLK_STAT_XLOSS = 1 ∧
    RegsExcept [Reg.CLK_STAT] s t ∧ t.clk = s.clk ∧ t.log = s.log) ∧
  (∀ (s : State), s.inPhase 1 = true → s.boot.sampled = true → s.boot.recheck = 0 → s.fld Reg.CLK_STAT Fld.CLK_STAT_XLOSS = 0 → s.clk.windows < 1000 →
    Completes (.xpllLock) s fun t => t.phase = 2 ∧ t.clk = { s.clk with crystal := true, xpll := true } ∧ t.secState = 1 ∧
    t.fld Reg.MADC_CTL Fld.MADC_CTL_REFEN = 1 ∧ (s.boot.warm = false →
    t.fld Reg.CLK_OSCDLY Fld.CLK_OSCDLY_DLY = min 5 (s.fld Reg.GCTL_STRAP Fld.GCTL_STRAP_OSC)) ∧ t.core = s.core ∧ t.log = s.log) ∧
  (∀ (s : State), s.phase ≠ 1 → s.clk.windows < 1000 →
    Completes (.xpllLock) s fun t => t = { s with clk := { s.clk with crystal := true, xpll := true } }) ∧
  (∀ (s : State) (x y : BitVec 9) (z v : BitVec 4), s.inPhase 1 = true → s.clk.crystal = true → s.clk.xpll = false → s.boot.sampled = false →
    s.boot.warm = false →
    Completes (.strapLatch x y z v) s fun t => (∀ i ∈ List.range 9, t.fld Reg.GCTL_STRAP ⟨i, 1⟩ = if bitAt y.toNat i then s.fld Reg.GCTL_STRAP ⟨i, 1⟩ else bits x.toNat i 1) ∧
    t.boot = { s.boot with sampled := true, recheck := y.toNat, slow := (z.toNat &&& (15 ^^^ v.toNat)) ||| (slowSafe &&& v.toNat) } ∧
    t.fld Reg.GCTL_INPUT Fld.GCTL_INPUT_BAND = v.toNat ∧ t.fld Reg.GCTL_INPUT Fld.GCTL_INPUT_HELD = v.toNat ∧
    RegsExcept [Reg.GCTL_STRAP, Reg.GCTL_INPUT] s t ∧ t.log = s.log) ∧
  (∀ (s : State) (x y : BitVec 9), s.inPhase 1 = true → s.clk.xpll = false → s.boot.recheck ≠ 0 →
    Completes (.strapRecheck x y) s fun t => (∀ i ∈ List.range 9, t.fld Reg.GCTL_STRAP ⟨i, 1⟩ = if bitAt s.boot.recheck i then (if bitAt y.toNat i then bits strapDefault i 1 else bits x.toNat i 1) else s.fld Reg.GCTL_STRAP ⟨i, 1⟩) ∧
    t.boot = { s.boot with recheck := 0 } ∧ RegsExcept [Reg.GCTL_STRAP] s t ∧ t.log = s.log) ∧
  (∀ (s : State) (i : QuadNo) (b : Bool), bitAt (s.fld Reg.GCTL_INPUT Fld.GCTL_INPUT_HELD) i = true →
    Completes (.slowInputQualified i b false) s fun t => bitAt (t.fld Reg.GCTL_INPUT Fld.GCTL_INPUT_HELD) i = false ∧
    t.boot = (if i.val < 2 then { s.boot with slow := putBit s.boot.slow i b } else s.boot) ∧ RegsExcept [Reg.GCTL_INPUT] s t ∧ t.log = s.log) ∧
  (∀ (s : State) (n : Nat) (c : CfgImage), s.inPhase 2 = true → s.boot.selfOk = true → bitAt s.boot.slow 0 = false →
    n = (s.fld Reg.GCTL_STRAP Fld.GCTL_STRAP_COPY + s.boot.tried) % 2 → (if n = 0 then s.boot.copy0 else s.boot.copy1) = some c →
    s.copyReason (some c) = 0 → Completes (.configCopyRead) s fun t => t.phase = 4 ∧ t.fld Reg.CFG_BOOT Fld.CFG_BOOT_COPY = n ∧
    t.fld Reg.CFG_BOOT Fld.CFG_BOOT_FALLBACK = b2n (s.boot.tried != 0) ∧ t.rd Reg.CFG_ID = c.configId % 2 ^ 32 ∧ t.rd Reg.CFG_SVN = c.svn % 2 ^ 32 ∧
    t.boot = { s.boot with image := some c, order := 1 } ∧ RegsExcept [Reg.CFG_BOOT, Reg.CFG_ID, Reg.CFG_SVN] s t ∧ t.log = s.log) ∧
  (∀ (s : State) (n : Nat), s.inPhase 2 = true → s.boot.selfOk = true → bitAt s.boot.slow 0 = false →
    n = s.copyReason (if s.fld Reg.GCTL_STRAP Fld.GCTL_STRAP_COPY % 2 = 0 then s.boot.copy0 else s.boot.copy1) → n ≠ 0 → s.boot.tried = 0 →
    Completes (.configCopyRead) s fun t => t.boot = { s.boot with tried := 1 } ∧ t.fld Reg.CFG_BOOT Fld.CFG_BOOT_REASON0 = n % 16 ∧ t.phase = 2 ∧
    RegsExcept [Reg.CFG_BOOT] s t ∧ t.log = s.log) ∧
  (∀ (s : State), s.inPhase 2 = true → s.boot.selfOk = true → bitAt s.boot.slow 0 = false → s.boot.tried = 1 →
    s.copyReason (if (s.fld Reg.GCTL_STRAP Fld.GCTL_STRAP_COPY + 1) % 2 = 0 then s.boot.copy0 else s.boot.copy1) = 1 →
    Completes (.configCopyRead) s fun t => t.phase = 15 ∧ t.fld Reg.CFG_BOOT Fld.CFG_BOOT_REASON1 = 1 ∧ t.boot = { s.boot with service := 2 } ∧
    RegsExcept [Reg.CFG_BOOT, Reg.CFG_TIME] s t ∧ t.log = s.log)

/-- The commands of the phases from APPLY to READY and the restart complete with their own effect (Rests on R231, R366, R380, R382, R383, R384, R385,
R369, R455). PMBus entries are carried out and retried, the records are applied and phase 5 begins; trained stacks lead to the test or the loads; the
boot actions are ordered, the interfaces open, and the part is READY; a restart begins a bring-up in phase 2. -/
def Obligations.BringUpCommandsComplete : Prop :=
  (∀ (s : State), s.inPhase 4 = true → s.boot.pmbus = [] → s.boot.order ≠ 1 → (s.forEach [3, 4, 5, 6, 7, 8, 9] State.applyOrder).phase ≠ 15 →
    Completes (.configApply) s fun t => t.phase = 5 ∧ t.boot.order = 10) ∧
  (∀ (s : State), s.inPhase 4 = true → s.boot.pmbus = [] → s.boot.order = 1 →
    (((s.firmwareStart.skipRecs).applyOrder 1).applyOrder 2).boot.pmbus ≠ [] → Completes (.configApply) s fun t => t.boot.order = 3 ∧
    t.boot.pmbus = (((s.firmwareStart.skipRecs).applyOrder 1).applyOrder 2).boot.pmbus) ∧
  (∀ (s : State) (i j : Nat) (e : PmbusEnt) (l : List (Nat × Nat × PmbusEnt)) (d : BitVec 16), s.inPhase 4 = true → s.boot.pmbus = (i, j, e) :: l →
    e.kind ≠ 3 ∨ d.toNat &&& e.aux = e.data &&& e.aux →
    Completes (.pmbusTransaction true d) s fun t => t = { s with boot := { s.boot with pmbus := l, tries := 0, fails := 0 } }) ∧
  (∀ (s : State) (i j : Nat) (e : PmbusEnt) (l : List (Nat × Nat × PmbusEnt)) (d : BitVec 16), s.inPhase 4 = true → s.boot.pmbus = (i, j, e) :: l →
    e.kind < 4 → s.boot.tries < 2 → Completes (.pmbusTransaction false d) s fun t => t = { s with boot := { s.boot with tries := s.boot.tries + 1 } }) ∧
  (∀ (s : State) (i j : Nat) (e : PmbusEnt) (l : List (Nat × Nat × PmbusEnt)) (d : BitVec 16), s.inPhase 4 = true → s.boot.pmbus = (i, j, e) :: l →
    e.kind < 4 → 2 ≤ s.boot.tries → Completes (.pmbusTransaction false d) s fun t => t.phase = 15 ∧ t.fld Reg.CFG_BOOT Fld.CFG_BOOT_REASON1 = 11 ∧
    t.fld Reg.CFG_BOOTREC Fld.CFG_BOOTREC_RECORD = i % 2 ^ Fld.CFG_BOOTREC_RECORD.width ∧
    t.fld Reg.CFG_BOOTREC Fld.CFG_BOOTREC_ENTRY = j % 2 ^ Fld.CFG_BOOTREC_ENTRY.width ∧ RegsExcept [Reg.CFG_BOOT, Reg.CFG_BOOTREC, Reg.CFG_TIME] s t ∧
    t.log = s.log) ∧
  (∀ (s : State) (l : List Nat) (u : State), s.inPhase 5 = true →
    u = ((List.range 8).foldl State.stackTrained { s with hbm := { s.hbm with repair := s.hbm.repair.filter fun k => !l.contains k } }).forEach [10, 11, 12, 13, 14] State.applyOrder →
    u.phase ≠ 15 → u.boot.test = none → Completes (.hbmTrainingDone 0 l) s fun t => t.phase = 7 ∧ RegsExcept [Reg.CFG_BOOT] u t ∧ t.boot = u.boot ∧
    t.hbm = u.hbm ∧ t.lnk = u.lnk ∧ t.srv = u.srv) ∧
  (∀ (s : State) (b : BitVec 8) (l : List Nat), s.inPhase 5 = true → b ≠ 0 → s.failed = false → noStreams s = true →
    Completes (.hbmTrainingDone b l) s fun t => t.phase = 15 ∧ t.fld Reg.CFG_BOOT Fld.CFG_BOOT_REASON1 = 13 ∧ t.failed = true) ∧
  (∀ (s : State), s.inPhase 6 = true → Completes (.testPhaseTimeout) s fun t => t.phase = 15 ∧ t.fld Reg.CFG_BOOT Fld.CFG_BOOT_REASON1 = 15 ∧
    t.fld Reg.LOG_TSTAT Fld.LOG_TSTAT_BUSY = 0 ∧ t.fld Reg.LOG_TCMD Fld.LOG_TCMD_GO = 0 ∧ t.log.testLeft = [] ∧ t.log.testRound = [] ∧
    RegsExcept [Reg.LOG_TSTAT, Reg.LOG_TCMD, Reg.CFG_BOOT, Reg.CFG_TIME] s t) ∧
  (∀ (s : State) (l : List FlashRead), s.inPhase 7 = true → s.boot.acted = false → bits (s.rd Reg.IND_RSSTAT) 0 2 = 0 →
    s.fld Reg.GCTL_STRAP Fld.GCTL_STRAP_NOLOAD = 1 ∨ (s.boot.acts = [] ∧ ((List.range 64).all fun p => (s.jpart p).state != 2) = true) →
    Completes (.bootActions l) s fun t => t = { s with boot := { s.boot with acted := true } }) ∧
  (∀ (s : State) (l : List FlashRead), s.inPhase 7 = true → s.boot.acted = false → bits (s.rd Reg.IND_RSSTAT) 0 2 = 0 →
    Completes (.bootActions l) s fun t => t.boot = { s.boot with acted := true }) ∧
  (∀ (s : State), s.inPhase 7 = true → s.boot.acted = true → s.wts.loads = [] → s.partnReached = false → noStreams s = true →
    (s.boot.acts.all fun a => !a.start) = true → Completes (.interfacesOpen) s fun t => t.phase = 9 ∧ t.boot = { s.boot with service := 0 } ∧
    (∀ i ∈ List.range 16, bitAt s.boot.portEn i = true → t.portState i = 1 ∧ t.fld (Reg.LNK_CTL i) Fld.LNK_CTL_EN = 1) ∧ t.core = s.core ∧
    t.log = s.log) ∧
  (∀ (s : State) (w : BitVec 16), w = 0xB007 → s.allStopped = true → 4 ≤ s.phase →
    Completes (.restart (.register w)) s fun t => BroughtUp s t 2 Fld.PWR_RSTCAUSE_RESTART ∧ t.secState = 1 ∧
    t.fld Reg.MADC_CTL Fld.MADC_CTL_REFEN = 1 ∧ t.log.queue = s.log.queue) ∧
  (∀ (s : State) (c : Channel) (n : Option Nat) (q : Nat) (u : State), s.mgmtOn c = true → s.popReq c = some (q, u) → s.mgmtReady = true →
    s.authorised .sessionOnEth c n = true → s.allStopped = true →
    Completes (.restart (.management c n)) s fun t => BroughtUp s t 2 Fld.PWR_RSTCAUSE_RESTART ∧
    t.mgmt.sent = s.mgmt.sent ++ [{ chan := c, seq := q, name := "Restart", code := .success, data := [] }])

/-- The commands of the management network, I3C and MCTP complete with their own effect (Rests on R508, R509, R511, R512, R513). A management datagram
joins the requests in work or is answered with a status message; I3C addresses are assigned; each MCTP control request is answered, and Set Endpoint
ID sets the endpoint. -/
def Obligations.TransportCommandsComplete : Prop :=
  (∀ (s : State) (d : Datagram), s.mgmtOn .eth = true → d.port = 59160 ∧ d.frameLen ≤ 1518 ∧ d.magic = 0x4D48 ∧ d.version = 1 ∧
    d.mtype ∈ [0, 1, 5, 6] ∧ 1 ≤ d.bodyLen ∧ d.bodyLen ≤ 1400 → s.mgmtReady = true → s.mgmt.ethReqs.length < 8 →
    Completes (.mgmtDatagram d) s fun t => t = { s with mgmt := { s.mgmt with ethReqs := s.mgmt.ethReqs ++ [d.seq] } }) ∧
  (∀ (s : State) (d : Datagram), s.mgmtOn .eth = true → d.port = 59160 ∧ d.frameLen ≤ 1518 ∧ d.magic = 0x4D48 ∧ d.version = 1 ∧
    d.mtype ∈ [0, 1, 5, 6] ∧ 1 ≤ d.bodyLen ∧ d.bodyLen ≤ 1400 → s.mgmtReady = false → s.shutDown = false → s.phase ≠ 15 →
    Completes (.mgmtDatagram d) s fun t => t = State.reply { s with free := s.free + 1 } { chan := .eth, seq := d.seq, name := "Status", code := .notReady, data := [1, s.rd Reg.CFG_BOOT, s.rd Reg.CFG_BOOTREC, s.rd Reg.GCTL_ID, Config.serial.toNat % 2 ^ 32, Config.serial.toNat / 2 ^ 32, min 0xFFFFFFFF (Config.freeNat s.free)] }) ∧
  (∀ (s : State), s.mgmtOn .i3c = true →
    Completes (.getstatus) s fun t => t = s.reply { chan := .i3c, name := "GETSTATUS", code := .success, data := [2 ^ 8 * s.fld Reg.LOG_STAT Fld.LOG_STAT_RSFAIL + 2 ^ 9 * s.fld Reg.LOG_STAT Fld.LOG_STAT_PFAIL + 2 ^ 10 * b2n (!s.mgmtReady) + 2 ^ 11 * b2n (s.mgmt.evI3c != [])] }) ∧
  (∀ (s : State) (x y : BitVec 7), s.mgmtOn .i3c = true → x.toNat = 0x30 + s.fld Reg.GCTL_STRAP Fld.GCTL_STRAP_I3CADDR →
    Completes (.setdasa x y) s fun t => t = { s with mgmt := { s.mgmt with dynAddr := y.toNat } }) ∧
  (∀ (s : State) (y : BitVec 7), s.mgmtOn .i3c = true → Completes (.entdaa y) s fun t => t = { s with mgmt := { s.mgmt with dynAddr := y.toNat } }) ∧
  (∀ (s : State) (c : Channel) (x : BitVec 8), canServe s c none .open_ false = true → Completes (.setEndpointId c x) s fun t => t = answerOf s c "Set Endpoint ID" .success [x.toNat] (fun m => match c with | .eth => { m with eidEth := x.toNat } | .i3c => { m with eidI3c := x.toNat })) ∧
  (∀ (s : State) (c : Channel), canServe s c none .open_ false = true → Completes (.getEndpointId c) s fun t => t = answerOf s c "Get Endpoint ID" .success [match c with | .eth => s.mgmt.eidEth | .i3c => s.mgmt.eidI3c] id) ∧
  (∀ (s : State) (c : Channel), canServe s c none .open_ false = true →
    Completes (.getEndpointUuid c) s fun t => t = answerOf s c "Get Endpoint UUID" .success [Config.digest 0 0] id) ∧
  (∀ (s : State) (c : Channel), canServe s c none .open_ false = true →
    Completes (.getMctpVersionSupport c) s fun t => t = answerOf s c "Get MCTP Version Support" .success [1, 3] id) ∧
  (∀ (s : State) (c : Channel), canServe s c none .open_ false = true →
    Completes (.getMessageTypeSupport c) s fun t => t = answerOf s c "Get Message Type Support" .success [0, 1, 5, 6] id)

/-- The PLDM requests for terminus, sensors, events and FRU data complete with their own effect (Rests on R510, R514, R515, R535). Each PLDM request
that the part serves is answered on its transport with its sequence number: the terminus, the types, the records and the readings; an event receiver
is set and the oldest event polled. -/
def Obligations.PldmCommandsComplete : Prop :=
  (∀ (s : State) (c : Channel) (n : Option Nat), canServe s c n .sessionOnEth false = true →
    Completes (.gettid c n) s fun t => t = answerOf s c "GetTID" .success [s.mgmt.tid] id) ∧
  (∀ (s : State) (c : Channel) (n : Option Nat) (x : BitVec 8), canServe s c n .sessionOnEth false = true →
    Completes (.settid c n x) s fun t => t = answerOf s c "SetTID" .success [] (fun m => { m with tid := x.toNat })) ∧
  (∀ (s : State) (c : Channel) (n : Option Nat) (x : BitVec 8), canServe s c n .sessionOnEth false = true → pldmTypes.contains x.toNat = true →
    Completes (.getpldmversion c n x) s fun t => t = answerOf s c "GetPLDMVersion" .success [Config.digest 1 x.toNat] id) ∧
  (∀ (s : State) (c : Channel) (n : Option Nat) (x : BitVec 8), canServe s c n .sessionOnEth false = true → pldmTypes.contains x.toNat = false →
    Completes (.getpldmversion c n x) s fun t => t = answerOf s c "GetPLDMVersion" .unsupported [] id) ∧
  (∀ (s : State) (c : Channel) (n : Option Nat), canServe s c n .sessionOnEth false = true →
    Completes (.getpldmtypes c n) s fun t => t = answerOf s c "GetPLDMTypes" .success pldmTypes id) ∧
  (∀ (s : State) (c : Channel) (n : Option Nat) (x : BitVec 8) (k : Nat), canServe s c n .sessionOnEth false = true →
    (x.toNat, k) ∈ [(0, 5), (2, 7), (4, 2), (5, 13), (63, 5)] →
    Completes (.getpldmcommands c n x) s fun t => t = answerOf s c "GetPLDMCommands" .success [k] id) ∧
  (∀ (s : State) (c : Channel) (n : Option Nat), canServe s c n .sessionOnEth false = true →
    Completes (.getpdrrepositoryinfo c n) s fun t => t = answerOf s c "GetPDRRepositoryInfo" .success [53] id) ∧
  (∀ (s : State) (c : Channel) (n : Option Nat) (x : Nat), canServe s c n .sessionOnEth false = true → x < 53 →
    Completes (.getpdr c n x) s fun t => t = answerOf s c "GetPDR" .success [x, Config.digest 2 x] id) ∧
  (∀ (s : State) (c : Channel) (n : Option Nat) (x : Nat), canServe s c n .sessionOnEth false = true → 53 ≤ x →
    Completes (.getpdr c n x) s fun t => t = answerOf s c "GetPDR" .invalid [] id) ∧
  (∀ (s : State) (c : Channel) (n : Option Nat) (x : Sensor) (v : Nat), canServe s c n .sessionOnEth false = true → s.sensorValue x = some v →
    Completes (.getsensorreading c n x) s fun t => t = answerOf s c "GetSensorReading" .success [v] id) ∧
  (∀ (s : State) (c : Channel) (n : Option Nat) (x : Sensor), canServe s c n .sessionOnEth false = true → s.sensorValue x = none →
    Completes (.getsensorreading c n x) s fun t => t = answerOf s c "GetSensorReading" .invalid [] id) ∧
  (∀ (s : State) (c : Channel) (n : Option Nat) (x : StateSensor), canServe s c n .sessionOnEth false = true →
    Completes (.getstatesensorreadings c n x) s fun t => t = answerOf s c "GetStateSensorReadings" .success [s.stateSensor x] id) ∧
  (∀ (s : State) (c : Channel) (n : Option Nat) (x : Bool), canServe s c n .sessionOnEth false = true → Completes (.seteventreceiver c n x) s fun t => t = answerOf s c "SetEventReceiver" .success [] (fun m => match c with | .eth => { m with rcvEth := x, evEth := if x then m.evEth else [] } | .i3c => { m with rcvI3c := x, evI3c := if x then m.evI3c else [] })) ∧
  (∀ (s : State) (n : Option Nat) (e : MgmtEvent) (l : List MgmtEvent), canServe s .i3c n .sessionOnEth false = true → s.mgmt.evI3c = e :: l →
    Completes (.pollforplatformeventmessage .i3c n) s fun t => t = answerOf s .i3c "PollForPlatformEventMessage" .success (eventReply .i3c e).data (fun m => { m with evI3c := l })) ∧
  (∀ (s : State) (c : Channel) (n : Option Nat), canServe s c n .sessionOnEth false = true → c = .eth ∨ s.mgmt.evI3c = [] →
    Completes (.pollforplatformeventmessage c n) s fun t => t = answerOf s c "PollForPlatformEventMessage" .success [] id) ∧
  (∀ (s : State) (c : Channel) (n : Option Nat), canServe s c n .sessionOnEth false = true →
    Completes (.getfrurecordtablemetadata c n) s fun t => t = answerOf s c "GetFRURecordTableMetadata" .success [Config.digest 3 0] id) ∧
  (∀ (s : State) (c : Channel) (n : Option Nat), canServe s c n .sessionOnEth false = true →
    Completes (.getfrurecordtable c n) s fun t => t = answerOf s c "GetFRURecordTable" .success [Config.digest 3 1] id)

/-- The requests of a firmware update complete with their own effect (Rests on R385, R510, R514, R516). An update is requested, its component chosen
and its data fetched; with the last data the area is written and verified; it is activated or cancelled. -/
def Obligations.FirmwareUpdateCommandsComplete : Prop :=
  (∀ (s : State) (c : Channel) (n : Option Nat), canServe s c n .open_ s.updateEarly = true →
    Completes (.querydeviceidentifiers c n) s fun t => t = answerOf s c "QueryDeviceIdentifiers" .success [s.rd Reg.GCTL_ID] id) ∧
  (∀ (s : State) (c : Channel) (n : Option Nat), canServe s c n .open_ s.updateEarly = true →
    Completes (.getfirmwareparameters c n) s fun t => t = answerOf s c "GetFirmwareParameters" .success updateComps id) ∧
  (∀ (s : State) (c : Channel) (n : Option Nat), canServe s c n .open_ s.updateEarly = true → s.mgmt.update = none →
    Completes (.requestupdate c n) s fun t => t = answerOf s c "RequestUpdate" .success [] (fun m => { m with update := some { chan := c, stage := 1 } })) ∧
  (∀ (s : State) (c : Channel) (n : Option Nat), canServe s c n .open_ s.updateEarly = true → s.mgmt.update ≠ none →
    Completes (.requestupdate c n) s fun t => t = answerOf s c "RequestUpdate" .refused [] id) ∧
  (∀ (s : State) (c : Channel) (n : Option Nat) (u : Update), canServe s c n .open_ s.updateEarly = true → s.mgmt.update = some u →
    Completes (.passcomponenttable c n) s fun t => t = answerOf s c "PassComponentTable" .success [] (fun m => { m with update := some { u with stage := 2 } })) ∧
  (∀ (s : State) (c : Channel) (n : Option Nat) (k : BitVec 16) (z : Nat) (u : Update), canServe s c n (compAccess k.toNat) s.updateEarly = true →
    s.mgmt.update = some u → updateComps.contains k.toNat = true → z ≤ s.areaSize k.toNat → s.fld Reg.LOG_STAT Fld.LOG_STAT_RSFAIL = 0 ∨ k.toNat < 3 →
    (s.wts.loads.any fun l => k.toNat == 0x10 + l.slot) = false → s.phase ≠ 15 ∨ k.toNat < 3 →
    Completes (.updatecomponent c n k z) s fun t => t = (answerOf s c "UpdateComponent" .success [] (fun m => { m with update := some { u with stage := 3, comp := k.toNat, size := z, got := 0 } })).reply { chan := u.chan, name := "RequestFirmwareData", code := .success, data := [k.toNat, 0] }) ∧
  (∀ (s : State) (z : Nat) (u : Update), s.mgmt.update = some u → u.stage = 3 →
    Completes (.firmwareDataReceived z none) s fun t => t = State.reply { s with mgmt := { s.mgmt with update := some { u with got := min u.size (u.got + z) } } } { chan := u.chan, name := "RequestFirmwareData", code := .success, data := [u.comp, min u.size (u.got + z)] }) ∧
  (∀ (s : State) (z : Nat) (u : Update) (x : CfgImage), s.mgmt.update = some u → u.stage = 3 → u.comp = 1 → s.copyVerdict x = 0 →
    Completes (.firmwareDataReceived z (some (.config x))) s fun t => t.boot = { s.boot with copy0 := some x } ∧
    t.mgmt.update = some { u with stage := 5, got := u.size } ∧ t.mgmt.badComps = s.mgmt.badComps.filter (fun n => n != 1) ∧
    t.mgmt.sent = s.mgmt.sent ++ ["TransferComplete", "VerifyComplete", "ApplyComplete"].map (fun w => { chan := u.chan, name := w, code := .success, data := [1] }) ∧
    RegsExcept [] s t ∧ t.wts = s.wts ∧ t.log = s.log) ∧
  (∀ (s : State) (z : Nat) (u : Update) (x : CfgImage), s.mgmt.update = some u → u.stage = 3 → u.comp = 1 → s.copyVerdict x ≠ 0 →
    Completes (.firmwareDataReceived z (some (.config x))) s fun t => t.boot = { s.boot with copy0 := some x } ∧
    t.mgmt.update = some { u with stage := 6, got := u.size } ∧ 1 ∈ t.mgmt.badComps ∧ RegsExcept [] s t ∧ t.wts = s.wts ∧ t.log = s.log) ∧
  (∀ (s : State) (c : Channel) (n : Option Nat), canServe s c n .open_ s.updateEarly = true → s.mgmt.update ≠ none →
    Completes (.activatefirmware c n) s fun t => t = answerOf s c "ActivateFirmware" .success [1] (fun m => { m with update := none })) ∧
  (∀ (s : State) (c : Channel) (n : Option Nat) (u : Update), canServe s c n .open_ s.updateEarly = true → s.mgmt.update = some u →
    Completes (.getstatusPldm c n) s fun t => t = answerOf s c "GetStatus" .success [u.stage, u.comp, u.got] id) ∧
  (∀ (s : State) (c : Channel) (n : Option Nat), canServe s c n .open_ s.updateEarly = true → s.mgmt.update = none →
    Completes (.getstatusPldm c n) s fun t => t = answerOf s c "GetStatus" .success [0] id) ∧
  (∀ (s : State) (c : Channel) (n : Option Nat) (u : Update), canServe s c n .open_ s.updateEarly = true → s.mgmt.update = some u →
    Completes (.cancelupdatecomponent c n) s fun t => t = answerOf s c "CancelUpdateComponent" .success [] (fun m => { m with update := some { u with stage := 2, comp := 0, size := 0, got := 0 } })) ∧
  (∀ (s : State) (c : Channel) (n : Option Nat), canServe s c n .open_ s.updateEarly = true →
    Completes (.cancelupdate c n) s fun t => t = answerOf s c "CancelUpdate" .success [] (fun m => { m with update := none }))

/-- The OEM reads complete with their own effect (Rests on R84, R457, R510, R514, R525, R526). Each OEM read that an operator session makes is
answered with the words it names: a live meter set, a history record, a log entry, the stuck-cell map, the shutdown records. -/
def Obligations.OemReadCommandsComplete : Prop :=
  (∀ (s : State) (c : Channel) (n : Option Nat) (x : Fin 1088), canServe s c n .session false = true →
    Completes (.readmeter c n x) s fun t => t = answerOf s c "ReadMeter" .success (s.meterWords x) id) ∧
  (∀ (s : State) (c : Channel) (n : Option Nat) (x : Fin 16384), canServe s c n .session false = true →
    Completes (.readhistory c n x) s fun t => t = answerOf s c "ReadHistory" .success (s.histWords x) id) ∧
  (∀ (s : State) (c : Channel) (n : Option Nat) (b : Bool) (x : Fin 16384), canServe s c n .session false = true →
    Completes (.readlog c n b x) s fun t => t = answerOf s c "ReadLog" .success (s.logWords b x) id) ∧
  (∀ (s : State) (c : Channel) (n : Option Nat), canServe s c n .session false = true →
    Completes (.readstuckmap c n) s fun t => t = answerOf s c "ReadStuckMap" .success (wordsOf (s.stuckMap s.wts.lastImage)) id) ∧
  (∀ (s : State) (c : Channel) (n : Option Nat), canServe s c n .session false = true →
    Completes (.readshutdownrecords c n) s fun t => t = answerOf s c "ReadShutdownRecords" .success ((s.thm.area.map fun r => wordsOf r.bytes).flatten) id)

/-- The SPDM requests complete with their own effect (Rests on R491, R498, R499, R510, R517). Each SPDM request that the part serves is answered; the
negotiation advances, a session is made, authenticated, updated and ended, and an expired one is gone. -/
def Obligations.SpdmCommandsComplete : Prop :=
  (∀ (s : State) (c : Channel), canServe s c none .open_ false = true → Completes (.getVersion c) s fun t => t = answerOf s c "GET_VERSION" .success [0x12, 0x13] (fun m => match c with | .eth => { m with connEth := { stage := 1 } } | .i3c => { m with connI3c := { stage := 1 } })) ∧
  (∀ (s : State) (c : Channel), canServe s c none .open_ false = true → Completes (.getCapabilities c) s fun t => t = answerOf s c "GET_CAPABILITIES" .success [Config.digest 4 0] (fun m => match c with | .eth => { m with connEth := { stage := 2 } } | .i3c => { m with connI3c := { stage := 2 } })) ∧
  (∀ (s : State) (c : Channel), canServe s c none .open_ false = true → Completes (.negotiateAlgorithms c true) s fun t => t = answerOf s c "NEGOTIATE_ALGORITHMS" .success [1, 2, 3, 4, 5] (fun m => match c with | .eth => { m with connEth := { stage := 3 } } | .i3c => { m with connI3c := { stage := 3 } })) ∧
  (∀ (s : State) (c : Channel), canServe s c none .open_ false = true →
    Completes (.negotiateAlgorithms c false) s fun t => t = answerOf s c "NEGOTIATE_ALGORITHMS" .unsupported [] id) ∧
  (∀ (s : State) (c : Channel), canServe s c none .open_ false = true →
    Completes (.getDigests c) s fun t => t = answerOf s c "GET_DIGESTS" .success [Config.digest 5 0, Config.digest 5 1] id) ∧
  (∀ (s : State) (c : Channel) (x : BitVec 4), canServe s c none .open_ false = true → x.toNat < 2 →
    Completes (.getCertificate c x) s fun t => t = answerOf s c "GET_CERTIFICATE" .success [Config.digest 6 x.toNat] id) ∧
  (∀ (s : State) (c : Channel) (x : BitVec 4), canServe s c none .open_ false = true → 2 ≤ x.toNat →
    Completes (.getCertificate c x) s fun t => t = answerOf s c "GET_CERTIFICATE" .invalid [] id) ∧
  (∀ (s : State) (c : Channel), canServe s c none .open_ false = true → s.secState = 2 →
    Completes (.challenge c) s fun t => t = answerOf { s with free := s.free + 1 } c "CHALLENGE" .success [Config.freeNat s.free] id) ∧
  (∀ (s : State) (c : Channel) (x : BitVec 8) (l : List Nat), canServe s c none .open_ false = true → s.measurement x.toNat = some l →
    Completes (.getMeasurements c x) s fun t => t = answerOf s c "GET_MEASUREMENTS" .success l id) ∧
  (∀ (s : State) (c : Channel) (x : BitVec 8), canServe s c none .open_ false = true → s.measurement x.toNat = none →
    Completes (.getMeasurements c x) s fun t => t = answerOf s c "GET_MEASUREMENTS" .invalid [] id) ∧
  (∀ (s : State) (c : Channel) (x : Option Nat), canServe s c none .open_ false = true → s.mgmt.sessions.length < 4 → s.secFull = true → Completes (.keyExchange c x) s fun t => t = answerOf s c "KEY_EXCHANGE" .success [s.mgmt.nextSession] (fun m => { m with sessions := m.sessions ++ [{ id := m.nextSession, chan := c, authed := x.isSome, operator := (match x with | some k => s.sec.signers.any fun g => g.1 == k && g.2 == 0xFFFF | none => false), finished := false }], nextSession := m.nextSession + 1 })) ∧
  (∀ (s : State) (c : Channel) (k : Nat), canServe s c none .open_ false = true → (s.mgmt.sessions.any fun x => x.id == k) = true →
    Completes (.finish c k true) s fun t => t = answerOf s c "FINISH" .success [k] (fun m => { m with sessions := m.sessions.map fun x => if x.id == k then { x with finished := true } else x })) ∧
  (∀ (s : State) (c : Channel) (k : Nat), canServe s c none .open_ false = true → (s.mgmt.sessions.any fun x => x.id == k) = true →
    Completes (.finish c k false) s fun t => t = answerOf s c "FINISH" .success [k] (fun m => { m with sessions := m.sessions.filter fun x => x.id != k })) ∧
  (∀ (s : State) (c : Channel) (k : Nat), canServe s c none .open_ false = true → (s.mgmt.sessions.any fun x => x.id == k) = true →
    Completes (.heartbeat c k) s fun t => t = answerOf s c "HEARTBEAT" .success [k] (fun m => { m with sessions := m.sessions })) ∧
  (∀ (s : State) (c : Channel) (k : Nat), canServe s c none .open_ false = true → (s.mgmt.sessions.any fun x => x.id == k) = true →
    Completes (.keyUpdate c k) s fun t => t = answerOf s c "KEY_UPDATE" .success [k] (fun m => { m with sessions := m.sessions.map fun x => if x.id == k then { x with keyEpoch := x.keyEpoch + 1 } else x })) ∧
  (∀ (s : State) (c : Channel) (k : Nat), canServe s c none .open_ false = true → (s.mgmt.sessions.any fun x => x.id == k) = true →
    Completes (.endSession c k) s fun t => t = answerOf s c "END_SESSION" .success [k] (fun m => { m with sessions := m.sessions.filter fun x => x.id != k })) ∧
  (∀ (s : State) (c : Channel), canServe s c none .open_ false = true →
    Completes (.respondIfReady c) s fun t => t = answerOf s c "RESPOND_IF_READY" .invalid [] id) ∧
  (∀ (s : State) (k : Nat),
    Completes (.spdmHeartbeatExpiry k) s fun t => t = { s with mgmt := { s.mgmt with sessions := s.mgmt.sessions.filter fun x => x.id != k } })

/-- The commands of PMBus, time base, meters and board inputs complete with their own effect (Rests on R518, R519, R521, R522, R524, R525, R526, R530,
R531, R532, R533). Polled devices keep their readings or are counted absent; the seconds advance or take a set value, and a period closes; a meter set
is latched and the meters are persisted; indicators, rack stop and generic inputs take their accepted states. -/
def Obligations.BoardCommandsComplete : Prop :=
  (∀ (s : State) (l : List PmbusReading), s.phase = 8 ∨ s.phase = 9 → Completes (.pmbusPoll l) s fun t => t.mgmt.pmbus.length = s.mgmt.pmbus.length ∧
    (∀ x ∈ s.mgmt.pmbus.zip t.mgmt.pmbus, (∀ a ∈ l, l.find? (fun a => a.addr == x.1.addr) = some a →
    x.2 = { x.1 with vout := a.vout, iout := a.iout, temp := a.temp, status := a.status, missed := 0, absent := false }) ∧
    (l.find? (fun a => a.addr == x.1.addr) = none → x.2.missed = x.1.missed + 1 ∧ x.2.absent = decide (3 ≤ x.1.missed + 1) ∧
    x.2.iout = if 3 ≤ x.1.missed + 1 then x.1.iocLimit else x.1.iout)) ∧ RegsExcept [] s t ∧ t.log = s.log) ∧
  (∀ (s : State) (l : List PmbusReading), s.phase = 8 ∨ s.phase = 9 → s.mgmt.rcvEth = true → s.mgmt.restarting = false → s.mgmt.rcvI3c = false →
    Completes (.smbalert l) s fun t => t.mgmt.pmbus = s.mgmt.pmbus.map (fun d => { d with status := 0 }) ∧
    t.mgmt.sent = s.mgmt.sent ++ (l.filter fun a => s.mgmt.pmbus.any fun d => d.addr == a.addr).flatMap (fun a => ((List.range 16).filter fun b => bitAt a.status b).map fun b => eventReply .eth (.sensor 3 a.addr b)) ∧
    RegsExcept [] s t ∧ t.log = s.log) ∧
  (∀ (s : State), s.mgmt.setTo = none → s.mgmt.secs + 1 < s.mgmt.pend →
    Completes (.secondWrap) s fun t => t = { s with mgmt := { s.mgmt with secs := s.mgmt.secs + 1, nanos := 0 } }) ∧
  (∀ (s : State) (v : Nat), s.mgmt.setTo = some v → v < s.mgmt.pend → Completes (.secondWrap) s fun t => t.mgmt.secs = v ∧ t.mgmt.nanos = 0 ∧
    t.mgmt.setTo = none ∧ t.fld Reg.MTR_TSTAT Fld.MTR_TSTAT_PEND = 0 ∧ t.fld Reg.MTR_TSTAT Fld.MTR_TSTAT_SYNC = 1 ∧ (v ≠ s.mgmt.secs + 1 →
    t.fld Reg.MTR_TSTAT Fld.MTR_TSTAT_DISC = 1 ∧
    SMap.get (fun _ => none) t.mgmt.hist s.mgmt.histNext = some ⟨2, 0, 0xFFFF, s.rd64 Reg.LOG_SEQ_LO, s.mgmt.secs + 1, v, [0, 0, 0, 0, 0, 0]⟩) ∧
    RegsExcept [Reg.MTR_TSTAT, Reg.LOG_SEQ_LO, Reg.LOG_SEQ_HI] s t ∧ t.log = s.log) ∧
  (∀ (s : State) (k : Nat), s.mgmt.setTo = none → s.mgmt.pend ≤ s.mgmt.secs + 1 → k = s.fld Reg.MTR_PCFG Fld.MTR_PCFG_LEN →
    Completes (.secondWrap) s fun t => t.mgmt.secs = s.mgmt.secs + 1 ∧ t.mgmt.pstart = (s.mgmt.secs + 1) / k * k ∧
    t.mgmt.pend = ((s.mgmt.secs + 1) / k + 1) * k ∧ (∀ e ∈ t.mgmt.meters, e.2.counts.all (· == 0) = true) ∧ t.mgmt.loss = false ∧
    RegsExcept [Reg.LOG_SEQ_LO, Reg.LOG_SEQ_HI] s t ∧ t.log = s.log) ∧
  (∀ (s : State), Completes (.timeSet) s fun t => t.mgmt = { s.mgmt with setTo := some (s.rd64 Reg.MTR_TSET_LO) } ∧
    t.fld Reg.MTR_TSTAT Fld.MTR_TSTAT_PEND = 1 ∧ RegsExcept [Reg.MTR_TSTAT] s t ∧ t.log = s.log) ∧
  (∀ (s : State) (n : Fin 1000000000) (k : Nat), k = max s.mgmt.nanos n.val → Completes (.timeRead n) s fun t => t.rd Reg.MTR_TNS = k % 2 ^ 32 ∧
    t.rd Reg.MTR_TSEC_LO = s.mgmt.secs % 2 ^ 32 ∧ t.rd Reg.MTR_TSEC_HI = s.mgmt.secs / 2 ^ 32 % 2 ^ 32 ∧ t.mgmt = { s.mgmt with nanos := k } ∧
    RegsExcept [Reg.MTR_TNS, Reg.MTR_TSEC_LO, Reg.MTR_TSEC_HI] s t ∧ t.log = s.log) ∧
  (∀ (s : State) (w : Word), bits w.toNat 16 14 ≤ 1087 → bits w.toNat 0 5 ≤ 15 →
    Completes (.meterSnapshot w) s fun t => t.mgmt = { s.mgmt with snap := s.meterWords (bits w.toNat 16 14) } ∧
    t.rd Reg.MTR_MIDX = bits w.toNat 16 14 * 2 ^ 16 + bits w.toNat 0 5 ∧ RegsExcept [Reg.MTR_MIDX] s t ∧ t.log = s.log) ∧
  (∀ (s : State), s.writeWindow = true → s.fld Reg.LOG_STAT Fld.LOG_STAT_RSFAIL = 0 →
    Completes (.meterPersist) s fun t => t = { s with mgmt := { s.mgmt with stored := s.mgmt.meters, persisted := s.mgmt.secs }, wts := { s.wts with jstore := s.wts.jtiles } }) ∧
  (∀ (s : State) (n : QuadNo) (w : Nat), w = s.rd (Reg.IND_CFG n) → n ≠ 0 → bits w 28 2 = 2 → 5120 ≤ 10 * bits w 0 8 * bits w 8 9 → bits w 8 9 ≠ 0 →
    nth 0 s.mgmt.diag n = 2 → Completes (.indicatorDiagnosis n true false) s fun t => t.fld Reg.IND_STAT ⟨2 * n, 2⟩ = 2 ∧
    (s.fld Reg.IND_STAT ⟨2 * n, 2⟩ ≠ 2 → t.fld Reg.IND_STAT ⟨16 + n, 1⟩ = 1) ∧ t.mgmt.diag = setNth s.mgmt.diag n 2 ∧ RegsExcept [Reg.IND_STAT] s t ∧
    t.log = s.log) ∧
  (∀ (s : State) (n : QuadNo) (w : Nat) (b : Bool), w = s.rd (Reg.IND_CFG n) → n ≠ 0 → bits w 28 2 = 2 → 5120 ≤ 10 * bits w 0 8 * bits w 8 9 →
    bits w 8 9 ≠ 0 → nth 0 s.mgmt.diag n ≠ (if b then 2 else 1) →
    Completes (.indicatorDiagnosis n b false) s fun t => t.fld Reg.IND_STAT ⟨2 * n, 2⟩ = s.fld Reg.IND_STAT ⟨2 * n, 2⟩ ∧
    t.mgmt.diag = setNth s.mgmt.diag n (if b then 2 else 1) ∧ RegsExcept ([Reg.IND_STAT].filter fun _ => s.fld Reg.IND_STAT ⟨2 * n, 2⟩ == 2) s t ∧
    t.log = s.log) ∧
  (∀ (s : State) (b x : Bool) (i : Nat), i = b2n b → bitAt (s.fld Reg.GCTL_INPUT Fld.GCTL_INPUT_HELD) (2 + i) = false → s.allStopped = true →
    s.wts.loads = [] → Completes (.rackstopAccept b x) s fun t => t.fld Reg.IND_RSSTAT ⟨i, 1⟩ = b2n x ∧
    t.fld Reg.IND_RSSTAT ⟨1 - i, 1⟩ = s.fld Reg.IND_RSSTAT ⟨1 - i, 1⟩ ∧
    t.fld Reg.IND_RSSTAT Fld.IND_RSSTAT_STOP = b2n (x || bitAt (s.rd Reg.IND_RSSTAT) (1 - i) || bitAt (s.rd Reg.IND_RSSTAT) 3) ∧
    t.boot = { s.boot with slow := putBit s.boot.slow (2 + i) x } ∧ RegsExcept [Reg.IND_RSSTAT] s t ∧ t.log = s.log) ∧
  (∀ (s : State) (b : Bool), bitAt (s.fld Reg.GCTL_INPUT Fld.GCTL_INPUT_HELD) (2 + b2n b) = false → bitAt (s.rd Reg.IND_RSSTAT) 2 = false →
    s.wts.loads = [] → noStreams s = true → Completes (.rackstopAccept b true) s fun t => t.fld Reg.IND_RSSTAT Fld.IND_RSSTAT_STOP = 1 ∧
    (∀ p ∈ List.range 64, s.run p = 1 ∨ s.run p = 2 → t.run p = 0 ∨ (t.part p).stopping ≠ 0)) ∧
  (∀ (s : State), bitAt (s.rd Reg.IND_RSSTAT) 0 ≠ bitAt (s.rd Reg.IND_RSSTAT) 1 → bitAt (s.rd Reg.IND_RSSTAT) 2 = true →
    Completes (.rackstopDiscrepancy) s fun t => t.fld Reg.IND_RSSTAT Fld.IND_RSSTAT_DFAULT = 1 ∧ t.fld Reg.IND_RSSTAT Fld.IND_RSSTAT_STOP = 1 ∧
    RegsExcept (logRegs ++ [Reg.IND_RSSTAT]) s t ∧ t.core = s.core) ∧
  (∀ (s : State) (i : Fin 8) (b x : Bool), bitAt (s.rd Reg.IND_GPICFG) (8 + i) = true → (nth {} s.mgmt.gpi i).frozen = false →
    x = (b == bitAt (s.rd Reg.IND_GPICFG) i) → Completes (.gpiAccept i b) s fun t => t.fld Reg.IND_GPISTAT ⟨i, 1⟩ = b2n x ∧ (x = false →
    t.fld Reg.IND_GPISTAT ⟨8 + i, 1⟩ = 0) ∧ RegsExcept [Reg.IND_GPISTAT] s t ∧ t.log = s.log) ∧
  (∀ (s : State) (i : Fin 8), bitAt (s.rd Reg.IND_GPISTAT) i = true → Completes (.gpiStuck i) s fun t => t.fld Reg.IND_GPISTAT ⟨8 + i, 1⟩ = 1 ∧
    RegsExcept [Reg.IND_GPISTAT] s t ∧ t.log = s.log) ∧
  (∀ (s : State) (i : Fin 8) (n : Nat), 10 < n → bitAt (s.rd Reg.IND_GPICFG) (8 + i) = true →
    Completes (.gpiChatterWindow i n) s fun t => t.fld Reg.IND_GPISTAT ⟨16 + i, 1⟩ = 1 ∧
    t.mgmt = { s.mgmt with gpi := setNth s.mgmt.gpi i { frozen := true } } ∧ RegsExcept [Reg.IND_GPISTAT] s t ∧ t.log = s.log)

/-- A step runs the command at the front of the queue (Rests on R539, R541). For every command c, queue q and state: a step with c in front of q is
the command c on the state whose queue is q. The queue is the form that this model gives to what reaches the block; the meaning of each command is
that of its row of the table. -/
def Obligations.StepRunsTheFrontCommand : Prop :=
  ∀ (c : Instr) (q : List Instr) (s : State), Machine.step { s with pending := c :: q } = exec c { s with pending := q }

/-- A step with no command waiting changes nothing (Rests on R1). With an empty queue a step answers the same state. This is the model's choice (log
entry 26), not a rule of the spec: all that happens in the block is a command of the table. -/
def Obligations.IdleStepChangesNothing : Prop :=
  ∀ s : State, s.pending = [] → Machine.step s = .next s

/-- Every command answers a next state (Rests on R1, R539). Every command answers a next state in every state, so a run of any length from any state
meets no fault and no refusal. -/
def Obligations.EveryCommandAnswers : Prop :=
  (∀ (c : Instr) (s : State), ∃ t, exec c s = .next t) ∧ ∀ (n : Nat) (s : State), SafeRun n s

/-- The state after reset (Rests on R6, R14, R18, R365, R387, R390). After reset every register holds its reset value, GCTL_ID reads 0x9160_00A1 and
the stop timeout is 100 ms; no bring-up has begun; partitions and contexts are stopped, tiles unprogrammed, ports down, nothing loaded; the high word
of every 64-bit counter reads 0; the stores with an address list nothing and no command waits. What the spec gives no reset value for follows log
entries 2 and 3. -/
def Obligations.StateAfterReset : Prop :=
  StoresCanonical State.reset ∧ State.reset.pending = [] ∧ (∀ a, State.reset.rd a = (resetWord a).toNat) ∧
  State.reset.rd Reg.GCTL_ID = 0x916000A1 ∧ State.reset.fld Reg.GCTL_CTL Fld.GCTL_CTL_STOPTO = 100 ∧ State.reset.phase = 0 ∧
  (∀ p < 64, State.reset.run p = 0) ∧ (∀ k < 16, ∀ n < 4, State.reset.ctxRun k n = 0 ∧ State.reset.tagged k n = false) ∧
  (∀ k < 16, ∀ t < 1024, State.reset.tileState k t = 0) ∧ (∀ i < 16, State.reset.fld (Reg.LNK_STAT i) Fld.LNK_STAT_STATE = 0) ∧
  (∀ p < 64, State.reset.fld (Reg.FLS_PLOAD p) Fld.FLS_PLOAD_STATE = 0) ∧
  (∀ a, isHigh a = true → State.reset.asleep a = false → State.reset.view a = 0)

/-- Every step keeps the stores with an address in canonical form (Rests on R14, R49, R115, R230). In every state, also one that no run reaches: when
the register store, the shelf, the HBM memory and the cells are in canonical form, a step answers a state in which they are. Equal contents are
therefore equal data. -/
def Obligations.StepsKeepTheStoresCanonical : Prop :=
  ∀ s t : State, StoresCanonical s → Machine.step s = .next t → StoresCanonical t

/-- Every step keeps the staging queue at 64 entries or fewer (Rests on R477, R478, R483). In every state whose staging queue holds at most 64 sherds,
a step answers a state whose staging queue does. -/
def Obligations.StagingQueueStaysBounded : Prop :=
  ∀ s t : State, s.log.queue.length ≤ 64 → Machine.step s = .next t → t.log.queue.length ≤ 64

/-- Every step takes one command from the queue and adds none (Rests on R539, R541). When a step runs the command at the front of the queue, the queue
that remains is what waited behind it: no command orders another. -/
def Obligations.EveryStepTakesTheFrontCommand : Prop :=
  ∀ (c : Instr) (q : List Instr) (s t : State), s.pending = c :: q → Machine.step s = .next t → t.pending = q

/-- A write of a register follows the access codes of its bits (Rests on R15, R16). A write that a block accepts gives every bit of the register what
its access code says: a W1S bit written 1 is set, a W1C bit written 1 is clear, an RW bit or an open LK bit takes the value, and every other bit, a
reserved one included, stays. Every other register stays. -/
def Obligations.WriteByAccessCodes : Prop :=
  ∀ (s : State) (a v i : Nat) (r : RegRow), regRow a = some r → i < 32 →
  bitAt ((s.writeMasked a v).rd a) i =
    (if bitAt r.w1s i && bitAt v i then true
     else if bitAt r.w1c i && bitAt v i then false
     else if bitAt (s.openMask a) i then bitAt v i
     else bitAt (s.rd a) i) ∧
  ∀ b, b ≠ a → (s.writeMasked a v).rd b = s.rd b

/-- A counter clear sets a counter to 0, or faults and leaves it (States R142). When the issued bundle's next slot is CLR of counter c: with ENQ equal
to DONE the command leaves ENQ, DONE and ERR of c at 0 and changes no other register, row or queue; with ENQ and DONE unequal the context faults with
the reason counter busy (0x17), and the counter, the rows and the queues stay. -/
def Obligations.CounterClear : Prop :=
  ∀ (k : CoreNo) (n : CtxNo) (s : State) (i : Issued), issuedAt s k n 4 3 i = true →
  let c := bits i.bundle 190 6
  (s.cenq k c = s.cdone k c → Completes (.clr k n) s fun t =>
    t.cenq k c = 0 ∧ t.cdone k c = 0 ∧ t.cerr k c = false ∧ t.ctxRun k n = s.ctxRun k n ∧
    RegsExcept [Reg.QUE_CENQ k c, Reg.QUE_CDONE k c, Reg.QUE_CSTAT k c] s t ∧ t.core.shelf = s.core.shelf ∧ t.core.queues = s.core.queues ∧
    t.mesh = s.mesh ∧ t.hbm = s.hbm ∧ t.log = s.log) ∧
  (s.cenq k c ≠ s.cdone k c → s.ctxRun k n ≠ 0 → s.fld (Reg.CORE_FLTINFO k n) Fld.CORE_FLTINFO_VALID = 0 →
    Completes (.clr k n) s fun t =>
    t.ctxRun k n = 3 ∧ t.fld (Reg.CORE_FLTINFO k n) Fld.CORE_FLTINFO_VALID = 1 ∧
    t.fld (Reg.CORE_FLTINFO k n) Fld.CORE_FLTINFO_REASON = 0x17 ∧
    t.rd (Reg.QUE_CENQ k c) = s.rd (Reg.QUE_CENQ k c) ∧ t.rd (Reg.QUE_CDONE k c) = s.rd (Reg.QUE_CDONE k c) ∧
    t.rd (Reg.QUE_CSTAT k c) = s.rd (Reg.QUE_CSTAT k c) ∧ t.core.shelf = s.core.shelf ∧ t.core.queues = s.core.queues ∧ t.hbm = s.hbm)

/-- A bundle of the other mode faults its context and does not issue (States R128). When a context is to fetch and the bundle at its pc declares a
mode other than the context's, every command of a slot faults the context with the reason mode mismatch (0x02) at that pc; the bundle does not issue:
no unit starts, and the context's registers and pc, the rows, the queues and the memory stay. -/
def Obligations.ModeMismatch : Prop :=
  ∀ (k : CoreNo) (n : CtxNo) (s : State), ∀ c ∈ slotCommands k n, fetches s k n = true →
  bits (s.bundleNat k n (s.pcOf k n)) 255 1 ≠ b2n (s.tagged k n) → s.fld (Reg.CORE_FLTINFO k n) Fld.CORE_FLTINFO_VALID = 0 →
  Completes c s fun t => t.ctxRun k n = 3 ∧ t.fld (Reg.CORE_FLTINFO k n) Fld.CORE_FLTINFO_VALID = 1 ∧
    t.fld (Reg.CORE_FLTINFO k n) Fld.CORE_FLTINFO_REASON = 2 ∧ t.fld (Reg.CORE_FLTINFO k n) Fld.CORE_FLTINFO_PC = s.pcOf k n ∧
    t.ctx k n = s.ctx k n ∧ t.pcOf k n = s.pcOf k n ∧ t.core.ops = s.core.ops ∧ t.core.shelf = s.core.shelf ∧ t.core.queues = s.core.queues ∧
    t.hbm = s.hbm ∧ t.lnk = s.lnk

/-- The configuration of a port is written only while it is disabled (States R302). With EN = 1 a write of LNK_CTL that changes another field, and
every write of LNK_FLUEID, changes nothing but LNK_STAT.WREJ, which it sets. With EN = 0 a write of legal values takes effect on the writable bits of
the register and changes no other register. -/
def Obligations.LinkConfiguration : Prop :=
  ∀ (s : State) (i : Fin 16) (v : Word),
  let ctl : RegAddr := .pf ⟨(0x2000000 + i.val * 0x10000) / 4, by omega⟩
  let flue : RegAddr := .pf ⟨(0x2000010 + i.val * 0x10000) / 4, by omega⟩
  s.asleep (Reg.LNK_CTL i) = false →
  (s.fld (Reg.LNK_CTL i) Fld.LNK_CTL_EN = 1 → s.merged (Reg.LNK_CTL i) v.toNat % 2 ^ 31 ≠ s.rd (Reg.LNK_CTL i) % 2 ^ 31 →
    exec (.registerWrite ctl v) s = .next (s.setF (Reg.LNK_STAT i) Fld.LNK_STAT_WREJ 1)) ∧
  (s.fld (Reg.LNK_CTL i) Fld.LNK_CTL_EN = 1 →
    exec (.registerWrite flue v) s = .next (s.setF (Reg.LNK_STAT i) Fld.LNK_STAT_WREJ 1)) ∧
  (s.fld (Reg.LNK_CTL i) Fld.LNK_CTL_EN = 0 → bits (s.merged (Reg.LNK_CTL i) v.toNat) 12 2 ≠ 3 →
    bits (s.merged (Reg.LNK_CTL i) v.toNat) 10 2 ≤ bits (s.merged (Reg.LNK_CTL i) v.toNat) 12 2 → bitAt v.toNat 31 = false →
    Completes (.registerWrite ctl v) s fun t => t.rd (Reg.LNK_CTL i) = s.merged (Reg.LNK_CTL i) v.toNat % 2 ^ 31 ∧
      RegsExcept [Reg.LNK_CTL i] s t ∧ t.lnk = s.lnk) ∧
  (s.fld (Reg.LNK_CTL i) Fld.LNK_CTL_EN = 0 →
    Completes (.registerWrite flue v) s fun t => t.rd (Reg.LNK_FLUEID i) = s.merged (Reg.LNK_FLUEID i) v.toNat ∧
      RegsExcept [Reg.LNK_FLUEID i] s t ∧ t.lnk = s.lnk)

/-- An access outside a context's rows faults the context and accesses nothing (States R127). Every access that a context makes, in tagged or
scheduled mode, a read or a write, to a row outside its range is refused: no row, tag or waiting list changes, and the context, if it runs, faults
with the reason row out of range (0x08) and the row as its first operand. Every row access of a context in the model is State.access. -/
def Obligations.AccessOutsideTheRowRange : Prop :=
  ∀ (s : State) (a : Acc) (w : Option (Row × Bool)), a.k < 16 → a.ctx < 4 → s.inRows a.k a.ctx a.row = false →
  ∃ t, s.access a w = .refused t ∧ t.core.shelf = s.core.shelf ∧ t.core.waiters = s.core.waiters ∧
    (s.ctxRun a.k a.ctx ≠ 0 → t.ctxRun a.k a.ctx = 3 ∧
      (s.fld (Reg.CORE_FLTINFO a.k a.ctx) Fld.CORE_FLTINFO_VALID = 0 →
        t.fld (Reg.CORE_FLTINFO a.k a.ctx) Fld.CORE_FLTINFO_VALID = 1 ∧ t.fld (Reg.CORE_FLTINFO a.k a.ctx) Fld.CORE_FLTINFO_REASON = 0x08 ∧
        t.rd (Reg.CORE_FLTOPND a.k a.ctx 0) = a.row % 2 ^ 32))

/-- A read with a single-bit error delivers corrected data and counts it (States R120). A read of a row that has a single-bit error and no poison
delivers the row's data unpoisoned, sets SHELF_ECCSTAT.CE and counts one in SHELF_CECNT; no row and no other register changes. -/
def Obligations.SingleBitErrorRead : Prop :=
  ∀ (s : State) (a : Acc), a.k < 16 →
  let x := s.shelfRow a.k a.row
  x.poison = false → x.ecc = 1 → ∃ t, s.readRow a = (t, x.data, false) ∧ t.fld (Reg.SHELF_ECCSTAT a.k) Fld.SHELF_ECCSTAT_CE = 1 ∧
    t.rd (Reg.SHELF_CECNT a.k) = satAdd 0xFFFFFFFF (s.rd (Reg.SHELF_CECNT a.k)) 1 ∧ t.core = s.core ∧
    RegsExcept [Reg.SHELF_ECCSTAT a.k, Reg.SHELF_CECNT a.k] s t

/-- A context starts with its counters, queues and tags clear, in scheduled mode (States R114). Once a context has started, every completion counter
that it owns reads ENQ = 0, DONE = 0 and ERR = 0, every queue that it owns is empty, the tag of every row that it owns is EMPTY, and it is in
scheduled mode at address 0; what it owns is what it owned. -/
def Obligations.ContextStart : Prop :=
  ∀ (s : State) (k n : Nat), k < 16 → n < 4 →
  let t := s.startCtx k n
  t.ctxRun k n = 1 ∧ t.pcOf k n = 0 ∧ t.tagged k n = false ∧
  (∀ c < 64, t.ownsCtr k n c = true → t.cenq k c = 0 ∧ t.cdone k c = 0 ∧ t.cerr k c = false) ∧
  (∀ q < 16, t.ownsQueue k n q = true → t.queue k q = [] ∧ t.fld (Reg.QUE_QSTAT k q) Fld.QUE_QSTAT_INFLIGHT = 0) ∧
  (∀ r < 65536, t.inRows k n r = true → (t.shelfRow k r).full = false) ∧
  (∀ c, t.ownsCtr k n c = s.ownsCtr k n c) ∧ (∀ q, t.ownsQueue k n q = s.ownsQueue k n q) ∧ ∀ r, t.inRows k n r = s.inRows k n r

/-- A read of the low word of a 64-bit counter latches its high word (States R18). A read of the low word of a 64-bit counter returns it and latches
the high word: whatever the counters do later, the high word's register reads the latched value while the latches hold it, and reads 0 while no low
word has been read since reset. -/
def Obligations.LowWordRead : Prop :=
  (∀ (s : State) (r : RegAddr), isLow r.off = true → s.asleep r.off = false → Completes (.counterLowRead r) s fun t =>
    t.host.readData = s.rd r.off ∧ RegsExcept [] s t ∧
    ∀ u : State, u.latches = t.latches → u.asleep (r.off + 4) = false → u.view (r.off + 4) = s.rd (r.off + 4)) ∧
  ∀ (u : State) (r : RegAddr), isLow r.off = true → u.latches = State.reset.latches → u.asleep (r.off + 4) = false → u.view (r.off + 4) = 0

/-- A P40 row that is written reads back as it was (Rests on R24, R25). For every P40 row whose fields fit the layout of R25, with values beyond its
blocks 0: the row of bytes that the part writes for it reads as that same row, with every field at every value. -/
def Obligations.P40RowRoundTrip : Prop :=
  ∀ p : P40, p.fits = true → P40.ofRow p.toRow = p

/-- Merged P40 rows do not depend on order and grouping (States R33). P40 addition of rows of one key is commutative and associative, so the merge of
the same rows in any order is the same row; its exponent is the least of the rows, and every value word is the sum of the rows' values in units of
that exponent, modulo 2^40, with no rounding. -/
def Obligations.MergeOrderDoesNotMatter : Prop :=
  (∀ a b : P40, a.sameKey b = true → a.merge b = b.merge a) ∧
  (∀ a b c : P40, a.sameKey b = true → a.sameKey c = true → (a.merge b).merge c = a.merge (b.merge c)) ∧
  (∀ (a : P40) (l m : List P40), sameKeys a l = true → l.Perm m → l.foldl P40.merge a = m.foldl P40.merge a) ∧
  (∀ (a : P40) (l : List P40), sameKeys a l = true → l ≠ [] →
    let r := l.foldl P40.merge a
    r.exp = leastExp a l ∧ ∀ j < 96, nth 0 r.s j = wrap40 (valueSum a l r.exp j))

/-- Every value word of a range-verified row is the exact sum of its contributions (States R34). A row is range-verified when TOP − EXP ≤ 16 and
CONTRIB ≤ 2^(16 − (TOP − EXP)). When the merge of any contributions of one key, each with values of magnitude at most 8,372,224, is range-verified,
every value word equals the exact sum of the contributions, with no wrap. -/
def Obligations.RangeVerifiedRowsAreExact : Prop :=
  ∀ (a : P40) (l : List P40), isContribution a = true → l.all isContribution = true → sameKeys a l = true →
  let r := l.foldl P40.merge a
  (r.verified = true ↔ r.top - r.exp ≤ 16 ∧ r.contrib ≤ 2 ^ (16 - (r.top - r.exp)).toNat) ∧
  (r.verified = true → ∀ j < 96, nth 0 r.s j = valueSum a l r.exp j)

/-- Conversion to BF16 rounds to the nearest value, saturates and counts its losses (States R39). For every value m x 2^t, the conversion to BF16
gives a finite code whose value is as near as that of any finite code (8 significant bits, subnormal codes included), the even code on a tie; OSAT is
counted exactly when the rounded result lies beyond the largest finite value, and the code is then that value with its sign; OZERO is counted exactly
when a non-zero value becomes +0. No code is an infinity. -/
def Obligations.Bf16Conversion : Prop :=
  ∀ m t : Int,
  let r := roundTo fmtBF16 m t
  ∃ x : Rat, bf16Rat r.code = some x ∧
    (∀ c y, bf16Rat c = some y → |x - scaled m t| ≤ |y - scaled m t|) ∧
    (∀ c y, c < 65536 → bf16Rat c = some y → |x - scaled m t| = |y - scaled m t| → y ≠ x → r.osat = false → r.code % 2 = 0) ∧
    (r.osat = true ↔ scaled 511 119 ≤ |scaled m t|) ∧ (r.osat = true → r.code = if m < 0 then 0xFF7F else 0x7F7F) ∧
    (r.ozero = true ↔ m ≠ 0 ∧ r.code = 0)

/-- Negative zero reads as zero and is never written (States R21). The negative-zero code of E2M1, of E4M3 and of BF16 reads as zero, and rounding a
value into any of the three formats never gives that code; zero is written as the code 0. -/
def Obligations.NegativeZero : Prop :=
  e2m1x2 8 = 0 ∧ e4m3 0x80 = some 0 ∧ bf16Rat 0x8000 = some 0 ∧
  ∀ f ∈ [fmtE2M1, fmtE4M3, fmtBF16], ∀ m t : Int, (roundTo f m t).code ≠ 2 ^ f.sign ∧ (m = 0 → (roundTo f m t).code = 0)

/-- The sampler chooses by the ranking of R278 (Rests on R277, R278, R280). With TEMP = 0 the token is one of the largest x, the lowest index on a
tie, whatever the position. The kept candidates are the shortest prefix of the ranking whose weight reaches TOPP / 65,536 of the sum, equality
included, and at least one. -/
def Obligations.SamplerChoosesByTheRanking : Prop :=
  (∀ (q : SampleParams) (logits : List Nat) (count : Nat → Nat) (pos : Nat), q.temp = 0 → (∀ c ∈ logits, (bf16Rat c).isSome = true) → logits ≠ [] →
    ∃ tok < logits.length, sampleToken q logits count pos = (some tok, 0) ∧
      ∀ j < logits.length, ∀ a b, bf16Rat (nth 0 logits tok) = some a → bf16Rat (nth 0 logits j) = some b →
        (penalised q b (count j)).above (penalised q a (count tok)) = false ∧
        ((penalised q a (count tok)).above (penalised q b (count j)) = false → tok ≤ j)) ∧
  (∀ (topp total : Nat) (ws : List (Nat × Nat)), ws ≠ [] → ∃ n, 1 ≤ n ∧ n ≤ ws.length ∧ keptPrefix topp total 0 ws = ws.take n ∧
    (n = ws.length ∨ topp * total ≤ ((ws.take n).map (·.2)).sum * 65536) ∧
    ∀ m, 1 ≤ m → m < n → ((ws.take m).map (·.2)).sum * 65536 < topp * total)

/-- A refused HBM request touches no memory (Rests on R235, R238). A request that R235 does not allow, or that reaches a region under initialisation,
is counted in HBM_REFCNT of its controller and answered as refused when a descriptor waits for it; no granule, no condition of a granule and no
accepted access changes. -/
def Obligations.RefusedRequest : Prop :=
  ∀ (s : State) (q : HbmReq), s.reqAllowed q = false →
  let t := s.acceptReq q
  t.hbm.mem = s.hbm.mem ∧ t.hbm.cond = s.hbm.cond ∧ t.hbm.reads = s.hbm.reads ∧ t.hbm.writes = s.hbm.writes ∧
  t.rd (Reg.HBM_REFCNT q.ctl) = satAdd 0xFFFFFFFF (s.rd (Reg.HBM_REFCNT q.ctl)) 1 ∧ RegsExcept [Reg.HBM_REFCNT q.ctl] s t ∧
  (∀ k u id r g, q.by_ = .desc k u id r g → (s.queue k u).any (fun d => d.started && d.id == id) = true →
    t.hbm.resps = s.hbm.resps ++ [{ by_ := q.by_, write := q.write, data := 0, poison := false, refused := true }])

/-- The commit of a step advances the planned stream and no other (Rests on R283, R288, R545). The commit of an entry of the plan advances POS by
NTOK, records the blocks that the step allocated after those the stream had, and sets TLAST to MT; every other stream stays. On the lead part a
sampled token is written as the newest completion entry of the partition's ring, with the new POS. -/
def Obligations.CommittedEntry : Prop :=
  ∀ (s : State) (p : Nat) (e : PlanEnt) (smp : Option Sampled),
  let t := s.commitEntry p e smp
  let x := s.stream e.ctx
  (t.stream e.ctx).pos = x.pos + e.ntok ∧ (t.stream e.ctx).nblk = x.nblk + e.blocks.length ∧ (t.stream e.ctx).tlast = s.mt ∧
  (t.stream e.ctx).gen = x.gen ∧ (t.stream e.ctx).part = x.part ∧ (t.stream e.ctx).tenant = x.tenant ∧
  (∀ c, c ≠ e.ctx → t.stream c = s.stream c) ∧
  (∀ b < e.blocks.length, t.kv e.ctx (x.nblk + b) = some { tier := 0, off := nth 0 e.blocks b, chip := 0, seq := 0 }) ∧
  ∀ q v, smp = some q → q.token = some v → s.leads p = true → s.failed = false →
    (t.vf p).cq = (s.vf p).cq ++ [{ kind := 2, phase := (s.vf p).phase, status := 0, cid := e.ctx, gen := x.gen, value := v, pos := x.pos + e.ntok }]

end
end

