-- ==== Sys2Proof/Laws/SMap.lean ====
section
/-!
SUPPORT. Laws of sparse stores: what a read gives after a write, and the canonical form that every write keeps.
-/
namespace Sys2Proof

section
variable {α : Type} (d : Nat → α)

@[simp] theorem SMap.get_nil (k : Nat) : SMap.get d [] k = d k := rfl

theorem SMap.get_cons (j : Nat) (v : α) (m : SMap α) (k : Nat) :
    SMap.get d ((j, v) :: m) k = if j = k then v else SMap.get d m k := rfl

@[simp] theorem SMap.get_del_same (k : Nat) (m : SMap α) : SMap.get d (SMap.del k m) k = d k := by
  induction m with
  | nil => rfl
  | cons e m ih =>
    obtain ⟨j, v⟩ := e
    by_cases h : j = k
    · simpa [SMap.del, h] using ih
    · simpa [SMap.del, h, SMap.get_cons] using ih

theorem SMap.get_del_ne {k j : Nat} (h : k ≠ j) (m : SMap α) : SMap.get d (SMap.del k m) j = SMap.get d m j := by
  induction m with
  | nil => rfl
  | cons e m ih =>
    obtain ⟨i, v⟩ := e
    by_cases hi : i = k
    · subst hi
      simpa [SMap.del, SMap.get_cons, h] using ih
    · simp [SMap.del, hi, SMap.get_cons, ih]

theorem SMap.get_ins_same (k : Nat) (v : α) (m : SMap α) (h : ∀ e ∈ m, e.1 ≠ k) : SMap.get d (SMap.ins k v m) k = v := by
  induction m with
  | nil => simp [SMap.ins, SMap.get_cons]
  | cons e m ih =>
    obtain ⟨j, w⟩ := e
    have hj : j ≠ k := h (j, w) (by simp)
    by_cases hk : k < j
    · simp [SMap.ins, hk, SMap.get_cons]
    · simp [SMap.ins, hk, SMap.get_cons, hj, ih fun e he => h e (by simp [he])]

theorem SMap.get_ins_ne {k j : Nat} (hkj : k ≠ j) (v : α) (m : SMap α) : SMap.get d (SMap.ins k v m) j = SMap.get d m j := by
  induction m with
  | nil => simp [SMap.ins, SMap.get_cons, hkj]
  | cons e m ih =>
    obtain ⟨i, w⟩ := e
    by_cases hi : k < i
    · simp [SMap.ins, hi, SMap.get_cons, hkj]
    · simp [SMap.ins, hi, SMap.get_cons, ih]

theorem SMap.ne_of_mem_del {k : Nat} {m : SMap α} {e : Nat × α} (h : e ∈ SMap.del k m) : e.1 ≠ k := by
  induction m with
  | nil => simp [SMap.del] at h
  | cons x m ih =>
    obtain ⟨j, w⟩ := x
    by_cases hj : j = k
    · exact ih (by simpa [SMap.del, hj] using h)
    · simp only [SMap.del, hj, if_false, List.mem_cons] at h
      rcases h with rfl | h
      · exact hj
      · exact ih h

variable [DecidableEq α]

/-- A read of the key just written gives the value written. -/
@[simp] theorem SMap.get_set_same (m : SMap α) (k : Nat) (v : α) : SMap.get d (SMap.set d m k v) k = v := by
  by_cases h : v = d k
  · simp [SMap.set, h]
  · simp [SMap.set, h, SMap.get_ins_same d k v (SMap.del k m) fun e he => SMap.ne_of_mem_del he]

/-- A write leaves every other key alone. -/
theorem SMap.get_set_ne {k j : Nat} (h : k ≠ j) (m : SMap α) (v : α) : SMap.get d (SMap.set d m k v) j = SMap.get d m j := by
  by_cases hv : v = d k
  · simp [SMap.set, hv, SMap.get_del_ne d h]
  · simp [SMap.set, hv, SMap.get_ins_ne d h, SMap.get_del_ne d h]

theorem SMap.get_set (m : SMap α) (k j : Nat) (v : α) :
    SMap.get d (SMap.set d m k v) j = if k = j then v else SMap.get d m j := by
  by_cases h : k = j
  · subst h; simp
  · simp [h, SMap.get_set_ne d h]

/-! ### The canonical form -/

theorem SMap.wf_cons (j : Nat) (v : α) (m : SMap α) :
    SMap.wf d ((j, v) :: m) = true ↔ v ≠ d j ∧ SMap.above j m = true ∧ SMap.wf d m = true := by
  simp [SMap.wf, and_assoc]

omit [DecidableEq α] in
theorem SMap.above_iff (k : Nat) (m : SMap α) : SMap.above k m = true ↔ ∀ e ∈ m, k < e.1 := by
  simp [SMap.above]

omit [DecidableEq α] in
theorem SMap.mem_of_mem_del {k : Nat} {m : SMap α} {e : Nat × α} (h : e ∈ SMap.del k m) : e ∈ m := by
  induction m with
  | nil => simp [SMap.del] at h
  | cons x m ih =>
    obtain ⟨j, w⟩ := x
    by_cases hj : j = k
    · exact List.mem_cons_of_mem _ (ih (by simpa [SMap.del, hj] using h))
    · simp only [SMap.del, hj, if_false, List.mem_cons] at h
      rcases h with rfl | h
      · simp
      · exact List.mem_cons_of_mem _ (ih h)

omit [DecidableEq α] in
theorem SMap.mem_of_mem_ins {k : Nat} {v : α} {m : SMap α} {e : Nat × α} (h : e ∈ SMap.ins k v m) : e = (k, v) ∨ e ∈ m := by
  induction m with
  | nil => simpa [SMap.ins] using h
  | cons x m ih =>
    obtain ⟨j, w⟩ := x
    by_cases hj : k < j
    · simp only [SMap.ins, hj, if_true, List.mem_cons] at h
      rcases h with h | h | h
      · exact .inl h
      · exact .inr (by simp [h])
      · exact .inr (by simp [h])
    · simp only [SMap.ins, hj, if_false, List.mem_cons] at h
      rcases h with h | h
      · exact .inr (by simp [h])
      · rcases ih h with h | h
        · exact .inl h
        · exact .inr (by simp [h])

theorem SMap.wf_del {m : SMap α} (k : Nat) (h : SMap.wf d m = true) : SMap.wf d (SMap.del k m) = true := by
  induction m with
  | nil => exact h
  | cons e m ih =>
    obtain ⟨j, v⟩ := e
    obtain ⟨hv, ha, hm⟩ := (SMap.wf_cons d j v m).1 h
    by_cases hj : j = k
    · simpa [SMap.del, hj] using ih hm
    · simp only [SMap.del, hj, if_false]
      refine (SMap.wf_cons d j v _).2 ⟨hv, ?_, ih hm⟩
      exact (SMap.above_iff j _).2 fun e he => (SMap.above_iff j m).1 ha e (SMap.mem_of_mem_del he)

theorem SMap.wf_ins {m : SMap α} {k : Nat} {v : α} (hv : v ≠ d k) (hk : ∀ e ∈ m, e.1 ≠ k) (h : SMap.wf d m = true) :
    SMap.wf d (SMap.ins k v m) = true := by
  induction m with
  | nil => simp [SMap.ins, SMap.wf, SMap.above, hv]
  | cons e m ih =>
    obtain ⟨j, w⟩ := e
    obtain ⟨hw, ha, hm⟩ := (SMap.wf_cons d j w m).1 h
    have hj : j ≠ k := hk (j, w) (by simp)
    by_cases hkj : k < j
    · simp only [SMap.ins, hkj, if_true]
      refine (SMap.wf_cons d k v _).2 ⟨hv, (SMap.above_iff k _).2 fun e he => ?_, h⟩
      rcases List.mem_cons.1 he with rfl | he
      · exact hkj
      · exact lt_trans hkj ((SMap.above_iff j m).1 ha e he)
    · simp only [SMap.ins, hkj, if_false]
      refine (SMap.wf_cons d j w _).2 ⟨hw, (SMap.above_iff j _).2 fun e he => ?_, ih (fun e he => hk e (by simp [he])) hm⟩
      rcases SMap.mem_of_mem_ins he with rfl | he
      · exact lt_of_le_of_ne (not_lt.1 hkj) hj
      · exact (SMap.above_iff j m).1 ha e he

/-- A write keeps the canonical form. -/
theorem SMap.wf_set {m : SMap α} (k : Nat) (v : α) (h : SMap.wf d m = true) : SMap.wf d (SMap.set d m k v) = true := by
  by_cases hv : v = d k
  · simpa [SMap.set, hv] using SMap.wf_del d k h
  · simp only [SMap.set, hv, if_false]
    exact SMap.wf_ins d hv (fun e he => SMap.ne_of_mem_del he) (SMap.wf_del d k h)

/-- Entries may be left out of a store in canonical form. -/
theorem SMap.wf_filter {m : SMap α} (p : Nat × α → Bool) (h : SMap.wf d m = true) : SMap.wf d (m.filter p) = true := by
  induction m with
  | nil => exact h
  | cons e m ih =>
    obtain ⟨j, v⟩ := e
    obtain ⟨hv, ha, hm⟩ := (SMap.wf_cons d j v m).1 h
    by_cases hp : p (j, v) = true
    · rw [List.filter_cons_of_pos hp]
      refine (SMap.wf_cons d j v _).2 ⟨hv, (SMap.above_iff j _).2 fun e he => ?_, ih hm⟩
      exact (SMap.above_iff j m).1 ha e (List.mem_of_mem_filter he)
    · rw [List.filter_cons_of_neg hp]
      exact ih hm

end

end Sys2Proof
end

