-- ==== Sys2Proof/Laws/Regs.lean ====
section
/-!
SUPPORT. Laws of bit fields and of the operations on control registers (R14, R18): what a read of a register or of a field gives
after a write of one.
-/
namespace Sys2Proof

theorem bits_lt (x lo w : Nat) : bits x lo w < 2 ^ w := Nat.mod_lt _ (Nat.two_pow_pos w)

@[simp] theorem bits_zero (lo w : Nat) : bits 0 lo w = 0 := by simp [bits]

/-- A number by the three parts that a field cuts it into. -/
theorem split_field (x lo w : Nat) : x = x / 2 ^ (lo + w) * 2 ^ (lo + w) + bits x lo w * 2 ^ lo + x % 2 ^ lo := by
  have h1 := Nat.div_add_mod x (2 ^ lo)
  have h2 := Nat.div_add_mod (x / 2 ^ lo) (2 ^ w)
  have h3 : x / 2 ^ (lo + w) = x / 2 ^ lo / 2 ^ w := by rw [pow_add, Nat.div_div_eq_div_mul]
  unfold bits
  rw [h3]
  have h4 : 2 ^ (lo + w) = 2 ^ lo * 2 ^ w := pow_add 2 lo w
  rw [h4]
  have h5 : x / 2 ^ lo / 2 ^ w * (2 ^ lo * 2 ^ w) + x / 2 ^ lo % 2 ^ w * 2 ^ lo =
      2 ^ lo * (2 ^ w * (x / 2 ^ lo / 2 ^ w) + x / 2 ^ lo % 2 ^ w) := by ring
  rw [h5, h2, h1]

namespace Machine

/-- A field replaced: the parts above and below it stay. -/
theorem putFld_eq (f : Fld) (w v : Nat) :
    putFld f w v = w / 2 ^ (f.lo + f.width) * 2 ^ (f.lo + f.width) + v % 2 ^ f.width * 2 ^ f.lo + w % 2 ^ f.lo := by
  have h := split_field w f.lo f.width
  unfold putFld
  omega

theorem bits_of_parts {hi b low lo n : Nat} (hb : b < 2 ^ n) (hl : low < 2 ^ lo) :
    bits (hi * 2 ^ (lo + n) + b * 2 ^ lo + low) lo n = b := by
  have h4 : 2 ^ (lo + n) = 2 ^ lo * 2 ^ n := pow_add 2 lo n
  have e : hi * 2 ^ (lo + n) + b * 2 ^ lo + low = low + 2 ^ lo * (b + 2 ^ n * hi) := by rw [h4]; ring
  unfold bits
  rw [e, Nat.add_mul_div_left _ _ (Nat.two_pow_pos lo), Nat.div_eq_of_lt hl, zero_add, Nat.add_mul_mod_self_left,
    Nat.mod_eq_of_lt hb]

/-- A field just replaced holds the value. -/
@[simp] theorem bits_putFld_same (f : Fld) (w v : Nat) : bits (putFld f w v) f.lo f.width = v % 2 ^ f.width := by
  rw [putFld_eq]
  exact bits_of_parts (Nat.mod_lt _ (Nat.two_pow_pos _)) (Nat.mod_lt _ (Nat.two_pow_pos _))

/-- A field below a replaced one is unchanged. -/
theorem bits_putFld_below (f : Fld) (w v lo n : Nat) (h : lo + n ≤ f.lo) : bits (putFld f w v) lo n = bits w lo n := by
  have key (x : Nat) : bits x lo n = bits (x % 2 ^ f.lo) lo n := by
    unfold bits
    rw [← Nat.mod_mul_right_div_self, ← Nat.mod_mul_right_div_self (x % 2 ^ f.lo), ← pow_add,
      Nat.mod_mod_of_dvd _ (pow_dvd_pow 2 h)]
  rw [key (putFld f w v), key w]
  congr 1
  rw [putFld_eq]
  have h4 : 2 ^ (f.lo + f.width) = 2 ^ f.lo * 2 ^ f.width := pow_add 2 _ _
  have e : w / 2 ^ (f.lo + f.width) * 2 ^ (f.lo + f.width) + v % 2 ^ f.width * 2 ^ f.lo + w % 2 ^ f.lo =
      w % 2 ^ f.lo + 2 ^ f.lo * (v % 2 ^ f.width + 2 ^ f.width * (w / 2 ^ (f.lo + f.width))) := by rw [h4]; ring
  rw [e, Nat.add_mul_mod_self_left, Nat.mod_mod]

/-- A field above a replaced one is unchanged. -/
theorem bits_putFld_above (f : Fld) (w v lo n : Nat) (h : f.lo + f.width ≤ lo) : bits (putFld f w v) lo n = bits w lo n := by
  have key (x : Nat) : bits x lo n = x / 2 ^ (f.lo + f.width) / 2 ^ (lo - (f.lo + f.width)) % 2 ^ n := by
    unfold bits
    rw [Nat.div_div_eq_div_mul, ← pow_add, Nat.add_sub_cancel' h]
  rw [key (putFld f w v), key w]
  congr 2
  rw [putFld_eq]
  have h1 : v % 2 ^ f.width * 2 ^ f.lo + w % 2 ^ f.lo < 2 ^ (f.lo + f.width) := by
    have a := Nat.mod_lt v (Nat.two_pow_pos f.width)
    have b := Nat.mod_lt w (Nat.two_pow_pos f.lo)
    have h4 : 2 ^ (f.lo + f.width) = 2 ^ f.width * 2 ^ f.lo := by rw [pow_add, mul_comm]
    rw [h4]
    calc _ < v % 2 ^ f.width * 2 ^ f.lo + 2 ^ f.lo := by omega
      _ = (v % 2 ^ f.width + 1) * 2 ^ f.lo := by ring
      _ ≤ _ := Nat.mul_le_mul_right _ a
  rw [add_assoc, Nat.add_comm, Nat.add_mul_div_right _ _ (Nat.two_pow_pos _), Nat.div_eq_of_lt h1, zero_add]

theorem putFld_lt (f : Fld) (w v : Nat) (hf : f.lo + f.width ≤ 32) (hw : w < 2 ^ 32) : putFld f w v < 2 ^ 32 := by
  rw [putFld_eq]
  have a := Nat.mod_lt v (Nat.two_pow_pos f.width)
  have b := Nat.mod_lt w (Nat.two_pow_pos f.lo)
  have h4 : 2 ^ (f.lo + f.width) = 2 ^ f.width * 2 ^ f.lo := by rw [pow_add, mul_comm]
  have h5 : v % 2 ^ f.width * 2 ^ f.lo + w % 2 ^ f.lo < 2 ^ (f.lo + f.width) := by
    rw [h4]
    calc _ < v % 2 ^ f.width * 2 ^ f.lo + 2 ^ f.lo := by omega
      _ = (v % 2 ^ f.width + 1) * 2 ^ f.lo := by ring
      _ ≤ _ := Nat.mul_le_mul_right _ a
  have h6 : w / 2 ^ (f.lo + f.width) < 2 ^ (32 - (f.lo + f.width)) := by
    rw [Nat.div_lt_iff_lt_mul (Nat.two_pow_pos _), ← pow_add, Nat.sub_add_cancel hf]
    exact hw
  have h7 : (2 : Nat) ^ 32 = 2 ^ (32 - (f.lo + f.width)) * 2 ^ (f.lo + f.width) := by rw [← pow_add, Nat.sub_add_cancel hf]
  rw [h7]
  calc _ < w / 2 ^ (f.lo + f.width) * 2 ^ (f.lo + f.width) + 2 ^ (f.lo + f.width) := by omega
    _ = (w / 2 ^ (f.lo + f.width) + 1) * 2 ^ (f.lo + f.width) := by ring
    _ ≤ _ := Nat.mul_le_mul_right _ h6

/-! ### Registers -/

theorem State.rd_lt (s : State) (a : Nat) : s.rd a < 2 ^ 32 := (SMap.get resetWord s.regs a).isLt

/-- A register just written holds the word. -/
theorem State.rd_wr_mod (s : State) (a v : Nat) : (s.wr a v).rd a = v % 2 ^ 32 := by
  simp [State.rd, State.wr]

@[simp] theorem State.rd_wr_same (s : State) (a v : Nat) (h : v < 2 ^ 32) : (s.wr a v).rd a = v := by
  rw [State.rd_wr_mod, Nat.mod_eq_of_lt h]

/-- A write leaves the other registers alone. -/
theorem State.rd_wr_ne {a b : Nat} (h : a ≠ b) (s : State) (v : Nat) : (s.wr a v).rd b = s.rd b := by
  simp [State.rd, State.wr, SMap.get_set_ne resetWord h]

theorem State.fld_wr_ne {a b : Nat} (h : a ≠ b) (s : State) (v : Nat) (f : Fld) : (s.wr a v).fld b f = s.fld b f := by
  simp [State.fld, State.rd_wr_ne h]

theorem State.rd_setF_ne {a b : Nat} (h : a ≠ b) (s : State) (f : Fld) (v : Nat) : (s.setF a f v).rd b = s.rd b :=
  State.rd_wr_ne h s _

theorem State.fld_setF_ne {a b : Nat} (h : a ≠ b) (s : State) (f g : Fld) (v : Nat) : (s.setF a f v).fld b g = s.fld b g :=
  State.fld_wr_ne h s _ g

theorem State.rd_setF_same (s : State) (a : Nat) (f : Fld) (v : Nat) (hf : f.lo + f.width ≤ 32) :
    (s.setF a f v).rd a = putFld f (s.rd a) v :=
  State.rd_wr_same s a _ (putFld_lt f _ v hf (s.rd_lt a))

/-- A field just set holds the value, cut to its width. -/
theorem State.fld_setF_same (s : State) (a : Nat) (f : Fld) (v : Nat) (hf : f.lo + f.width ≤ 32) :
    (s.setF a f v).fld a f = v % 2 ^ f.width := by
  rw [State.fld, State.rd_setF_same s a f v hf, bits_putFld_same]

/-- The other fields of the register are unchanged. -/
theorem State.fld_setF_other (s : State) (a : Nat) (f g : Fld) (v : Nat) (hf : f.lo + f.width ≤ 32)
    (h : g.lo + g.width ≤ f.lo ∨ f.lo + f.width ≤ g.lo) : (s.setF a f v).fld a g = s.fld a g := by
  rw [State.fld, State.rd_setF_same s a f v hf]
  rcases h with h | h
  · exact bits_putFld_below f _ v _ _ h
  · exact bits_putFld_above f _ v _ _ h

theorem satAdd_lt {top a b : Nat} (h : top < 2 ^ 32) : satAdd top a b < 2 ^ 32 := lt_of_le_of_lt (Nat.min_le_left _ _) h

/-- An event counter after an increment (it saturates). -/
@[simp] theorem State.rd_inc_same (s : State) (a n : Nat) : (s.inc a n).rd a = satAdd 0xFFFFFFFF (s.rd a) n :=
  State.rd_wr_same s a _ (satAdd_lt (by decide))

theorem State.rd_inc_ne {a b : Nat} (h : a ≠ b) (s : State) (n : Nat) : (s.inc a n).rd b = s.rd b := State.rd_wr_ne h s _

theorem State.fld_inc_ne {a b : Nat} (h : a ≠ b) (s : State) (n : Nat) (f : Fld) : (s.inc a n).fld b f = s.fld b f :=
  State.fld_wr_ne h s _ f

/-- A register returned to its reset value. -/
@[simp] theorem State.rd_resetReg_same (s : State) (a : Nat) : (s.resetReg a).rd a = (resetWord a).toNat := by
  simp [State.rd, State.resetReg]

theorem State.rd_resetReg_ne {a b : Nat} (h : a ≠ b) (s : State) : (s.resetReg a).rd b = s.rd b := by
  simp [State.rd, State.resetReg, SMap.get_del_ne resetWord h]

/-! ### Loops and conditions -/

@[simp] theorem State.when_true (s : State) (f : State → State) : s.when true f = f s := rfl
@[simp] theorem State.when_false (s : State) (f : State → State) : s.when false f = s := rfl
@[simp] theorem State.forEach_nil {α : Type} (s : State) (f : State → α → State) : s.forEach [] f = s := rfl
@[simp] theorem State.forEach_cons {α : Type} (s : State) (x : α) (l : List α) (f : State → α → State) :
    s.forEach (x :: l) f = (f s x).forEach l f := rfl

/-- What every round of a loop keeps, the loop keeps. -/
theorem State.forEach_keeps {α β : Type} (g : State → β) (f : State → α → State) (h : ∀ s x, g (f s x) = g s) (l : List α)
    (s : State) : g (s.forEach l f) = g s := by
  induction l generalizing s with
  | nil => rfl
  | cons x l ih => rw [State.forEach_cons, ih, h]

/-- An invariant of every round of a loop holds after it. -/
theorem State.forEach_inv {α : Type} (P : State → Prop) (f : State → α → State) (h : ∀ s x, P s → P (f s x)) (l : List α)
    (s : State) (hs : P s) : P (s.forEach l f) := by
  induction l generalizing s with
  | nil => exact hs
  | cons x l ih => exact ih _ (h s x hs)

theorem State.when_keeps {β : Type} (g : State → β) (c : Bool) (f : State → State) (s : State) (h : g (f s) = g s) :
    g (s.when c f) = g s := by
  cases c
  · rfl
  · exact h

end Machine

end Sys2Proof
end

