-- ==== Sys2Proof/Laws/State.lean ====
section
/-!
SUPPORT. One lemma per field per update of the state, true by rfl: no later proof unfolds a record update.
-/
namespace Sys2Proof.Machine

/-- A register read looks at the registers alone. -/
theorem State.rd_congr {s t : State} (h : s.regs = t.regs) (a : Nat) : s.rd a = t.rd a := by simp [State.rd, h]

/-! State.wr changes regs alone. -/

@[simp] theorem State.wr_latches (s : State) (a v : Nat) : (s.wr a v).latches = s.latches := rfl
@[simp] theorem State.wr_core (s : State) (a v : Nat) : (s.wr a v).core = s.core := rfl
@[simp] theorem State.wr_mesh (s : State) (a v : Nat) : (s.wr a v).mesh = s.mesh := rfl
@[simp] theorem State.wr_hbm (s : State) (a v : Nat) : (s.wr a v).hbm = s.hbm := rfl
@[simp] theorem State.wr_srv (s : State) (a v : Nat) : (s.wr a v).srv = s.srv := rfl
@[simp] theorem State.wr_lnk (s : State) (a v : Nat) : (s.wr a v).lnk = s.lnk := rfl
@[simp] theorem State.wr_wts (s : State) (a v : Nat) : (s.wr a v).wts = s.wts := rfl
@[simp] theorem State.wr_boot (s : State) (a v : Nat) : (s.wr a v).boot = s.boot := rfl
@[simp] theorem State.wr_clk (s : State) (a v : Nat) : (s.wr a v).clk = s.clk := rfl
@[simp] theorem State.wr_pwr (s : State) (a v : Nat) : (s.wr a v).pwr = s.pwr := rfl
@[simp] theorem State.wr_thm (s : State) (a v : Nat) : (s.wr a v).thm = s.thm := rfl
@[simp] theorem State.wr_log (s : State) (a v : Nat) : (s.wr a v).log = s.log := rfl
@[simp] theorem State.wr_sec (s : State) (a v : Nat) : (s.wr a v).sec = s.sec := rfl
@[simp] theorem State.wr_mgmt (s : State) (a v : Nat) : (s.wr a v).mgmt = s.mgmt := rfl
@[simp] theorem State.wr_host (s : State) (a v : Nat) : (s.wr a v).host = s.host := rfl
@[simp] theorem State.wr_free (s : State) (a v : Nat) : (s.wr a v).free = s.free := rfl
@[simp] theorem State.wr_pending (s : State) (a v : Nat) : (s.wr a v).pending = s.pending := rfl

/-! State.resetReg changes regs alone. -/

@[simp] theorem State.resetReg_latches (s : State) (a : Nat) : (s.resetReg a).latches = s.latches := rfl
@[simp] theorem State.resetReg_core (s : State) (a : Nat) : (s.resetReg a).core = s.core := rfl
@[simp] theorem State.resetReg_mesh (s : State) (a : Nat) : (s.resetReg a).mesh = s.mesh := rfl
@[simp] theorem State.resetReg_hbm (s : State) (a : Nat) : (s.resetReg a).hbm = s.hbm := rfl
@[simp] theorem State.resetReg_srv (s : State) (a : Nat) : (s.resetReg a).srv = s.srv := rfl
@[simp] theorem State.resetReg_lnk (s : State) (a : Nat) : (s.resetReg a).lnk = s.lnk := rfl
@[simp] theorem State.resetReg_wts (s : State) (a : Nat) : (s.resetReg a).wts = s.wts := rfl
@[simp] theorem State.resetReg_boot (s : State) (a : Nat) : (s.resetReg a).boot = s.boot := rfl
@[simp] theorem State.resetReg_clk (s : State) (a : Nat) : (s.resetReg a).clk = s.clk := rfl
@[simp] theorem State.resetReg_pwr (s : State) (a : Nat) : (s.resetReg a).pwr = s.pwr := rfl
@[simp] theorem State.resetReg_thm (s : State) (a : Nat) : (s.resetReg a).thm = s.thm := rfl
@[simp] theorem State.resetReg_log (s : State) (a : Nat) : (s.resetReg a).log = s.log := rfl
@[simp] theorem State.resetReg_sec (s : State) (a : Nat) : (s.resetReg a).sec = s.sec := rfl
@[simp] theorem State.resetReg_mgmt (s : State) (a : Nat) : (s.resetReg a).mgmt = s.mgmt := rfl
@[simp] theorem State.resetReg_host (s : State) (a : Nat) : (s.resetReg a).host = s.host := rfl
@[simp] theorem State.resetReg_free (s : State) (a : Nat) : (s.resetReg a).free = s.free := rfl
@[simp] theorem State.resetReg_pending (s : State) (a : Nat) : (s.resetReg a).pending = s.pending := rfl

/-! State.resetRange changes regs alone. -/

@[simp] theorem State.resetRange_latches (s : State) (lo hi : Nat) : (s.resetRange lo hi).latches = s.latches := rfl
@[simp] theorem State.resetRange_core (s : State) (lo hi : Nat) : (s.resetRange lo hi).core = s.core := rfl
@[simp] theorem State.resetRange_mesh (s : State) (lo hi : Nat) : (s.resetRange lo hi).mesh = s.mesh := rfl
@[simp] theorem State.resetRange_hbm (s : State) (lo hi : Nat) : (s.resetRange lo hi).hbm = s.hbm := rfl
@[simp] theorem State.resetRange_srv (s : State) (lo hi : Nat) : (s.resetRange lo hi).srv = s.srv := rfl
@[simp] theorem State.resetRange_lnk (s : State) (lo hi : Nat) : (s.resetRange lo hi).lnk = s.lnk := rfl
@[simp] theorem State.resetRange_wts (s : State) (lo hi : Nat) : (s.resetRange lo hi).wts = s.wts := rfl
@[simp] theorem State.resetRange_boot (s : State) (lo hi : Nat) : (s.resetRange lo hi).boot = s.boot := rfl
@[simp] theorem State.resetRange_clk (s : State) (lo hi : Nat) : (s.resetRange lo hi).clk = s.clk := rfl
@[simp] theorem State.resetRange_pwr (s : State) (lo hi : Nat) : (s.resetRange lo hi).pwr = s.pwr := rfl
@[simp] theorem State.resetRange_thm (s : State) (lo hi : Nat) : (s.resetRange lo hi).thm = s.thm := rfl
@[simp] theorem State.resetRange_log (s : State) (lo hi : Nat) : (s.resetRange lo hi).log = s.log := rfl
@[simp] theorem State.resetRange_sec (s : State) (lo hi : Nat) : (s.resetRange lo hi).sec = s.sec := rfl
@[simp] theorem State.resetRange_mgmt (s : State) (lo hi : Nat) : (s.resetRange lo hi).mgmt = s.mgmt := rfl
@[simp] theorem State.resetRange_host (s : State) (lo hi : Nat) : (s.resetRange lo hi).host = s.host := rfl
@[simp] theorem State.resetRange_free (s : State) (lo hi : Nat) : (s.resetRange lo hi).free = s.free := rfl
@[simp] theorem State.resetRange_pending (s : State) (lo hi : Nat) : (s.resetRange lo hi).pending = s.pending := rfl

/-! State.setVf changes host alone. -/

@[simp] theorem State.setVf_regs (s : State) (p : Nat) (v : Vf) : (s.setVf p v).regs = s.regs := rfl
@[simp] theorem State.setVf_latches (s : State) (p : Nat) (v : Vf) : (s.setVf p v).latches = s.latches := rfl
@[simp] theorem State.setVf_core (s : State) (p : Nat) (v : Vf) : (s.setVf p v).core = s.core := rfl
@[simp] theorem State.setVf_mesh (s : State) (p : Nat) (v : Vf) : (s.setVf p v).mesh = s.mesh := rfl
@[simp] theorem State.setVf_hbm (s : State) (p : Nat) (v : Vf) : (s.setVf p v).hbm = s.hbm := rfl
@[simp] theorem State.setVf_srv (s : State) (p : Nat) (v : Vf) : (s.setVf p v).srv = s.srv := rfl
@[simp] theorem State.setVf_lnk (s : State) (p : Nat) (v : Vf) : (s.setVf p v).lnk = s.lnk := rfl
@[simp] theorem State.setVf_wts (s : State) (p : Nat) (v : Vf) : (s.setVf p v).wts = s.wts := rfl
@[simp] theorem State.setVf_boot (s : State) (p : Nat) (v : Vf) : (s.setVf p v).boot = s.boot := rfl
@[simp] theorem State.setVf_clk (s : State) (p : Nat) (v : Vf) : (s.setVf p v).clk = s.clk := rfl
@[simp] theorem State.setVf_pwr (s : State) (p : Nat) (v : Vf) : (s.setVf p v).pwr = s.pwr := rfl
@[simp] theorem State.setVf_thm (s : State) (p : Nat) (v : Vf) : (s.setVf p v).thm = s.thm := rfl
@[simp] theorem State.setVf_log (s : State) (p : Nat) (v : Vf) : (s.setVf p v).log = s.log := rfl
@[simp] theorem State.setVf_sec (s : State) (p : Nat) (v : Vf) : (s.setVf p v).sec = s.sec := rfl
@[simp] theorem State.setVf_mgmt (s : State) (p : Nat) (v : Vf) : (s.setVf p v).mgmt = s.mgmt := rfl
@[simp] theorem State.setVf_free (s : State) (p : Nat) (v : Vf) : (s.setVf p v).free = s.free := rfl
@[simp] theorem State.setVf_pending (s : State) (p : Nat) (v : Vf) : (s.setVf p v).pending = s.pending := rfl
@[simp] theorem State.setVf_rd (s : State) (p : Nat) (v : Vf) (a : Nat) : (s.setVf p v).rd a = s.rd a := rfl
@[simp] theorem State.setVf_fld (s : State) (p : Nat) (v : Vf) (reg : Nat) (fl : Fld) : (s.setVf p v).fld reg fl = s.fld reg fl := rfl

/-! State.reply changes mgmt alone. -/

@[simp] theorem State.reply_regs (s : State) (r : Reply) : (s.reply r).regs = s.regs := rfl
@[simp] theorem State.reply_latches (s : State) (r : Reply) : (s.reply r).latches = s.latches := rfl
@[simp] theorem State.reply_core (s : State) (r : Reply) : (s.reply r).core = s.core := rfl
@[simp] theorem State.reply_mesh (s : State) (r : Reply) : (s.reply r).mesh = s.mesh := rfl
@[simp] theorem State.reply_hbm (s : State) (r : Reply) : (s.reply r).hbm = s.hbm := rfl
@[simp] theorem State.reply_srv (s : State) (r : Reply) : (s.reply r).srv = s.srv := rfl
@[simp] theorem State.reply_lnk (s : State) (r : Reply) : (s.reply r).lnk = s.lnk := rfl
@[simp] theorem State.reply_wts (s : State) (r : Reply) : (s.reply r).wts = s.wts := rfl
@[simp] theorem State.reply_boot (s : State) (r : Reply) : (s.reply r).boot = s.boot := rfl
@[simp] theorem State.reply_clk (s : State) (r : Reply) : (s.reply r).clk = s.clk := rfl
@[simp] theorem State.reply_pwr (s : State) (r : Reply) : (s.reply r).pwr = s.pwr := rfl
@[simp] theorem State.reply_thm (s : State) (r : Reply) : (s.reply r).thm = s.thm := rfl
@[simp] theorem State.reply_log (s : State) (r : Reply) : (s.reply r).log = s.log := rfl
@[simp] theorem State.reply_sec (s : State) (r : Reply) : (s.reply r).sec = s.sec := rfl
@[simp] theorem State.reply_host (s : State) (r : Reply) : (s.reply r).host = s.host := rfl
@[simp] theorem State.reply_free (s : State) (r : Reply) : (s.reply r).free = s.free := rfl
@[simp] theorem State.reply_pending (s : State) (r : Reply) : (s.reply r).pending = s.pending := rfl
@[simp] theorem State.reply_rd (s : State) (r : Reply) (a : Nat) : (s.reply r).rd a = s.rd a := rfl
@[simp] theorem State.reply_fld (s : State) (r : Reply) (reg : Nat) (fl : Fld) : (s.reply r).fld reg fl = s.fld reg fl := rfl

/-! State.setCtx changes core alone. -/

@[simp] theorem State.setCtx_regs (s : State) (k n : Nat) (c : CtxState) : (s.setCtx k n c).regs = s.regs := rfl
@[simp] theorem State.setCtx_latches (s : State) (k n : Nat) (c : CtxState) : (s.setCtx k n c).latches = s.latches := rfl
@[simp] theorem State.setCtx_mesh (s : State) (k n : Nat) (c : CtxState) : (s.setCtx k n c).mesh = s.mesh := rfl
@[simp] theorem State.setCtx_hbm (s : State) (k n : Nat) (c : CtxState) : (s.setCtx k n c).hbm = s.hbm := rfl
@[simp] theorem State.setCtx_srv (s : State) (k n : Nat) (c : CtxState) : (s.setCtx k n c).srv = s.srv := rfl
@[simp] theorem State.setCtx_lnk (s : State) (k n : Nat) (c : CtxState) : (s.setCtx k n c).lnk = s.lnk := rfl
@[simp] theorem State.setCtx_wts (s : State) (k n : Nat) (c : CtxState) : (s.setCtx k n c).wts = s.wts := rfl
@[simp] theorem State.setCtx_boot (s : State) (k n : Nat) (c : CtxState) : (s.setCtx k n c).boot = s.boot := rfl
@[simp] theorem State.setCtx_clk (s : State) (k n : Nat) (c : CtxState) : (s.setCtx k n c).clk = s.clk := rfl
@[simp] theorem State.setCtx_pwr (s : State) (k n : Nat) (c : CtxState) : (s.setCtx k n c).pwr = s.pwr := rfl
@[simp] theorem State.setCtx_thm (s : State) (k n : Nat) (c : CtxState) : (s.setCtx k n c).thm = s.thm := rfl
@[simp] theorem State.setCtx_log (s : State) (k n : Nat) (c : CtxState) : (s.setCtx k n c).log = s.log := rfl
@[simp] theorem State.setCtx_sec (s : State) (k n : Nat) (c : CtxState) : (s.setCtx k n c).sec = s.sec := rfl
@[simp] theorem State.setCtx_mgmt (s : State) (k n : Nat) (c : CtxState) : (s.setCtx k n c).mgmt = s.mgmt := rfl
@[simp] theorem State.setCtx_host (s : State) (k n : Nat) (c : CtxState) : (s.setCtx k n c).host = s.host := rfl
@[simp] theorem State.setCtx_free (s : State) (k n : Nat) (c : CtxState) : (s.setCtx k n c).free = s.free := rfl
@[simp] theorem State.setCtx_pending (s : State) (k n : Nat) (c : CtxState) : (s.setCtx k n c).pending = s.pending := rfl
@[simp] theorem State.setCtx_rd (s : State) (k n : Nat) (c : CtxState) (a : Nat) : (s.setCtx k n c).rd a = s.rd a := rfl
@[simp] theorem State.setCtx_fld (s : State) (k n : Nat) (c : CtxState) (reg : Nat) (fl : Fld) : (s.setCtx k n c).fld reg fl = s.fld reg fl := rfl

/-! State.setPart changes srv alone. -/

@[simp] theorem State.setPart_regs (s : State) (p : Nat) (x : PartSrv) : (s.setPart p x).regs = s.regs := rfl
@[simp] theorem State.setPart_latches (s : State) (p : Nat) (x : PartSrv) : (s.setPart p x).latches = s.latches := rfl
@[simp] theorem State.setPart_core (s : State) (p : Nat) (x : PartSrv) : (s.setPart p x).core = s.core := rfl
@[simp] theorem State.setPart_mesh (s : State) (p : Nat) (x : PartSrv) : (s.setPart p x).mesh = s.mesh := rfl
@[simp] theorem State.setPart_hbm (s : State) (p : Nat) (x : PartSrv) : (s.setPart p x).hbm = s.hbm := rfl
@[simp] theorem State.setPart_lnk (s : State) (p : Nat) (x : PartSrv) : (s.setPart p x).lnk = s.lnk := rfl
@[simp] theorem State.setPart_wts (s : State) (p : Nat) (x : PartSrv) : (s.setPart p x).wts = s.wts := rfl
@[simp] theorem State.setPart_boot (s : State) (p : Nat) (x : PartSrv) : (s.setPart p x).boot = s.boot := rfl
@[simp] theorem State.setPart_clk (s : State) (p : Nat) (x : PartSrv) : (s.setPart p x).clk = s.clk := rfl
@[simp] theorem State.setPart_pwr (s : State) (p : Nat) (x : PartSrv) : (s.setPart p x).pwr = s.pwr := rfl
@[simp] theorem State.setPart_thm (s : State) (p : Nat) (x : PartSrv) : (s.setPart p x).thm = s.thm := rfl
@[simp] theorem State.setPart_log (s : State) (p : Nat) (x : PartSrv) : (s.setPart p x).log = s.log := rfl
@[simp] theorem State.setPart_sec (s : State) (p : Nat) (x : PartSrv) : (s.setPart p x).sec = s.sec := rfl
@[simp] theorem State.setPart_mgmt (s : State) (p : Nat) (x : PartSrv) : (s.setPart p x).mgmt = s.mgmt := rfl
@[simp] theorem State.setPart_host (s : State) (p : Nat) (x : PartSrv) : (s.setPart p x).host = s.host := rfl
@[simp] theorem State.setPart_free (s : State) (p : Nat) (x : PartSrv) : (s.setPart p x).free = s.free := rfl
@[simp] theorem State.setPart_pending (s : State) (p : Nat) (x : PartSrv) : (s.setPart p x).pending = s.pending := rfl
@[simp] theorem State.setPart_rd (s : State) (p : Nat) (x : PartSrv) (a : Nat) : (s.setPart p x).rd a = s.rd a := rfl
@[simp] theorem State.setPart_fld (s : State) (p : Nat) (x : PartSrv) (reg : Nat) (fl : Fld) : (s.setPart p x).fld reg fl = s.fld reg fl := rfl

/-! State.post changes mesh alone. -/

@[simp] theorem State.post_regs (s : State) (t : MsgType) (from_ to_ p arg : Nat) : (s.post t from_ to_ p arg).regs = s.regs := rfl
@[simp] theorem State.post_latches (s : State) (t : MsgType) (from_ to_ p arg : Nat) : (s.post t from_ to_ p arg).latches = s.latches := rfl
@[simp] theorem State.post_core (s : State) (t : MsgType) (from_ to_ p arg : Nat) : (s.post t from_ to_ p arg).core = s.core := rfl
@[simp] theorem State.post_hbm (s : State) (t : MsgType) (from_ to_ p arg : Nat) : (s.post t from_ to_ p arg).hbm = s.hbm := rfl
@[simp] theorem State.post_srv (s : State) (t : MsgType) (from_ to_ p arg : Nat) : (s.post t from_ to_ p arg).srv = s.srv := rfl
@[simp] theorem State.post_lnk (s : State) (t : MsgType) (from_ to_ p arg : Nat) : (s.post t from_ to_ p arg).lnk = s.lnk := rfl
@[simp] theorem State.post_wts (s : State) (t : MsgType) (from_ to_ p arg : Nat) : (s.post t from_ to_ p arg).wts = s.wts := rfl
@[simp] theorem State.post_boot (s : State) (t : MsgType) (from_ to_ p arg : Nat) : (s.post t from_ to_ p arg).boot = s.boot := rfl
@[simp] theorem State.post_clk (s : State) (t : MsgType) (from_ to_ p arg : Nat) : (s.post t from_ to_ p arg).clk = s.clk := rfl
@[simp] theorem State.post_pwr (s : State) (t : MsgType) (from_ to_ p arg : Nat) : (s.post t from_ to_ p arg).pwr = s.pwr := rfl
@[simp] theorem State.post_thm (s : State) (t : MsgType) (from_ to_ p arg : Nat) : (s.post t from_ to_ p arg).thm = s.thm := rfl
@[simp] theorem State.post_log (s : State) (t : MsgType) (from_ to_ p arg : Nat) : (s.post t from_ to_ p arg).log = s.log := rfl
@[simp] theorem State.post_sec (s : State) (t : MsgType) (from_ to_ p arg : Nat) : (s.post t from_ to_ p arg).sec = s.sec := rfl
@[simp] theorem State.post_mgmt (s : State) (t : MsgType) (from_ to_ p arg : Nat) : (s.post t from_ to_ p arg).mgmt = s.mgmt := rfl
@[simp] theorem State.post_host (s : State) (t : MsgType) (from_ to_ p arg : Nat) : (s.post t from_ to_ p arg).host = s.host := rfl
@[simp] theorem State.post_free (s : State) (t : MsgType) (from_ to_ p arg : Nat) : (s.post t from_ to_ p arg).free = s.free := rfl
@[simp] theorem State.post_pending (s : State) (t : MsgType) (from_ to_ p arg : Nat) : (s.post t from_ to_ p arg).pending = s.pending := rfl
@[simp] theorem State.post_rd (s : State) (t : MsgType) (from_ to_ p arg : Nat) (a : Nat) : (s.post t from_ to_ p arg).rd a = s.rd a := rfl
@[simp] theorem State.post_fld (s : State) (t : MsgType) (from_ to_ p arg : Nat) (reg : Nat) (fl : Fld) : (s.post t from_ to_ p arg).fld reg fl = s.fld reg fl := rfl

/-! State.setOp changes core alone. -/

@[simp] theorem State.setOp_regs (s : State) (k u : Nat) (o : Option UnitOp) : (s.setOp k u o).regs = s.regs := rfl
@[simp] theorem State.setOp_latches (s : State) (k u : Nat) (o : Option UnitOp) : (s.setOp k u o).latches = s.latches := rfl
@[simp] theorem State.setOp_mesh (s : State) (k u : Nat) (o : Option UnitOp) : (s.setOp k u o).mesh = s.mesh := rfl
@[simp] theorem State.setOp_hbm (s : State) (k u : Nat) (o : Option UnitOp) : (s.setOp k u o).hbm = s.hbm := rfl
@[simp] theorem State.setOp_srv (s : State) (k u : Nat) (o : Option UnitOp) : (s.setOp k u o).srv = s.srv := rfl
@[simp] theorem State.setOp_lnk (s : State) (k u : Nat) (o : Option UnitOp) : (s.setOp k u o).lnk = s.lnk := rfl
@[simp] theorem State.setOp_wts (s : State) (k u : Nat) (o : Option UnitOp) : (s.setOp k u o).wts = s.wts := rfl
@[simp] theorem State.setOp_boot (s : State) (k u : Nat) (o : Option UnitOp) : (s.setOp k u o).boot = s.boot := rfl
@[simp] theorem State.setOp_clk (s : State) (k u : Nat) (o : Option UnitOp) : (s.setOp k u o).clk = s.clk := rfl
@[simp] theorem State.setOp_pwr (s : State) (k u : Nat) (o : Option UnitOp) : (s.setOp k u o).pwr = s.pwr := rfl
@[simp] theorem State.setOp_thm (s : State) (k u : Nat) (o : Option UnitOp) : (s.setOp k u o).thm = s.thm := rfl
@[simp] theorem State.setOp_log (s : State) (k u : Nat) (o : Option UnitOp) : (s.setOp k u o).log = s.log := rfl
@[simp] theorem State.setOp_sec (s : State) (k u : Nat) (o : Option UnitOp) : (s.setOp k u o).sec = s.sec := rfl
@[simp] theorem State.setOp_mgmt (s : State) (k u : Nat) (o : Option UnitOp) : (s.setOp k u o).mgmt = s.mgmt := rfl
@[simp] theorem State.setOp_host (s : State) (k u : Nat) (o : Option UnitOp) : (s.setOp k u o).host = s.host := rfl
@[simp] theorem State.setOp_free (s : State) (k u : Nat) (o : Option UnitOp) : (s.setOp k u o).free = s.free := rfl
@[simp] theorem State.setOp_pending (s : State) (k u : Nat) (o : Option UnitOp) : (s.setOp k u o).pending = s.pending := rfl
@[simp] theorem State.setOp_rd (s : State) (k u : Nat) (o : Option UnitOp) (a : Nat) : (s.setOp k u o).rd a = s.rd a := rfl
@[simp] theorem State.setOp_fld (s : State) (k u : Nat) (o : Option UnitOp) (reg : Nat) (fl : Fld) : (s.setOp k u o).fld reg fl = s.fld reg fl := rfl

/-! State.setEng changes core alone. -/

@[simp] theorem State.setEng_regs (s : State) (k t : Nat) (e : TileEng) : (s.setEng k t e).regs = s.regs := rfl
@[simp] theorem State.setEng_latches (s : State) (k t : Nat) (e : TileEng) : (s.setEng k t e).latches = s.latches := rfl
@[simp] theorem State.setEng_mesh (s : State) (k t : Nat) (e : TileEng) : (s.setEng k t e).mesh = s.mesh := rfl
@[simp] theorem State.setEng_hbm (s : State) (k t : Nat) (e : TileEng) : (s.setEng k t e).hbm = s.hbm := rfl
@[simp] theorem State.setEng_srv (s : State) (k t : Nat) (e : TileEng) : (s.setEng k t e).srv = s.srv := rfl
@[simp] theorem State.setEng_lnk (s : State) (k t : Nat) (e : TileEng) : (s.setEng k t e).lnk = s.lnk := rfl
@[simp] theorem State.setEng_wts (s : State) (k t : Nat) (e : TileEng) : (s.setEng k t e).wts = s.wts := rfl
@[simp] theorem State.setEng_boot (s : State) (k t : Nat) (e : TileEng) : (s.setEng k t e).boot = s.boot := rfl
@[simp] theorem State.setEng_clk (s : State) (k t : Nat) (e : TileEng) : (s.setEng k t e).clk = s.clk := rfl
@[simp] theorem State.setEng_pwr (s : State) (k t : Nat) (e : TileEng) : (s.setEng k t e).pwr = s.pwr := rfl
@[simp] theorem State.setEng_thm (s : State) (k t : Nat) (e : TileEng) : (s.setEng k t e).thm = s.thm := rfl
@[simp] theorem State.setEng_log (s : State) (k t : Nat) (e : TileEng) : (s.setEng k t e).log = s.log := rfl
@[simp] theorem State.setEng_sec (s : State) (k t : Nat) (e : TileEng) : (s.setEng k t e).sec = s.sec := rfl
@[simp] theorem State.setEng_mgmt (s : State) (k t : Nat) (e : TileEng) : (s.setEng k t e).mgmt = s.mgmt := rfl
@[simp] theorem State.setEng_host (s : State) (k t : Nat) (e : TileEng) : (s.setEng k t e).host = s.host := rfl
@[simp] theorem State.setEng_free (s : State) (k t : Nat) (e : TileEng) : (s.setEng k t e).free = s.free := rfl
@[simp] theorem State.setEng_pending (s : State) (k t : Nat) (e : TileEng) : (s.setEng k t e).pending = s.pending := rfl
@[simp] theorem State.setEng_rd (s : State) (k t : Nat) (e : TileEng) (a : Nat) : (s.setEng k t e).rd a = s.rd a := rfl
@[simp] theorem State.setEng_fld (s : State) (k t : Nat) (e : TileEng) (reg : Nat) (fl : Fld) : (s.setEng k t e).fld reg fl = s.fld reg fl := rfl

/-! State.setGroup changes core alone. -/

@[simp] theorem State.setGroup_regs (s : State) (k g : Nat) (l : List Delivered) : (s.setGroup k g l).regs = s.regs := rfl
@[simp] theorem State.setGroup_latches (s : State) (k g : Nat) (l : List Delivered) : (s.setGroup k g l).latches = s.latches := rfl
@[simp] theorem State.setGroup_mesh (s : State) (k g : Nat) (l : List Delivered) : (s.setGroup k g l).mesh = s.mesh := rfl
@[simp] theorem State.setGroup_hbm (s : State) (k g : Nat) (l : List Delivered) : (s.setGroup k g l).hbm = s.hbm := rfl
@[simp] theorem State.setGroup_srv (s : State) (k g : Nat) (l : List Delivered) : (s.setGroup k g l).srv = s.srv := rfl
@[simp] theorem State.setGroup_lnk (s : State) (k g : Nat) (l : List Delivered) : (s.setGroup k g l).lnk = s.lnk := rfl
@[simp] theorem State.setGroup_wts (s : State) (k g : Nat) (l : List Delivered) : (s.setGroup k g l).wts = s.wts := rfl
@[simp] theorem State.setGroup_boot (s : State) (k g : Nat) (l : List Delivered) : (s.setGroup k g l).boot = s.boot := rfl
@[simp] theorem State.setGroup_clk (s : State) (k g : Nat) (l : List Delivered) : (s.setGroup k g l).clk = s.clk := rfl
@[simp] theorem State.setGroup_pwr (s : State) (k g : Nat) (l : List Delivered) : (s.setGroup k g l).pwr = s.pwr := rfl
@[simp] theorem State.setGroup_thm (s : State) (k g : Nat) (l : List Delivered) : (s.setGroup k g l).thm = s.thm := rfl
@[simp] theorem State.setGroup_log (s : State) (k g : Nat) (l : List Delivered) : (s.setGroup k g l).log = s.log := rfl
@[simp] theorem State.setGroup_sec (s : State) (k g : Nat) (l : List Delivered) : (s.setGroup k g l).sec = s.sec := rfl
@[simp] theorem State.setGroup_mgmt (s : State) (k g : Nat) (l : List Delivered) : (s.setGroup k g l).mgmt = s.mgmt := rfl
@[simp] theorem State.setGroup_host (s : State) (k g : Nat) (l : List Delivered) : (s.setGroup k g l).host = s.host := rfl
@[simp] theorem State.setGroup_free (s : State) (k g : Nat) (l : List Delivered) : (s.setGroup k g l).free = s.free := rfl
@[simp] theorem State.setGroup_pending (s : State) (k g : Nat) (l : List Delivered) : (s.setGroup k g l).pending = s.pending := rfl
@[simp] theorem State.setGroup_rd (s : State) (k g : Nat) (l : List Delivered) (a : Nat) : (s.setGroup k g l).rd a = s.rd a := rfl
@[simp] theorem State.setGroup_fld (s : State) (k g : Nat) (l : List Delivered) (reg : Nat) (fl : Fld) : (s.setGroup k g l).fld reg fl = s.fld reg fl := rfl

/-! State.setDrift changes core alone. -/

@[simp] theorem State.setDrift_regs (s : State) (k t : Nat) (d : DriftTile) : (s.setDrift k t d).regs = s.regs := rfl
@[simp] theorem State.setDrift_latches (s : State) (k t : Nat) (d : DriftTile) : (s.setDrift k t d).latches = s.latches := rfl
@[simp] theorem State.setDrift_mesh (s : State) (k t : Nat) (d : DriftTile) : (s.setDrift k t d).mesh = s.mesh := rfl
@[simp] theorem State.setDrift_hbm (s : State) (k t : Nat) (d : DriftTile) : (s.setDrift k t d).hbm = s.hbm := rfl
@[simp] theorem State.setDrift_srv (s : State) (k t : Nat) (d : DriftTile) : (s.setDrift k t d).srv = s.srv := rfl
@[simp] theorem State.setDrift_lnk (s : State) (k t : Nat) (d : DriftTile) : (s.setDrift k t d).lnk = s.lnk := rfl
@[simp] theorem State.setDrift_wts (s : State) (k t : Nat) (d : DriftTile) : (s.setDrift k t d).wts = s.wts := rfl
@[simp] theorem State.setDrift_boot (s : State) (k t : Nat) (d : DriftTile) : (s.setDrift k t d).boot = s.boot := rfl
@[simp] theorem State.setDrift_clk (s : State) (k t : Nat) (d : DriftTile) : (s.setDrift k t d).clk = s.clk := rfl
@[simp] theorem State.setDrift_pwr (s : State) (k t : Nat) (d : DriftTile) : (s.setDrift k t d).pwr = s.pwr := rfl
@[simp] theorem State.setDrift_thm (s : State) (k t : Nat) (d : DriftTile) : (s.setDrift k t d).thm = s.thm := rfl
@[simp] theorem State.setDrift_log (s : State) (k t : Nat) (d : DriftTile) : (s.setDrift k t d).log = s.log := rfl
@[simp] theorem State.setDrift_sec (s : State) (k t : Nat) (d : DriftTile) : (s.setDrift k t d).sec = s.sec := rfl
@[simp] theorem State.setDrift_mgmt (s : State) (k t : Nat) (d : DriftTile) : (s.setDrift k t d).mgmt = s.mgmt := rfl
@[simp] theorem State.setDrift_host (s : State) (k t : Nat) (d : DriftTile) : (s.setDrift k t d).host = s.host := rfl
@[simp] theorem State.setDrift_free (s : State) (k t : Nat) (d : DriftTile) : (s.setDrift k t d).free = s.free := rfl
@[simp] theorem State.setDrift_pending (s : State) (k t : Nat) (d : DriftTile) : (s.setDrift k t d).pending = s.pending := rfl
@[simp] theorem State.setDrift_rd (s : State) (k t : Nat) (d : DriftTile) (a : Nat) : (s.setDrift k t d).rd a = s.rd a := rfl
@[simp] theorem State.setDrift_fld (s : State) (k t : Nat) (d : DriftTile) (reg : Nat) (fl : Fld) : (s.setDrift k t d).fld reg fl = s.fld reg fl := rfl

/-! State.setActs changes core alone. -/

@[simp] theorem State.setActs_regs (s : State) (k t : Nat) (f : Nat → Word) : (s.setActs k t f).regs = s.regs := by simp only [State.setActs]
@[simp] theorem State.setActs_latches (s : State) (k t : Nat) (f : Nat → Word) : (s.setActs k t f).latches = s.latches := by simp only [State.setActs]
@[simp] theorem State.setActs_mesh (s : State) (k t : Nat) (f : Nat → Word) : (s.setActs k t f).mesh = s.mesh := by simp only [State.setActs]
@[simp] theorem State.setActs_hbm (s : State) (k t : Nat) (f : Nat → Word) : (s.setActs k t f).hbm = s.hbm := by simp only [State.setActs]
@[simp] theorem State.setActs_srv (s : State) (k t : Nat) (f : Nat → Word) : (s.setActs k t f).srv = s.srv := by simp only [State.setActs]
@[simp] theorem State.setActs_lnk (s : State) (k t : Nat) (f : Nat → Word) : (s.setActs k t f).lnk = s.lnk := by simp only [State.setActs]
@[simp] theorem State.setActs_wts (s : State) (k t : Nat) (f : Nat → Word) : (s.setActs k t f).wts = s.wts := by simp only [State.setActs]
@[simp] theorem State.setActs_boot (s : State) (k t : Nat) (f : Nat → Word) : (s.setActs k t f).boot = s.boot := by simp only [State.setActs]
@[simp] theorem State.setActs_clk (s : State) (k t : Nat) (f : Nat → Word) : (s.setActs k t f).clk = s.clk := by simp only [State.setActs]
@[simp] theorem State.setActs_pwr (s : State) (k t : Nat) (f : Nat → Word) : (s.setActs k t f).pwr = s.pwr := by simp only [State.setActs]
@[simp] theorem State.setActs_thm (s : State) (k t : Nat) (f : Nat → Word) : (s.setActs k t f).thm = s.thm := by simp only [State.setActs]
@[simp] theorem State.setActs_log (s : State) (k t : Nat) (f : Nat → Word) : (s.setActs k t f).log = s.log := by simp only [State.setActs]
@[simp] theorem State.setActs_sec (s : State) (k t : Nat) (f : Nat → Word) : (s.setActs k t f).sec = s.sec := by simp only [State.setActs]
@[simp] theorem State.setActs_mgmt (s : State) (k t : Nat) (f : Nat → Word) : (s.setActs k t f).mgmt = s.mgmt := by simp only [State.setActs]
@[simp] theorem State.setActs_host (s : State) (k t : Nat) (f : Nat → Word) : (s.setActs k t f).host = s.host := by simp only [State.setActs]
@[simp] theorem State.setActs_free (s : State) (k t : Nat) (f : Nat → Word) : (s.setActs k t f).free = s.free := by simp only [State.setActs]
@[simp] theorem State.setActs_pending (s : State) (k t : Nat) (f : Nat → Word) : (s.setActs k t f).pending = s.pending := by simp only [State.setActs]
@[simp] theorem State.setActs_rd (s : State) (k t : Nat) (f : Nat → Word) (a : Nat) : (s.setActs k t f).rd a = s.rd a := by simp only [State.setActs, State.rd]
@[simp] theorem State.setActs_fld (s : State) (k t : Nat) (f : Nat → Word) (reg : Nat) (fl : Fld) : (s.setActs k t f).fld reg fl = s.fld reg fl := by simp only [State.setActs, State.rd, State.fld]

/-! State.setShds changes core alone. -/

@[simp] theorem State.setShds_regs (s : State) (k t : Nat) (f : Nat → Word) : (s.setShds k t f).regs = s.regs := by simp only [State.setShds]
@[simp] theorem State.setShds_latches (s : State) (k t : Nat) (f : Nat → Word) : (s.setShds k t f).latches = s.latches := by simp only [State.setShds]
@[simp] theorem State.setShds_mesh (s : State) (k t : Nat) (f : Nat → Word) : (s.setShds k t f).mesh = s.mesh := by simp only [State.setShds]
@[simp] theorem State.setShds_hbm (s : State) (k t : Nat) (f : Nat → Word) : (s.setShds k t f).hbm = s.hbm := by simp only [State.setShds]
@[simp] theorem State.setShds_srv (s : State) (k t : Nat) (f : Nat → Word) : (s.setShds k t f).srv = s.srv := by simp only [State.setShds]
@[simp] theorem State.setShds_lnk (s : State) (k t : Nat) (f : Nat → Word) : (s.setShds k t f).lnk = s.lnk := by simp only [State.setShds]
@[simp] theorem State.setShds_wts (s : State) (k t : Nat) (f : Nat → Word) : (s.setShds k t f).wts = s.wts := by simp only [State.setShds]
@[simp] theorem State.setShds_boot (s : State) (k t : Nat) (f : Nat → Word) : (s.setShds k t f).boot = s.boot := by simp only [State.setShds]
@[simp] theorem State.setShds_clk (s : State) (k t : Nat) (f : Nat → Word) : (s.setShds k t f).clk = s.clk := by simp only [State.setShds]
@[simp] theorem State.setShds_pwr (s : State) (k t : Nat) (f : Nat → Word) : (s.setShds k t f).pwr = s.pwr := by simp only [State.setShds]
@[simp] theorem State.setShds_thm (s : State) (k t : Nat) (f : Nat → Word) : (s.setShds k t f).thm = s.thm := by simp only [State.setShds]
@[simp] theorem State.setShds_log (s : State) (k t : Nat) (f : Nat → Word) : (s.setShds k t f).log = s.log := by simp only [State.setShds]
@[simp] theorem State.setShds_sec (s : State) (k t : Nat) (f : Nat → Word) : (s.setShds k t f).sec = s.sec := by simp only [State.setShds]
@[simp] theorem State.setShds_mgmt (s : State) (k t : Nat) (f : Nat → Word) : (s.setShds k t f).mgmt = s.mgmt := by simp only [State.setShds]
@[simp] theorem State.setShds_host (s : State) (k t : Nat) (f : Nat → Word) : (s.setShds k t f).host = s.host := by simp only [State.setShds]
@[simp] theorem State.setShds_free (s : State) (k t : Nat) (f : Nat → Word) : (s.setShds k t f).free = s.free := by simp only [State.setShds]
@[simp] theorem State.setShds_pending (s : State) (k t : Nat) (f : Nat → Word) : (s.setShds k t f).pending = s.pending := by simp only [State.setShds]
@[simp] theorem State.setShds_rd (s : State) (k t : Nat) (f : Nat → Word) (a : Nat) : (s.setShds k t f).rd a = s.rd a := by simp only [State.setShds, State.rd]
@[simp] theorem State.setShds_fld (s : State) (k t : Nat) (f : Nat → Word) (reg : Nat) (fl : Fld) : (s.setShds k t f).fld reg fl = s.fld reg fl := by simp only [State.setShds, State.rd, State.fld]

/-! State.setGran changes hbm alone. -/

@[simp] theorem State.setGran_regs (s : State) (g : Nat) (v : Granule) (poison : Bool) : (s.setGran g v poison).regs = s.regs := rfl
@[simp] theorem State.setGran_latches (s : State) (g : Nat) (v : Granule) (poison : Bool) : (s.setGran g v poison).latches = s.latches := rfl
@[simp] theorem State.setGran_core (s : State) (g : Nat) (v : Granule) (poison : Bool) : (s.setGran g v poison).core = s.core := rfl
@[simp] theorem State.setGran_mesh (s : State) (g : Nat) (v : Granule) (poison : Bool) : (s.setGran g v poison).mesh = s.mesh := rfl
@[simp] theorem State.setGran_srv (s : State) (g : Nat) (v : Granule) (poison : Bool) : (s.setGran g v poison).srv = s.srv := rfl
@[simp] theorem State.setGran_lnk (s : State) (g : Nat) (v : Granule) (poison : Bool) : (s.setGran g v poison).lnk = s.lnk := rfl
@[simp] theorem State.setGran_wts (s : State) (g : Nat) (v : Granule) (poison : Bool) : (s.setGran g v poison).wts = s.wts := rfl
@[simp] theorem State.setGran_boot (s : State) (g : Nat) (v : Granule) (poison : Bool) : (s.setGran g v poison).boot = s.boot := rfl
@[simp] theorem State.setGran_clk (s : State) (g : Nat) (v : Granule) (poison : Bool) : (s.setGran g v poison).clk = s.clk := rfl
@[simp] theorem State.setGran_pwr (s : State) (g : Nat) (v : Granule) (poison : Bool) : (s.setGran g v poison).pwr = s.pwr := rfl
@[simp] theorem State.setGran_thm (s : State) (g : Nat) (v : Granule) (poison : Bool) : (s.setGran g v poison).thm = s.thm := rfl
@[simp] theorem State.setGran_log (s : State) (g : Nat) (v : Granule) (poison : Bool) : (s.setGran g v poison).log = s.log := rfl
@[simp] theorem State.setGran_sec (s : State) (g : Nat) (v : Granule) (poison : Bool) : (s.setGran g v poison).sec = s.sec := rfl
@[simp] theorem State.setGran_mgmt (s : State) (g : Nat) (v : Granule) (poison : Bool) : (s.setGran g v poison).mgmt = s.mgmt := rfl
@[simp] theorem State.setGran_host (s : State) (g : Nat) (v : Granule) (poison : Bool) : (s.setGran g v poison).host = s.host := rfl
@[simp] theorem State.setGran_free (s : State) (g : Nat) (v : Granule) (poison : Bool) : (s.setGran g v poison).free = s.free := rfl
@[simp] theorem State.setGran_pending (s : State) (g : Nat) (v : Granule) (poison : Bool) : (s.setGran g v poison).pending = s.pending := rfl
@[simp] theorem State.setGran_rd (s : State) (g : Nat) (v : Granule) (poison : Bool) (a : Nat) : (s.setGran g v poison).rd a = s.rd a := rfl
@[simp] theorem State.setGran_fld (s : State) (g : Nat) (v : Granule) (poison : Bool) (reg : Nat) (fl : Fld) : (s.setGran g v poison).fld reg fl = s.fld reg fl := rfl

/-! State.setKv changes srv alone. -/

@[simp] theorem State.setKv_regs (s : State) (c b : Nat) (e : Option KvEnt) : (s.setKv c b e).regs = s.regs := rfl
@[simp] theorem State.setKv_latches (s : State) (c b : Nat) (e : Option KvEnt) : (s.setKv c b e).latches = s.latches := rfl
@[simp] theorem State.setKv_core (s : State) (c b : Nat) (e : Option KvEnt) : (s.setKv c b e).core = s.core := rfl
@[simp] theorem State.setKv_mesh (s : State) (c b : Nat) (e : Option KvEnt) : (s.setKv c b e).mesh = s.mesh := rfl
@[simp] theorem State.setKv_hbm (s : State) (c b : Nat) (e : Option KvEnt) : (s.setKv c b e).hbm = s.hbm := rfl
@[simp] theorem State.setKv_lnk (s : State) (c b : Nat) (e : Option KvEnt) : (s.setKv c b e).lnk = s.lnk := rfl
@[simp] theorem State.setKv_wts (s : State) (c b : Nat) (e : Option KvEnt) : (s.setKv c b e).wts = s.wts := rfl
@[simp] theorem State.setKv_boot (s : State) (c b : Nat) (e : Option KvEnt) : (s.setKv c b e).boot = s.boot := rfl
@[simp] theorem State.setKv_clk (s : State) (c b : Nat) (e : Option KvEnt) : (s.setKv c b e).clk = s.clk := rfl
@[simp] theorem State.setKv_pwr (s : State) (c b : Nat) (e : Option KvEnt) : (s.setKv c b e).pwr = s.pwr := rfl
@[simp] theorem State.setKv_thm (s : State) (c b : Nat) (e : Option KvEnt) : (s.setKv c b e).thm = s.thm := rfl
@[simp] theorem State.setKv_log (s : State) (c b : Nat) (e : Option KvEnt) : (s.setKv c b e).log = s.log := rfl
@[simp] theorem State.setKv_sec (s : State) (c b : Nat) (e : Option KvEnt) : (s.setKv c b e).sec = s.sec := rfl
@[simp] theorem State.setKv_mgmt (s : State) (c b : Nat) (e : Option KvEnt) : (s.setKv c b e).mgmt = s.mgmt := rfl
@[simp] theorem State.setKv_host (s : State) (c b : Nat) (e : Option KvEnt) : (s.setKv c b e).host = s.host := rfl
@[simp] theorem State.setKv_free (s : State) (c b : Nat) (e : Option KvEnt) : (s.setKv c b e).free = s.free := rfl
@[simp] theorem State.setKv_pending (s : State) (c b : Nat) (e : Option KvEnt) : (s.setKv c b e).pending = s.pending := rfl
@[simp] theorem State.setKv_rd (s : State) (c b : Nat) (e : Option KvEnt) (a : Nat) : (s.setKv c b e).rd a = s.rd a := rfl
@[simp] theorem State.setKv_fld (s : State) (c b : Nat) (e : Option KvEnt) (reg : Nat) (fl : Fld) : (s.setKv c b e).fld reg fl = s.fld reg fl := rfl

/-! State.setStream changes srv alone. -/

@[simp] theorem State.setStream_regs (s : State) (c : Nat) (x : Stream) : (s.setStream c x).regs = s.regs := rfl
@[simp] theorem State.setStream_latches (s : State) (c : Nat) (x : Stream) : (s.setStream c x).latches = s.latches := rfl
@[simp] theorem State.setStream_core (s : State) (c : Nat) (x : Stream) : (s.setStream c x).core = s.core := rfl
@[simp] theorem State.setStream_mesh (s : State) (c : Nat) (x : Stream) : (s.setStream c x).mesh = s.mesh := rfl
@[simp] theorem State.setStream_hbm (s : State) (c : Nat) (x : Stream) : (s.setStream c x).hbm = s.hbm := rfl
@[simp] theorem State.setStream_lnk (s : State) (c : Nat) (x : Stream) : (s.setStream c x).lnk = s.lnk := rfl
@[simp] theorem State.setStream_wts (s : State) (c : Nat) (x : Stream) : (s.setStream c x).wts = s.wts := rfl
@[simp] theorem State.setStream_boot (s : State) (c : Nat) (x : Stream) : (s.setStream c x).boot = s.boot := rfl
@[simp] theorem State.setStream_clk (s : State) (c : Nat) (x : Stream) : (s.setStream c x).clk = s.clk := rfl
@[simp] theorem State.setStream_pwr (s : State) (c : Nat) (x : Stream) : (s.setStream c x).pwr = s.pwr := rfl
@[simp] theorem State.setStream_thm (s : State) (c : Nat) (x : Stream) : (s.setStream c x).thm = s.thm := rfl
@[simp] theorem State.setStream_log (s : State) (c : Nat) (x : Stream) : (s.setStream c x).log = s.log := rfl
@[simp] theorem State.setStream_sec (s : State) (c : Nat) (x : Stream) : (s.setStream c x).sec = s.sec := rfl
@[simp] theorem State.setStream_mgmt (s : State) (c : Nat) (x : Stream) : (s.setStream c x).mgmt = s.mgmt := rfl
@[simp] theorem State.setStream_host (s : State) (c : Nat) (x : Stream) : (s.setStream c x).host = s.host := rfl
@[simp] theorem State.setStream_free (s : State) (c : Nat) (x : Stream) : (s.setStream c x).free = s.free := rfl
@[simp] theorem State.setStream_pending (s : State) (c : Nat) (x : Stream) : (s.setStream c x).pending = s.pending := rfl
@[simp] theorem State.setStream_rd (s : State) (c : Nat) (x : Stream) (a : Nat) : (s.setStream c x).rd a = s.rd a := rfl
@[simp] theorem State.setStream_fld (s : State) (c : Nat) (x : Stream) (reg : Nat) (fl : Fld) : (s.setStream c x).fld reg fl = s.fld reg fl := rfl

/-! State.unseal changes hbm alone. -/

@[simp] theorem State.unseal_regs (s : State) (seq : Nat) : (s.unseal seq).regs = s.regs := rfl
@[simp] theorem State.unseal_latches (s : State) (seq : Nat) : (s.unseal seq).latches = s.latches := rfl
@[simp] theorem State.unseal_core (s : State) (seq : Nat) : (s.unseal seq).core = s.core := rfl
@[simp] theorem State.unseal_mesh (s : State) (seq : Nat) : (s.unseal seq).mesh = s.mesh := rfl
@[simp] theorem State.unseal_srv (s : State) (seq : Nat) : (s.unseal seq).srv = s.srv := rfl
@[simp] theorem State.unseal_lnk (s : State) (seq : Nat) : (s.unseal seq).lnk = s.lnk := rfl
@[simp] theorem State.unseal_wts (s : State) (seq : Nat) : (s.unseal seq).wts = s.wts := rfl
@[simp] theorem State.unseal_boot (s : State) (seq : Nat) : (s.unseal seq).boot = s.boot := rfl
@[simp] theorem State.unseal_clk (s : State) (seq : Nat) : (s.unseal seq).clk = s.clk := rfl
@[simp] theorem State.unseal_pwr (s : State) (seq : Nat) : (s.unseal seq).pwr = s.pwr := rfl
@[simp] theorem State.unseal_thm (s : State) (seq : Nat) : (s.unseal seq).thm = s.thm := rfl
@[simp] theorem State.unseal_log (s : State) (seq : Nat) : (s.unseal seq).log = s.log := rfl
@[simp] theorem State.unseal_sec (s : State) (seq : Nat) : (s.unseal seq).sec = s.sec := rfl
@[simp] theorem State.unseal_mgmt (s : State) (seq : Nat) : (s.unseal seq).mgmt = s.mgmt := rfl
@[simp] theorem State.unseal_host (s : State) (seq : Nat) : (s.unseal seq).host = s.host := rfl
@[simp] theorem State.unseal_free (s : State) (seq : Nat) : (s.unseal seq).free = s.free := rfl
@[simp] theorem State.unseal_pending (s : State) (seq : Nat) : (s.unseal seq).pending = s.pending := rfl
@[simp] theorem State.unseal_rd (s : State) (seq : Nat) (a : Nat) : (s.unseal seq).rd a = s.rd a := rfl
@[simp] theorem State.unseal_fld (s : State) (seq : Nat) (reg : Nat) (fl : Fld) : (s.unseal seq).fld reg fl = s.fld reg fl := rfl

/-! State.dropMove changes hbm alone. -/

@[simp] theorem State.dropMove_regs (s : State) (m : Move) : (s.dropMove m).regs = s.regs := rfl
@[simp] theorem State.dropMove_latches (s : State) (m : Move) : (s.dropMove m).latches = s.latches := rfl
@[simp] theorem State.dropMove_core (s : State) (m : Move) : (s.dropMove m).core = s.core := rfl
@[simp] theorem State.dropMove_mesh (s : State) (m : Move) : (s.dropMove m).mesh = s.mesh := rfl
@[simp] theorem State.dropMove_srv (s : State) (m : Move) : (s.dropMove m).srv = s.srv := rfl
@[simp] theorem State.dropMove_lnk (s : State) (m : Move) : (s.dropMove m).lnk = s.lnk := rfl
@[simp] theorem State.dropMove_wts (s : State) (m : Move) : (s.dropMove m).wts = s.wts := rfl
@[simp] theorem State.dropMove_boot (s : State) (m : Move) : (s.dropMove m).boot = s.boot := rfl
@[simp] theorem State.dropMove_clk (s : State) (m : Move) : (s.dropMove m).clk = s.clk := rfl
@[simp] theorem State.dropMove_pwr (s : State) (m : Move) : (s.dropMove m).pwr = s.pwr := rfl
@[simp] theorem State.dropMove_thm (s : State) (m : Move) : (s.dropMove m).thm = s.thm := rfl
@[simp] theorem State.dropMove_log (s : State) (m : Move) : (s.dropMove m).log = s.log := rfl
@[simp] theorem State.dropMove_sec (s : State) (m : Move) : (s.dropMove m).sec = s.sec := rfl
@[simp] theorem State.dropMove_mgmt (s : State) (m : Move) : (s.dropMove m).mgmt = s.mgmt := rfl
@[simp] theorem State.dropMove_host (s : State) (m : Move) : (s.dropMove m).host = s.host := rfl
@[simp] theorem State.dropMove_free (s : State) (m : Move) : (s.dropMove m).free = s.free := rfl
@[simp] theorem State.dropMove_pending (s : State) (m : Move) : (s.dropMove m).pending = s.pending := rfl
@[simp] theorem State.dropMove_rd (s : State) (m : Move) (a : Nat) : (s.dropMove m).rd a = s.rd a := rfl
@[simp] theorem State.dropMove_fld (s : State) (m : Move) (reg : Nat) (fl : Fld) : (s.dropMove m).fld reg fl = s.fld reg fl := rfl

/-! State.setDeliv changes mesh alone. -/

@[simp] theorem State.setDeliv_regs (s : State) (c : Nat) (l : List MeshRow) : (s.setDeliv c l).regs = s.regs := rfl
@[simp] theorem State.setDeliv_latches (s : State) (c : Nat) (l : List MeshRow) : (s.setDeliv c l).latches = s.latches := rfl
@[simp] theorem State.setDeliv_core (s : State) (c : Nat) (l : List MeshRow) : (s.setDeliv c l).core = s.core := rfl
@[simp] theorem State.setDeliv_hbm (s : State) (c : Nat) (l : List MeshRow) : (s.setDeliv c l).hbm = s.hbm := rfl
@[simp] theorem State.setDeliv_srv (s : State) (c : Nat) (l : List MeshRow) : (s.setDeliv c l).srv = s.srv := rfl
@[simp] theorem State.setDeliv_lnk (s : State) (c : Nat) (l : List MeshRow) : (s.setDeliv c l).lnk = s.lnk := rfl
@[simp] theorem State.setDeliv_wts (s : State) (c : Nat) (l : List MeshRow) : (s.setDeliv c l).wts = s.wts := rfl
@[simp] theorem State.setDeliv_boot (s : State) (c : Nat) (l : List MeshRow) : (s.setDeliv c l).boot = s.boot := rfl
@[simp] theorem State.setDeliv_clk (s : State) (c : Nat) (l : List MeshRow) : (s.setDeliv c l).clk = s.clk := rfl
@[simp] theorem State.setDeliv_pwr (s : State) (c : Nat) (l : List MeshRow) : (s.setDeliv c l).pwr = s.pwr := rfl
@[simp] theorem State.setDeliv_thm (s : State) (c : Nat) (l : List MeshRow) : (s.setDeliv c l).thm = s.thm := rfl
@[simp] theorem State.setDeliv_log (s : State) (c : Nat) (l : List MeshRow) : (s.setDeliv c l).log = s.log := rfl
@[simp] theorem State.setDeliv_sec (s : State) (c : Nat) (l : List MeshRow) : (s.setDeliv c l).sec = s.sec := rfl
@[simp] theorem State.setDeliv_mgmt (s : State) (c : Nat) (l : List MeshRow) : (s.setDeliv c l).mgmt = s.mgmt := rfl
@[simp] theorem State.setDeliv_host (s : State) (c : Nat) (l : List MeshRow) : (s.setDeliv c l).host = s.host := rfl
@[simp] theorem State.setDeliv_free (s : State) (c : Nat) (l : List MeshRow) : (s.setDeliv c l).free = s.free := rfl
@[simp] theorem State.setDeliv_pending (s : State) (c : Nat) (l : List MeshRow) : (s.setDeliv c l).pending = s.pending := rfl
@[simp] theorem State.setDeliv_rd (s : State) (c : Nat) (l : List MeshRow) (a : Nat) : (s.setDeliv c l).rd a = s.rd a := rfl
@[simp] theorem State.setDeliv_fld (s : State) (c : Nat) (l : List MeshRow) (reg : Nat) (fl : Fld) : (s.setDeliv c l).fld reg fl = s.fld reg fl := rfl

/-! State.setParked changes mesh alone. -/

@[simp] theorem State.setParked_regs (s : State) (c : Nat) (l : List MeshRow) : (s.setParked c l).regs = s.regs := rfl
@[simp] theorem State.setParked_latches (s : State) (c : Nat) (l : List MeshRow) : (s.setParked c l).latches = s.latches := rfl
@[simp] theorem State.setParked_core (s : State) (c : Nat) (l : List MeshRow) : (s.setParked c l).core = s.core := rfl
@[simp] theorem State.setParked_hbm (s : State) (c : Nat) (l : List MeshRow) : (s.setParked c l).hbm = s.hbm := rfl
@[simp] theorem State.setParked_srv (s : State) (c : Nat) (l : List MeshRow) : (s.setParked c l).srv = s.srv := rfl
@[simp] theorem State.setParked_lnk (s : State) (c : Nat) (l : List MeshRow) : (s.setParked c l).lnk = s.lnk := rfl
@[simp] theorem State.setParked_wts (s : State) (c : Nat) (l : List MeshRow) : (s.setParked c l).wts = s.wts := rfl
@[simp] theorem State.setParked_boot (s : State) (c : Nat) (l : List MeshRow) : (s.setParked c l).boot = s.boot := rfl
@[simp] theorem State.setParked_clk (s : State) (c : Nat) (l : List MeshRow) : (s.setParked c l).clk = s.clk := rfl
@[simp] theorem State.setParked_pwr (s : State) (c : Nat) (l : List MeshRow) : (s.setParked c l).pwr = s.pwr := rfl
@[simp] theorem State.setParked_thm (s : State) (c : Nat) (l : List MeshRow) : (s.setParked c l).thm = s.thm := rfl
@[simp] theorem State.setParked_log (s : State) (c : Nat) (l : List MeshRow) : (s.setParked c l).log = s.log := rfl
@[simp] theorem State.setParked_sec (s : State) (c : Nat) (l : List MeshRow) : (s.setParked c l).sec = s.sec := rfl
@[simp] theorem State.setParked_mgmt (s : State) (c : Nat) (l : List MeshRow) : (s.setParked c l).mgmt = s.mgmt := rfl
@[simp] theorem State.setParked_host (s : State) (c : Nat) (l : List MeshRow) : (s.setParked c l).host = s.host := rfl
@[simp] theorem State.setParked_free (s : State) (c : Nat) (l : List MeshRow) : (s.setParked c l).free = s.free := rfl
@[simp] theorem State.setParked_pending (s : State) (c : Nat) (l : List MeshRow) : (s.setParked c l).pending = s.pending := rfl
@[simp] theorem State.setParked_rd (s : State) (c : Nat) (l : List MeshRow) (a : Nat) : (s.setParked c l).rd a = s.rd a := rfl
@[simp] theorem State.setParked_fld (s : State) (c : Nat) (l : List MeshRow) (reg : Nat) (fl : Fld) : (s.setParked c l).fld reg fl = s.fld reg fl := rfl

/-! State.setSlots changes mesh alone. -/

@[simp] theorem State.setSlots_regs (s : State) (c : Nat) (l : List RedSlot) : (s.setSlots c l).regs = s.regs := rfl
@[simp] theorem State.setSlots_latches (s : State) (c : Nat) (l : List RedSlot) : (s.setSlots c l).latches = s.latches := rfl
@[simp] theorem State.setSlots_core (s : State) (c : Nat) (l : List RedSlot) : (s.setSlots c l).core = s.core := rfl
@[simp] theorem State.setSlots_hbm (s : State) (c : Nat) (l : List RedSlot) : (s.setSlots c l).hbm = s.hbm := rfl
@[simp] theorem State.setSlots_srv (s : State) (c : Nat) (l : List RedSlot) : (s.setSlots c l).srv = s.srv := rfl
@[simp] theorem State.setSlots_lnk (s : State) (c : Nat) (l : List RedSlot) : (s.setSlots c l).lnk = s.lnk := rfl
@[simp] theorem State.setSlots_wts (s : State) (c : Nat) (l : List RedSlot) : (s.setSlots c l).wts = s.wts := rfl
@[simp] theorem State.setSlots_boot (s : State) (c : Nat) (l : List RedSlot) : (s.setSlots c l).boot = s.boot := rfl
@[simp] theorem State.setSlots_clk (s : State) (c : Nat) (l : List RedSlot) : (s.setSlots c l).clk = s.clk := rfl
@[simp] theorem State.setSlots_pwr (s : State) (c : Nat) (l : List RedSlot) : (s.setSlots c l).pwr = s.pwr := rfl
@[simp] theorem State.setSlots_thm (s : State) (c : Nat) (l : List RedSlot) : (s.setSlots c l).thm = s.thm := rfl
@[simp] theorem State.setSlots_log (s : State) (c : Nat) (l : List RedSlot) : (s.setSlots c l).log = s.log := rfl
@[simp] theorem State.setSlots_sec (s : State) (c : Nat) (l : List RedSlot) : (s.setSlots c l).sec = s.sec := rfl
@[simp] theorem State.setSlots_mgmt (s : State) (c : Nat) (l : List RedSlot) : (s.setSlots c l).mgmt = s.mgmt := rfl
@[simp] theorem State.setSlots_host (s : State) (c : Nat) (l : List RedSlot) : (s.setSlots c l).host = s.host := rfl
@[simp] theorem State.setSlots_free (s : State) (c : Nat) (l : List RedSlot) : (s.setSlots c l).free = s.free := rfl
@[simp] theorem State.setSlots_pending (s : State) (c : Nat) (l : List RedSlot) : (s.setSlots c l).pending = s.pending := rfl
@[simp] theorem State.setSlots_rd (s : State) (c : Nat) (l : List RedSlot) (a : Nat) : (s.setSlots c l).rd a = s.rd a := rfl
@[simp] theorem State.setSlots_fld (s : State) (c : Nat) (l : List RedSlot) (reg : Nat) (fl : Fld) : (s.setSlots c l).fld reg fl = s.fld reg fl := rfl

/-! State.setRoot changes mesh alone. -/

@[simp] theorem State.setRoot_regs (s : State) (p : Nat) (x : RootPart) : (s.setRoot p x).regs = s.regs := rfl
@[simp] theorem State.setRoot_latches (s : State) (p : Nat) (x : RootPart) : (s.setRoot p x).latches = s.latches := rfl
@[simp] theorem State.setRoot_core (s : State) (p : Nat) (x : RootPart) : (s.setRoot p x).core = s.core := rfl
@[simp] theorem State.setRoot_hbm (s : State) (p : Nat) (x : RootPart) : (s.setRoot p x).hbm = s.hbm := rfl
@[simp] theorem State.setRoot_srv (s : State) (p : Nat) (x : RootPart) : (s.setRoot p x).srv = s.srv := rfl
@[simp] theorem State.setRoot_lnk (s : State) (p : Nat) (x : RootPart) : (s.setRoot p x).lnk = s.lnk := rfl
@[simp] theorem State.setRoot_wts (s : State) (p : Nat) (x : RootPart) : (s.setRoot p x).wts = s.wts := rfl
@[simp] theorem State.setRoot_boot (s : State) (p : Nat) (x : RootPart) : (s.setRoot p x).boot = s.boot := rfl
@[simp] theorem State.setRoot_clk (s : State) (p : Nat) (x : RootPart) : (s.setRoot p x).clk = s.clk := rfl
@[simp] theorem State.setRoot_pwr (s : State) (p : Nat) (x : RootPart) : (s.setRoot p x).pwr = s.pwr := rfl
@[simp] theorem State.setRoot_thm (s : State) (p : Nat) (x : RootPart) : (s.setRoot p x).thm = s.thm := rfl
@[simp] theorem State.setRoot_log (s : State) (p : Nat) (x : RootPart) : (s.setRoot p x).log = s.log := rfl
@[simp] theorem State.setRoot_sec (s : State) (p : Nat) (x : RootPart) : (s.setRoot p x).sec = s.sec := rfl
@[simp] theorem State.setRoot_mgmt (s : State) (p : Nat) (x : RootPart) : (s.setRoot p x).mgmt = s.mgmt := rfl
@[simp] theorem State.setRoot_host (s : State) (p : Nat) (x : RootPart) : (s.setRoot p x).host = s.host := rfl
@[simp] theorem State.setRoot_free (s : State) (p : Nat) (x : RootPart) : (s.setRoot p x).free = s.free := rfl
@[simp] theorem State.setRoot_pending (s : State) (p : Nat) (x : RootPart) : (s.setRoot p x).pending = s.pending := rfl
@[simp] theorem State.setRoot_rd (s : State) (p : Nat) (x : RootPart) (a : Nat) : (s.setRoot p x).rd a = s.rd a := rfl
@[simp] theorem State.setRoot_fld (s : State) (p : Nat) (x : RootPart) (reg : Nat) (fl : Fld) : (s.setRoot p x).fld reg fl = s.fld reg fl := rfl

/-! State.setRecl changes mesh alone. -/

@[simp] theorem State.setRecl_regs (s : State) (p : Nat) (x : Reclaim) : (s.setRecl p x).regs = s.regs := rfl
@[simp] theorem State.setRecl_latches (s : State) (p : Nat) (x : Reclaim) : (s.setRecl p x).latches = s.latches := rfl
@[simp] theorem State.setRecl_core (s : State) (p : Nat) (x : Reclaim) : (s.setRecl p x).core = s.core := rfl
@[simp] theorem State.setRecl_hbm (s : State) (p : Nat) (x : Reclaim) : (s.setRecl p x).hbm = s.hbm := rfl
@[simp] theorem State.setRecl_srv (s : State) (p : Nat) (x : Reclaim) : (s.setRecl p x).srv = s.srv := rfl
@[simp] theorem State.setRecl_lnk (s : State) (p : Nat) (x : Reclaim) : (s.setRecl p x).lnk = s.lnk := rfl
@[simp] theorem State.setRecl_wts (s : State) (p : Nat) (x : Reclaim) : (s.setRecl p x).wts = s.wts := rfl
@[simp] theorem State.setRecl_boot (s : State) (p : Nat) (x : Reclaim) : (s.setRecl p x).boot = s.boot := rfl
@[simp] theorem State.setRecl_clk (s : State) (p : Nat) (x : Reclaim) : (s.setRecl p x).clk = s.clk := rfl
@[simp] theorem State.setRecl_pwr (s : State) (p : Nat) (x : Reclaim) : (s.setRecl p x).pwr = s.pwr := rfl
@[simp] theorem State.setRecl_thm (s : State) (p : Nat) (x : Reclaim) : (s.setRecl p x).thm = s.thm := rfl
@[simp] theorem State.setRecl_log (s : State) (p : Nat) (x : Reclaim) : (s.setRecl p x).log = s.log := rfl
@[simp] theorem State.setRecl_sec (s : State) (p : Nat) (x : Reclaim) : (s.setRecl p x).sec = s.sec := rfl
@[simp] theorem State.setRecl_mgmt (s : State) (p : Nat) (x : Reclaim) : (s.setRecl p x).mgmt = s.mgmt := rfl
@[simp] theorem State.setRecl_host (s : State) (p : Nat) (x : Reclaim) : (s.setRecl p x).host = s.host := rfl
@[simp] theorem State.setRecl_free (s : State) (p : Nat) (x : Reclaim) : (s.setRecl p x).free = s.free := rfl
@[simp] theorem State.setRecl_pending (s : State) (p : Nat) (x : Reclaim) : (s.setRecl p x).pending = s.pending := rfl
@[simp] theorem State.setRecl_rd (s : State) (p : Nat) (x : Reclaim) (a : Nat) : (s.setRecl p x).rd a = s.rd a := rfl
@[simp] theorem State.setRecl_fld (s : State) (p : Nat) (x : Reclaim) (reg : Nat) (fl : Fld) : (s.setRecl p x).fld reg fl = s.fld reg fl := rfl

/-! State.setPort changes lnk alone. -/

@[simp] theorem State.setPort_regs (s : State) (i : Nat) (x : Port) : (s.setPort i x).regs = s.regs := rfl
@[simp] theorem State.setPort_latches (s : State) (i : Nat) (x : Port) : (s.setPort i x).latches = s.latches := rfl
@[simp] theorem State.setPort_core (s : State) (i : Nat) (x : Port) : (s.setPort i x).core = s.core := rfl
@[simp] theorem State.setPort_mesh (s : State) (i : Nat) (x : Port) : (s.setPort i x).mesh = s.mesh := rfl
@[simp] theorem State.setPort_hbm (s : State) (i : Nat) (x : Port) : (s.setPort i x).hbm = s.hbm := rfl
@[simp] theorem State.setPort_srv (s : State) (i : Nat) (x : Port) : (s.setPort i x).srv = s.srv := rfl
@[simp] theorem State.setPort_wts (s : State) (i : Nat) (x : Port) : (s.setPort i x).wts = s.wts := rfl
@[simp] theorem State.setPort_boot (s : State) (i : Nat) (x : Port) : (s.setPort i x).boot = s.boot := rfl
@[simp] theorem State.setPort_clk (s : State) (i : Nat) (x : Port) : (s.setPort i x).clk = s.clk := rfl
@[simp] theorem State.setPort_pwr (s : State) (i : Nat) (x : Port) : (s.setPort i x).pwr = s.pwr := rfl
@[simp] theorem State.setPort_thm (s : State) (i : Nat) (x : Port) : (s.setPort i x).thm = s.thm := rfl
@[simp] theorem State.setPort_log (s : State) (i : Nat) (x : Port) : (s.setPort i x).log = s.log := rfl
@[simp] theorem State.setPort_sec (s : State) (i : Nat) (x : Port) : (s.setPort i x).sec = s.sec := rfl
@[simp] theorem State.setPort_mgmt (s : State) (i : Nat) (x : Port) : (s.setPort i x).mgmt = s.mgmt := rfl
@[simp] theorem State.setPort_host (s : State) (i : Nat) (x : Port) : (s.setPort i x).host = s.host := rfl
@[simp] theorem State.setPort_free (s : State) (i : Nat) (x : Port) : (s.setPort i x).free = s.free := rfl
@[simp] theorem State.setPort_pending (s : State) (i : Nat) (x : Port) : (s.setPort i x).pending = s.pending := rfl
@[simp] theorem State.setPort_rd (s : State) (i : Nat) (x : Port) (a : Nat) : (s.setPort i x).rd a = s.rd a := rfl
@[simp] theorem State.setPort_fld (s : State) (i : Nat) (x : Port) (reg : Nat) (fl : Fld) : (s.setPort i x).fld reg fl = s.fld reg fl := rfl

/-! State.setCredit changes mesh alone. -/

@[simp] theorem State.setCredit_regs (s : State) (r o vc n : Nat) : (s.setCredit r o vc n).regs = s.regs := rfl
@[simp] theorem State.setCredit_latches (s : State) (r o vc n : Nat) : (s.setCredit r o vc n).latches = s.latches := rfl
@[simp] theorem State.setCredit_core (s : State) (r o vc n : Nat) : (s.setCredit r o vc n).core = s.core := rfl
@[simp] theorem State.setCredit_hbm (s : State) (r o vc n : Nat) : (s.setCredit r o vc n).hbm = s.hbm := rfl
@[simp] theorem State.setCredit_srv (s : State) (r o vc n : Nat) : (s.setCredit r o vc n).srv = s.srv := rfl
@[simp] theorem State.setCredit_lnk (s : State) (r o vc n : Nat) : (s.setCredit r o vc n).lnk = s.lnk := rfl
@[simp] theorem State.setCredit_wts (s : State) (r o vc n : Nat) : (s.setCredit r o vc n).wts = s.wts := rfl
@[simp] theorem State.setCredit_boot (s : State) (r o vc n : Nat) : (s.setCredit r o vc n).boot = s.boot := rfl
@[simp] theorem State.setCredit_clk (s : State) (r o vc n : Nat) : (s.setCredit r o vc n).clk = s.clk := rfl
@[simp] theorem State.setCredit_pwr (s : State) (r o vc n : Nat) : (s.setCredit r o vc n).pwr = s.pwr := rfl
@[simp] theorem State.setCredit_thm (s : State) (r o vc n : Nat) : (s.setCredit r o vc n).thm = s.thm := rfl
@[simp] theorem State.setCredit_log (s : State) (r o vc n : Nat) : (s.setCredit r o vc n).log = s.log := rfl
@[simp] theorem State.setCredit_sec (s : State) (r o vc n : Nat) : (s.setCredit r o vc n).sec = s.sec := rfl
@[simp] theorem State.setCredit_mgmt (s : State) (r o vc n : Nat) : (s.setCredit r o vc n).mgmt = s.mgmt := rfl
@[simp] theorem State.setCredit_host (s : State) (r o vc n : Nat) : (s.setCredit r o vc n).host = s.host := rfl
@[simp] theorem State.setCredit_free (s : State) (r o vc n : Nat) : (s.setCredit r o vc n).free = s.free := rfl
@[simp] theorem State.setCredit_pending (s : State) (r o vc n : Nat) : (s.setCredit r o vc n).pending = s.pending := rfl
@[simp] theorem State.setCredit_rd (s : State) (r o vc n : Nat) (a : Nat) : (s.setCredit r o vc n).rd a = s.rd a := rfl
@[simp] theorem State.setCredit_fld (s : State) (r o vc n : Nat) (reg : Nat) (fl : Fld) : (s.setCredit r o vc n).fld reg fl = s.fld reg fl := rfl

/-! State.setJpart changes wts alone. -/

@[simp] theorem State.setJpart_regs (s : State) (p : Nat) (j : JPart) : (s.setJpart p j).regs = s.regs := rfl
@[simp] theorem State.setJpart_latches (s : State) (p : Nat) (j : JPart) : (s.setJpart p j).latches = s.latches := rfl
@[simp] theorem State.setJpart_core (s : State) (p : Nat) (j : JPart) : (s.setJpart p j).core = s.core := rfl
@[simp] theorem State.setJpart_mesh (s : State) (p : Nat) (j : JPart) : (s.setJpart p j).mesh = s.mesh := rfl
@[simp] theorem State.setJpart_hbm (s : State) (p : Nat) (j : JPart) : (s.setJpart p j).hbm = s.hbm := rfl
@[simp] theorem State.setJpart_srv (s : State) (p : Nat) (j : JPart) : (s.setJpart p j).srv = s.srv := rfl
@[simp] theorem State.setJpart_lnk (s : State) (p : Nat) (j : JPart) : (s.setJpart p j).lnk = s.lnk := rfl
@[simp] theorem State.setJpart_boot (s : State) (p : Nat) (j : JPart) : (s.setJpart p j).boot = s.boot := rfl
@[simp] theorem State.setJpart_clk (s : State) (p : Nat) (j : JPart) : (s.setJpart p j).clk = s.clk := rfl
@[simp] theorem State.setJpart_pwr (s : State) (p : Nat) (j : JPart) : (s.setJpart p j).pwr = s.pwr := rfl
@[simp] theorem State.setJpart_thm (s : State) (p : Nat) (j : JPart) : (s.setJpart p j).thm = s.thm := rfl
@[simp] theorem State.setJpart_log (s : State) (p : Nat) (j : JPart) : (s.setJpart p j).log = s.log := rfl
@[simp] theorem State.setJpart_sec (s : State) (p : Nat) (j : JPart) : (s.setJpart p j).sec = s.sec := rfl
@[simp] theorem State.setJpart_mgmt (s : State) (p : Nat) (j : JPart) : (s.setJpart p j).mgmt = s.mgmt := rfl
@[simp] theorem State.setJpart_host (s : State) (p : Nat) (j : JPart) : (s.setJpart p j).host = s.host := rfl
@[simp] theorem State.setJpart_free (s : State) (p : Nat) (j : JPart) : (s.setJpart p j).free = s.free := rfl
@[simp] theorem State.setJpart_pending (s : State) (p : Nat) (j : JPart) : (s.setJpart p j).pending = s.pending := rfl
@[simp] theorem State.setJpart_rd (s : State) (p : Nat) (j : JPart) (a : Nat) : (s.setJpart p j).rd a = s.rd a := rfl
@[simp] theorem State.setJpart_fld (s : State) (p : Nat) (j : JPart) (reg : Nat) (fl : Fld) : (s.setJpart p j).fld reg fl = s.fld reg fl := rfl

/-! State.setJtile changes wts alone. -/

@[simp] theorem State.setJtile_regs (s : State) (key p v : Nat) : (s.setJtile key p v).regs = s.regs := rfl
@[simp] theorem State.setJtile_latches (s : State) (key p v : Nat) : (s.setJtile key p v).latches = s.latches := rfl
@[simp] theorem State.setJtile_core (s : State) (key p v : Nat) : (s.setJtile key p v).core = s.core := rfl
@[simp] theorem State.setJtile_mesh (s : State) (key p v : Nat) : (s.setJtile key p v).mesh = s.mesh := rfl
@[simp] theorem State.setJtile_hbm (s : State) (key p v : Nat) : (s.setJtile key p v).hbm = s.hbm := rfl
@[simp] theorem State.setJtile_srv (s : State) (key p v : Nat) : (s.setJtile key p v).srv = s.srv := rfl
@[simp] theorem State.setJtile_lnk (s : State) (key p v : Nat) : (s.setJtile key p v).lnk = s.lnk := rfl
@[simp] theorem State.setJtile_boot (s : State) (key p v : Nat) : (s.setJtile key p v).boot = s.boot := rfl
@[simp] theorem State.setJtile_clk (s : State) (key p v : Nat) : (s.setJtile key p v).clk = s.clk := rfl
@[simp] theorem State.setJtile_pwr (s : State) (key p v : Nat) : (s.setJtile key p v).pwr = s.pwr := rfl
@[simp] theorem State.setJtile_thm (s : State) (key p v : Nat) : (s.setJtile key p v).thm = s.thm := rfl
@[simp] theorem State.setJtile_log (s : State) (key p v : Nat) : (s.setJtile key p v).log = s.log := rfl
@[simp] theorem State.setJtile_sec (s : State) (key p v : Nat) : (s.setJtile key p v).sec = s.sec := rfl
@[simp] theorem State.setJtile_mgmt (s : State) (key p v : Nat) : (s.setJtile key p v).mgmt = s.mgmt := rfl
@[simp] theorem State.setJtile_host (s : State) (key p v : Nat) : (s.setJtile key p v).host = s.host := rfl
@[simp] theorem State.setJtile_free (s : State) (key p v : Nat) : (s.setJtile key p v).free = s.free := rfl
@[simp] theorem State.setJtile_pending (s : State) (key p v : Nat) : (s.setJtile key p v).pending = s.pending := rfl
@[simp] theorem State.setJtile_rd (s : State) (key p v : Nat) (a : Nat) : (s.setJtile key p v).rd a = s.rd a := rfl
@[simp] theorem State.setJtile_fld (s : State) (key p v : Nat) (reg : Nat) (fl : Fld) : (s.setJtile key p v).fld reg fl = s.fld reg fl := rfl

/-! State.setColWin changes core alone. -/

@[simp] theorem State.setColWin_regs (s : State) (k t c : Nat) (x : ColWin) : (s.setColWin k t c x).regs = s.regs := rfl
@[simp] theorem State.setColWin_latches (s : State) (k t c : Nat) (x : ColWin) : (s.setColWin k t c x).latches = s.latches := rfl
@[simp] theorem State.setColWin_mesh (s : State) (k t c : Nat) (x : ColWin) : (s.setColWin k t c x).mesh = s.mesh := rfl
@[simp] theorem State.setColWin_hbm (s : State) (k t c : Nat) (x : ColWin) : (s.setColWin k t c x).hbm = s.hbm := rfl
@[simp] theorem State.setColWin_srv (s : State) (k t c : Nat) (x : ColWin) : (s.setColWin k t c x).srv = s.srv := rfl
@[simp] theorem State.setColWin_lnk (s : State) (k t c : Nat) (x : ColWin) : (s.setColWin k t c x).lnk = s.lnk := rfl
@[simp] theorem State.setColWin_wts (s : State) (k t c : Nat) (x : ColWin) : (s.setColWin k t c x).wts = s.wts := rfl
@[simp] theorem State.setColWin_boot (s : State) (k t c : Nat) (x : ColWin) : (s.setColWin k t c x).boot = s.boot := rfl
@[simp] theorem State.setColWin_clk (s : State) (k t c : Nat) (x : ColWin) : (s.setColWin k t c x).clk = s.clk := rfl
@[simp] theorem State.setColWin_pwr (s : State) (k t c : Nat) (x : ColWin) : (s.setColWin k t c x).pwr = s.pwr := rfl
@[simp] theorem State.setColWin_thm (s : State) (k t c : Nat) (x : ColWin) : (s.setColWin k t c x).thm = s.thm := rfl
@[simp] theorem State.setColWin_log (s : State) (k t c : Nat) (x : ColWin) : (s.setColWin k t c x).log = s.log := rfl
@[simp] theorem State.setColWin_sec (s : State) (k t c : Nat) (x : ColWin) : (s.setColWin k t c x).sec = s.sec := rfl
@[simp] theorem State.setColWin_mgmt (s : State) (k t c : Nat) (x : ColWin) : (s.setColWin k t c x).mgmt = s.mgmt := rfl
@[simp] theorem State.setColWin_host (s : State) (k t c : Nat) (x : ColWin) : (s.setColWin k t c x).host = s.host := rfl
@[simp] theorem State.setColWin_free (s : State) (k t c : Nat) (x : ColWin) : (s.setColWin k t c x).free = s.free := rfl
@[simp] theorem State.setColWin_pending (s : State) (k t c : Nat) (x : ColWin) : (s.setColWin k t c x).pending = s.pending := rfl
@[simp] theorem State.setColWin_rd (s : State) (k t c : Nat) (x : ColWin) (a : Nat) : (s.setColWin k t c x).rd a = s.rd a := rfl
@[simp] theorem State.setColWin_fld (s : State) (k t c : Nat) (x : ColWin) (reg : Nat) (fl : Fld) : (s.setColWin k t c x).fld reg fl = s.fld reg fl := rfl

/-! State.setShelfRow changes core alone. -/

@[simp] theorem State.setShelfRow_regs (s : State) (k r : Nat) (x : ShelfRow) : (s.setShelfRow k r x).regs = s.regs := rfl
@[simp] theorem State.setShelfRow_latches (s : State) (k r : Nat) (x : ShelfRow) : (s.setShelfRow k r x).latches = s.latches := rfl
@[simp] theorem State.setShelfRow_mesh (s : State) (k r : Nat) (x : ShelfRow) : (s.setShelfRow k r x).mesh = s.mesh := rfl
@[simp] theorem State.setShelfRow_hbm (s : State) (k r : Nat) (x : ShelfRow) : (s.setShelfRow k r x).hbm = s.hbm := rfl
@[simp] theorem State.setShelfRow_srv (s : State) (k r : Nat) (x : ShelfRow) : (s.setShelfRow k r x).srv = s.srv := rfl
@[simp] theorem State.setShelfRow_lnk (s : State) (k r : Nat) (x : ShelfRow) : (s.setShelfRow k r x).lnk = s.lnk := rfl
@[simp] theorem State.setShelfRow_wts (s : State) (k r : Nat) (x : ShelfRow) : (s.setShelfRow k r x).wts = s.wts := rfl
@[simp] theorem State.setShelfRow_boot (s : State) (k r : Nat) (x : ShelfRow) : (s.setShelfRow k r x).boot = s.boot := rfl
@[simp] theorem State.setShelfRow_clk (s : State) (k r : Nat) (x : ShelfRow) : (s.setShelfRow k r x).clk = s.clk := rfl
@[simp] theorem State.setShelfRow_pwr (s : State) (k r : Nat) (x : ShelfRow) : (s.setShelfRow k r x).pwr = s.pwr := rfl
@[simp] theorem State.setShelfRow_thm (s : State) (k r : Nat) (x : ShelfRow) : (s.setShelfRow k r x).thm = s.thm := rfl
@[simp] theorem State.setShelfRow_log (s : State) (k r : Nat) (x : ShelfRow) : (s.setShelfRow k r x).log = s.log := rfl
@[simp] theorem State.setShelfRow_sec (s : State) (k r : Nat) (x : ShelfRow) : (s.setShelfRow k r x).sec = s.sec := rfl
@[simp] theorem State.setShelfRow_mgmt (s : State) (k r : Nat) (x : ShelfRow) : (s.setShelfRow k r x).mgmt = s.mgmt := rfl
@[simp] theorem State.setShelfRow_host (s : State) (k r : Nat) (x : ShelfRow) : (s.setShelfRow k r x).host = s.host := rfl
@[simp] theorem State.setShelfRow_free (s : State) (k r : Nat) (x : ShelfRow) : (s.setShelfRow k r x).free = s.free := rfl
@[simp] theorem State.setShelfRow_pending (s : State) (k r : Nat) (x : ShelfRow) : (s.setShelfRow k r x).pending = s.pending := rfl
@[simp] theorem State.setShelfRow_rd (s : State) (k r : Nat) (x : ShelfRow) (a : Nat) : (s.setShelfRow k r x).rd a = s.rd a := rfl
@[simp] theorem State.setShelfRow_fld (s : State) (k r : Nat) (x : ShelfRow) (reg : Nat) (fl : Fld) : (s.setShelfRow k r x).fld reg fl = s.fld reg fl := rfl

/-! State.setWaiters changes core alone. -/

@[simp] theorem State.setWaiters_regs (s : State) (k r : Nat) (l : List (Nat × Bool)) : (s.setWaiters k r l).regs = s.regs := rfl
@[simp] theorem State.setWaiters_latches (s : State) (k r : Nat) (l : List (Nat × Bool)) : (s.setWaiters k r l).latches = s.latches := rfl
@[simp] theorem State.setWaiters_mesh (s : State) (k r : Nat) (l : List (Nat × Bool)) : (s.setWaiters k r l).mesh = s.mesh := rfl
@[simp] theorem State.setWaiters_hbm (s : State) (k r : Nat) (l : List (Nat × Bool)) : (s.setWaiters k r l).hbm = s.hbm := rfl
@[simp] theorem State.setWaiters_srv (s : State) (k r : Nat) (l : List (Nat × Bool)) : (s.setWaiters k r l).srv = s.srv := rfl
@[simp] theorem State.setWaiters_lnk (s : State) (k r : Nat) (l : List (Nat × Bool)) : (s.setWaiters k r l).lnk = s.lnk := rfl
@[simp] theorem State.setWaiters_wts (s : State) (k r : Nat) (l : List (Nat × Bool)) : (s.setWaiters k r l).wts = s.wts := rfl
@[simp] theorem State.setWaiters_boot (s : State) (k r : Nat) (l : List (Nat × Bool)) : (s.setWaiters k r l).boot = s.boot := rfl
@[simp] theorem State.setWaiters_clk (s : State) (k r : Nat) (l : List (Nat × Bool)) : (s.setWaiters k r l).clk = s.clk := rfl
@[simp] theorem State.setWaiters_pwr (s : State) (k r : Nat) (l : List (Nat × Bool)) : (s.setWaiters k r l).pwr = s.pwr := rfl
@[simp] theorem State.setWaiters_thm (s : State) (k r : Nat) (l : List (Nat × Bool)) : (s.setWaiters k r l).thm = s.thm := rfl
@[simp] theorem State.setWaiters_log (s : State) (k r : Nat) (l : List (Nat × Bool)) : (s.setWaiters k r l).log = s.log := rfl
@[simp] theorem State.setWaiters_sec (s : State) (k r : Nat) (l : List (Nat × Bool)) : (s.setWaiters k r l).sec = s.sec := rfl
@[simp] theorem State.setWaiters_mgmt (s : State) (k r : Nat) (l : List (Nat × Bool)) : (s.setWaiters k r l).mgmt = s.mgmt := rfl
@[simp] theorem State.setWaiters_host (s : State) (k r : Nat) (l : List (Nat × Bool)) : (s.setWaiters k r l).host = s.host := rfl
@[simp] theorem State.setWaiters_free (s : State) (k r : Nat) (l : List (Nat × Bool)) : (s.setWaiters k r l).free = s.free := rfl
@[simp] theorem State.setWaiters_pending (s : State) (k r : Nat) (l : List (Nat × Bool)) : (s.setWaiters k r l).pending = s.pending := rfl
@[simp] theorem State.setWaiters_rd (s : State) (k r : Nat) (l : List (Nat × Bool)) (a : Nat) : (s.setWaiters k r l).rd a = s.rd a := rfl
@[simp] theorem State.setWaiters_fld (s : State) (k r : Nat) (l : List (Nat × Bool)) (reg : Nat) (fl : Fld) : (s.setWaiters k r l).fld reg fl = s.fld reg fl := rfl

/-! State.dropReqs changes hbm alone. -/

@[simp] theorem State.dropReqs_regs (s : State) (k q id : Nat) : (s.dropReqs k q id).regs = s.regs := rfl
@[simp] theorem State.dropReqs_latches (s : State) (k q id : Nat) : (s.dropReqs k q id).latches = s.latches := rfl
@[simp] theorem State.dropReqs_core (s : State) (k q id : Nat) : (s.dropReqs k q id).core = s.core := rfl
@[simp] theorem State.dropReqs_mesh (s : State) (k q id : Nat) : (s.dropReqs k q id).mesh = s.mesh := rfl
@[simp] theorem State.dropReqs_srv (s : State) (k q id : Nat) : (s.dropReqs k q id).srv = s.srv := rfl
@[simp] theorem State.dropReqs_lnk (s : State) (k q id : Nat) : (s.dropReqs k q id).lnk = s.lnk := rfl
@[simp] theorem State.dropReqs_wts (s : State) (k q id : Nat) : (s.dropReqs k q id).wts = s.wts := rfl
@[simp] theorem State.dropReqs_boot (s : State) (k q id : Nat) : (s.dropReqs k q id).boot = s.boot := rfl
@[simp] theorem State.dropReqs_clk (s : State) (k q id : Nat) : (s.dropReqs k q id).clk = s.clk := rfl
@[simp] theorem State.dropReqs_pwr (s : State) (k q id : Nat) : (s.dropReqs k q id).pwr = s.pwr := rfl
@[simp] theorem State.dropReqs_thm (s : State) (k q id : Nat) : (s.dropReqs k q id).thm = s.thm := rfl
@[simp] theorem State.dropReqs_log (s : State) (k q id : Nat) : (s.dropReqs k q id).log = s.log := rfl
@[simp] theorem State.dropReqs_sec (s : State) (k q id : Nat) : (s.dropReqs k q id).sec = s.sec := rfl
@[simp] theorem State.dropReqs_mgmt (s : State) (k q id : Nat) : (s.dropReqs k q id).mgmt = s.mgmt := rfl
@[simp] theorem State.dropReqs_host (s : State) (k q id : Nat) : (s.dropReqs k q id).host = s.host := rfl
@[simp] theorem State.dropReqs_free (s : State) (k q id : Nat) : (s.dropReqs k q id).free = s.free := rfl
@[simp] theorem State.dropReqs_pending (s : State) (k q id : Nat) : (s.dropReqs k q id).pending = s.pending := rfl
@[simp] theorem State.dropReqs_rd (s : State) (k q id : Nat) (a : Nat) : (s.dropReqs k q id).rd a = s.rd a := rfl
@[simp] theorem State.dropReqs_fld (s : State) (k q id : Nat) (reg : Nat) (fl : Fld) : (s.dropReqs k q id).fld reg fl = s.fld reg fl := rfl

/-! State.setInputQ changes mesh alone. -/

@[simp] theorem State.setInputQ_regs (s : State) (r i vc : Nat) (l : List MeshRow) : (s.setInputQ r i vc l).regs = s.regs := rfl
@[simp] theorem State.setInputQ_latches (s : State) (r i vc : Nat) (l : List MeshRow) : (s.setInputQ r i vc l).latches = s.latches := rfl
@[simp] theorem State.setInputQ_core (s : State) (r i vc : Nat) (l : List MeshRow) : (s.setInputQ r i vc l).core = s.core := rfl
@[simp] theorem State.setInputQ_hbm (s : State) (r i vc : Nat) (l : List MeshRow) : (s.setInputQ r i vc l).hbm = s.hbm := rfl
@[simp] theorem State.setInputQ_srv (s : State) (r i vc : Nat) (l : List MeshRow) : (s.setInputQ r i vc l).srv = s.srv := rfl
@[simp] theorem State.setInputQ_lnk (s : State) (r i vc : Nat) (l : List MeshRow) : (s.setInputQ r i vc l).lnk = s.lnk := rfl
@[simp] theorem State.setInputQ_wts (s : State) (r i vc : Nat) (l : List MeshRow) : (s.setInputQ r i vc l).wts = s.wts := rfl
@[simp] theorem State.setInputQ_boot (s : State) (r i vc : Nat) (l : List MeshRow) : (s.setInputQ r i vc l).boot = s.boot := rfl
@[simp] theorem State.setInputQ_clk (s : State) (r i vc : Nat) (l : List MeshRow) : (s.setInputQ r i vc l).clk = s.clk := rfl
@[simp] theorem State.setInputQ_pwr (s : State) (r i vc : Nat) (l : List MeshRow) : (s.setInputQ r i vc l).pwr = s.pwr := rfl
@[simp] theorem State.setInputQ_thm (s : State) (r i vc : Nat) (l : List MeshRow) : (s.setInputQ r i vc l).thm = s.thm := rfl
@[simp] theorem State.setInputQ_log (s : State) (r i vc : Nat) (l : List MeshRow) : (s.setInputQ r i vc l).log = s.log := rfl
@[simp] theorem State.setInputQ_sec (s : State) (r i vc : Nat) (l : List MeshRow) : (s.setInputQ r i vc l).sec = s.sec := rfl
@[simp] theorem State.setInputQ_mgmt (s : State) (r i vc : Nat) (l : List MeshRow) : (s.setInputQ r i vc l).mgmt = s.mgmt := rfl
@[simp] theorem State.setInputQ_host (s : State) (r i vc : Nat) (l : List MeshRow) : (s.setInputQ r i vc l).host = s.host := rfl
@[simp] theorem State.setInputQ_free (s : State) (r i vc : Nat) (l : List MeshRow) : (s.setInputQ r i vc l).free = s.free := rfl
@[simp] theorem State.setInputQ_pending (s : State) (r i vc : Nat) (l : List MeshRow) : (s.setInputQ r i vc l).pending = s.pending := rfl
@[simp] theorem State.setInputQ_rd (s : State) (r i vc : Nat) (l : List MeshRow) (a : Nat) : (s.setInputQ r i vc l).rd a = s.rd a := rfl
@[simp] theorem State.setInputQ_fld (s : State) (r i vc : Nat) (l : List MeshRow) (reg : Nat) (fl : Fld) : (s.setInputQ r i vc l).fld reg fl = s.fld reg fl := rfl

/-! State.sentRow changes mesh alone. -/

@[simp] theorem State.sentRow_regs (s : State) (c : Nat) : (s.sentRow c).regs = s.regs := rfl
@[simp] theorem State.sentRow_latches (s : State) (c : Nat) : (s.sentRow c).latches = s.latches := rfl
@[simp] theorem State.sentRow_core (s : State) (c : Nat) : (s.sentRow c).core = s.core := rfl
@[simp] theorem State.sentRow_hbm (s : State) (c : Nat) : (s.sentRow c).hbm = s.hbm := rfl
@[simp] theorem State.sentRow_srv (s : State) (c : Nat) : (s.sentRow c).srv = s.srv := rfl
@[simp] theorem State.sentRow_lnk (s : State) (c : Nat) : (s.sentRow c).lnk = s.lnk := rfl
@[simp] theorem State.sentRow_wts (s : State) (c : Nat) : (s.sentRow c).wts = s.wts := rfl
@[simp] theorem State.sentRow_boot (s : State) (c : Nat) : (s.sentRow c).boot = s.boot := rfl
@[simp] theorem State.sentRow_clk (s : State) (c : Nat) : (s.sentRow c).clk = s.clk := rfl
@[simp] theorem State.sentRow_pwr (s : State) (c : Nat) : (s.sentRow c).pwr = s.pwr := rfl
@[simp] theorem State.sentRow_thm (s : State) (c : Nat) : (s.sentRow c).thm = s.thm := rfl
@[simp] theorem State.sentRow_log (s : State) (c : Nat) : (s.sentRow c).log = s.log := rfl
@[simp] theorem State.sentRow_sec (s : State) (c : Nat) : (s.sentRow c).sec = s.sec := rfl
@[simp] theorem State.sentRow_mgmt (s : State) (c : Nat) : (s.sentRow c).mgmt = s.mgmt := rfl
@[simp] theorem State.sentRow_host (s : State) (c : Nat) : (s.sentRow c).host = s.host := rfl
@[simp] theorem State.sentRow_free (s : State) (c : Nat) : (s.sentRow c).free = s.free := rfl
@[simp] theorem State.sentRow_pending (s : State) (c : Nat) : (s.sentRow c).pending = s.pending := rfl
@[simp] theorem State.sentRow_rd (s : State) (c : Nat) (a : Nat) : (s.sentRow c).rd a = s.rd a := rfl
@[simp] theorem State.sentRow_fld (s : State) (c : Nat) (reg : Nat) (fl : Fld) : (s.sentRow c).fld reg fl = s.fld reg fl := rfl

/-! State.setEvents changes core alone. -/

@[simp] theorem State.setEvents_regs (s : State) (k : Nat) (l : List Nat) : (s.setEvents k l).regs = s.regs := rfl
@[simp] theorem State.setEvents_latches (s : State) (k : Nat) (l : List Nat) : (s.setEvents k l).latches = s.latches := rfl
@[simp] theorem State.setEvents_mesh (s : State) (k : Nat) (l : List Nat) : (s.setEvents k l).mesh = s.mesh := rfl
@[simp] theorem State.setEvents_hbm (s : State) (k : Nat) (l : List Nat) : (s.setEvents k l).hbm = s.hbm := rfl
@[simp] theorem State.setEvents_srv (s : State) (k : Nat) (l : List Nat) : (s.setEvents k l).srv = s.srv := rfl
@[simp] theorem State.setEvents_lnk (s : State) (k : Nat) (l : List Nat) : (s.setEvents k l).lnk = s.lnk := rfl
@[simp] theorem State.setEvents_wts (s : State) (k : Nat) (l : List Nat) : (s.setEvents k l).wts = s.wts := rfl
@[simp] theorem State.setEvents_boot (s : State) (k : Nat) (l : List Nat) : (s.setEvents k l).boot = s.boot := rfl
@[simp] theorem State.setEvents_clk (s : State) (k : Nat) (l : List Nat) : (s.setEvents k l).clk = s.clk := rfl
@[simp] theorem State.setEvents_pwr (s : State) (k : Nat) (l : List Nat) : (s.setEvents k l).pwr = s.pwr := rfl
@[simp] theorem State.setEvents_thm (s : State) (k : Nat) (l : List Nat) : (s.setEvents k l).thm = s.thm := rfl
@[simp] theorem State.setEvents_log (s : State) (k : Nat) (l : List Nat) : (s.setEvents k l).log = s.log := rfl
@[simp] theorem State.setEvents_sec (s : State) (k : Nat) (l : List Nat) : (s.setEvents k l).sec = s.sec := rfl
@[simp] theorem State.setEvents_mgmt (s : State) (k : Nat) (l : List Nat) : (s.setEvents k l).mgmt = s.mgmt := rfl
@[simp] theorem State.setEvents_host (s : State) (k : Nat) (l : List Nat) : (s.setEvents k l).host = s.host := rfl
@[simp] theorem State.setEvents_free (s : State) (k : Nat) (l : List Nat) : (s.setEvents k l).free = s.free := rfl
@[simp] theorem State.setEvents_pending (s : State) (k : Nat) (l : List Nat) : (s.setEvents k l).pending = s.pending := rfl
@[simp] theorem State.setEvents_rd (s : State) (k : Nat) (l : List Nat) (a : Nat) : (s.setEvents k l).rd a = s.rd a := rfl
@[simp] theorem State.setEvents_fld (s : State) (k : Nat) (l : List Nat) (reg : Nat) (fl : Fld) : (s.setEvents k l).fld reg fl = s.fld reg fl := rfl

/-! State.setRoutePos changes mesh alone. -/

@[simp] theorem State.setRoutePos_regs (s : State) (r o p : Nat) (x : RoutePos) : (s.setRoutePos r o p x).regs = s.regs := rfl
@[simp] theorem State.setRoutePos_latches (s : State) (r o p : Nat) (x : RoutePos) : (s.setRoutePos r o p x).latches = s.latches := rfl
@[simp] theorem State.setRoutePos_core (s : State) (r o p : Nat) (x : RoutePos) : (s.setRoutePos r o p x).core = s.core := rfl
@[simp] theorem State.setRoutePos_hbm (s : State) (r o p : Nat) (x : RoutePos) : (s.setRoutePos r o p x).hbm = s.hbm := rfl
@[simp] theorem State.setRoutePos_srv (s : State) (r o p : Nat) (x : RoutePos) : (s.setRoutePos r o p x).srv = s.srv := rfl
@[simp] theorem State.setRoutePos_lnk (s : State) (r o p : Nat) (x : RoutePos) : (s.setRoutePos r o p x).lnk = s.lnk := rfl
@[simp] theorem State.setRoutePos_wts (s : State) (r o p : Nat) (x : RoutePos) : (s.setRoutePos r o p x).wts = s.wts := rfl
@[simp] theorem State.setRoutePos_boot (s : State) (r o p : Nat) (x : RoutePos) : (s.setRoutePos r o p x).boot = s.boot := rfl
@[simp] theorem State.setRoutePos_clk (s : State) (r o p : Nat) (x : RoutePos) : (s.setRoutePos r o p x).clk = s.clk := rfl
@[simp] theorem State.setRoutePos_pwr (s : State) (r o p : Nat) (x : RoutePos) : (s.setRoutePos r o p x).pwr = s.pwr := rfl
@[simp] theorem State.setRoutePos_thm (s : State) (r o p : Nat) (x : RoutePos) : (s.setRoutePos r o p x).thm = s.thm := rfl
@[simp] theorem State.setRoutePos_log (s : State) (r o p : Nat) (x : RoutePos) : (s.setRoutePos r o p x).log = s.log := rfl
@[simp] theorem State.setRoutePos_sec (s : State) (r o p : Nat) (x : RoutePos) : (s.setRoutePos r o p x).sec = s.sec := rfl
@[simp] theorem State.setRoutePos_mgmt (s : State) (r o p : Nat) (x : RoutePos) : (s.setRoutePos r o p x).mgmt = s.mgmt := rfl
@[simp] theorem State.setRoutePos_host (s : State) (r o p : Nat) (x : RoutePos) : (s.setRoutePos r o p x).host = s.host := rfl
@[simp] theorem State.setRoutePos_free (s : State) (r o p : Nat) (x : RoutePos) : (s.setRoutePos r o p x).free = s.free := rfl
@[simp] theorem State.setRoutePos_pending (s : State) (r o p : Nat) (x : RoutePos) : (s.setRoutePos r o p x).pending = s.pending := rfl
@[simp] theorem State.setRoutePos_rd (s : State) (r o p : Nat) (x : RoutePos) (a : Nat) : (s.setRoutePos r o p x).rd a = s.rd a := rfl
@[simp] theorem State.setRoutePos_fld (s : State) (r o p : Nat) (x : RoutePos) (reg : Nat) (fl : Fld) : (s.setRoutePos r o p x).fld reg fl = s.fld reg fl := rfl

/-! State.setQuad changes clk alone. -/

@[simp] theorem State.setQuad_regs (s : State) (q : Nat) (x : Quad) : (s.setQuad q x).regs = s.regs := rfl
@[simp] theorem State.setQuad_latches (s : State) (q : Nat) (x : Quad) : (s.setQuad q x).latches = s.latches := rfl
@[simp] theorem State.setQuad_core (s : State) (q : Nat) (x : Quad) : (s.setQuad q x).core = s.core := rfl
@[simp] theorem State.setQuad_mesh (s : State) (q : Nat) (x : Quad) : (s.setQuad q x).mesh = s.mesh := rfl
@[simp] theorem State.setQuad_hbm (s : State) (q : Nat) (x : Quad) : (s.setQuad q x).hbm = s.hbm := rfl
@[simp] theorem State.setQuad_srv (s : State) (q : Nat) (x : Quad) : (s.setQuad q x).srv = s.srv := rfl
@[simp] theorem State.setQuad_lnk (s : State) (q : Nat) (x : Quad) : (s.setQuad q x).lnk = s.lnk := rfl
@[simp] theorem State.setQuad_wts (s : State) (q : Nat) (x : Quad) : (s.setQuad q x).wts = s.wts := rfl
@[simp] theorem State.setQuad_boot (s : State) (q : Nat) (x : Quad) : (s.setQuad q x).boot = s.boot := rfl
@[simp] theorem State.setQuad_pwr (s : State) (q : Nat) (x : Quad) : (s.setQuad q x).pwr = s.pwr := rfl
@[simp] theorem State.setQuad_thm (s : State) (q : Nat) (x : Quad) : (s.setQuad q x).thm = s.thm := rfl
@[simp] theorem State.setQuad_log (s : State) (q : Nat) (x : Quad) : (s.setQuad q x).log = s.log := rfl
@[simp] theorem State.setQuad_sec (s : State) (q : Nat) (x : Quad) : (s.setQuad q x).sec = s.sec := rfl
@[simp] theorem State.setQuad_mgmt (s : State) (q : Nat) (x : Quad) : (s.setQuad q x).mgmt = s.mgmt := rfl
@[simp] theorem State.setQuad_host (s : State) (q : Nat) (x : Quad) : (s.setQuad q x).host = s.host := rfl
@[simp] theorem State.setQuad_free (s : State) (q : Nat) (x : Quad) : (s.setQuad q x).free = s.free := rfl
@[simp] theorem State.setQuad_pending (s : State) (q : Nat) (x : Quad) : (s.setQuad q x).pending = s.pending := rfl
@[simp] theorem State.setQuad_rd (s : State) (q : Nat) (x : Quad) (a : Nat) : (s.setQuad q x).rd a = s.rd a := rfl
@[simp] theorem State.setQuad_fld (s : State) (q : Nat) (x : Quad) (reg : Nat) (fl : Fld) : (s.setQuad q x).fld reg fl = s.fld reg fl := rfl

/-! State.setMeter changes mgmt alone. -/

@[simp] theorem State.setMeter_regs (s : State) (set : Nat) (m : Meter) : (s.setMeter set m).regs = s.regs := rfl
@[simp] theorem State.setMeter_latches (s : State) (set : Nat) (m : Meter) : (s.setMeter set m).latches = s.latches := rfl
@[simp] theorem State.setMeter_core (s : State) (set : Nat) (m : Meter) : (s.setMeter set m).core = s.core := rfl
@[simp] theorem State.setMeter_mesh (s : State) (set : Nat) (m : Meter) : (s.setMeter set m).mesh = s.mesh := rfl
@[simp] theorem State.setMeter_hbm (s : State) (set : Nat) (m : Meter) : (s.setMeter set m).hbm = s.hbm := rfl
@[simp] theorem State.setMeter_srv (s : State) (set : Nat) (m : Meter) : (s.setMeter set m).srv = s.srv := rfl
@[simp] theorem State.setMeter_lnk (s : State) (set : Nat) (m : Meter) : (s.setMeter set m).lnk = s.lnk := rfl
@[simp] theorem State.setMeter_wts (s : State) (set : Nat) (m : Meter) : (s.setMeter set m).wts = s.wts := rfl
@[simp] theorem State.setMeter_boot (s : State) (set : Nat) (m : Meter) : (s.setMeter set m).boot = s.boot := rfl
@[simp] theorem State.setMeter_clk (s : State) (set : Nat) (m : Meter) : (s.setMeter set m).clk = s.clk := rfl
@[simp] theorem State.setMeter_pwr (s : State) (set : Nat) (m : Meter) : (s.setMeter set m).pwr = s.pwr := rfl
@[simp] theorem State.setMeter_thm (s : State) (set : Nat) (m : Meter) : (s.setMeter set m).thm = s.thm := rfl
@[simp] theorem State.setMeter_log (s : State) (set : Nat) (m : Meter) : (s.setMeter set m).log = s.log := rfl
@[simp] theorem State.setMeter_sec (s : State) (set : Nat) (m : Meter) : (s.setMeter set m).sec = s.sec := rfl
@[simp] theorem State.setMeter_host (s : State) (set : Nat) (m : Meter) : (s.setMeter set m).host = s.host := rfl
@[simp] theorem State.setMeter_free (s : State) (set : Nat) (m : Meter) : (s.setMeter set m).free = s.free := rfl
@[simp] theorem State.setMeter_pending (s : State) (set : Nat) (m : Meter) : (s.setMeter set m).pending = s.pending := rfl
@[simp] theorem State.setMeter_rd (s : State) (set : Nat) (m : Meter) (a : Nat) : (s.setMeter set m).rd a = s.rd a := rfl
@[simp] theorem State.setMeter_fld (s : State) (set : Nat) (m : Meter) (reg : Nat) (fl : Fld) : (s.setMeter set m).fld reg fl = s.fld reg fl := rfl

/-! State.setMove changes hbm alone. -/

@[simp] theorem State.setMove_regs (s : State) (m n : Move) : (s.setMove m n).regs = s.regs := rfl
@[simp] theorem State.setMove_latches (s : State) (m n : Move) : (s.setMove m n).latches = s.latches := rfl
@[simp] theorem State.setMove_core (s : State) (m n : Move) : (s.setMove m n).core = s.core := rfl
@[simp] theorem State.setMove_mesh (s : State) (m n : Move) : (s.setMove m n).mesh = s.mesh := rfl
@[simp] theorem State.setMove_srv (s : State) (m n : Move) : (s.setMove m n).srv = s.srv := rfl
@[simp] theorem State.setMove_lnk (s : State) (m n : Move) : (s.setMove m n).lnk = s.lnk := rfl
@[simp] theorem State.setMove_wts (s : State) (m n : Move) : (s.setMove m n).wts = s.wts := rfl
@[simp] theorem State.setMove_boot (s : State) (m n : Move) : (s.setMove m n).boot = s.boot := rfl
@[simp] theorem State.setMove_clk (s : State) (m n : Move) : (s.setMove m n).clk = s.clk := rfl
@[simp] theorem State.setMove_pwr (s : State) (m n : Move) : (s.setMove m n).pwr = s.pwr := rfl
@[simp] theorem State.setMove_thm (s : State) (m n : Move) : (s.setMove m n).thm = s.thm := rfl
@[simp] theorem State.setMove_log (s : State) (m n : Move) : (s.setMove m n).log = s.log := rfl
@[simp] theorem State.setMove_sec (s : State) (m n : Move) : (s.setMove m n).sec = s.sec := rfl
@[simp] theorem State.setMove_mgmt (s : State) (m n : Move) : (s.setMove m n).mgmt = s.mgmt := rfl
@[simp] theorem State.setMove_host (s : State) (m n : Move) : (s.setMove m n).host = s.host := rfl
@[simp] theorem State.setMove_free (s : State) (m n : Move) : (s.setMove m n).free = s.free := rfl
@[simp] theorem State.setMove_pending (s : State) (m n : Move) : (s.setMove m n).pending = s.pending := rfl
@[simp] theorem State.setMove_rd (s : State) (m n : Move) (a : Nat) : (s.setMove m n).rd a = s.rd a := rfl
@[simp] theorem State.setMove_fld (s : State) (m n : Move) (reg : Nat) (fl : Fld) : (s.setMove m n).fld reg fl = s.fld reg fl := rfl

/-! State.setAdp changes srv alone. -/

@[simp] theorem State.setAdp_regs (s : State) (a : Nat) (x : AdpSlot) : (s.setAdp a x).regs = s.regs := rfl
@[simp] theorem State.setAdp_latches (s : State) (a : Nat) (x : AdpSlot) : (s.setAdp a x).latches = s.latches := rfl
@[simp] theorem State.setAdp_core (s : State) (a : Nat) (x : AdpSlot) : (s.setAdp a x).core = s.core := rfl
@[simp] theorem State.setAdp_mesh (s : State) (a : Nat) (x : AdpSlot) : (s.setAdp a x).mesh = s.mesh := rfl
@[simp] theorem State.setAdp_hbm (s : State) (a : Nat) (x : AdpSlot) : (s.setAdp a x).hbm = s.hbm := rfl
@[simp] theorem State.setAdp_lnk (s : State) (a : Nat) (x : AdpSlot) : (s.setAdp a x).lnk = s.lnk := rfl
@[simp] theorem State.setAdp_wts (s : State) (a : Nat) (x : AdpSlot) : (s.setAdp a x).wts = s.wts := rfl
@[simp] theorem State.setAdp_boot (s : State) (a : Nat) (x : AdpSlot) : (s.setAdp a x).boot = s.boot := rfl
@[simp] theorem State.setAdp_clk (s : State) (a : Nat) (x : AdpSlot) : (s.setAdp a x).clk = s.clk := rfl
@[simp] theorem State.setAdp_pwr (s : State) (a : Nat) (x : AdpSlot) : (s.setAdp a x).pwr = s.pwr := rfl
@[simp] theorem State.setAdp_thm (s : State) (a : Nat) (x : AdpSlot) : (s.setAdp a x).thm = s.thm := rfl
@[simp] theorem State.setAdp_log (s : State) (a : Nat) (x : AdpSlot) : (s.setAdp a x).log = s.log := rfl
@[simp] theorem State.setAdp_sec (s : State) (a : Nat) (x : AdpSlot) : (s.setAdp a x).sec = s.sec := rfl
@[simp] theorem State.setAdp_mgmt (s : State) (a : Nat) (x : AdpSlot) : (s.setAdp a x).mgmt = s.mgmt := rfl
@[simp] theorem State.setAdp_host (s : State) (a : Nat) (x : AdpSlot) : (s.setAdp a x).host = s.host := rfl
@[simp] theorem State.setAdp_free (s : State) (a : Nat) (x : AdpSlot) : (s.setAdp a x).free = s.free := rfl
@[simp] theorem State.setAdp_pending (s : State) (a : Nat) (x : AdpSlot) : (s.setAdp a x).pending = s.pending := rfl
@[simp] theorem State.setAdp_rd (s : State) (a : Nat) (x : AdpSlot) (reg : Nat) : (s.setAdp a x).rd reg = s.rd reg := rfl
@[simp] theorem State.setAdp_fld (s : State) (a : Nat) (x : AdpSlot) (reg : Nat) (fl : Fld) : (s.setAdp a x).fld reg fl = s.fld reg fl := rfl

/-! State.sawX changes lnk alone. -/

@[simp] theorem State.sawX_regs (s : State) (m : XMsg) : (s.sawX m).regs = s.regs := rfl
@[simp] theorem State.sawX_latches (s : State) (m : XMsg) : (s.sawX m).latches = s.latches := rfl
@[simp] theorem State.sawX_core (s : State) (m : XMsg) : (s.sawX m).core = s.core := rfl
@[simp] theorem State.sawX_mesh (s : State) (m : XMsg) : (s.sawX m).mesh = s.mesh := rfl
@[simp] theorem State.sawX_hbm (s : State) (m : XMsg) : (s.sawX m).hbm = s.hbm := rfl
@[simp] theorem State.sawX_srv (s : State) (m : XMsg) : (s.sawX m).srv = s.srv := rfl
@[simp] theorem State.sawX_wts (s : State) (m : XMsg) : (s.sawX m).wts = s.wts := rfl
@[simp] theorem State.sawX_boot (s : State) (m : XMsg) : (s.sawX m).boot = s.boot := rfl
@[simp] theorem State.sawX_clk (s : State) (m : XMsg) : (s.sawX m).clk = s.clk := rfl
@[simp] theorem State.sawX_pwr (s : State) (m : XMsg) : (s.sawX m).pwr = s.pwr := rfl
@[simp] theorem State.sawX_thm (s : State) (m : XMsg) : (s.sawX m).thm = s.thm := rfl
@[simp] theorem State.sawX_log (s : State) (m : XMsg) : (s.sawX m).log = s.log := rfl
@[simp] theorem State.sawX_sec (s : State) (m : XMsg) : (s.sawX m).sec = s.sec := rfl
@[simp] theorem State.sawX_mgmt (s : State) (m : XMsg) : (s.sawX m).mgmt = s.mgmt := rfl
@[simp] theorem State.sawX_host (s : State) (m : XMsg) : (s.sawX m).host = s.host := rfl
@[simp] theorem State.sawX_free (s : State) (m : XMsg) : (s.sawX m).free = s.free := rfl
@[simp] theorem State.sawX_pending (s : State) (m : XMsg) : (s.sawX m).pending = s.pending := rfl
@[simp] theorem State.sawX_rd (s : State) (m : XMsg) (a : Nat) : (s.sawX m).rd a = s.rd a := rfl
@[simp] theorem State.sawX_fld (s : State) (m : XMsg) (reg : Nat) (fl : Fld) : (s.sawX m).fld reg fl = s.fld reg fl := rfl

/-! State.setXpart changes lnk alone. -/

@[simp] theorem State.setXpart_regs (s : State) (p : Nat) (x : XPart) : (s.setXpart p x).regs = s.regs := rfl
@[simp] theorem State.setXpart_latches (s : State) (p : Nat) (x : XPart) : (s.setXpart p x).latches = s.latches := rfl
@[simp] theorem State.setXpart_core (s : State) (p : Nat) (x : XPart) : (s.setXpart p x).core = s.core := rfl
@[simp] theorem State.setXpart_mesh (s : State) (p : Nat) (x : XPart) : (s.setXpart p x).mesh = s.mesh := rfl
@[simp] theorem State.setXpart_hbm (s : State) (p : Nat) (x : XPart) : (s.setXpart p x).hbm = s.hbm := rfl
@[simp] theorem State.setXpart_srv (s : State) (p : Nat) (x : XPart) : (s.setXpart p x).srv = s.srv := rfl
@[simp] theorem State.setXpart_wts (s : State) (p : Nat) (x : XPart) : (s.setXpart p x).wts = s.wts := rfl
@[simp] theorem State.setXpart_boot (s : State) (p : Nat) (x : XPart) : (s.setXpart p x).boot = s.boot := rfl
@[simp] theorem State.setXpart_clk (s : State) (p : Nat) (x : XPart) : (s.setXpart p x).clk = s.clk := rfl
@[simp] theorem State.setXpart_pwr (s : State) (p : Nat) (x : XPart) : (s.setXpart p x).pwr = s.pwr := rfl
@[simp] theorem State.setXpart_thm (s : State) (p : Nat) (x : XPart) : (s.setXpart p x).thm = s.thm := rfl
@[simp] theorem State.setXpart_log (s : State) (p : Nat) (x : XPart) : (s.setXpart p x).log = s.log := rfl
@[simp] theorem State.setXpart_sec (s : State) (p : Nat) (x : XPart) : (s.setXpart p x).sec = s.sec := rfl
@[simp] theorem State.setXpart_mgmt (s : State) (p : Nat) (x : XPart) : (s.setXpart p x).mgmt = s.mgmt := rfl
@[simp] theorem State.setXpart_host (s : State) (p : Nat) (x : XPart) : (s.setXpart p x).host = s.host := rfl
@[simp] theorem State.setXpart_free (s : State) (p : Nat) (x : XPart) : (s.setXpart p x).free = s.free := rfl
@[simp] theorem State.setXpart_pending (s : State) (p : Nat) (x : XPart) : (s.setXpart p x).pending = s.pending := rfl
@[simp] theorem State.setXpart_rd (s : State) (p : Nat) (x : XPart) (a : Nat) : (s.setXpart p x).rd a = s.rd a := rfl
@[simp] theorem State.setXpart_fld (s : State) (p : Nat) (x : XPart) (reg : Nat) (fl : Fld) : (s.setXpart p x).fld reg fl = s.fld reg fl := rfl

/-! State.setBindSum changes lnk alone. -/

@[simp] theorem State.setBindSum_regs (s : State) (i e : Nat) (b : BindSum) : (s.setBindSum i e b).regs = s.regs := rfl
@[simp] theorem State.setBindSum_latches (s : State) (i e : Nat) (b : BindSum) : (s.setBindSum i e b).latches = s.latches := rfl
@[simp] theorem State.setBindSum_core (s : State) (i e : Nat) (b : BindSum) : (s.setBindSum i e b).core = s.core := rfl
@[simp] theorem State.setBindSum_mesh (s : State) (i e : Nat) (b : BindSum) : (s.setBindSum i e b).mesh = s.mesh := rfl
@[simp] theorem State.setBindSum_hbm (s : State) (i e : Nat) (b : BindSum) : (s.setBindSum i e b).hbm = s.hbm := rfl
@[simp] theorem State.setBindSum_srv (s : State) (i e : Nat) (b : BindSum) : (s.setBindSum i e b).srv = s.srv := rfl
@[simp] theorem State.setBindSum_wts (s : State) (i e : Nat) (b : BindSum) : (s.setBindSum i e b).wts = s.wts := rfl
@[simp] theorem State.setBindSum_boot (s : State) (i e : Nat) (b : BindSum) : (s.setBindSum i e b).boot = s.boot := rfl
@[simp] theorem State.setBindSum_clk (s : State) (i e : Nat) (b : BindSum) : (s.setBindSum i e b).clk = s.clk := rfl
@[simp] theorem State.setBindSum_pwr (s : State) (i e : Nat) (b : BindSum) : (s.setBindSum i e b).pwr = s.pwr := rfl
@[simp] theorem State.setBindSum_thm (s : State) (i e : Nat) (b : BindSum) : (s.setBindSum i e b).thm = s.thm := rfl
@[simp] theorem State.setBindSum_log (s : State) (i e : Nat) (b : BindSum) : (s.setBindSum i e b).log = s.log := rfl
@[simp] theorem State.setBindSum_sec (s : State) (i e : Nat) (b : BindSum) : (s.setBindSum i e b).sec = s.sec := rfl
@[simp] theorem State.setBindSum_mgmt (s : State) (i e : Nat) (b : BindSum) : (s.setBindSum i e b).mgmt = s.mgmt := rfl
@[simp] theorem State.setBindSum_host (s : State) (i e : Nat) (b : BindSum) : (s.setBindSum i e b).host = s.host := rfl
@[simp] theorem State.setBindSum_free (s : State) (i e : Nat) (b : BindSum) : (s.setBindSum i e b).free = s.free := rfl
@[simp] theorem State.setBindSum_pending (s : State) (i e : Nat) (b : BindSum) : (s.setBindSum i e b).pending = s.pending := rfl
@[simp] theorem State.setBindSum_rd (s : State) (i e : Nat) (b : BindSum) (a : Nat) : (s.setBindSum i e b).rd a = s.rd a := rfl
@[simp] theorem State.setBindSum_fld (s : State) (i e : Nat) (b : BindSum) (reg : Nat) (fl : Fld) : (s.setBindSum i e b).fld reg fl = s.fld reg fl := rfl

/-! State.setBurst changes wts alone. -/

@[simp] theorem State.setBurst_regs (s : State) (key : Nat) (b : Burst) : (s.setBurst key b).regs = s.regs := rfl
@[simp] theorem State.setBurst_latches (s : State) (key : Nat) (b : Burst) : (s.setBurst key b).latches = s.latches := rfl
@[simp] theorem State.setBurst_core (s : State) (key : Nat) (b : Burst) : (s.setBurst key b).core = s.core := rfl
@[simp] theorem State.setBurst_mesh (s : State) (key : Nat) (b : Burst) : (s.setBurst key b).mesh = s.mesh := rfl
@[simp] theorem State.setBurst_hbm (s : State) (key : Nat) (b : Burst) : (s.setBurst key b).hbm = s.hbm := rfl
@[simp] theorem State.setBurst_srv (s : State) (key : Nat) (b : Burst) : (s.setBurst key b).srv = s.srv := rfl
@[simp] theorem State.setBurst_lnk (s : State) (key : Nat) (b : Burst) : (s.setBurst key b).lnk = s.lnk := rfl
@[simp] theorem State.setBurst_boot (s : State) (key : Nat) (b : Burst) : (s.setBurst key b).boot = s.boot := rfl
@[simp] theorem State.setBurst_clk (s : State) (key : Nat) (b : Burst) : (s.setBurst key b).clk = s.clk := rfl
@[simp] theorem State.setBurst_pwr (s : State) (key : Nat) (b : Burst) : (s.setBurst key b).pwr = s.pwr := rfl
@[simp] theorem State.setBurst_thm (s : State) (key : Nat) (b : Burst) : (s.setBurst key b).thm = s.thm := rfl
@[simp] theorem State.setBurst_log (s : State) (key : Nat) (b : Burst) : (s.setBurst key b).log = s.log := rfl
@[simp] theorem State.setBurst_sec (s : State) (key : Nat) (b : Burst) : (s.setBurst key b).sec = s.sec := rfl
@[simp] theorem State.setBurst_mgmt (s : State) (key : Nat) (b : Burst) : (s.setBurst key b).mgmt = s.mgmt := rfl
@[simp] theorem State.setBurst_host (s : State) (key : Nat) (b : Burst) : (s.setBurst key b).host = s.host := rfl
@[simp] theorem State.setBurst_free (s : State) (key : Nat) (b : Burst) : (s.setBurst key b).free = s.free := rfl
@[simp] theorem State.setBurst_pending (s : State) (key : Nat) (b : Burst) : (s.setBurst key b).pending = s.pending := rfl
@[simp] theorem State.setBurst_rd (s : State) (key : Nat) (b : Burst) (a : Nat) : (s.setBurst key b).rd a = s.rd a := rfl
@[simp] theorem State.setBurst_fld (s : State) (key : Nat) (b : Burst) (reg : Nat) (fl : Fld) : (s.setBurst key b).fld reg fl = s.fld reg fl := rfl

/-! State.setLoad changes wts alone. -/

@[simp] theorem State.setLoad_regs (s : State) (p : Nat) (f : LoadRun → LoadRun) : (s.setLoad p f).regs = s.regs := rfl
@[simp] theorem State.setLoad_latches (s : State) (p : Nat) (f : LoadRun → LoadRun) : (s.setLoad p f).latches = s.latches := rfl
@[simp] theorem State.setLoad_core (s : State) (p : Nat) (f : LoadRun → LoadRun) : (s.setLoad p f).core = s.core := rfl
@[simp] theorem State.setLoad_mesh (s : State) (p : Nat) (f : LoadRun → LoadRun) : (s.setLoad p f).mesh = s.mesh := rfl
@[simp] theorem State.setLoad_hbm (s : State) (p : Nat) (f : LoadRun → LoadRun) : (s.setLoad p f).hbm = s.hbm := rfl
@[simp] theorem State.setLoad_srv (s : State) (p : Nat) (f : LoadRun → LoadRun) : (s.setLoad p f).srv = s.srv := rfl
@[simp] theorem State.setLoad_lnk (s : State) (p : Nat) (f : LoadRun → LoadRun) : (s.setLoad p f).lnk = s.lnk := rfl
@[simp] theorem State.setLoad_boot (s : State) (p : Nat) (f : LoadRun → LoadRun) : (s.setLoad p f).boot = s.boot := rfl
@[simp] theorem State.setLoad_clk (s : State) (p : Nat) (f : LoadRun → LoadRun) : (s.setLoad p f).clk = s.clk := rfl
@[simp] theorem State.setLoad_pwr (s : State) (p : Nat) (f : LoadRun → LoadRun) : (s.setLoad p f).pwr = s.pwr := rfl
@[simp] theorem State.setLoad_thm (s : State) (p : Nat) (f : LoadRun → LoadRun) : (s.setLoad p f).thm = s.thm := rfl
@[simp] theorem State.setLoad_log (s : State) (p : Nat) (f : LoadRun → LoadRun) : (s.setLoad p f).log = s.log := rfl
@[simp] theorem State.setLoad_sec (s : State) (p : Nat) (f : LoadRun → LoadRun) : (s.setLoad p f).sec = s.sec := rfl
@[simp] theorem State.setLoad_mgmt (s : State) (p : Nat) (f : LoadRun → LoadRun) : (s.setLoad p f).mgmt = s.mgmt := rfl
@[simp] theorem State.setLoad_host (s : State) (p : Nat) (f : LoadRun → LoadRun) : (s.setLoad p f).host = s.host := rfl
@[simp] theorem State.setLoad_free (s : State) (p : Nat) (f : LoadRun → LoadRun) : (s.setLoad p f).free = s.free := rfl
@[simp] theorem State.setLoad_pending (s : State) (p : Nat) (f : LoadRun → LoadRun) : (s.setLoad p f).pending = s.pending := rfl
@[simp] theorem State.setLoad_rd (s : State) (p : Nat) (f : LoadRun → LoadRun) (a : Nat) : (s.setLoad p f).rd a = s.rd a := rfl
@[simp] theorem State.setLoad_fld (s : State) (p : Nat) (f : LoadRun → LoadRun) (reg : Nat) (fl : Fld) : (s.setLoad p f).fld reg fl = s.fld reg fl := rfl

/-! State.imageEnd changes wts alone. -/

@[simp] theorem State.imageEnd_regs (s : State) (p : Nat) (e : ImageEnd) : (s.imageEnd p e).regs = s.regs := rfl
@[simp] theorem State.imageEnd_latches (s : State) (p : Nat) (e : ImageEnd) : (s.imageEnd p e).latches = s.latches := rfl
@[simp] theorem State.imageEnd_core (s : State) (p : Nat) (e : ImageEnd) : (s.imageEnd p e).core = s.core := rfl
@[simp] theorem State.imageEnd_mesh (s : State) (p : Nat) (e : ImageEnd) : (s.imageEnd p e).mesh = s.mesh := rfl
@[simp] theorem State.imageEnd_hbm (s : State) (p : Nat) (e : ImageEnd) : (s.imageEnd p e).hbm = s.hbm := rfl
@[simp] theorem State.imageEnd_srv (s : State) (p : Nat) (e : ImageEnd) : (s.imageEnd p e).srv = s.srv := rfl
@[simp] theorem State.imageEnd_lnk (s : State) (p : Nat) (e : ImageEnd) : (s.imageEnd p e).lnk = s.lnk := rfl
@[simp] theorem State.imageEnd_boot (s : State) (p : Nat) (e : ImageEnd) : (s.imageEnd p e).boot = s.boot := rfl
@[simp] theorem State.imageEnd_clk (s : State) (p : Nat) (e : ImageEnd) : (s.imageEnd p e).clk = s.clk := rfl
@[simp] theorem State.imageEnd_pwr (s : State) (p : Nat) (e : ImageEnd) : (s.imageEnd p e).pwr = s.pwr := rfl
@[simp] theorem State.imageEnd_thm (s : State) (p : Nat) (e : ImageEnd) : (s.imageEnd p e).thm = s.thm := rfl
@[simp] theorem State.imageEnd_log (s : State) (p : Nat) (e : ImageEnd) : (s.imageEnd p e).log = s.log := rfl
@[simp] theorem State.imageEnd_sec (s : State) (p : Nat) (e : ImageEnd) : (s.imageEnd p e).sec = s.sec := rfl
@[simp] theorem State.imageEnd_mgmt (s : State) (p : Nat) (e : ImageEnd) : (s.imageEnd p e).mgmt = s.mgmt := rfl
@[simp] theorem State.imageEnd_host (s : State) (p : Nat) (e : ImageEnd) : (s.imageEnd p e).host = s.host := rfl
@[simp] theorem State.imageEnd_free (s : State) (p : Nat) (e : ImageEnd) : (s.imageEnd p e).free = s.free := rfl
@[simp] theorem State.imageEnd_pending (s : State) (p : Nat) (e : ImageEnd) : (s.imageEnd p e).pending = s.pending := rfl
@[simp] theorem State.imageEnd_rd (s : State) (p : Nat) (e : ImageEnd) (a : Nat) : (s.imageEnd p e).rd a = s.rd a := rfl
@[simp] theorem State.imageEnd_fld (s : State) (p : Nat) (e : ImageEnd) (reg : Nat) (fl : Fld) : (s.imageEnd p e).fld reg fl = s.fld reg fl := rfl

/-! State.routeEnd changes wts alone. -/

@[simp] theorem State.routeEnd_regs (s : State) (p : Nat) (e : ImageEnd) : (s.routeEnd p e).regs = s.regs := rfl
@[simp] theorem State.routeEnd_latches (s : State) (p : Nat) (e : ImageEnd) : (s.routeEnd p e).latches = s.latches := rfl
@[simp] theorem State.routeEnd_core (s : State) (p : Nat) (e : ImageEnd) : (s.routeEnd p e).core = s.core := rfl
@[simp] theorem State.routeEnd_mesh (s : State) (p : Nat) (e : ImageEnd) : (s.routeEnd p e).mesh = s.mesh := rfl
@[simp] theorem State.routeEnd_hbm (s : State) (p : Nat) (e : ImageEnd) : (s.routeEnd p e).hbm = s.hbm := rfl
@[simp] theorem State.routeEnd_srv (s : State) (p : Nat) (e : ImageEnd) : (s.routeEnd p e).srv = s.srv := rfl
@[simp] theorem State.routeEnd_lnk (s : State) (p : Nat) (e : ImageEnd) : (s.routeEnd p e).lnk = s.lnk := rfl
@[simp] theorem State.routeEnd_boot (s : State) (p : Nat) (e : ImageEnd) : (s.routeEnd p e).boot = s.boot := rfl
@[simp] theorem State.routeEnd_clk (s : State) (p : Nat) (e : ImageEnd) : (s.routeEnd p e).clk = s.clk := rfl
@[simp] theorem State.routeEnd_pwr (s : State) (p : Nat) (e : ImageEnd) : (s.routeEnd p e).pwr = s.pwr := rfl
@[simp] theorem State.routeEnd_thm (s : State) (p : Nat) (e : ImageEnd) : (s.routeEnd p e).thm = s.thm := rfl
@[simp] theorem State.routeEnd_log (s : State) (p : Nat) (e : ImageEnd) : (s.routeEnd p e).log = s.log := rfl
@[simp] theorem State.routeEnd_sec (s : State) (p : Nat) (e : ImageEnd) : (s.routeEnd p e).sec = s.sec := rfl
@[simp] theorem State.routeEnd_mgmt (s : State) (p : Nat) (e : ImageEnd) : (s.routeEnd p e).mgmt = s.mgmt := rfl
@[simp] theorem State.routeEnd_host (s : State) (p : Nat) (e : ImageEnd) : (s.routeEnd p e).host = s.host := rfl
@[simp] theorem State.routeEnd_free (s : State) (p : Nat) (e : ImageEnd) : (s.routeEnd p e).free = s.free := rfl
@[simp] theorem State.routeEnd_pending (s : State) (p : Nat) (e : ImageEnd) : (s.routeEnd p e).pending = s.pending := rfl
@[simp] theorem State.routeEnd_rd (s : State) (p : Nat) (e : ImageEnd) (a : Nat) : (s.routeEnd p e).rd a = s.rd a := rfl
@[simp] theorem State.routeEnd_fld (s : State) (p : Nat) (e : ImageEnd) (reg : Nat) (fl : Fld) : (s.routeEnd p e).fld reg fl = s.fld reg fl := rfl

/-! State.countSig changes wts alone. -/

@[simp] theorem State.countSig_regs (s : State) (p : Nat) : (s.countSig p).regs = s.regs := rfl
@[simp] theorem State.countSig_latches (s : State) (p : Nat) : (s.countSig p).latches = s.latches := rfl
@[simp] theorem State.countSig_core (s : State) (p : Nat) : (s.countSig p).core = s.core := rfl
@[simp] theorem State.countSig_mesh (s : State) (p : Nat) : (s.countSig p).mesh = s.mesh := rfl
@[simp] theorem State.countSig_hbm (s : State) (p : Nat) : (s.countSig p).hbm = s.hbm := rfl
@[simp] theorem State.countSig_srv (s : State) (p : Nat) : (s.countSig p).srv = s.srv := rfl
@[simp] theorem State.countSig_lnk (s : State) (p : Nat) : (s.countSig p).lnk = s.lnk := rfl
@[simp] theorem State.countSig_boot (s : State) (p : Nat) : (s.countSig p).boot = s.boot := rfl
@[simp] theorem State.countSig_clk (s : State) (p : Nat) : (s.countSig p).clk = s.clk := rfl
@[simp] theorem State.countSig_pwr (s : State) (p : Nat) : (s.countSig p).pwr = s.pwr := rfl
@[simp] theorem State.countSig_thm (s : State) (p : Nat) : (s.countSig p).thm = s.thm := rfl
@[simp] theorem State.countSig_log (s : State) (p : Nat) : (s.countSig p).log = s.log := rfl
@[simp] theorem State.countSig_sec (s : State) (p : Nat) : (s.countSig p).sec = s.sec := rfl
@[simp] theorem State.countSig_mgmt (s : State) (p : Nat) : (s.countSig p).mgmt = s.mgmt := rfl
@[simp] theorem State.countSig_host (s : State) (p : Nat) : (s.countSig p).host = s.host := rfl
@[simp] theorem State.countSig_free (s : State) (p : Nat) : (s.countSig p).free = s.free := rfl
@[simp] theorem State.countSig_pending (s : State) (p : Nat) : (s.countSig p).pending = s.pending := rfl
@[simp] theorem State.countSig_rd (s : State) (p : Nat) (a : Nat) : (s.countSig p).rd a = s.rd a := rfl
@[simp] theorem State.countSig_fld (s : State) (p : Nat) (reg : Nat) (fl : Fld) : (s.countSig p).fld reg fl = s.fld reg fl := rfl

/-! State.setF changes regs alone. -/

@[simp] theorem State.setF_latches (s : State) (a : Nat) (f : Fld) (v : Nat) : (s.setF a f v).latches = s.latches := rfl
@[simp] theorem State.setF_core (s : State) (a : Nat) (f : Fld) (v : Nat) : (s.setF a f v).core = s.core := rfl
@[simp] theorem State.setF_mesh (s : State) (a : Nat) (f : Fld) (v : Nat) : (s.setF a f v).mesh = s.mesh := rfl
@[simp] theorem State.setF_hbm (s : State) (a : Nat) (f : Fld) (v : Nat) : (s.setF a f v).hbm = s.hbm := rfl
@[simp] theorem State.setF_srv (s : State) (a : Nat) (f : Fld) (v : Nat) : (s.setF a f v).srv = s.srv := rfl
@[simp] theorem State.setF_lnk (s : State) (a : Nat) (f : Fld) (v : Nat) : (s.setF a f v).lnk = s.lnk := rfl
@[simp] theorem State.setF_wts (s : State) (a : Nat) (f : Fld) (v : Nat) : (s.setF a f v).wts = s.wts := rfl
@[simp] theorem State.setF_boot (s : State) (a : Nat) (f : Fld) (v : Nat) : (s.setF a f v).boot = s.boot := rfl
@[simp] theorem State.setF_clk (s : State) (a : Nat) (f : Fld) (v : Nat) : (s.setF a f v).clk = s.clk := rfl
@[simp] theorem State.setF_pwr (s : State) (a : Nat) (f : Fld) (v : Nat) : (s.setF a f v).pwr = s.pwr := rfl
@[simp] theorem State.setF_thm (s : State) (a : Nat) (f : Fld) (v : Nat) : (s.setF a f v).thm = s.thm := rfl
@[simp] theorem State.setF_log (s : State) (a : Nat) (f : Fld) (v : Nat) : (s.setF a f v).log = s.log := rfl
@[simp] theorem State.setF_sec (s : State) (a : Nat) (f : Fld) (v : Nat) : (s.setF a f v).sec = s.sec := rfl
@[simp] theorem State.setF_mgmt (s : State) (a : Nat) (f : Fld) (v : Nat) : (s.setF a f v).mgmt = s.mgmt := rfl
@[simp] theorem State.setF_host (s : State) (a : Nat) (f : Fld) (v : Nat) : (s.setF a f v).host = s.host := rfl
@[simp] theorem State.setF_free (s : State) (a : Nat) (f : Fld) (v : Nat) : (s.setF a f v).free = s.free := rfl
@[simp] theorem State.setF_pending (s : State) (a : Nat) (f : Fld) (v : Nat) : (s.setF a f v).pending = s.pending := rfl

/-! State.inc changes regs alone. -/

@[simp] theorem State.inc_latches (s : State) (a n : Nat) : (s.inc a n).latches = s.latches := rfl
@[simp] theorem State.inc_core (s : State) (a n : Nat) : (s.inc a n).core = s.core := rfl
@[simp] theorem State.inc_mesh (s : State) (a n : Nat) : (s.inc a n).mesh = s.mesh := rfl
@[simp] theorem State.inc_hbm (s : State) (a n : Nat) : (s.inc a n).hbm = s.hbm := rfl
@[simp] theorem State.inc_srv (s : State) (a n : Nat) : (s.inc a n).srv = s.srv := rfl
@[simp] theorem State.inc_lnk (s : State) (a n : Nat) : (s.inc a n).lnk = s.lnk := rfl
@[simp] theorem State.inc_wts (s : State) (a n : Nat) : (s.inc a n).wts = s.wts := rfl
@[simp] theorem State.inc_boot (s : State) (a n : Nat) : (s.inc a n).boot = s.boot := rfl
@[simp] theorem State.inc_clk (s : State) (a n : Nat) : (s.inc a n).clk = s.clk := rfl
@[simp] theorem State.inc_pwr (s : State) (a n : Nat) : (s.inc a n).pwr = s.pwr := rfl
@[simp] theorem State.inc_thm (s : State) (a n : Nat) : (s.inc a n).thm = s.thm := rfl
@[simp] theorem State.inc_log (s : State) (a n : Nat) : (s.inc a n).log = s.log := rfl
@[simp] theorem State.inc_sec (s : State) (a n : Nat) : (s.inc a n).sec = s.sec := rfl
@[simp] theorem State.inc_mgmt (s : State) (a n : Nat) : (s.inc a n).mgmt = s.mgmt := rfl
@[simp] theorem State.inc_host (s : State) (a n : Nat) : (s.inc a n).host = s.host := rfl
@[simp] theorem State.inc_free (s : State) (a n : Nat) : (s.inc a n).free = s.free := rfl
@[simp] theorem State.inc_pending (s : State) (a n : Nat) : (s.inc a n).pending = s.pending := rfl

/-! State.wr64 changes regs alone. -/

@[simp] theorem State.wr64_latches (s : State) (a v : Nat) : (s.wr64 a v).latches = s.latches := rfl
@[simp] theorem State.wr64_core (s : State) (a v : Nat) : (s.wr64 a v).core = s.core := rfl
@[simp] theorem State.wr64_mesh (s : State) (a v : Nat) : (s.wr64 a v).mesh = s.mesh := rfl
@[simp] theorem State.wr64_hbm (s : State) (a v : Nat) : (s.wr64 a v).hbm = s.hbm := rfl
@[simp] theorem State.wr64_srv (s : State) (a v : Nat) : (s.wr64 a v).srv = s.srv := rfl
@[simp] theorem State.wr64_lnk (s : State) (a v : Nat) : (s.wr64 a v).lnk = s.lnk := rfl
@[simp] theorem State.wr64_wts (s : State) (a v : Nat) : (s.wr64 a v).wts = s.wts := rfl
@[simp] theorem State.wr64_boot (s : State) (a v : Nat) : (s.wr64 a v).boot = s.boot := rfl
@[simp] theorem State.wr64_clk (s : State) (a v : Nat) : (s.wr64 a v).clk = s.clk := rfl
@[simp] theorem State.wr64_pwr (s : State) (a v : Nat) : (s.wr64 a v).pwr = s.pwr := rfl
@[simp] theorem State.wr64_thm (s : State) (a v : Nat) : (s.wr64 a v).thm = s.thm := rfl
@[simp] theorem State.wr64_log (s : State) (a v : Nat) : (s.wr64 a v).log = s.log := rfl
@[simp] theorem State.wr64_sec (s : State) (a v : Nat) : (s.wr64 a v).sec = s.sec := rfl
@[simp] theorem State.wr64_mgmt (s : State) (a v : Nat) : (s.wr64 a v).mgmt = s.mgmt := rfl
@[simp] theorem State.wr64_host (s : State) (a v : Nat) : (s.wr64 a v).host = s.host := rfl
@[simp] theorem State.wr64_free (s : State) (a v : Nat) : (s.wr64 a v).free = s.free := rfl
@[simp] theorem State.wr64_pending (s : State) (a v : Nat) : (s.wr64 a v).pending = s.pending := rfl

/-! State.inc64 changes regs alone. -/

@[simp] theorem State.inc64_latches (s : State) (a n : Nat) : (s.inc64 a n).latches = s.latches := rfl
@[simp] theorem State.inc64_core (s : State) (a n : Nat) : (s.inc64 a n).core = s.core := rfl
@[simp] theorem State.inc64_mesh (s : State) (a n : Nat) : (s.inc64 a n).mesh = s.mesh := rfl
@[simp] theorem State.inc64_hbm (s : State) (a n : Nat) : (s.inc64 a n).hbm = s.hbm := rfl
@[simp] theorem State.inc64_srv (s : State) (a n : Nat) : (s.inc64 a n).srv = s.srv := rfl
@[simp] theorem State.inc64_lnk (s : State) (a n : Nat) : (s.inc64 a n).lnk = s.lnk := rfl
@[simp] theorem State.inc64_wts (s : State) (a n : Nat) : (s.inc64 a n).wts = s.wts := rfl
@[simp] theorem State.inc64_boot (s : State) (a n : Nat) : (s.inc64 a n).boot = s.boot := rfl
@[simp] theorem State.inc64_clk (s : State) (a n : Nat) : (s.inc64 a n).clk = s.clk := rfl
@[simp] theorem State.inc64_pwr (s : State) (a n : Nat) : (s.inc64 a n).pwr = s.pwr := rfl
@[simp] theorem State.inc64_thm (s : State) (a n : Nat) : (s.inc64 a n).thm = s.thm := rfl
@[simp] theorem State.inc64_log (s : State) (a n : Nat) : (s.inc64 a n).log = s.log := rfl
@[simp] theorem State.inc64_sec (s : State) (a n : Nat) : (s.inc64 a n).sec = s.sec := rfl
@[simp] theorem State.inc64_mgmt (s : State) (a n : Nat) : (s.inc64 a n).mgmt = s.mgmt := rfl
@[simp] theorem State.inc64_host (s : State) (a n : Nat) : (s.inc64 a n).host = s.host := rfl
@[simp] theorem State.inc64_free (s : State) (a n : Nat) : (s.inc64 a n).free = s.free := rfl
@[simp] theorem State.inc64_pending (s : State) (a n : Nat) : (s.inc64 a n).pending = s.pending := rfl

end Sys2Proof.Machine
end

