-- ==== Sys2Proof/Laws/Ops.lean ====
section
/-!
SUPPORT. The operations that every block shares (interrupts, management events, records of the log): which parts of the state each leaves
alone. Later proofs cite these and never unfold the operations.
-/
namespace Sys2Proof.Machine

/-- `t` differs from `s` at most in registers, log, management controller and host interface. -/
def SameBlocks (s t : State) : Prop :=
  t.latches = s.latches ∧ t.core = s.core ∧ t.mesh = s.mesh ∧ t.hbm = s.hbm ∧ t.srv = s.srv ∧ t.lnk = s.lnk ∧ t.wts = s.wts ∧ t.boot = s.boot ∧ t.clk = s.clk ∧ t.pwr = s.pwr ∧ t.thm = s.thm ∧ t.sec = s.sec ∧ t.free = s.free ∧ t.pending = s.pending

theorem SameBlocks.refl (s : State) : SameBlocks s s := by simp [SameBlocks]
theorem SameBlocks.trans {s t u : State} (h : SameBlocks s t) (g : SameBlocks t u) : SameBlocks s u := by
  simp only [SameBlocks] at *
  simp [g, h]

theorem SameBlocks.upd {s t : State} (h : SameBlocks s t) (r : SMap Word) (l : LogBlk) (m : MgmtBlk) (o : HostBlk) :
    SameBlocks s ⟨r, t.latches, t.core, t.mesh, t.hbm, t.srv, t.lnk, t.wts, t.boot, t.clk, t.pwr, t.thm, l, t.sec, m, o, t.free, t.pending⟩ := h

theorem State.wr_same (s : State) (a v : Nat) : SameBlocks s (s.wr a v) := SameBlocks.refl s
theorem State.setF_same (s : State) (a : Nat) (f : Fld) (v : Nat) : SameBlocks s (s.setF a f v) := SameBlocks.refl s
theorem State.raisePf_same (s : State) (v : Nat) : SameBlocks s (s.raisePf v) := by
  unfold State.raisePf; split_ifs <;> exact SameBlocks.refl s
theorem State.raiseVf_same (s : State) (p v : Nat) : SameBlocks s (s.raiseVf p v) := by
  unfold State.raiseVf; dsimp only; split_ifs <;> exact SameBlocks.refl s
theorem State.eventEth_same (s : State) (e : MgmtEvent) : SameBlocks s (s.eventEth e) := by
  unfold State.eventEth; split_ifs <;> exact SameBlocks.refl s
theorem State.eventI3c_same (s : State) (e : MgmtEvent) : SameBlocks s (s.eventI3c e) := by
  unfold State.eventI3c; split_ifs <;> exact SameBlocks.refl s
theorem State.sensorEvent_same (s : State) (k i v : Nat) : SameBlocks s (s.sensorEvent k i v) :=
  (State.eventEth_same _ _).trans (State.eventI3c_same _ _)
theorem State.when_same (s : State) (c : Bool) (f : State → State) (h : ∀ s, SameBlocks s (f s)) : SameBlocks s (s.when c f) := by
  cases c
  · exact SameBlocks.refl s
  · exact h s
theorem State.export_same (s : State) (d : Sherd) : SameBlocks s (s.export d) := by
  unfold State.export
  split
  · exact SameBlocks.refl s
  · dsimp only
    generalize (s.fld Reg.LOG_CTL Fld.LOG_CTL_ETHEN == 1 && s.mgmt.rcvEth) = e
    generalize (s.fld Reg.LOG_CTL Fld.LOG_CTL_MCTPEN == 1 && s.mgmt.rcvI3c) = m
    have h := (State.when_same s e _ fun s => s.eventEth_same (.cper d.seq)).trans
      (State.when_same _ m _ fun s => s.eventI3c_same (.cper d.seq))
    split
    · exact h.upd _ _ _ _
    · exact h
theorem State.qstat_same (s : State) : SameBlocks s s.qstat := (s.setF_same _ _ _).trans (State.setF_same _ _ _ _)
theorem State.takeSeq_same (s : State) : SameBlocks s s.takeSeq.2 := (State.wr_same _ _ _).trans (State.wr_same _ _ _)
theorem State.suppress_same (s : State) (d : Sherd) : SameBlocks s (s.suppress d) := by
  have h : SameBlocks s ((s.inc Reg.LOG_SUPCNT 1).setF Reg.LOG_STAT Fld.LOG_STAT_SUPP 1) := (State.wr_same _ _ _).trans (State.setF_same _ _ _ _)
  unfold State.suppress
  dsimp only
  split
  · exact h.upd _ _ _ _
  · exact (h.trans (State.takeSeq_same _)).upd _ _ _ _
theorem State.toReserved_same (s : State) (d : Sherd) : SameBlocks s (s.toReserved d).2 := by
  unfold State.toReserved
  split
  · exact SameBlocks.refl s
  · exact (SameBlocks.refl s).upd _ _ _ _
theorem State.enqueueSherd_same (s : State) (d : Sherd) : SameBlocks s (s.enqueueSherd d) :=
  (((SameBlocks.refl s).upd _ _ _ _).trans (State.qstat_same _)).trans (State.export_same _ d)
theorem State.stageSherd_same (s : State) (d : Sherd) : SameBlocks s (s.stageSherd d) := by
  unfold State.stageSherd
  dsimp only
  split_ifs
  · exact (s.toReserved_same d).trans (State.export_same _ d)
  · exact s.suppress_same d
  · exact s.enqueueSherd_same d
  · exact s.enqueueSherd_same d
  · split
    · rename_i i _
      exact (((SameBlocks.refl s).upd _ _ _ _).trans (State.suppress_same _ _)).trans (State.enqueueSherd_same _ d)
    · exact s.suppress_same d
theorem State.sherdN_same (s : State) (e : Event) (n : Nat) : SameBlocks s (s.sherdN e n) :=
  (s.takeSeq_same.trans (State.stageSherd_same _ _)).trans (State.when_same _ _ _ fun s => s.raisePf_same 2)
theorem State.sherd_same (s : State) (e : Event) : SameBlocks s (s.sherd e) := s.sherdN_same e 1
theorem State.advise_same (s : State) (e : Event) : SameBlocks s (s.advise e) := by
  unfold State.advise
  split
  · exact ((SameBlocks.refl s).upd _ _ _ _).trans (State.sherd_same _ e)
  · dsimp only
    split_ifs
    · exact SameBlocks.refl s
    · exact ((SameBlocks.refl s).upd _ _ _ _).trans (State.sherdN_same _ e _)

/-! State.raisePf -/

@[simp] theorem State.raisePf_latches (s : State) (v : Nat) : (s.raisePf v).latches = s.latches := (s.raisePf_same v).1
@[simp] theorem State.raisePf_core (s : State) (v : Nat) : (s.raisePf v).core = s.core := (s.raisePf_same v).2.1
@[simp] theorem State.raisePf_mesh (s : State) (v : Nat) : (s.raisePf v).mesh = s.mesh := (s.raisePf_same v).2.2.1
@[simp] theorem State.raisePf_hbm (s : State) (v : Nat) : (s.raisePf v).hbm = s.hbm := (s.raisePf_same v).2.2.2.1
@[simp] theorem State.raisePf_srv (s : State) (v : Nat) : (s.raisePf v).srv = s.srv := (s.raisePf_same v).2.2.2.2.1
@[simp] theorem State.raisePf_lnk (s : State) (v : Nat) : (s.raisePf v).lnk = s.lnk := (s.raisePf_same v).2.2.2.2.2.1
@[simp] theorem State.raisePf_wts (s : State) (v : Nat) : (s.raisePf v).wts = s.wts := (s.raisePf_same v).2.2.2.2.2.2.1
@[simp] theorem State.raisePf_boot (s : State) (v : Nat) : (s.raisePf v).boot = s.boot := (s.raisePf_same v).2.2.2.2.2.2.2.1
@[simp] theorem State.raisePf_clk (s : State) (v : Nat) : (s.raisePf v).clk = s.clk := (s.raisePf_same v).2.2.2.2.2.2.2.2.1
@[simp] theorem State.raisePf_pwr (s : State) (v : Nat) : (s.raisePf v).pwr = s.pwr := (s.raisePf_same v).2.2.2.2.2.2.2.2.2.1
@[simp] theorem State.raisePf_thm (s : State) (v : Nat) : (s.raisePf v).thm = s.thm := (s.raisePf_same v).2.2.2.2.2.2.2.2.2.2.1
@[simp] theorem State.raisePf_sec (s : State) (v : Nat) : (s.raisePf v).sec = s.sec := (s.raisePf_same v).2.2.2.2.2.2.2.2.2.2.2.1
@[simp] theorem State.raisePf_free (s : State) (v : Nat) : (s.raisePf v).free = s.free := (s.raisePf_same v).2.2.2.2.2.2.2.2.2.2.2.2.1
@[simp] theorem State.raisePf_pending (s : State) (v : Nat) : (s.raisePf v).pending = s.pending := (s.raisePf_same v).2.2.2.2.2.2.2.2.2.2.2.2.2

/-! State.raiseVf -/

@[simp] theorem State.raiseVf_latches (s : State) (p v : Nat) : (s.raiseVf p v).latches = s.latches := (s.raiseVf_same p v).1
@[simp] theorem State.raiseVf_core (s : State) (p v : Nat) : (s.raiseVf p v).core = s.core := (s.raiseVf_same p v).2.1
@[simp] theorem State.raiseVf_mesh (s : State) (p v : Nat) : (s.raiseVf p v).mesh = s.mesh := (s.raiseVf_same p v).2.2.1
@[simp] theorem State.raiseVf_hbm (s : State) (p v : Nat) : (s.raiseVf p v).hbm = s.hbm := (s.raiseVf_same p v).2.2.2.1
@[simp] theorem State.raiseVf_srv (s : State) (p v : Nat) : (s.raiseVf p v).srv = s.srv := (s.raiseVf_same p v).2.2.2.2.1
@[simp] theorem State.raiseVf_lnk (s : State) (p v : Nat) : (s.raiseVf p v).lnk = s.lnk := (s.raiseVf_same p v).2.2.2.2.2.1
@[simp] theorem State.raiseVf_wts (s : State) (p v : Nat) : (s.raiseVf p v).wts = s.wts := (s.raiseVf_same p v).2.2.2.2.2.2.1
@[simp] theorem State.raiseVf_boot (s : State) (p v : Nat) : (s.raiseVf p v).boot = s.boot := (s.raiseVf_same p v).2.2.2.2.2.2.2.1
@[simp] theorem State.raiseVf_clk (s : State) (p v : Nat) : (s.raiseVf p v).clk = s.clk := (s.raiseVf_same p v).2.2.2.2.2.2.2.2.1
@[simp] theorem State.raiseVf_pwr (s : State) (p v : Nat) : (s.raiseVf p v).pwr = s.pwr := (s.raiseVf_same p v).2.2.2.2.2.2.2.2.2.1
@[simp] theorem State.raiseVf_thm (s : State) (p v : Nat) : (s.raiseVf p v).thm = s.thm := (s.raiseVf_same p v).2.2.2.2.2.2.2.2.2.2.1
@[simp] theorem State.raiseVf_sec (s : State) (p v : Nat) : (s.raiseVf p v).sec = s.sec := (s.raiseVf_same p v).2.2.2.2.2.2.2.2.2.2.2.1
@[simp] theorem State.raiseVf_free (s : State) (p v : Nat) : (s.raiseVf p v).free = s.free := (s.raiseVf_same p v).2.2.2.2.2.2.2.2.2.2.2.2.1
@[simp] theorem State.raiseVf_pending (s : State) (p v : Nat) : (s.raiseVf p v).pending = s.pending := (s.raiseVf_same p v).2.2.2.2.2.2.2.2.2.2.2.2.2

/-! State.eventEth -/

@[simp] theorem State.eventEth_latches (s : State) (e : MgmtEvent) : (s.eventEth e).latches = s.latches := (s.eventEth_same e).1
@[simp] theorem State.eventEth_core (s : State) (e : MgmtEvent) : (s.eventEth e).core = s.core := (s.eventEth_same e).2.1
@[simp] theorem State.eventEth_mesh (s : State) (e : MgmtEvent) : (s.eventEth e).mesh = s.mesh := (s.eventEth_same e).2.2.1
@[simp] theorem State.eventEth_hbm (s : State) (e : MgmtEvent) : (s.eventEth e).hbm = s.hbm := (s.eventEth_same e).2.2.2.1
@[simp] theorem State.eventEth_srv (s : State) (e : MgmtEvent) : (s.eventEth e).srv = s.srv := (s.eventEth_same e).2.2.2.2.1
@[simp] theorem State.eventEth_lnk (s : State) (e : MgmtEvent) : (s.eventEth e).lnk = s.lnk := (s.eventEth_same e).2.2.2.2.2.1
@[simp] theorem State.eventEth_wts (s : State) (e : MgmtEvent) : (s.eventEth e).wts = s.wts := (s.eventEth_same e).2.2.2.2.2.2.1
@[simp] theorem State.eventEth_boot (s : State) (e : MgmtEvent) : (s.eventEth e).boot = s.boot := (s.eventEth_same e).2.2.2.2.2.2.2.1
@[simp] theorem State.eventEth_clk (s : State) (e : MgmtEvent) : (s.eventEth e).clk = s.clk := (s.eventEth_same e).2.2.2.2.2.2.2.2.1
@[simp] theorem State.eventEth_pwr (s : State) (e : MgmtEvent) : (s.eventEth e).pwr = s.pwr := (s.eventEth_same e).2.2.2.2.2.2.2.2.2.1
@[simp] theorem State.eventEth_thm (s : State) (e : MgmtEvent) : (s.eventEth e).thm = s.thm := (s.eventEth_same e).2.2.2.2.2.2.2.2.2.2.1
@[simp] theorem State.eventEth_sec (s : State) (e : MgmtEvent) : (s.eventEth e).sec = s.sec := (s.eventEth_same e).2.2.2.2.2.2.2.2.2.2.2.1
@[simp] theorem State.eventEth_free (s : State) (e : MgmtEvent) : (s.eventEth e).free = s.free := (s.eventEth_same e).2.2.2.2.2.2.2.2.2.2.2.2.1
@[simp] theorem State.eventEth_pending (s : State) (e : MgmtEvent) : (s.eventEth e).pending = s.pending := (s.eventEth_same e).2.2.2.2.2.2.2.2.2.2.2.2.2

/-! State.eventI3c -/

@[simp] theorem State.eventI3c_latches (s : State) (e : MgmtEvent) : (s.eventI3c e).latches = s.latches := (s.eventI3c_same e).1
@[simp] theorem State.eventI3c_core (s : State) (e : MgmtEvent) : (s.eventI3c e).core = s.core := (s.eventI3c_same e).2.1
@[simp] theorem State.eventI3c_mesh (s : State) (e : MgmtEvent) : (s.eventI3c e).mesh = s.mesh := (s.eventI3c_same e).2.2.1
@[simp] theorem State.eventI3c_hbm (s : State) (e : MgmtEvent) : (s.eventI3c e).hbm = s.hbm := (s.eventI3c_same e).2.2.2.1
@[simp] theorem State.eventI3c_srv (s : State) (e : MgmtEvent) : (s.eventI3c e).srv = s.srv := (s.eventI3c_same e).2.2.2.2.1
@[simp] theorem State.eventI3c_lnk (s : State) (e : MgmtEvent) : (s.eventI3c e).lnk = s.lnk := (s.eventI3c_same e).2.2.2.2.2.1
@[simp] theorem State.eventI3c_wts (s : State) (e : MgmtEvent) : (s.eventI3c e).wts = s.wts := (s.eventI3c_same e).2.2.2.2.2.2.1
@[simp] theorem State.eventI3c_boot (s : State) (e : MgmtEvent) : (s.eventI3c e).boot = s.boot := (s.eventI3c_same e).2.2.2.2.2.2.2.1
@[simp] theorem State.eventI3c_clk (s : State) (e : MgmtEvent) : (s.eventI3c e).clk = s.clk := (s.eventI3c_same e).2.2.2.2.2.2.2.2.1
@[simp] theorem State.eventI3c_pwr (s : State) (e : MgmtEvent) : (s.eventI3c e).pwr = s.pwr := (s.eventI3c_same e).2.2.2.2.2.2.2.2.2.1
@[simp] theorem State.eventI3c_thm (s : State) (e : MgmtEvent) : (s.eventI3c e).thm = s.thm := (s.eventI3c_same e).2.2.2.2.2.2.2.2.2.2.1
@[simp] theorem State.eventI3c_sec (s : State) (e : MgmtEvent) : (s.eventI3c e).sec = s.sec := (s.eventI3c_same e).2.2.2.2.2.2.2.2.2.2.2.1
@[simp] theorem State.eventI3c_free (s : State) (e : MgmtEvent) : (s.eventI3c e).free = s.free := (s.eventI3c_same e).2.2.2.2.2.2.2.2.2.2.2.2.1
@[simp] theorem State.eventI3c_pending (s : State) (e : MgmtEvent) : (s.eventI3c e).pending = s.pending := (s.eventI3c_same e).2.2.2.2.2.2.2.2.2.2.2.2.2

/-! State.sensorEvent -/

@[simp] theorem State.sensorEvent_latches (s : State) (k i v : Nat) : (s.sensorEvent k i v).latches = s.latches := (s.sensorEvent_same k i v).1
@[simp] theorem State.sensorEvent_core (s : State) (k i v : Nat) : (s.sensorEvent k i v).core = s.core := (s.sensorEvent_same k i v).2.1
@[simp] theorem State.sensorEvent_mesh (s : State) (k i v : Nat) : (s.sensorEvent k i v).mesh = s.mesh := (s.sensorEvent_same k i v).2.2.1
@[simp] theorem State.sensorEvent_hbm (s : State) (k i v : Nat) : (s.sensorEvent k i v).hbm = s.hbm := (s.sensorEvent_same k i v).2.2.2.1
@[simp] theorem State.sensorEvent_srv (s : State) (k i v : Nat) : (s.sensorEvent k i v).srv = s.srv := (s.sensorEvent_same k i v).2.2.2.2.1
@[simp] theorem State.sensorEvent_lnk (s : State) (k i v : Nat) : (s.sensorEvent k i v).lnk = s.lnk := (s.sensorEvent_same k i v).2.2.2.2.2.1
@[simp] theorem State.sensorEvent_wts (s : State) (k i v : Nat) : (s.sensorEvent k i v).wts = s.wts := (s.sensorEvent_same k i v).2.2.2.2.2.2.1
@[simp] theorem State.sensorEvent_boot (s : State) (k i v : Nat) : (s.sensorEvent k i v).boot = s.boot := (s.sensorEvent_same k i v).2.2.2.2.2.2.2.1
@[simp] theorem State.sensorEvent_clk (s : State) (k i v : Nat) : (s.sensorEvent k i v).clk = s.clk := (s.sensorEvent_same k i v).2.2.2.2.2.2.2.2.1
@[simp] theorem State.sensorEvent_pwr (s : State) (k i v : Nat) : (s.sensorEvent k i v).pwr = s.pwr := (s.sensorEvent_same k i v).2.2.2.2.2.2.2.2.2.1
@[simp] theorem State.sensorEvent_thm (s : State) (k i v : Nat) : (s.sensorEvent k i v).thm = s.thm := (s.sensorEvent_same k i v).2.2.2.2.2.2.2.2.2.2.1
@[simp] theorem State.sensorEvent_sec (s : State) (k i v : Nat) : (s.sensorEvent k i v).sec = s.sec := (s.sensorEvent_same k i v).2.2.2.2.2.2.2.2.2.2.2.1
@[simp] theorem State.sensorEvent_free (s : State) (k i v : Nat) : (s.sensorEvent k i v).free = s.free := (s.sensorEvent_same k i v).2.2.2.2.2.2.2.2.2.2.2.2.1
@[simp] theorem State.sensorEvent_pending (s : State) (k i v : Nat) : (s.sensorEvent k i v).pending = s.pending := (s.sensorEvent_same k i v).2.2.2.2.2.2.2.2.2.2.2.2.2

/-! State.export -/

@[simp] theorem State.export_latches (s : State) (d : Sherd) : (s.export d).latches = s.latches := (s.export_same d).1
@[simp] theorem State.export_core (s : State) (d : Sherd) : (s.export d).core = s.core := (s.export_same d).2.1
@[simp] theorem State.export_mesh (s : State) (d : Sherd) : (s.export d).mesh = s.mesh := (s.export_same d).2.2.1
@[simp] theorem State.export_hbm (s : State) (d : Sherd) : (s.export d).hbm = s.hbm := (s.export_same d).2.2.2.1
@[simp] theorem State.export_srv (s : State) (d : Sherd) : (s.export d).srv = s.srv := (s.export_same d).2.2.2.2.1
@[simp] theorem State.export_lnk (s : State) (d : Sherd) : (s.export d).lnk = s.lnk := (s.export_same d).2.2.2.2.2.1
@[simp] theorem State.export_wts (s : State) (d : Sherd) : (s.export d).wts = s.wts := (s.export_same d).2.2.2.2.2.2.1
@[simp] theorem State.export_boot (s : State) (d : Sherd) : (s.export d).boot = s.boot := (s.export_same d).2.2.2.2.2.2.2.1
@[simp] theorem State.export_clk (s : State) (d : Sherd) : (s.export d).clk = s.clk := (s.export_same d).2.2.2.2.2.2.2.2.1
@[simp] theorem State.export_pwr (s : State) (d : Sherd) : (s.export d).pwr = s.pwr := (s.export_same d).2.2.2.2.2.2.2.2.2.1
@[simp] theorem State.export_thm (s : State) (d : Sherd) : (s.export d).thm = s.thm := (s.export_same d).2.2.2.2.2.2.2.2.2.2.1
@[simp] theorem State.export_sec (s : State) (d : Sherd) : (s.export d).sec = s.sec := (s.export_same d).2.2.2.2.2.2.2.2.2.2.2.1
@[simp] theorem State.export_free (s : State) (d : Sherd) : (s.export d).free = s.free := (s.export_same d).2.2.2.2.2.2.2.2.2.2.2.2.1
@[simp] theorem State.export_pending (s : State) (d : Sherd) : (s.export d).pending = s.pending := (s.export_same d).2.2.2.2.2.2.2.2.2.2.2.2.2

/-! State.suppress -/

@[simp] theorem State.suppress_latches (s : State) (d : Sherd) : (s.suppress d).latches = s.latches := (s.suppress_same d).1
@[simp] theorem State.suppress_core (s : State) (d : Sherd) : (s.suppress d).core = s.core := (s.suppress_same d).2.1
@[simp] theorem State.suppress_mesh (s : State) (d : Sherd) : (s.suppress d).mesh = s.mesh := (s.suppress_same d).2.2.1
@[simp] theorem State.suppress_hbm (s : State) (d : Sherd) : (s.suppress d).hbm = s.hbm := (s.suppress_same d).2.2.2.1
@[simp] theorem State.suppress_srv (s : State) (d : Sherd) : (s.suppress d).srv = s.srv := (s.suppress_same d).2.2.2.2.1
@[simp] theorem State.suppress_lnk (s : State) (d : Sherd) : (s.suppress d).lnk = s.lnk := (s.suppress_same d).2.2.2.2.2.1
@[simp] theorem State.suppress_wts (s : State) (d : Sherd) : (s.suppress d).wts = s.wts := (s.suppress_same d).2.2.2.2.2.2.1
@[simp] theorem State.suppress_boot (s : State) (d : Sherd) : (s.suppress d).boot = s.boot := (s.suppress_same d).2.2.2.2.2.2.2.1
@[simp] theorem State.suppress_clk (s : State) (d : Sherd) : (s.suppress d).clk = s.clk := (s.suppress_same d).2.2.2.2.2.2.2.2.1
@[simp] theorem State.suppress_pwr (s : State) (d : Sherd) : (s.suppress d).pwr = s.pwr := (s.suppress_same d).2.2.2.2.2.2.2.2.2.1
@[simp] theorem State.suppress_thm (s : State) (d : Sherd) : (s.suppress d).thm = s.thm := (s.suppress_same d).2.2.2.2.2.2.2.2.2.2.1
@[simp] theorem State.suppress_sec (s : State) (d : Sherd) : (s.suppress d).sec = s.sec := (s.suppress_same d).2.2.2.2.2.2.2.2.2.2.2.1
@[simp] theorem State.suppress_free (s : State) (d : Sherd) : (s.suppress d).free = s.free := (s.suppress_same d).2.2.2.2.2.2.2.2.2.2.2.2.1
@[simp] theorem State.suppress_pending (s : State) (d : Sherd) : (s.suppress d).pending = s.pending := (s.suppress_same d).2.2.2.2.2.2.2.2.2.2.2.2.2

/-! State.enqueueSherd -/

@[simp] theorem State.enqueueSherd_latches (s : State) (d : Sherd) : (s.enqueueSherd d).latches = s.latches := (s.enqueueSherd_same d).1
@[simp] theorem State.enqueueSherd_core (s : State) (d : Sherd) : (s.enqueueSherd d).core = s.core := (s.enqueueSherd_same d).2.1
@[simp] theorem State.enqueueSherd_mesh (s : State) (d : Sherd) : (s.enqueueSherd d).mesh = s.mesh := (s.enqueueSherd_same d).2.2.1
@[simp] theorem State.enqueueSherd_hbm (s : State) (d : Sherd) : (s.enqueueSherd d).hbm = s.hbm := (s.enqueueSherd_same d).2.2.2.1
@[simp] theorem State.enqueueSherd_srv (s : State) (d : Sherd) : (s.enqueueSherd d).srv = s.srv := (s.enqueueSherd_same d).2.2.2.2.1
@[simp] theorem State.enqueueSherd_lnk (s : State) (d : Sherd) : (s.enqueueSherd d).lnk = s.lnk := (s.enqueueSherd_same d).2.2.2.2.2.1
@[simp] theorem State.enqueueSherd_wts (s : State) (d : Sherd) : (s.enqueueSherd d).wts = s.wts := (s.enqueueSherd_same d).2.2.2.2.2.2.1
@[simp] theorem State.enqueueSherd_boot (s : State) (d : Sherd) : (s.enqueueSherd d).boot = s.boot := (s.enqueueSherd_same d).2.2.2.2.2.2.2.1
@[simp] theorem State.enqueueSherd_clk (s : State) (d : Sherd) : (s.enqueueSherd d).clk = s.clk := (s.enqueueSherd_same d).2.2.2.2.2.2.2.2.1
@[simp] theorem State.enqueueSherd_pwr (s : State) (d : Sherd) : (s.enqueueSherd d).pwr = s.pwr := (s.enqueueSherd_same d).2.2.2.2.2.2.2.2.2.1
@[simp] theorem State.enqueueSherd_thm (s : State) (d : Sherd) : (s.enqueueSherd d).thm = s.thm := (s.enqueueSherd_same d).2.2.2.2.2.2.2.2.2.2.1
@[simp] theorem State.enqueueSherd_sec (s : State) (d : Sherd) : (s.enqueueSherd d).sec = s.sec := (s.enqueueSherd_same d).2.2.2.2.2.2.2.2.2.2.2.1
@[simp] theorem State.enqueueSherd_free (s : State) (d : Sherd) : (s.enqueueSherd d).free = s.free := (s.enqueueSherd_same d).2.2.2.2.2.2.2.2.2.2.2.2.1
@[simp] theorem State.enqueueSherd_pending (s : State) (d : Sherd) : (s.enqueueSherd d).pending = s.pending := (s.enqueueSherd_same d).2.2.2.2.2.2.2.2.2.2.2.2.2

/-! State.stageSherd -/

@[simp] theorem State.stageSherd_latches (s : State) (d : Sherd) : (s.stageSherd d).latches = s.latches := (s.stageSherd_same d).1
@[simp] theorem State.stageSherd_core (s : State) (d : Sherd) : (s.stageSherd d).core = s.core := (s.stageSherd_same d).2.1
@[simp] theorem State.stageSherd_mesh (s : State) (d : Sherd) : (s.stageSherd d).mesh = s.mesh := (s.stageSherd_same d).2.2.1
@[simp] theorem State.stageSherd_hbm (s : State) (d : Sherd) : (s.stageSherd d).hbm = s.hbm := (s.stageSherd_same d).2.2.2.1
@[simp] theorem State.stageSherd_srv (s : State) (d : Sherd) : (s.stageSherd d).srv = s.srv := (s.stageSherd_same d).2.2.2.2.1
@[simp] theorem State.stageSherd_lnk (s : State) (d : Sherd) : (s.stageSherd d).lnk = s.lnk := (s.stageSherd_same d).2.2.2.2.2.1
@[simp] theorem State.stageSherd_wts (s : State) (d : Sherd) : (s.stageSherd d).wts = s.wts := (s.stageSherd_same d).2.2.2.2.2.2.1
@[simp] theorem State.stageSherd_boot (s : State) (d : Sherd) : (s.stageSherd d).boot = s.boot := (s.stageSherd_same d).2.2.2.2.2.2.2.1
@[simp] theorem State.stageSherd_clk (s : State) (d : Sherd) : (s.stageSherd d).clk = s.clk := (s.stageSherd_same d).2.2.2.2.2.2.2.2.1
@[simp] theorem State.stageSherd_pwr (s : State) (d : Sherd) : (s.stageSherd d).pwr = s.pwr := (s.stageSherd_same d).2.2.2.2.2.2.2.2.2.1
@[simp] theorem State.stageSherd_thm (s : State) (d : Sherd) : (s.stageSherd d).thm = s.thm := (s.stageSherd_same d).2.2.2.2.2.2.2.2.2.2.1
@[simp] theorem State.stageSherd_sec (s : State) (d : Sherd) : (s.stageSherd d).sec = s.sec := (s.stageSherd_same d).2.2.2.2.2.2.2.2.2.2.2.1
@[simp] theorem State.stageSherd_free (s : State) (d : Sherd) : (s.stageSherd d).free = s.free := (s.stageSherd_same d).2.2.2.2.2.2.2.2.2.2.2.2.1
@[simp] theorem State.stageSherd_pending (s : State) (d : Sherd) : (s.stageSherd d).pending = s.pending := (s.stageSherd_same d).2.2.2.2.2.2.2.2.2.2.2.2.2

/-! State.sherdN -/

@[simp] theorem State.sherdN_latches (s : State) (e : Event) (n : Nat) : (s.sherdN e n).latches = s.latches := (s.sherdN_same e n).1
@[simp] theorem State.sherdN_core (s : State) (e : Event) (n : Nat) : (s.sherdN e n).core = s.core := (s.sherdN_same e n).2.1
@[simp] theorem State.sherdN_mesh (s : State) (e : Event) (n : Nat) : (s.sherdN e n).mesh = s.mesh := (s.sherdN_same e n).2.2.1
@[simp] theorem State.sherdN_hbm (s : State) (e : Event) (n : Nat) : (s.sherdN e n).hbm = s.hbm := (s.sherdN_same e n).2.2.2.1
@[simp] theorem State.sherdN_srv (s : State) (e : Event) (n : Nat) : (s.sherdN e n).srv = s.srv := (s.sherdN_same e n).2.2.2.2.1
@[simp] theorem State.sherdN_lnk (s : State) (e : Event) (n : Nat) : (s.sherdN e n).lnk = s.lnk := (s.sherdN_same e n).2.2.2.2.2.1
@[simp] theorem State.sherdN_wts (s : State) (e : Event) (n : Nat) : (s.sherdN e n).wts = s.wts := (s.sherdN_same e n).2.2.2.2.2.2.1
@[simp] theorem State.sherdN_boot (s : State) (e : Event) (n : Nat) : (s.sherdN e n).boot = s.boot := (s.sherdN_same e n).2.2.2.2.2.2.2.1
@[simp] theorem State.sherdN_clk (s : State) (e : Event) (n : Nat) : (s.sherdN e n).clk = s.clk := (s.sherdN_same e n).2.2.2.2.2.2.2.2.1
@[simp] theorem State.sherdN_pwr (s : State) (e : Event) (n : Nat) : (s.sherdN e n).pwr = s.pwr := (s.sherdN_same e n).2.2.2.2.2.2.2.2.2.1
@[simp] theorem State.sherdN_thm (s : State) (e : Event) (n : Nat) : (s.sherdN e n).thm = s.thm := (s.sherdN_same e n).2.2.2.2.2.2.2.2.2.2.1
@[simp] theorem State.sherdN_sec (s : State) (e : Event) (n : Nat) : (s.sherdN e n).sec = s.sec := (s.sherdN_same e n).2.2.2.2.2.2.2.2.2.2.2.1
@[simp] theorem State.sherdN_free (s : State) (e : Event) (n : Nat) : (s.sherdN e n).free = s.free := (s.sherdN_same e n).2.2.2.2.2.2.2.2.2.2.2.2.1
@[simp] theorem State.sherdN_pending (s : State) (e : Event) (n : Nat) : (s.sherdN e n).pending = s.pending := (s.sherdN_same e n).2.2.2.2.2.2.2.2.2.2.2.2.2

/-! State.sherd -/

@[simp] theorem State.sherd_latches (s : State) (e : Event) : (s.sherd e).latches = s.latches := (s.sherd_same e).1
@[simp] theorem State.sherd_core (s : State) (e : Event) : (s.sherd e).core = s.core := (s.sherd_same e).2.1
@[simp] theorem State.sherd_mesh (s : State) (e : Event) : (s.sherd e).mesh = s.mesh := (s.sherd_same e).2.2.1
@[simp] theorem State.sherd_hbm (s : State) (e : Event) : (s.sherd e).hbm = s.hbm := (s.sherd_same e).2.2.2.1
@[simp] theorem State.sherd_srv (s : State) (e : Event) : (s.sherd e).srv = s.srv := (s.sherd_same e).2.2.2.2.1
@[simp] theorem State.sherd_lnk (s : State) (e : Event) : (s.sherd e).lnk = s.lnk := (s.sherd_same e).2.2.2.2.2.1
@[simp] theorem State.sherd_wts (s : State) (e : Event) : (s.sherd e).wts = s.wts := (s.sherd_same e).2.2.2.2.2.2.1
@[simp] theorem State.sherd_boot (s : State) (e : Event) : (s.sherd e).boot = s.boot := (s.sherd_same e).2.2.2.2.2.2.2.1
@[simp] theorem State.sherd_clk (s : State) (e : Event) : (s.sherd e).clk = s.clk := (s.sherd_same e).2.2.2.2.2.2.2.2.1
@[simp] theorem State.sherd_pwr (s : State) (e : Event) : (s.sherd e).pwr = s.pwr := (s.sherd_same e).2.2.2.2.2.2.2.2.2.1
@[simp] theorem State.sherd_thm (s : State) (e : Event) : (s.sherd e).thm = s.thm := (s.sherd_same e).2.2.2.2.2.2.2.2.2.2.1
@[simp] theorem State.sherd_sec (s : State) (e : Event) : (s.sherd e).sec = s.sec := (s.sherd_same e).2.2.2.2.2.2.2.2.2.2.2.1
@[simp] theorem State.sherd_free (s : State) (e : Event) : (s.sherd e).free = s.free := (s.sherd_same e).2.2.2.2.2.2.2.2.2.2.2.2.1
@[simp] theorem State.sherd_pending (s : State) (e : Event) : (s.sherd e).pending = s.pending := (s.sherd_same e).2.2.2.2.2.2.2.2.2.2.2.2.2

/-! State.advise -/

@[simp] theorem State.advise_latches (s : State) (e : Event) : (s.advise e).latches = s.latches := (s.advise_same e).1
@[simp] theorem State.advise_core (s : State) (e : Event) : (s.advise e).core = s.core := (s.advise_same e).2.1
@[simp] theorem State.advise_mesh (s : State) (e : Event) : (s.advise e).mesh = s.mesh := (s.advise_same e).2.2.1
@[simp] theorem State.advise_hbm (s : State) (e : Event) : (s.advise e).hbm = s.hbm := (s.advise_same e).2.2.2.1
@[simp] theorem State.advise_srv (s : State) (e : Event) : (s.advise e).srv = s.srv := (s.advise_same e).2.2.2.2.1
@[simp] theorem State.advise_lnk (s : State) (e : Event) : (s.advise e).lnk = s.lnk := (s.advise_same e).2.2.2.2.2.1
@[simp] theorem State.advise_wts (s : State) (e : Event) : (s.advise e).wts = s.wts := (s.advise_same e).2.2.2.2.2.2.1
@[simp] theorem State.advise_boot (s : State) (e : Event) : (s.advise e).boot = s.boot := (s.advise_same e).2.2.2.2.2.2.2.1
@[simp] theorem State.advise_clk (s : State) (e : Event) : (s.advise e).clk = s.clk := (s.advise_same e).2.2.2.2.2.2.2.2.1
@[simp] theorem State.advise_pwr (s : State) (e : Event) : (s.advise e).pwr = s.pwr := (s.advise_same e).2.2.2.2.2.2.2.2.2.1
@[simp] theorem State.advise_thm (s : State) (e : Event) : (s.advise e).thm = s.thm := (s.advise_same e).2.2.2.2.2.2.2.2.2.2.1
@[simp] theorem State.advise_sec (s : State) (e : Event) : (s.advise e).sec = s.sec := (s.advise_same e).2.2.2.2.2.2.2.2.2.2.2.1
@[simp] theorem State.advise_free (s : State) (e : Event) : (s.advise e).free = s.free := (s.advise_same e).2.2.2.2.2.2.2.2.2.2.2.2.1
@[simp] theorem State.advise_pending (s : State) (e : Event) : (s.advise e).pending = s.pending := (s.advise_same e).2.2.2.2.2.2.2.2.2.2.2.2.2

/-! ### Registers -/

@[simp] theorem State.raisePf_regs (s : State) (v : Nat) : (s.raisePf v).regs = s.regs := by unfold State.raisePf; split_ifs <;> rfl
@[simp] theorem State.raisePf_rd (s : State) (v : Nat) (a : Nat) : (s.raisePf v).rd a = s.rd a := State.rd_congr (by simp) a
@[simp] theorem State.raisePf_fld (s : State) (v : Nat) (a : Nat) (f : Fld) : (s.raisePf v).fld a f = s.fld a f := by simp [State.fld]
@[simp] theorem State.raiseVf_regs (s : State) (p v : Nat) : (s.raiseVf p v).regs = s.regs := by unfold State.raiseVf; dsimp only; split_ifs <;> rfl
@[simp] theorem State.raiseVf_rd (s : State) (p v : Nat) (a : Nat) : (s.raiseVf p v).rd a = s.rd a := State.rd_congr (by simp) a
@[simp] theorem State.raiseVf_fld (s : State) (p v : Nat) (a : Nat) (f : Fld) : (s.raiseVf p v).fld a f = s.fld a f := by simp [State.fld]
@[simp] theorem State.eventEth_regs (s : State) (e : MgmtEvent) : (s.eventEth e).regs = s.regs := by unfold State.eventEth; split_ifs <;> rfl
@[simp] theorem State.eventEth_rd (s : State) (e : MgmtEvent) (a : Nat) : (s.eventEth e).rd a = s.rd a := State.rd_congr (by simp) a
@[simp] theorem State.eventEth_fld (s : State) (e : MgmtEvent) (a : Nat) (f : Fld) : (s.eventEth e).fld a f = s.fld a f := by simp [State.fld]
@[simp] theorem State.eventI3c_regs (s : State) (e : MgmtEvent) : (s.eventI3c e).regs = s.regs := by unfold State.eventI3c; split_ifs <;> rfl
@[simp] theorem State.eventI3c_rd (s : State) (e : MgmtEvent) (a : Nat) : (s.eventI3c e).rd a = s.rd a := State.rd_congr (by simp) a
@[simp] theorem State.eventI3c_fld (s : State) (e : MgmtEvent) (a : Nat) (f : Fld) : (s.eventI3c e).fld a f = s.fld a f := by simp [State.fld]
@[simp] theorem State.sensorEvent_regs (s : State) (k i v : Nat) : (s.sensorEvent k i v).regs = s.regs := by simp [State.sensorEvent]
@[simp] theorem State.sensorEvent_rd (s : State) (k i v : Nat) (a : Nat) : (s.sensorEvent k i v).rd a = s.rd a := State.rd_congr (by simp) a
@[simp] theorem State.sensorEvent_fld (s : State) (k i v : Nat) (a : Nat) (f : Fld) : (s.sensorEvent k i v).fld a f = s.fld a f := by simp [State.fld]
@[simp] theorem State.export_regs (s : State) (d : Sherd) : (s.export d).regs = s.regs := by 
  unfold State.export
  split
  · rfl
  · dsimp only
    generalize (s.fld Reg.LOG_CTL Fld.LOG_CTL_ETHEN == 1 && s.mgmt.rcvEth) = e
    generalize (s.fld Reg.LOG_CTL Fld.LOG_CTL_MCTPEN == 1 && s.mgmt.rcvI3c) = m
    cases e <;> cases m <;> simp
@[simp] theorem State.export_rd (s : State) (d : Sherd) (a : Nat) : (s.export d).rd a = s.rd a := State.rd_congr (by simp) a
@[simp] theorem State.export_fld (s : State) (d : Sherd) (a : Nat) (f : Fld) : (s.export d).fld a f = s.fld a f := by simp [State.fld]

theorem State.qstat_rd (s : State) {a : Nat} (h : a ≠ Reg.LOG_QSTAT) : s.qstat.rd a = s.rd a := by
  simp [State.qstat, State.rd_setF_ne h.symm]
theorem State.takeSeq_rd (s : State) {a : Nat} (h : a ≠ Reg.LOG_SEQ_LO) (h' : a ≠ Reg.LOG_SEQ_HI) : s.takeSeq.2.rd a = s.rd a := by
  have e : Reg.LOG_SEQ_LO + 4 = Reg.LOG_SEQ_HI := rfl
  simp [State.takeSeq, State.inc64, State.wr64, e, State.rd_wr_ne h.symm, State.rd_wr_ne h'.symm]
theorem State.suppress_rd (s : State) (d : Sherd) {a : Nat} (h : a ∉ logRegs) : (s.suppress d).rd a = s.rd a := by
  simp [logRegs] at h
  obtain ⟨h1, h2, h3, h4, h5⟩ := h
  unfold State.suppress
  dsimp only
  split
  · refine (State.rd_congr (t := (s.inc Reg.LOG_SUPCNT 1).setF Reg.LOG_STAT Fld.LOG_STAT_SUPP 1) (by with_reducible rfl) a).trans ?_
    rw [State.rd_setF_ne (Ne.symm h5), State.rd_inc_ne (Ne.symm h4)]
  · refine (State.rd_congr (t := ((s.inc Reg.LOG_SUPCNT 1).setF Reg.LOG_STAT Fld.LOG_STAT_SUPP 1).takeSeq.2) (by with_reducible rfl) a).trans ?_
    rw [State.takeSeq_rd _ h1 h2, State.rd_setF_ne (Ne.symm h5), State.rd_inc_ne (Ne.symm h4)]
theorem State.enqueueSherd_rd (s : State) (d : Sherd) {a : Nat} (h : a ≠ Reg.LOG_QSTAT) : (s.enqueueSherd d).rd a = s.rd a := by
  unfold State.enqueueSherd
  rw [State.export_rd, State.qstat_rd _ h]
  exact State.rd_congr rfl a
theorem State.toReserved_rd (s : State) (d : Sherd) (a : Nat) : (s.toReserved d).2.rd a = s.rd a := by
  unfold State.toReserved
  split
  · rfl
  · exact State.rd_congr (by with_reducible rfl) a
theorem State.stageSherd_rd (s : State) (d : Sherd) {a : Nat} (h : a ∉ logRegs) : (s.stageSherd d).rd a = s.rd a := by
  have hq : a ≠ Reg.LOG_QSTAT := fun e => h (by simp [logRegs, e])
  unfold State.stageSherd
  dsimp only
  split_ifs
  · rw [State.export_rd, State.toReserved_rd]
  · exact State.suppress_rd s d h
  · exact State.enqueueSherd_rd s d hq
  · exact State.enqueueSherd_rd s d hq
  · split
    · rw [State.enqueueSherd_rd _ _ hq, State.suppress_rd _ _ h]; exact State.rd_congr rfl a
    · exact State.suppress_rd s d h
/-- The creation of a record changes the registers of the log alone. -/
theorem State.sherdN_rd (s : State) (e : Event) (n : Nat) {a : Nat} (h : a ∉ logRegs) : (s.sherdN e n).rd a = s.rd a := by
  have h1 : a ≠ Reg.LOG_SEQ_LO := fun e => h (by simp [logRegs, e])
  have h2 : a ≠ Reg.LOG_SEQ_HI := fun e => h (by simp [logRegs, e])
  unfold State.sherdN State.when
  dsimp only
  split_ifs
  · rw [State.raisePf_rd, State.stageSherd_rd _ _ h, State.takeSeq_rd _ h1 h2]
  · rw [State.raisePf_rd, State.stageSherd_rd _ _ h, State.takeSeq_rd _ h1 h2]
  · rw [State.stageSherd_rd _ _ h, State.takeSeq_rd _ h1 h2]
  · rw [State.stageSherd_rd _ _ h, State.takeSeq_rd _ h1 h2]
theorem State.sherd_rd (s : State) (e : Event) {a : Nat} (h : a ∉ logRegs) : (s.sherd e).rd a = s.rd a := State.sherdN_rd s e 1 h
theorem State.sherd_fld (s : State) (e : Event) {a : Nat} (h : a ∉ logRegs) (f : Fld) : (s.sherd e).fld a f = s.fld a f := by
  simp [State.fld, State.sherd_rd s e h]
theorem State.advise_rd (s : State) (e : Event) {a : Nat} (h : a ∉ logRegs) : (s.advise e).rd a = s.rd a := by
  unfold State.advise
  split
  · rw [State.sherd_rd _ _ h]; exact State.rd_congr rfl a
  · dsimp only
    split_ifs
    · exact State.rd_congr rfl a
    · rw [State.sherdN_rd _ _ _ h]; exact State.rd_congr rfl a
theorem State.advise_fld (s : State) (e : Event) {a : Nat} (h : a ∉ logRegs) (f : Fld) : (s.advise e).fld a f = s.fld a f := by
  simp [State.fld, State.advise_rd s e h]

end Sys2Proof.Machine
end

