-- ==== Sys2Proof/Tests/Slice0.lean ====
section
/-!
SUPPORT. The model's own tests: ill-formed commands that WellFormed refuses, results of single commands that the spec's examples give, and for
every clause of a statement that has hypotheses a state and operands that meet them all.
-/
set_option Elab.async false

namespace Sys2Proof.Tests

open Sys2Proof.Machine

/-! ### Small states -/

def seg0 : Segment := { a := List.replicate 1024 1, sseg := 0, zblk := List.replicate 32 0, xblk := List.replicate 32 0, iblk := 6 }
def tmpl0 : DispTmpl := { odst := 0, psrc := 0, rid := 1, col0 := 0, base := 0, layer := 2, pc := false }
def job0 : TileJob := { seg := seg0, ctx := 1, pc := 4, tmpl := tmpl0 }
def sTile1 : State := ({ pwr := { credits := [(3, 2)] } } : State).setEng 3 70 { bufs := [job0] }
def sTile2 : State := ({} : State).setEng 3 70 { bufs := [job0], phase := .check, n := 1, target := 4 }
def sTile3 : State := (({} : State).setEng 3 70 { bufs := [job0], phase := .check, n := 15, target := 16, qsum := List.replicate 1104 0, clip := List.replicate 1104 false }).wr (Reg.TILE_CTL 3 70) 0
def drain0 : TileDrain := { job := job0, n := 4, hot := true, flagged := false, unchk := false, refFail := 3, qsum := List.replicate 1104 1, clip := List.replicate 1104 false, last := 7 }
def sTile4 : State := (({} : State).setEng 3 70 { bufs := [job0], drains := [drain0], winStart := 3 }).wr64 (Reg.TILE_RDCNT_LO 3 70) 0xFFFFFFFFFF
def pIns (lo v : Nat) : Nat := v * 2 ^ lo
/-- core 3, context 1, partition 2, running, rows 100..399, tile groups 0..3, queues all, counters all -/
def sCtx (tg : Bool) : State :=
  ((((((((((({} : State).setF (Reg.CORE_CTXCTL 3 1) Fld.CORE_CTXCTL_EN 1).setF (Reg.CORE_CTXCTL 3 1) Fld.CORE_CTXCTL_PART 2).setF (Reg.CORE_CTXCTL 3 1) Fld.CORE_CTXCTL_RUN 1).setF (Reg.CORE_CTXCTL 3 1) Fld.CORE_CTXCTL_MODE (b2n tg)).setF (Reg.CORE_CTXROW 3 1) Fld.CORE_CTXROW_BASE 100).setF (Reg.CORE_CTXROW 3 1) Fld.CORE_CTXROW_COUNT 300).setF (Reg.CORE_CTXTG 3 1) Fld.CORE_CTXTG_GMASK 15).wr (Reg.CORE_CTXQ 3 1) 0xFFFF).wr (Reg.CORE_CTXCTR_LO 3 1) 0xFFFFFFFF).wr (Reg.CORE_CTXPROG 3 1) 0x400000).wr (Reg.CORE_CTXBUF 3 1) (4 * 2 ^ 16)
def withCur (s : State) (b slot : Nat) (more : Nat) : State := s.setCtx 3 1 { s.ctx 3 1 with cur := some ⟨b, [200, 210, 220, 230, 0,0,0,0,0,0,0,0,0,0,0,0], 2 ^ slot + more, 5⟩, a := [200, 210, 220, 230, 0,0,0,0,0,0,0,0,0,0,0,0] }
def iss (b slot : Nat) (more : Nat) : Issued := ⟨b, [200, 210, 220, 230, 0,0,0,0,0,0,0,0,0,0,0,0], 2 ^ slot + more, 5⟩
def sProgB (b : Nat) : State := ((List.range 8).foldl (fun s j => s.wr (Reg.CORE_PMEM 3 (8 * 2 + j)) (bits b (32 * j) 32)) ((sCtx false).wr (Reg.CORE_CTXPC 3 1) 0)).setPc 3 1 2
def rowN (x : Nat) : Row := BitVec.ofNat 4352 x
def descW : Nat := 1 + 5 * 2 ^ 16 + 1 * 2 ^ 32 + 2 * 2 ^ 64 + 17 * 2 ^ 80 + 7 * 2 ^ 96
def sDesc : State :=
  let s := ((sCtx false).wr (Reg.SHELF_BUFA 3 1) (2 ^ 31 + 150)).wr (Reg.SHELF_BUFB 3 1) (31 * 2 ^ 21 + 31 * 2 ^ 16 + 100)
  let s := (List.range 8).foldl (fun s j => s.wr (Reg.QUE_DESC 3 (72 + j)) (bits descW (32 * j) 32)) s
  let s := (s.setF (Reg.HBM_HMAP (2 * 64 + 7)) Fld.HBM_HMAP_VALID 1).setF (Reg.HBM_HMAP (2 * 64 + 7)) Fld.HBM_HMAP_RGN 3
  (((s.setF (Reg.HBM_RGNA 3) Fld.HBM_RGNA_VALID 1).setF (Reg.HBM_RGNA 3) Fld.HBM_RGNA_PART 2).setF (Reg.HBM_RGNC 3) Fld.HBM_RGNC_VALUE 1)
def sWheel (f : Nat × Nat × Nat) : State :=
  let s := ((sCtx false).wr (Reg.CORE_WTPL 3 8) (1 + 1 * 2 ^ 16)).wr (Reg.CORE_WTPL 3 9) (1 + f.1 * 2 ^ 16 + f.2.1 * 2 ^ 24)
  let s := (s.wr (Reg.CORE_WTPL 3 10) f.2.2)
  ((s.putRow 3 210 (rowN 0x41234156789ABCDEF0) false false).putRow 3 220 (rowN 0x3F803F8077777) false false)
def desc0 : QDesc := { write := false, keep := false, fence := false, ctr := 5, first := 150, rows := 2, hstride := 17, region := 3, hoff := 0, ctx := 1, tagged := false, src := 9, pc := 3 }
def sLand : State :=
  let s := sDesc.setQueue 3 4 [{ desc0 with started := true, id := 7 }]
  { s with hbm := { s.hbm with resps := (List.range 17).map fun g => { by_ := .desc 3 4 7 1 g, write := false, data := BitVec.ofNat 256 (g + 5), poison := false, refused := false } } }
def deliv0 : Delivered := { tile := 70, job := { job0 with tmpl := { tmpl0 with psrc := 0xFFFF, odst := 150 } }, n := 1, flagged := false, unchk := false, clipb := List.replicate 32 0, unrep := 0, q := List.replicate 1024 3 }
def row0 : MeshRow := { data := rowN 77, poison := false, dnode := 3, snode := 4, part := 2, vc := 0, reduce := false, ste := 0, drow := 180, wt := 1 }
def sMsg (l : List Msg) : State := { mesh := { msgs := l } }
def mem23 (s : State) : State := (s.setF (Reg.CNET_PMEM 2) Fld.CNET_PMEM_CORES 12)
def red0 : P40 := P40.ofRow (rowN (5 + 2 ^ 16 * 3))
def rRow : MeshRow := { row0 with reduce := true, data := rowN (2 ^ 100) }
def sRed : State :=
  let s := ((sCtx true).wr (Reg.SHELF_BUFA 3 1) (2 ^ 31 + 150)).wr (Reg.SHELF_BUFB 3 1) (31 * 2 ^ 21 + 31 * 2 ^ 16 + 100)
  let s := ((s.setF (Reg.RTR_REDA 3 7) Fld.RTR_REDA_VALID 1).setF (Reg.RTR_REDA 3 7) Fld.RTR_REDA_PART 2).setF (Reg.RTR_REDA 3 7) Fld.RTR_REDA_NROWS 10
  let s := ((s.setF (Reg.RTR_REDB 3 7) Fld.RTR_REDB_DROW 175).setF (Reg.RTR_REDB 3 7) Fld.RTR_REDB_RID (P40.ofRow rRow.data).rid).wr (Reg.RTR_REDC 3 7) 60000
  s.setDeliv (ctxKey 3 1) [rRow]
def uOf (s : State) (t : MsgType) (f to_ p : Nat) : State := ((s.takeMsg t f to_ p).map (·.2)).getD {}
def sSD : State := { (((sCtx false).setF (Reg.CNET_PMEM 2) Fld.CNET_PMEM_CORES 8).setF (Reg.CNET_PSTAT 2) Fld.CNET_PSTAT_RUN 1).setF (Reg.SRV_PCFG 2) Fld.SRV_PCFG_JOBPARTS 2 with mesh := { msgs := [⟨.stepDone, 3, 42, 2, 6⟩] } }
def sPS : State := { (((sCtx true).setF (Reg.CNET_PSTAT 2) Fld.CNET_PSTAT_RUN 2).setF (Reg.SRV_PCFG 2) Fld.SRV_PCFG_JOBPARTS 2).setCtx 3 1 { sent := 4 } with mesh := { msgs := [⟨.pstart, 42, 3, 2, 0⟩] } }
def sRgn : State :=
  let s := (({} : State).setF (Reg.HBM_RGNA 3) Fld.HBM_RGNA_VALID 1).setF (Reg.HBM_RGNA 3) Fld.HBM_RGNA_PART 2
  (s.setF (Reg.HBM_RGNB 3) Fld.HBM_RGNB_VALUE 1024).setF (Reg.HBM_RGNC 3) Fld.HBM_RGNC_VALUE 2
def hreq (w : Bool) : HbmReq := { by_ := .desc 3 4 7 0 0, part := 2, g := 0x4000003, write := w, data := 99, poison := false, ok := true }
def sReq (w : Bool) : State := { sRgn with hbm := { reqs := [hreq w] } }
def sLive : State := ({} : State).setQueue 3 4 [{ desc0 with started := true, id := 7 }]
def sKv : State :=
  let s := (({} : State).setF Reg.CFG_BOOT Fld.CFG_BOOT_PHASE 9).setVf 2 { ranges := [{ index := 0, base := 0x100000, slots := 4, used := [0] }] }
  (s.setStream 9 { state := .run, part := 2, nblk := 1, tenant := 5, gen := 3 }).setKv 9 0 (some { tier := 0, off := 0x80000000, chip := 0, seq := 0 })
def mvOut : Move := { part := 2, stream := 9, block := 0, out := true, tier := 0, chip := 0, slot := 0, step := 0, seq := 0, data := [] }
def mv3 : Move := { mvOut with tier := 2, slot := 1, step := 3, seq := 1 }
def mvIn : Move := { mvOut with out := false }
def sldB : Sealed := { srcchip := 0, tenant := 5, ctx := 9, block := 0, gen := 3, seq := 1, tier := 2, chip := 0, slot := 1, data := [7, 8] }
def sKv2 : State := sKv.setKv 9 0 (some { tier := 2, off := 1, chip := 0, seq := 1 })
def sKvR : State := { (sRgn.setF (Reg.HBM_RGNA 3) Fld.HBM_RGNA_TYPE 2).setF (Reg.HBM_RGNA 3) Fld.HBM_RGNA_TENANT 5 with srv := sKv2.srv, host := sKv2.host, hbm := { moves := [{ mvIn with step := 4, data := [7, 8] }], sealed := [sldB] } }
def sTr : State := (List.range 8).foldl (fun s m => s.setF (Reg.HBM_STAT m) Fld.HBM_STAT_TRAINED 1) ({ sec := { tenants := [{ id := 5, pmask := 4 }] } } : State)
def sRw : State := (((sTr.setF (Reg.HBM_RGNA 3) Fld.HBM_RGNA_PART 2).setF (Reg.HBM_RGNA 3) Fld.HBM_RGNA_TENANT 5).setF (Reg.HBM_RGNB 3) Fld.HBM_RGNB_VALUE 1024).setF (Reg.HBM_RGNC 3) Fld.HBM_RGNC_VALUE 2
def sRwW : Nat := (sRw.setF (Reg.HBM_RGNA 3) Fld.HBM_RGNA_VALID 1).rd (Reg.HBM_RGNA 3)
def setV (s : State) (e : SqEntry) : State := s.setVf 2 { cmds := [{ entry := e }, { entry := { op := 0, cid := 99 } }], mask := 0 }
def cmdOf (e : SqEntry) : VfCmd := { entry := e }
def sOn (s : State) : State := s.setF Reg.CFG_BOOT Fld.CFG_BOOT_PHASE 9
def admRec : Nat := [(1, 3), (2, 5), (4, 2), (5, 255), (16, 77), (28, 10), (32, 20), (36, 5), (56, 7), (60, 9), (66, 40), (68, 65536), (72, 0x3F80), (104, 1), (105, 4), (117, 0)].foldl (fun a e => a + e.2 * 2 ^ (8 * e.1)) 0
def sAdm : State :=
  let s := sOn (setV ({ sec := { tenants := [{ id := 5, pmask := 4 }] } } : State) { op := 1, cid := 4 })
  let s := (s.setF (Reg.CNET_PSTAT 2) Fld.CNET_PSTAT_RUN 2).setF (Reg.SRV_PPLAN 2) Fld.SRV_PPLAN_DPE 10
  let s := (s.setF (Reg.SRV_PCTX 2) Fld.SRV_PCTX_COUNT 4).setF (Reg.SRV_PCTX 2) Fld.SRV_PCTX_BASE 8
  let s := [(3, 0, 0), (4, 5, 1)].foldl (fun (s : State) e =>
    let s := ((s.setF (Reg.HBM_RGNA e.1) Fld.HBM_RGNA_VALID 1).setF (Reg.HBM_RGNA e.1) Fld.HBM_RGNA_PART 2).setF (Reg.HBM_RGNA e.1) Fld.HBM_RGNA_TYPE e.2.1
    let s := (s.setF (Reg.HBM_RGNA e.1) Fld.HBM_RGNA_TENANT 5).setF (Reg.HBM_RGNB e.1) Fld.HBM_RGNB_VALUE (1024 + e.1)
    let s := s.setF (Reg.HBM_RGNC e.1) Fld.HBM_RGNC_VALUE 1
    (s.setF (Reg.HBM_HMAP (128 + e.2.2)) Fld.HBM_HMAP_VALID 1).setF (Reg.HBM_HMAP (128 + e.2.2)) Fld.HBM_HMAP_RGN e.1) s
  s
def sStep (x : PartSrv) : State := ((({} : State).setPart 2 x).setF (Reg.CNET_PSTAT 2) Fld.CNET_PSTAT_RUN 2).setF (Reg.CNET_PMEM 2) Fld.CNET_PMEM_CORES 8
def sPk : State := ({ sKv with regs := [] } : State).setStream 9 { sKv.stream 9 with state := .paused, former := .run, tpause := 1000, parkt := 5, ttl := 2 }
def sAdp : State :=
  let s := ((sRgn.setF (Reg.HBM_RGNA 3) Fld.HBM_RGNA_TYPE 3).setF (Reg.HBM_HMAP 135) Fld.HBM_HMAP_VALID 1).setF (Reg.HBM_HMAP 135) Fld.HBM_HMAP_RGN 3
  let s := (s.setF (Reg.ADP_BANK1 133) Fld.ADP_BANK0_HANDLE 7).setF (Reg.ADP_SCTL 133) Fld.ADP_SCTL_CFG 1
  (s.wr (Reg.ADP_SRC_HI 2) (2 ^ 31)).wr (Reg.ADP_SRCLEN 2) 64
def sCp : State := (((sOn sRgn).setF (Reg.HBM_RGNA 3) Fld.HBM_RGNA_HOST 1).setF (Reg.HBM_HMAP 135) Fld.HBM_HMAP_VALID 1).setF (Reg.HBM_HMAP 135) Fld.HBM_HMAP_RGN 3
def prt (i st : Nat) (x : Port) : State := (({ (({} : State).setF (Reg.LNK_CTL i) Fld.LNK_CTL_EN 1) with core := {} } : State).setPortState i st).setPort i x
def fl0 (seq ack : Nat) : FlitLink := { seq := BitVec.ofNat 12 seq, ack := BitVec.ofNat 12 ack, check := true, ksw := false, data := 1, req := 2, rsp := 3, xctl := 4, fecCe := 5, fecUe := 0 }
def trec : Nat := 0x5845 + 2 ^ 16 * 0x10 + 2 ^ 24 * 0x20 + 2 ^ 48 * 7 + 2 ^ 64 * 5 + 2 ^ 80 * 3 + 2 ^ 96 * 9
def sNeg (st : Nat) : State :=
  let s := ((prt 4 st { epoch := 7, replay := [{ type := .pread, seq := 0, ack := 0, ksw := false, credits := [], body := .none }] }).setF (Reg.LNK_CTL 4) Fld.LNK_CTL_VMAX 2).wr (Reg.LNK_FLUEID 4) 9
  s.wr (Reg.LNK_PEER 4) (3 * 2 ^ 28 + 7 * 2 ^ 12 + 5)
def bindS (s : State) : State :=
  let s := ((s.setF (Reg.LNK_PBA 4 9) Fld.LNK_PBA_VALID 1).setF (Reg.LNK_PBA 4 9) Fld.LNK_PBA_PART 2).setF (Reg.LNK_PBB 4 9) Fld.LNK_PBB_JOB 6
  (((s.setF (Reg.LNK_LWA 4 1) Fld.LNK_LWA_VALID 1).setF (Reg.LNK_LWA 4 1) Fld.LNK_LWA_PART 2).setF (Reg.LNK_LWA 4 1) Fld.LNK_LWA_BASE 100).setF (Reg.LNK_LWB 4 1) Fld.LNK_LWB_COUNT 50
def sRx : State := (((bindS (prt 4 6 { expSeq := 11, oldest := 20 })).setF (Reg.CNET_PSTAT 2) Fld.CNET_PSTAT_RUN 1).setF (Reg.CNET_PSTAT 2) Fld.CNET_PSTAT_STEP 5).setF (Reg.LNK_PBC 4 9) Fld.LNK_PBC_EXPW 40
def tx0 : TxItem := { type := .pread, part := 2, wt := 0, body := .mem 1 2 3 0 5 [] }
def sX (x : XMsg) (lead : Bool) (ps : PartSrv) : State :=
  let s := bindS ({ lnk := { inbox := [x], scLoaded := true } } : State)
  let s := (s.setF (Reg.SRV_PCFG 2) Fld.SRV_PCFG_JOBPARTS 2).setF (Reg.SRV_PCFG 2) Fld.SRV_PCFG_LEAD (b2n lead)
  ((s.setPart 2 ps).setF (Reg.CNET_PSTAT 2) Fld.CNET_PSTAT_RUN 2).setF (Reg.CNET_PSTAT 2) Fld.CNET_PSTAT_STEP 5
def xm (t : Nat) : XMsg := { xtype := t, job := 6, origin := 3, step := 5, arg := 9 }
def uIn (s : State) : State := { s with lnk := { s.lnk with inbox := [] } }
def wt0 : WTile := { lcore := 0, lgroup := 1, tile := 5, fmt := false, stepExp := 3, hdrOk := true, readable := true, crcOk := true, pathOk := true, scales := [], codes := [3, 200] }
def ws0 : WSpill := { lregion := 7, roff := 32, readable := true, crcOk := true, content := [5, 6] }
def wi0 : WImage := { hdrOk := true, major := 1, target := 0, enc := false, imageId := 77, modelKey := 0, tabOk := true, tiles := [wt0], spills := [] }
def sFl : State := { (((sCtx false).setF Reg.IND_RSSTAT Fld.IND_RSSTAT_STOP 0).setF Reg.FLS_STAT Fld.FLS_STAT_DIRVALID 1) with wts := { slot1 := some { wi0 with target := ((sCtx false).fld Reg.GCTL_ID Fld.GCTL_ID_PART) } } }
def wkey : Nat := 3 * 1024 + 69
def run0 : LoadRun := { part := 2, slot := 1, image := wi0, place := [some (3, 1)], gmask := [15], program := [(wkey, wt0)], clear := [], restore := [], spills := [], reason := 0 }
def sBurst (r : LoadRun) (b : Burst) : State := { ({} : State) with wts := { loads := [r], bursts := [(wkey, b)] }, thm := { ({} : State).thm with diodes := [some 20000], ro := [(3, 200)] } }
def rec0 : TileRec := { imageId := 77, tile := wkey, degraded := true, fmt := false, unrep := 1, sparesUsed := 0, ok := true, spares := [], unrepCols := [4] }
def fbytes (l : List (Nat × Nat)) : List Nat := l.flatMap fun e => bytesOf e.1 e.2
def sFile (magic nlc type : Nat) (body : List Nat) : SignedFile :=
  { bytes := fbytes [(4, magic), (1, 0), (1, 1), (2, 64), (2, ({} : State).fld Reg.GCTL_ID Fld.GCTL_ID_PART), (2, 0), (4, 55), (4, 77), (4, 240), (2, 1), (2, nlc), (4, 0), (4, 64), (4, 0), (4, 128), (4, 0), (4, 0), (12, 0),
      (1, type), (1, 0), (2, 0), (4, 96), (4, body.length), (4, 1), (4, 0), (4, crc32 body), (8, 0)] ++ (body ++ List.replicate (32 - body.length) 0) ++ fbytes [(4, 0x47495346), (4, 9), (104, 0)]
    sigOk := true }
def img0 : SignedFile := sFile 0x474D4946 1 1 (fbytes [(2, 1), (2, 1), (28, 0)])
def rts0 : SignedFile := sFile 0x45545246 1 0x10 (fbytes [(1, 0), (1, 255), (2, 3), (4, 0)])
def sImg : State :=
  let s := (sCtx false).setRun 3 1 0
  { s with sec := { signers := [(9, 0xFFFF)] }, wts := { jparts := [(2, { state := 2, imageId := 77, place := s.placeOf 2, gmask := s.gmaskOf 2 })] } }
def sSec (st : Nat) : State :=
  ((({ sec := { fwk := true, tenants := [{ id := 5, pmask := 4 }], models := [(8, 5)], links := [(6, 1)] }, mgmt := { ({} : State).mgmt with sessions := [{ id := 4, chan := .eth, authed := true, operator := true, finished := true }] } } : State).setF Reg.SEC_STAT Fld.SEC_STAT_STATE st).setF Reg.SEC_STAT Fld.SEC_STAT_APPROVED 1).setF Reg.SEC_STAT Fld.SEC_STAT_FWK 1
def tc0 : TestContent := { hdrOk := true, tabOk := true, sets := [⟨0, 7, true⟩] }
def sTest : State := { ({} : State).setF Reg.GCTL_CTL Fld.GCTL_CTL_HOLD 1 with log := { test := some tc0 } }
def sh0 : Sherd := { sev := 1, code := 4, flags := 1 }
def cfg0 : CfgImage := { shape := true, major := 1, target := 0, serial := 0, keyId := 1, sigOk := true, configId := 5, svn := 3, recs := [] }
def sSecN : State := let s := (sSec 2).setF Reg.SEC_DBG Fld.SEC_DBG_LOCK 0; { s with sec := { s.sec with nonce := some 3 } }
def sSec5 : State := { sSec 5 with sec := { (sSec 5).sec with fwk := false } }
def hold (s : State) : State := s.setF Reg.GCTL_CTL Fld.GCTL_CTL_HOLD 1
def sQ (x : Quad) : State := ({} : State).setQuad 1 x
def pg0 : SavePage := { seq := 3, body := .note 2 }
def sMadc (w : Nat) (rdy : Bool) : State :=
  (((({ thm := { ({} : State).thm with startRdy := if rdy then 4 else 0 } } : State).setF (Reg.MADC_CSTAT 2) Fld.MADC_CSTAT_BUSY 1).setF (Reg.MADC_CSTAT 2) Fld.MADC_CSTAT_CUR 3).setF (Reg.MADC_CCTL 2) Fld.MADC_CCTL_EN 0).wr (Reg.MADC_SEQ 2 3) w
def shr0 : ShutRec := { seq := 1, secs := 0, nanos := 0, boot := 1, diode := 3, read1 := 0, read2 := 0, t3 := 0, diodes := [], opstat := 0, pmeas := 0, board := 0, prun := 0 }
def cfgG : CfgImage := { shape := true, major := 1, target := ({} : State).fld Reg.GCTL_ID Fld.GCTL_ID_PART, serial := 0, keyId := 1, sigOk := true, configId := 5, svn := 3, recs := [{ type := 1, crit := true, body := .firmware }, { type := 2, crit := true, body := .firmware }, { type := 0x10, crit := true, body := .ident 4 false }, { type := 0x32, crit := true, body := .opens 3 }] }
def sCopy (c : CfgImage) : State := ({ boot := { pwrgood := true, selfOk := true, copy0 := some c } } : State).setF Reg.CFG_BOOT Fld.CFG_BOOT_PHASE 2
def pm0 : PmbusEnt := { addr := 1, cmd := 2, kind := 3, data := 0x34, aux := 0xFF }
def sPm (n f : Nat) : State := ({ boot := { pwrgood := true, pmbus := [(2, 1, pm0)], tries := n, fails := f } } : State).setF Reg.CFG_BOOT Fld.CFG_BOOT_PHASE 4
def sOp (ph : Nat) : State := (({ boot := { pwrgood := true } } : State).setF Reg.CFG_BOOT Fld.CFG_BOOT_PHASE ph).setF Reg.IND_RSSTAT ⟨0, 2⟩ 0
def sM : State := { (sOp 9) with sec := { ({} : State).sec with signers := [(3, 0xFFFF)] }, mgmt := { ({} : State).mgmt with ethReqs := [77, 78], sessions := [{ id := 4, chan := .eth, authed := true, operator := true, finished := true }] } } |>.setF Reg.SEC_STAT Fld.SEC_STAT_STATE 2
def sEv : State := { sM with mgmt := { sM.mgmt with rcvI3c := true, rcvEth := true, evI3c := [.cper 3, .cper 4] } }
def dg0 : Datagram := { port := 59160, frameLen := 100, magic := 0x4D48, version := 1, mtype := 1, seq := 5, bodyLen := 40, kind := .request }
def up0 (n : Nat) : Update := { chan := .i3c, stage := n, comp := if n = 3 then 1 else 0, size := 50, got := 10 }
def sUp (n : Nat) : State := { sM with mgmt := { sM.mgmt with update := some (up0 n) } }
def pr0 : PmbusReading := { addr := 9, vout := 3, iout := 4, temp := 5, status := 6 }
def sPmb : State := { sM with mgmt := { sM.mgmt with rcvEth := true, pmbus := [{ addr := 9 }, { addr := 10, missed := 2, iocLimit := 55 }] } }

def sClr (d : Nat) : State := withCur ((((sCtx true).wr (Reg.QUE_CENQ 3 6) 9).wr (Reg.QUE_CDONE 3 6) d).wr (Reg.QUE_CSTAT 3 6) 1) (pIns 200 3 + pIns 190 6) 4 32
def iClr : Issued := iss (pIns 200 3 + pIns 190 6) 4 32
def sMode : State := sProgB (2 ^ 255 + pIns 242 1)
def sLinkOn : State := (({} : State).setF (Reg.LNK_CTL 4) Fld.LNK_CTL_EN 1).setF (Reg.LNK_CTL 4) Fld.LNK_CTL_VMAX 2
def acc0 : Acc := { k := 3, ctx := 1, pc := 4, slot := 1, tagged := true, cls := .que, kind := .fill, row := 99, who := 1 }
def sEcc : State := (sCtx true).setShelfRow 3 99 { data := rowN 77, ecc := 1 }
def p40max : P40 := { exp := -32768, top := 32767, contrib := 0xFFFFFFFF, rid := 65535, col0 := 65504, nblk := 3, flags := 7, zero := 0xFFFFFFFF, csat := [65535, 0, 1],
                      cund := [1, 65535, 0], s := List.replicate 48 (-549755813888) ++ List.replicate 48 549755813887 }
def p40one : P40 := { p40max with exp := 0, top := 0, contrib := 1, s := List.replicate 96 (-8372224) }
def smp0 : SampleParams := { temp := 0, topk := 5, topp := 60000, rep := 0x3FA0, pres := 0x3F00, freq := 0x3E00, seed := 7 }

/-- A route set that passes R215 in a state with no reduction entries of the set. -/
theorem route_fits (s : State) (p : Nat) (img f : SignedFile) (b : Nat) (hr : f.sects.any (fun x => x.type == 0x11) = false)
    (hi : f.imageId = img.imageId ∧ f.weightId = img.weightId ∧ f.nlcore = img.nlcore)
    (hf : ((f.given 0x10 0).map fun i => s.flowOf p img (f.entry 0x10 0 i)).all (fun x => x.isSome) = true)
    (hb : s.routeBase p ((f.given 0x10 0).map fun i => s.flowOf p img (f.entry 0x10 0 i)).length = some b) : s.routeFits p img f = none := by
  have hg : ∀ l, f.given 0x11 l = [] := fun l => by
    have h2 : (f.sects.filter fun x => x.type == 0x11 && x.lcore == l) = [] := by
      rw [List.filter_eq_nil_iff]
      intro x hx h3
      rw [List.any_eq_false] at hr
      have := hr x hx
      simp_all
    simp [SignedFile.given, h2]
  have hn : ∀ k, s.redOn p k f = [] := fun k => by simp [State.redOn, hg]
  unfold State.routeFits
  simp only [hf, hb, hn, hg, hi]
  simp
theorem img_ok : (sImg.fileCheck 2 false img0).or (sImg.imageFits 2 img0) = none := by decide +kernel
theorem rts_ok : sImg.fileCheck 2 true rts0 = none := by decide +kernel
theorem rts_fits : sImg.routeFits 2 img0 rts0 = none :=
  route_fits sImg 2 img0 rts0 0 (by decide +kernel) (by decide +kernel) (by decide +kernel) (by decide +kernel)
/-- A firing image and a route set that pass the checks of a pair. -/
theorem pair_passes : sImg.pairCheck 2 img0 rts0 = none := by
  have h : ¬ sImg.run 2 ≠ 0 := by decide +kernel
  unfold State.pairCheck
  rw [if_neg h, img_ok, rts_ok, rts_fits]
  rfl
/-- Before the stacks train, with no configuration image. -/
def sTrain : State := ({ boot := { pwrgood := true, order := 10 } } : State).setF Reg.CFG_BOOT Fld.CFG_BOOT_PHASE 5
theorem trained_keeps (s : State) (m : Nat) : (s.stackTrained m).phase = s.phase ∧ (s.stackTrained m).boot = s.boot := by
  refine ⟨?_, rfl⟩
  have h1 : Reg.HBM_STAT m ≠ Reg.CFG_BOOT := by unfold Reg.HBM_STAT Reg.CFG_BOOT; omega
  have h2 : Reg.HBM_TEMP m ≠ Reg.CFG_BOOT := by unfold Reg.HBM_TEMP Reg.CFG_BOOT; omega
  simp only [State.stackTrained, State.phase, State.fld_setF_ne h1, State.fld_setF_ne h2]
  rfl
theorem all_trained_keeps (l : List Nat) (s : State) :
    (l.foldl State.stackTrained s).phase = s.phase ∧ (l.foldl State.stackTrained s).boot = s.boot := by
  induction l generalizing s with
  | nil => exact ⟨rfl, rfl⟩
  | cons m l ih => exact ⟨(ih _).1.trans (trained_keeps s m).1, (ih _).2.trans (trained_keeps s m).2⟩
theorem train_phase : ((List.range 8).foldl State.stackTrained sTrain).phase ≠ 15 := by
  rw [(all_trained_keeps _ _).1]; decide +kernel
theorem train_boot : ((List.range 8).foldl State.stackTrained sTrain).boot.test = none := by
  rw [(all_trained_keeps _ _).2]; rfl
theorem no_image_no_order (s : State) (h : s.boot.image = none) (l : List Nat) : s.forEach l State.applyOrder = s := by
  induction l with
  | nil => rfl
  | cons o l ih =>
    have e : s.applyOrder o = s := by
      simp [State.applyOrder, State.cfgRecs, h]

    rw [State.forEach_cons, e, ih]
theorem train_orders : (List.range 8).foldl State.stackTrained sTrain =
    ((List.range 8).foldl State.stackTrained { sTrain with hbm := { sTrain.hbm with repair := sTrain.hbm.repair.filter fun k => !([] : List Nat).contains k } }).forEach
      [10, 11, 12, 13, 14] State.applyOrder :=
  (no_image_no_order _ (by rw [(all_trained_keeps _ _).2]; rfl) _).symm
/-- A journal entry of the load that the slot holds. -/
def sResume : State :=
  sFl.setJpart 2 { state := 3, slot := 1, imageId := 77, serial := Config.serial.toNat, place := sFl.placeOf 2, gmask := sFl.gmaskOf 2 }
theorem resume_matches : sResume.mayResume 2 = true := by
  have h : (sResume.jpart 2) = { state := 3, slot := 1, imageId := 77, serial := Config.serial.toNat, place := sFl.placeOf 2, gmask := sFl.gmaskOf 2 } := by
    simp [sResume, State.jpart, State.setJpart]
  have h2 : sResume.slotImage 1 = sFl.slotImage 1 := by simp [sResume, State.slotImage, State.setJpart]
  unfold State.mayResume
  simp only [h, h2]
  have h3 : (match sFl.slotImage 1 with | some img => img.hdrOk && img.imageId == 77 | none => false) = true := by decide +kernel
  have h4 : sResume.placeOf 2 = sFl.placeOf 2 := by decide +kernel
  have h5 : sResume.gmaskOf 2 = sFl.gmaskOf 2 := by decide +kernel
  revert h3
  cases sFl.slotImage 1 with
  | none => simp
  | some img => simp [h4, h5]

/-! ### Ill-formed commands -/

def xmsgOk : XMsg := { xtype := 4, job := 65535, origin := 4095, step := 0, arg := 0 }
theorem test_wf_bar : (Instr.barMisalignedAccess 8 4).wf = false ∧ (Instr.barMisalignedAccess 6 4).wf = true := by decide
theorem test_wf_reclaim : (Instr.reclaim 3 [(1, 0), (1, 0)]).wf = false := by decide
theorem test_wf_move_out : (Instr.kvMoveOut 3 0 [(5, 1), (5, 2)] none).wf = false := by decide
theorem test_wf_row_flit : (Instr.rowFlit 3 (fl0 1 1) 0 2 false false 0 0 0 0).wf = false := by decide
theorem test_wf_pwrite_none : (Instr.pwriteFlit 3 (fl0 1 1) 0 0 0 0 []).wf = false := by decide
theorem test_wf_pwrite_count : (Instr.pwriteFlit 3 (fl0 1 1) 0 0 2 0 [0]).wf = false := by decide
theorem test_wf_pread : (Instr.preadFlit 3 (fl0 1 1) 0 0 0 0).wf = false := by decide
theorem test_wf_prdata : (Instr.prdataFlit 3 (fl0 1 1) 0 0 []).wf = false ∧ (Instr.prdataFlit 3 (fl0 1 1) 0 0 (List.replicate 18 0)).wf = false := by decide
theorem test_wf_xctl_count : (Instr.xctlFlit 3 (fl0 1 1) []).wf = false ∧ (Instr.xctlFlit 3 (fl0 1 1) (List.replicate 9 xmsgOk)).wf = false := by decide
theorem test_wf_xctl_type : (Instr.xctlFlit 3 (fl0 1 1) [{ xmsgOk with xtype := 5 }]).wf = false ∧ (Instr.xctlFlit 3 (fl0 1 1) [xmsgOk]).wf = true := by decide
theorem test_wf_xctl_field : (Instr.xctlFlit 3 (fl0 1 1) [{ xmsgOk with origin := 4096 }]).wf = false := by decide
theorem test_wf_training : (Instr.hbmTrainingDone 0 [7, 7]).wf = false := by decide
theorem test_wf_datagram : (Instr.mgmtDatagram { dg0 with port := 65536 }).wf = false := by decide
theorem test_wf_sensor : (Instr.getsensorreading .eth none (.diode 20)).wf = false ∧ (Instr.getsensorreading .eth none (.rail 29)).wf = false := by decide
theorem test_wf_state_sensor : (Instr.getstatesensorreadings .eth none (.gpi 8)).wf = false := by decide
theorem test_wf_pmbus : (Instr.pmbusPoll [pr0, pr0]).wf = false ∧ (Instr.smbalert [pr0, pr0]).wf = false := by decide
theorem test_wf_sq : (Instr.sqEntryFetch 3 (some { op := 256, cid := 0 })).wf = false := by decide
theorem test_wf_found : (Instr.programBurst 3 5 [⟨1, 2, false, some 3⟩, ⟨1, 2, false, none⟩] ⟨0, 0, 0⟩).wf = false ∧
    (Instr.tileProgramDone 3 5 [⟨1, 2, false, some 3⟩, ⟨1, 2, false, none⟩]).wf = false := by decide
def crow0 : CommitRow := { ctx := 7, ntok := 1, token := none }
theorem test_wf_commit : (Instr.xcommit 3 [crow0, crow0]).wf = false := by decide

/-! ### Examples of the spec -/

/-- The example after R18: the pair of words reads as the value at the read of the low word. -/
theorem test_latched_pair :
    let s : State := { regs := [(Reg.LOG_SEQ_LO, 0xFFFFFFFF#32), (Reg.LOG_SEQ_HI, 1#32)] }
    let t := (s.readLow Reg.LOG_SEQ_LO).inc64 Reg.LOG_SEQ_LO 1
    t.host.readData = 0xFFFFFFFF ∧ t.view Reg.LOG_SEQ_HI = 1 ∧ t.rd Reg.LOG_SEQ_HI = 2 := by decide +kernel
/-- The table of R38: ties of E2M1 in halves and quarters of the block scale. -/
theorem test_e2m1_ties : [(1, -2), (3, -2), (5, -2), (7, -2), (5, -1), (7, -1), (5, 0)].map (fun (e : Int × Int) => (roundTo fmtE2M1 e.1 e.2).code) =
    [0, 2, 2, 4, 4, 6, 6] ∧ blockScale 2 1 6 [7] 0 = 1 := by decide +kernel
/-- A contribution of one column of the example of chapter 1. -/
def exRow (v : Int) (e : Int) : P40 := { p40one with exp := e, top := e, rid := 0, col0 := 0, nblk := 1, s := [v] }
/-- The example of chapter 1: four contributions and their merge. -/
theorem test_contributions : (contribution 51 64 5 0).1 = 522240 ∧ (contribution 43 32 5 0).1 = 396288 ∧ (contribution 47 96 5 0).1 = 529408 ∧
    (contribution 64 0 5 0).1 = 524288 ∧ contribK 0x79 6 false (-16) = 5 := by decide +kernel
theorem test_merged_column :
    let r := ((exRow 522240 (-16)).merge (exRow 396288 (-16))).merge ((exRow 529408 (-17)).merge (exRow 524288 (-18)))
    r.exp = -18 ∧ r.top = -16 ∧ r.contrib = 4 ∧ r.verified = true ∧ nth 0 r.s 0 = 5257216 := by decide +kernel
/-- The example of chapter 2: reference column 0 fails the check at one read and passes it at two. -/
theorem test_reference_check : refPasses 205 1 6 12800 16 6 18 32 = false ∧ refPasses 403 2 6 12800 16 6 18 32 = true := by decide +kernel
/-- The example after R82: a pair with a stuck cell, and one that needs a spare. -/
theorem test_stuck_pairs : resolvePair (-3) (some (some 5)) none = some (5, 8) ∧ resolvePair 12 none (some (some 6)) = none ∧
    nominalLevels (-3) = (0, 3) := by decide +kernel
/-- The example after R283: the kept prefix and the draw. -/
theorem test_sampler_example :
    let ws := [(17, samplerW 0), (905, samplerW (-1 / 2)), (4200, samplerW (-1)), (63, samplerW (-2))]
    keptPrefix 58982 2212228 0 ws = ws.take 3 ∧ drawFrom (0xA000000000000000 * 2070319 / 2 ^ 64) 0 (ws.take 3) = some 905 := by decide +kernel

/-! ### Hypotheses that are met -/

theorem test_meets_RegisterCommandsComplete_0_registerWrite : ∃ (s : State) (v : Word), bits v.toNat 2 3 ≤ 4 :=
  ⟨({}), (0xFFFFFFE5#32), by decide +kernel⟩
theorem test_meets_RegisterCommandsComplete_3_barMisalignedAccess : ∃ (s : State) (o : Nat) (n : Nat), barAligned o n = false :=
  ⟨({}), (2), (4), by decide +kernel⟩
theorem test_meets_TileCommandsComplete_0_tileReadStart : ∃ (s : State) (k : CoreNo) (x : TileNo) (job : TileJob), ((s.eng k x).bufs[(s.eng k x).drains.length]? = some job) ∧ ((s.eng k x).phase ≠ .check) ∧ (s.thm.step = 0) ∧ (SMap.get (fun _ => 0) s.pwr.credits k ≠ 0 ∨ s.pwr.pool ≠ 0) :=
  ⟨(sTile1), (3), (70), (job0), by decide +kernel⟩
theorem test_meets_TileCommandsComplete_1_tileCheck : ∃ (s : State) (k : CoreNo) (x : TileNo) (job : TileJob), ((s.eng k x).bufs[(s.eng k x).drains.length]? = some job) ∧ ((s.eng k x).phase = .check) ∧ ((s.eng k x).n + 1 < (s.eng k x).target) :=
  ⟨(sTile2), (3), (70), (job0), by decide +kernel⟩
theorem test_meets_TileCommandsComplete_2_tileCheck : ∃ (s : State) (k : CoreNo) (x : TileNo) (job : TileJob), ((s.eng k x).bufs[(s.eng k x).drains.length]? = some job) ∧ ((s.eng k x).phase = .check) ∧ ((s.eng k x).target ≤ (s.eng k x).n + 1) ∧ (s.readCap k x ≤ (s.eng k x).target) :=
  ⟨(sTile3), (3), (70), (job0), by decide +kernel⟩
theorem test_meets_TileCommandsComplete_3_tileDeliver : ∃ (s : State) (k : CoreNo) (x : TileNo) (d : TileDrain) (rest : List TileDrain), ((s.eng k x).drains = d :: rest) ∧ (ctxKey k d.job.ctx ∉ s.mesh.dropSums) ∧ (d.flagged = false) ∧ (s.op k 0 = none) :=
  ⟨(sTile4), (3), (70), (drain0), ([]), by decide +kernel⟩
theorem test_meets_TileCommandsComplete_4_flagWindowEnd : ∃ (s : State) (k : CoreNo) (x : TileNo), s.windowEnd k x ≤ s.rdcnt k x :=
  ⟨({ regs := [(Reg.TILE_WINFLAG 3 70, 5#32), (Reg.TILE_RDCNT_LO 3 70, 0x1000000#32)] }), (3), (70), by decide +kernel⟩
theorem test_meets_TileCommandsComplete_5_tileFlagwinWrite : ∃ (s : State) (k : CoreNo) (x : TileNo) (v : Word), (s.tileCfgRefused k x = false) ∧ (tileLegal 0x18 ((s.rd (Reg.TILE_FLAGWIN k x) &&& 0xFFFF00E0) ||| (v.toNat &&& 0xFF1F)) = true) :=
  ⟨({}), (3), (70), (0xFFFFFFEC#32), by decide +kernel⟩
theorem test_meets_DriftCommandsComplete_0_refWindowClose : ∃ (s : State) (k : CoreNo) (x : TileNo), (2 ^ s.fld (Reg.CORE_DWIN k) Fld.CORE_DWIN_REF_WIN_EXP ≤ (s.drift k x).reads) ∧ (s.refQualifies k (s.drift k x) = false) ∧ ((s.drift k x).evPending = false) :=
  ⟨((({} : State).wr (Reg.CORE_DWIN 3) 0x0A000000).setDrift 3 70 { reads := 2000000, m := 5 }), (3), (70), by decide +kernel⟩
theorem test_meets_DriftCommandsComplete_1_refWindowClose : ∃ (s : State) (k : CoreNo) (x : TileNo), (2 ^ s.fld (Reg.CORE_DWIN k) Fld.CORE_DWIN_REF_WIN_EXP ≤ (s.drift k x).reads) ∧ (s.refQualifies k (s.drift k x) = true) ∧ ((s.drift k x).evPending = false) :=
  ⟨((({} : State).wr (Reg.CORE_DWIN 3) 0).setDrift 3 70 { reads := 2000000, m := 500000, sx := 5000, sy := 4000, sxx := 600000, sxy := 500000, st := 100, tn := 50 }), (3), (70), by decide +kernel⟩
theorem test_meets_DriftCommandsComplete_2_colWindowClose : ∃ (s : State) (k : CoreNo) (x : TileNo), 2 ^ s.fld (Reg.CORE_DWIN k) Fld.CORE_DWIN_COL_WIN_EXP ≤ (s.drift k x).colReads :=
  ⟨((({} : State).wr (Reg.CORE_DWIN 3) 0).setDrift 3 70 { colReads := 20000000 }), (3), (70), by decide +kernel⟩
theorem test_meets_DriftCommandsComplete_3_roundTimer : ∃ (s : State) (k : CoreNo) (x : TileNo), ((s.drift k x).est.isSome = true) ∧ (s.dbusy k = false) ∧ (s.dmode k ≠ 2) :=
  ⟨((({} : State).setTileState 3 70 2).setDrift 3 70 { est := some ⟨1, 0, 25⟩ }), (3), (70), by decide +kernel⟩
theorem test_meets_DriftCommandsComplete_4_tempRoundTrigger : ∃ (s : State) (k : CoreNo) (x : TileNo), (s.tileState k x = 2) ∧ (s.fld (Reg.CORE_DTIME k) Fld.CORE_DTIME_TEMP_REQ ≤ (s.roOf k - (s.drift k x).tcommit).natAbs) ∧ (s.fld (Reg.CORE_DCTL k) Fld.CORE_DCTL_TEMP_EN = 1) ∧ (s.dbusy k = false) ∧ (s.dmode k ≠ 2) :=
  ⟨(((({} : State).setTileState 3 70 2).setDrift 3 70 { tcommit := 900 }).setF (Reg.CORE_DCTL 3) Fld.CORE_DCTL_TEMP_EN 1), (3), (70), by decide +kernel⟩
theorem test_meets_DriftCommandsComplete_5_build : ∃ (s : State) (k : CoreNo), (s.dbusy k = false) ∧ (s.dmode k ≠ 2) :=
  ⟨(({} : State).setTileState 3 70 2), (3), by decide +kernel⟩
theorem test_meets_DriftCommandsComplete_6_buildComplete : ∃ (s : State) (k : CoreNo), (s.fld (Reg.CORE_DSTAT k) Fld.CORE_DSTAT_BUILD = 1) ∧ (SMap.get (fun _ => 0) s.core.dmode k = 2) :=
  ⟨({ core := { dmode := [(3, 2)] }, regs := [(Reg.CORE_DSTAT 3, BitVec.ofNat 32 (2 ^ Fld.CORE_DSTAT_BUILD.lo))] }), (3), by decide +kernel⟩
theorem test_meets_DriftCommandsComplete_7_buildComplete : ∃ (s : State) (k : CoreNo), (s.fld (Reg.CORE_DSTAT k) Fld.CORE_DSTAT_BUILD = 1) ∧ (SMap.get (fun _ => 0) s.core.dmode k = 1) :=
  ⟨({ core := { dmode := [(3, 1)] }, regs := [(Reg.CORE_DSTAT 3, BitVec.ofNat 32 (2 ^ Fld.CORE_DSTAT_BUILD.lo))] }), (3), by decide +kernel⟩
theorem test_meets_DriftCommandsComplete_8_arm : ∃ (s : State) (k : CoreNo), (s.dmode k ≠ 2) ∧ (s.fld (Reg.CORE_DSTAT k) Fld.CORE_DSTAT_READY = 1) :=
  ⟨((({ regs := [(Reg.CORE_DSTAT 3, BitVec.ofNat 32 (2 ^ Fld.CORE_DSTAT_READY.lo))] } : State).setTileState 3 70 2).setDrift 3 70 { built := true }), (3), by decide +kernel⟩
theorem test_meets_DriftCommandsComplete_9_discardSet : ∃ (s : State) (k : CoreNo) (x : TileNo) (c : Fin 1104), s.fld (Reg.CORE_DSTAT k) Fld.CORE_DSTAT_READY = 1 :=
  ⟨(({ regs := [(Reg.CORE_DSTAT 3, BitVec.ofNat 32 (2 ^ Fld.CORE_DSTAT_READY.lo))], core := { act := [(colKey 3 70 5, 77#32)], shd := [(colKey 3 70 5, 78#32)] } } : State).setDrift 3 70 { built := true }), (3), (70), (5), by decide +kernel⟩
theorem test_meets_DriftCommandsComplete_10_shadowWordWrite : ∃ (s : State) (k : CoreNo) (v : Word), (s.dmode k = 2) ∧ (s.fld (Reg.CORE_DSTAT k) Fld.CORE_DSTAT_BUILD ≠ 1) ∧ (s.fld (Reg.CORE_DSTAT k) Fld.CORE_DSTAT_ARMED ≠ 1) ∧ (s.fld (Reg.CORE_DCIDX k) Fld.CORE_DCIDX_BANK ≠ 1) ∧ (s.fld (Reg.CORE_DCIDX k) Fld.CORE_DCIDX_PCOL < 1104) :=
  ⟨(({ regs := [(Reg.CORE_DCTL 3, 0#32)] } : State).setF (Reg.CORE_DCTL 3) Fld.CORE_DCTL_MODE 2), (3), (99#32), by decide +kernel⟩
theorem test_meets_DriftCommandsComplete_11_idlePeriodFlip : ∃ (s : State) (p : PartNo) (k : CoreNo) (x : TileNo), ((s.part p).opened = false) ∧ ((s.part p).held = false) ∧ (s.run p ≠ 1) ∧ ((s.drift k x).armed = true) ∧ ((s.ownersOfGroup k (x / 64)).contains p.val = true) :=
  ⟨(((({ core := { shd := [(colKey 3 70 5, 78#32)] } } : State).setDrift 3 70 { armed := true, tbuild := 9 }).setF (Reg.CORE_CTXCTL 3 1) Fld.CORE_CTXCTL_EN 1).setF (Reg.CORE_CTXTG 3 1) Fld.CORE_CTXTG_GMASK 2), (0), (3), (70), by decide +kernel⟩
theorem test_meets_SlotCommandsComplete_0_nop : ∃ (s : State) (k : CoreNo) (n : CtxNo) (b : Nat), (fetchesOk s k n b = true) ∧ (slotsOf b = 0) :=
  ⟨(sProgB 0), (3), (1), (0), by decide +kernel⟩
theorem test_meets_SlotCommandsComplete_1_dispatch : ∃ (s : State) (k : CoreNo) (n : CtxNo) (i : Issued), (issuedAt s k n 0 1 i = true) ∧ (bits i.bundle 23 7 = 1) ∧ (bitAt i.bundle 255 = false) ∧ (plainRow s k n (i.row 9 1) = true) ∧ ((s.eng k (64 * bits i.bundle 36 4 + bits i.bundle 30 6)).bufs.length < 2) :=
  ⟨(withCur ((sCtx false).putRow 3 210 (rowN 99) false false) (pIns 40 1 + pIns 36 2 + pIns 30 5 + pIns 23 1 + pIns 13 7 + pIns 9 1) 0 0), (3), (1), (iss (pIns 40 1 + pIns 36 2 + pIns 30 5 + pIns 23 1 + pIns 13 7 + pIns 9 1) 0 0), by decide +kernel⟩
theorem test_meets_SlotCommandsComplete_2_copy : ∃ (s : State) (k : CoreNo) (n : CtxNo) (i : Issued), (issuedAt s k n 1 1 i = true) ∧ (bits i.bundle 44 4 = 1) ∧ (bitAt i.bundle 255 = true) ∧ (taggedRow s k n (i.row 68 60) .mov false true = true) ∧ (taggedRow s k n (i.row 56 48) .mov true false = true) :=
  ⟨(withCur ((((sCtx true).wr (Reg.SHELF_BUFA 3 1) (2 ^ 31 + 150)).wr (Reg.SHELF_BUFB 3 1) (31 * 2 ^ 21 + 31 * 2 ^ 16 + 100)).putRow 3 215 (rowN 99) false true) (pIns 255 1 + pIns 72 1 + pIns 44 1 + pIns 68 1 + pIns 60 5 + pIns 56 2 + pIns 48 7) 1 8), (3), (1), (iss (pIns 255 1 + pIns 72 1 + pIns 44 1 + pIns 68 1 + pIns 60 5 + pIns 56 2 + pIns 48 7) 1 8), by decide +kernel⟩
theorem test_meets_SlotCommandsComplete_3_copy : ∃ (s : State) (k : CoreNo) (n : CtxNo) (i : Issued), (issuedAt s k n 1 1 i = true) ∧ (bits i.bundle 44 4 = 1) ∧ (bitAt i.bundle 255 = false) ∧ (plainRow s k n (i.row 68 60) = true) ∧ (s.inRows k n (i.row 56 48) = true) ∧ (s.spillPending k (i.row 56 48) = false) :=
  ⟨(withCur ((sCtx false).putRow 3 215 (rowN 99) false true) ((pIns 255 1 + pIns 72 1 + pIns 44 1 + pIns 68 1 + pIns 60 5 + pIns 56 2 + pIns 48 7) - pIns 255 1) 1 8), (3), (1), (iss ((pIns 255 1 + pIns 72 1 + pIns 44 1 + pIns 68 1 + pIns 60 5 + pIns 56 2 + pIns 48 7) - pIns 255 1) 1 8), by decide +kernel⟩
theorem test_meets_SlotCommandsComplete_4_copyk : ∃ (s : State) (k : CoreNo) (n : CtxNo) (i : Issued), (issuedAt s k n 1 2 i = true) ∧ (bits i.bundle 44 4 = 1) ∧ (bitAt i.bundle 255 = true) ∧ (taggedRow s k n (i.row 68 60) .mov false true = true) ∧ (taggedRow s k n (i.row 56 48) .mov true false = true) :=
  ⟨(withCur ((((sCtx true).wr (Reg.SHELF_BUFA 3 1) (2 ^ 31 + 150)).wr (Reg.SHELF_BUFB 3 1) (31 * 2 ^ 21 + 31 * 2 ^ 16 + 100)).putRow 3 215 (rowN 99) false true) (pIns 255 1 + pIns 72 2 + pIns 44 1 + pIns 68 1 + pIns 60 5 + pIns 56 2 + pIns 48 7) 1 8), (3), (1), (iss (pIns 255 1 + pIns 72 2 + pIns 44 1 + pIns 68 1 + pIns 60 5 + pIns 56 2 + pIns 48 7) 1 8), by decide +kernel⟩
theorem test_meets_SlotCommandsComplete_5_copyk : ∃ (s : State) (k : CoreNo) (n : CtxNo) (i : Issued), (issuedAt s k n 1 2 i = true) ∧ (bits i.bundle 44 4 = 1) ∧ (bitAt i.bundle 255 = false) ∧ (plainRow s k n (i.row 68 60) = true) ∧ (s.inRows k n (i.row 56 48) = true) ∧ (s.spillPending k (i.row 56 48) = false) :=
  ⟨(withCur ((sCtx false).putRow 3 215 (rowN 99) false true) ((pIns 255 1 + pIns 72 2 + pIns 44 1 + pIns 68 1 + pIns 60 5 + pIns 56 2 + pIns 48 7) - pIns 255 1) 1 8), (3), (1), (iss ((pIns 255 1 + pIns 72 2 + pIns 44 1 + pIns 68 1 + pIns 60 5 + pIns 56 2 + pIns 48 7) - pIns 255 1) 1 8), by decide +kernel⟩
theorem test_meets_SlotCommandsComplete_6_fillz : ∃ (s : State) (k : CoreNo) (n : CtxNo) (i : Issued), (issuedAt s k n 1 3 i = true) ∧ (bits i.bundle 44 4 = 1) ∧ (bitAt i.bundle 255 = false) ∧ (s.inRows k n (i.row 56 48) = true) ∧ (s.spillPending k (i.row 56 48) = false) :=
  ⟨(withCur ((sCtx false).putRow 3 227 (rowN 99) false true) (pIns 72 3 + pIns 44 1 + pIns 56 2 + pIns 48 7) 1 8), (3), (1), (iss (pIns 72 3 + pIns 44 1 + pIns 56 2 + pIns 48 7) 1 8), by decide +kernel⟩
theorem test_meets_SlotCommandsComplete_7_send : ∃ (s : State) (k : CoreNo) (n : CtxNo) (i : Issued), (issuedAt s k n 3 1 i = true) ∧ (bits i.bundle 136 4 = 1) ∧ (bitAt i.bundle 255 = true) ∧ (taggedRow s k n (i.row 156 148) .msh false true = true) ∧ ((s.inputQ k 4 0).length < 8) :=
  ⟨(withCur ((((sCtx true).wr (Reg.SHELF_BUFA 3 1) (2 ^ 31 + 150)).wr (Reg.SHELF_BUFB 3 1) (31 * 2 ^ 21 + 31 * 2 ^ 16 + 100)).putRow 3 215 (rowN 99) false true) (pIns 255 1 + pIns 168 1 + pIns 136 1 + pIns 160 3 + pIns 156 1 + pIns 148 5 + pIns 140 2) 3 16), (3), (1), (iss (pIns 255 1 + pIns 168 1 + pIns 136 1 + pIns 160 3 + pIns 156 1 + pIns 148 5 + pIns 140 2) 3 16), by decide +kernel⟩
theorem test_meets_SlotCommandsComplete_8_sendk : ∃ (s : State) (k : CoreNo) (n : CtxNo) (i : Issued), (issuedAt s k n 3 2 i = true) ∧ (bits i.bundle 136 4 = 1) ∧ (bitAt i.bundle 255 = true) ∧ (taggedRow s k n (i.row 156 148) .msh false true = true) ∧ ((s.inputQ k 4 0).length < 8) :=
  ⟨(withCur ((((sCtx true).wr (Reg.SHELF_BUFA 3 1) (2 ^ 31 + 150)).wr (Reg.SHELF_BUFB 3 1) (31 * 2 ^ 21 + 31 * 2 ^ 16 + 100)).putRow 3 215 (rowN 99) false true) (pIns 255 1 + pIns 168 2 + pIns 136 1 + pIns 160 3 + pIns 156 1 + pIns 148 5 + pIns 140 2) 3 16), (3), (1), (iss (pIns 255 1 + pIns 168 2 + pIns 136 1 + pIns 160 3 + pIns 156 1 + pIns 148 5 + pIns 140 2) 3 16), by decide +kernel⟩
theorem test_meets_SlotCommandsComplete_9_enqT : ∃ (s : State) (k : CoreNo) (n : CtxNo) (i : Issued), (issuedAt s k n 4 1 i = true) ∧ (bitAt i.bundle 185 = false) ∧ ((s.queue k (bits i.bundle 196 4)).length < 256) ∧ (s.descCheck k n (bits i.bundle 196 4) (bits i.bundle 186 10) (s.descEntry k (bits i.bundle 186 10)) (dfield (s.descEntry k (bits i.bundle 186 10)) 16 5) = none) :=
  ⟨(withCur sDesc (pIns 200 1 + pIns 186 9 + pIns 196 4) 4 0), (3), (1), (iss (pIns 200 1 + pIns 186 9 + pIns 196 4) 4 0), by decide +kernel⟩
theorem test_meets_SlotCommandsComplete_10_enqS : ∃ (s : State) (k : CoreNo) (n : CtxNo) (i : Issued) (w : Nat), (issuedAt s k n 4 2 i = true) ∧ (bitAt i.bundle 255 = false) ∧ (plainRow s k n (i.row 192 184) = true) ∧ (w = descSlot (s.shelfRow k (i.row 192 184)).data (bits i.bundle 179 5)) ∧ ((s.queue k (bits i.bundle 196 4)).length < 256) ∧ (s.descCheck k n (bits i.bundle 196 4) (0x80000000 + i.row 192 184 * 32 + bits i.bundle 179 5) w (dfield w 16 5) = none) :=
  ⟨(withCur (sDesc.putRow 3 215 (rowN (descW * 2 ^ (256 * 3))) false false) (pIns 200 2 + pIns 192 1 + pIns 184 5 + pIns 179 3 + pIns 196 4) 4 0), (3), (1), (iss (pIns 200 2 + pIns 192 1 + pIns 184 5 + pIns 179 3 + pIns 196 4) 4 0), (descW), by decide +kernel⟩
theorem test_meets_SlotCommandsComplete_11_clr : ∃ (s : State) (k : CoreNo) (n : CtxNo) (i : Issued), (issuedAt s k n 4 3 i = true) ∧ (s.cenq k (bits i.bundle 190 6) = s.cdone k (bits i.bundle 190 6)) :=
  ⟨(withCur ((((sCtx true).wr (Reg.QUE_CENQ 3 6) 9).wr (Reg.QUE_CDONE 3 6) 9).wr (Reg.QUE_CSTAT 3 6) 1) (pIns 200 3 + pIns 190 6) 4 32), (3), (1), (iss (pIns 200 3 + pIns 190 6) 4 32), by decide +kernel⟩
theorem test_meets_WheelCommandsComplete_0_mmnt : ∃ (s : State) (k : CoreNo) (n : CtxNo) (i : Issued) (j : Nat), (issuedAt s k n 2 1 i = true) ∧ (bitAt i.bundle 255 = false) ∧ ((List.range (wheelRows .mmnt (s.wheelTmpl k (bits i.bundle 118 8))).1).all (fun x => plainRow s k n (i.row 114 106 + x)) = true) ∧ ((List.range (wheelRows .mmnt (s.wheelTmpl k (bits i.bundle 118 8))).2.1).all (fun x => plainRow s k n (i.row 102 94 + x)) = true) ∧ ((List.range (wheelRows .mmnt (s.wheelTmpl k (bits i.bundle 118 8))).2.2).all (fun x => s.inRows k n (i.row 90 82 + x) && !s.spillPending k (i.row 90 82 + x)) = true) ∧ (j < (wheelRows .mmnt (s.wheelTmpl k (bits i.bundle 118 8))).2.2) :=
  ⟨(withCur (sWheel (0,0,3)) (pIns 126 1 + pIns 118 2 + pIns 114 1 + pIns 102 2 + pIns 90 3) 2 0), (3), (1), (iss (pIns 126 1 + pIns 118 2 + pIns 114 1 + pIns 102 2 + pIns 90 3) 2 0), (0), by decide +kernel⟩
theorem test_meets_WheelCommandsComplete_1_mmnn : ∃ (s : State) (k : CoreNo) (n : CtxNo) (i : Issued) (j : Nat), (issuedAt s k n 2 2 i = true) ∧ (bitAt i.bundle 255 = false) ∧ ((List.range (wheelRows .mmnn (s.wheelTmpl k (bits i.bundle 118 8))).1).all (fun x => plainRow s k n (i.row 114 106 + x)) = true) ∧ ((List.range (wheelRows .mmnn (s.wheelTmpl k (bits i.bundle 118 8))).2.1).all (fun x => plainRow s k n (i.row 102 94 + x)) = true) ∧ ((List.range (wheelRows .mmnn (s.wheelTmpl k (bits i.bundle 118 8))).2.2).all (fun x => s.inRows k n (i.row 90 82 + x) && !s.spillPending k (i.row 90 82 + x)) = true) ∧ (j < (wheelRows .mmnn (s.wheelTmpl k (bits i.bundle 118 8))).2.2) :=
  ⟨(withCur (sWheel (0,0,3)) (pIns 126 2 + pIns 118 2 + pIns 114 1 + pIns 102 2 + pIns 90 3) 2 0), (3), (1), (iss (pIns 126 2 + pIns 118 2 + pIns 114 1 + pIns 102 2 + pIns 90 3) 2 0), (0), by decide +kernel⟩
theorem test_meets_WheelCommandsComplete_2_conv : ∃ (s : State) (k : CoreNo) (n : CtxNo) (i : Issued) (j : Nat), (issuedAt s k n 2 4 i = true) ∧ (bitAt i.bundle 255 = false) ∧ ((List.range (wheelRows .conv (s.wheelTmpl k (bits i.bundle 118 8))).1).all (fun x => plainRow s k n (i.row 114 106 + x)) = true) ∧ ((List.range (wheelRows .conv (s.wheelTmpl k (bits i.bundle 118 8))).2.1).all (fun x => plainRow s k n (i.row 102 94 + x)) = true) ∧ ((List.range (wheelRows .conv (s.wheelTmpl k (bits i.bundle 118 8))).2.2).all (fun x => s.inRows k n (i.row 90 82 + x) && !s.spillPending k (i.row 90 82 + x)) = true) ∧ (j < (wheelRows .conv (s.wheelTmpl k (bits i.bundle 118 8))).2.2) :=
  ⟨(withCur (sWheel (3,0,0)) (pIns 126 4 + pIns 118 2 + pIns 114 1 + pIns 102 2 + pIns 90 3) 2 0), (3), (1), (iss (pIns 126 4 + pIns 118 2 + pIns 114 1 + pIns 102 2 + pIns 90 3) 2 0), (0), by decide +kernel⟩
theorem test_meets_WheelCommandsComplete_3_func : ∃ (s : State) (k : CoreNo) (n : CtxNo) (i : Issued) (j : Nat), (issuedAt s k n 2 5 i = true) ∧ (bitAt i.bundle 255 = false) ∧ ((List.range (wheelRows .func (s.wheelTmpl k (bits i.bundle 118 8))).1).all (fun x => plainRow s k n (i.row 114 106 + x)) = true) ∧ ((List.range (wheelRows .func (s.wheelTmpl k (bits i.bundle 118 8))).2.1).all (fun x => plainRow s k n (i.row 102 94 + x)) = true) ∧ ((List.range (wheelRows .func (s.wheelTmpl k (bits i.bundle 118 8))).2.2).all (fun x => s.inRows k n (i.row 90 82 + x) && !s.spillPending k (i.row 90 82 + x)) = true) ∧ (j < (wheelRows .func (s.wheelTmpl k (bits i.bundle 118 8))).2.2) :=
  ⟨(withCur (sWheel (2,0,2)) (pIns 126 5 + pIns 118 2 + pIns 114 1 + pIns 102 2 + pIns 90 3) 2 0), (3), (1), (iss (pIns 126 5 + pIns 118 2 + pIns 114 1 + pIns 102 2 + pIns 90 3) 2 0), (0), by decide +kernel⟩
theorem test_meets_WheelCommandsComplete_4_add : ∃ (s : State) (k : CoreNo) (n : CtxNo) (i : Issued) (j : Nat), (issuedAt s k n 2 6 i = true) ∧ (bitAt i.bundle 255 = false) ∧ ((List.range (wheelRows .add (s.wheelTmpl k (bits i.bundle 118 8))).1).all (fun x => plainRow s k n (i.row 114 106 + x)) = true) ∧ ((List.range (wheelRows .add (s.wheelTmpl k (bits i.bundle 118 8))).2.1).all (fun x => plainRow s k n (i.row 102 94 + x)) = true) ∧ ((List.range (wheelRows .add (s.wheelTmpl k (bits i.bundle 118 8))).2.2).all (fun x => s.inRows k n (i.row 90 82 + x) && !s.spillPending k (i.row 90 82 + x)) = true) ∧ (j < (wheelRows .add (s.wheelTmpl k (bits i.bundle 118 8))).2.2) :=
  ⟨(withCur (sWheel (2,2,2)) (pIns 126 6 + pIns 118 2 + pIns 114 1 + pIns 102 2 + pIns 90 3) 2 0), (3), (1), (iss (pIns 126 6 + pIns 118 2 + pIns 114 1 + pIns 102 2 + pIns 90 3) 2 0), (0), by decide +kernel⟩
theorem test_meets_WheelCommandsComplete_5_mul : ∃ (s : State) (k : CoreNo) (n : CtxNo) (i : Issued) (j : Nat), (issuedAt s k n 2 7 i = true) ∧ (bitAt i.bundle 255 = false) ∧ ((List.range (wheelRows .mul (s.wheelTmpl k (bits i.bundle 118 8))).1).all (fun x => plainRow s k n (i.row 114 106 + x)) = true) ∧ ((List.range (wheelRows .mul (s.wheelTmpl k (bits i.bundle 118 8))).2.1).all (fun x => plainRow s k n (i.row 102 94 + x)) = true) ∧ ((List.range (wheelRows .mul (s.wheelTmpl k (bits i.bundle 118 8))).2.2).all (fun x => s.inRows k n (i.row 90 82 + x) && !s.spillPending k (i.row 90 82 + x)) = true) ∧ (j < (wheelRows .mul (s.wheelTmpl k (bits i.bundle 118 8))).2.2) :=
  ⟨(withCur (sWheel (2,2,2)) (pIns 126 7 + pIns 118 2 + pIns 114 1 + pIns 102 2 + pIns 90 3) 2 0), (3), (1), (iss (pIns 126 7 + pIns 118 2 + pIns 114 1 + pIns 102 2 + pIns 90 3) 2 0), (0), by decide +kernel⟩
theorem test_meets_WheelCommandsComplete_6_reduce : ∃ (s : State) (k : CoreNo) (n : CtxNo) (i : Issued) (j : Nat), (issuedAt s k n 2 8 i = true) ∧ (bitAt i.bundle 255 = false) ∧ ((List.range (wheelRows .reduce (s.wheelTmpl k (bits i.bundle 118 8))).1).all (fun x => plainRow s k n (i.row 114 106 + x)) = true) ∧ ((List.range (wheelRows .reduce (s.wheelTmpl k (bits i.bundle 118 8))).2.1).all (fun x => plainRow s k n (i.row 102 94 + x)) = true) ∧ ((List.range (wheelRows .reduce (s.wheelTmpl k (bits i.bundle 118 8))).2.2).all (fun x => s.inRows k n (i.row 90 82 + x) && !s.spillPending k (i.row 90 82 + x)) = true) ∧ (j < (wheelRows .reduce (s.wheelTmpl k (bits i.bundle 118 8))).2.2) :=
  ⟨(withCur (sWheel (2,0,2)) (pIns 126 8 + pIns 118 2 + pIns 114 1 + pIns 102 2 + pIns 90 3) 2 0), (3), (1), (iss (pIns 126 8 + pIns 118 2 + pIns 114 1 + pIns 102 2 + pIns 90 3) 2 0), (0), by decide +kernel⟩
theorem test_meets_WheelCommandsComplete_7_bscale : ∃ (s : State) (k : CoreNo) (n : CtxNo) (i : Issued) (j : Nat), (issuedAt s k n 2 9 i = true) ∧ (bitAt i.bundle 255 = false) ∧ ((List.range (wheelRows .bscale (s.wheelTmpl k (bits i.bundle 118 8))).1).all (fun x => plainRow s k n (i.row 114 106 + x)) = true) ∧ ((List.range (wheelRows .bscale (s.wheelTmpl k (bits i.bundle 118 8))).2.1).all (fun x => plainRow s k n (i.row 102 94 + x)) = true) ∧ ((List.range (wheelRows .bscale (s.wheelTmpl k (bits i.bundle 118 8))).2.2).all (fun x => s.inRows k n (i.row 90 82 + x) && !s.spillPending k (i.row 90 82 + x)) = true) ∧ (j < (wheelRows .bscale (s.wheelTmpl k (bits i.bundle 118 8))).2.2) :=
  ⟨(withCur (sWheel (2,2,2)) (pIns 126 9 + pIns 118 2 + pIns 114 1 + pIns 102 2 + pIns 90 3) 2 0), (3), (1), (iss (pIns 126 9 + pIns 118 2 + pIns 114 1 + pIns 102 2 + pIns 90 3) 2 0), (0), by decide +kernel⟩
theorem test_meets_WheelCommandsComplete_8_merge : ∃ (s : State) (k : CoreNo) (n : CtxNo) (i : Issued), (issuedAt s k n 2 3 i = true) ∧ (bitAt i.bundle 255 = false) ∧ (wheelRows .merge (s.wheelTmpl k (bits i.bundle 118 8)) = (1, 1, 1)) ∧ (plainRow s k n (i.row 114 106) = true) ∧ (plainRow s k n (i.row 102 94) = true) ∧ (s.inRows k n (i.row 90 82) = true) ∧ (s.spillPending k (i.row 90 82) = false) ∧ ((P40.read (s.shelfRow k (i.row 114 106)).data false).sameKey (P40.read (s.shelfRow k (i.row 102 94)).data false) = true) :=
  ⟨(withCur ((sWheel (3,3,3)).putRow 3 220 (rowN 0x41234156789ABCDEF0) false false) (pIns 126 3 + pIns 118 2 + pIns 114 1 + pIns 102 2 + pIns 90 3) 2 0), (3), (1), (iss (pIns 126 3 + pIns 118 2 + pIns 114 1 + pIns 102 2 + pIns 90 3) 2 0), by decide +kernel⟩
theorem test_meets_ControlCommandsComplete_0_jump : ∃ (s : State) (k : CoreNo) (n : CtxNo) (i : Issued), issuedAt s k n 5 1 i = true :=
  ⟨(withCur (sCtx false) (pIns 242 1 + pIns 204 77) 5 0), (3), (1), (iss (pIns 242 1 + pIns 204 77) 5 0), by decide +kernel⟩
theorem test_meets_ControlCommandsComplete_1_loop : ∃ (s : State) (k : CoreNo) (n : CtxNo) (i : Issued), (issuedAt s k n 5 2 i = true) ∧ (nth 0 (s.ctx k n).l (bits i.bundle 220 2) ≠ 0) :=
  ⟨(withCur ((sCtx false).setCtx 3 1 { l := [0,0,5,0] }) (pIns 242 2 + pIns 204 77 + pIns 220 2) 5 0), (3), (1), (iss (pIns 242 2 + pIns 204 77 + pIns 220 2) 5 0), by decide +kernel⟩
theorem test_meets_ControlCommandsComplete_2_loop : ∃ (s : State) (k : CoreNo) (n : CtxNo) (i : Issued), (issuedAt s k n 5 2 i = true) ∧ (nth 0 (s.ctx k n).l (bits i.bundle 220 2) = 0) :=
  ⟨(withCur ((sCtx false).setCtx 3 1 { l := [0,0,5,0] }) (pIns 242 2 + pIns 204 77 + pIns 220 1) 5 0), (3), (1), (iss (pIns 242 2 + pIns 204 77 + pIns 220 1) 5 0), by decide +kernel⟩
theorem test_meets_ControlCommandsComplete_3_setl : ∃ (s : State) (k : CoreNo) (n : CtxNo) (i : Issued), issuedAt s k n 5 3 i = true :=
  ⟨(withCur (sCtx false) (pIns 242 3 + pIns 204 77 + pIns 220 1) 5 0), (3), (1), (iss (pIns 242 3 + pIns 204 77 + pIns 220 1) 5 0), by decide +kernel⟩
theorem test_meets_ControlCommandsComplete_4_seta : ∃ (s : State) (k : CoreNo) (n : CtxNo) (i : Issued), issuedAt s k n 5 4 i = true :=
  ⟨(withCur (sCtx false) (pIns 242 4 + pIns 204 77 + pIns 220 3) 5 0), (3), (1), (iss (pIns 242 4 + pIns 204 77 + pIns 220 3) 5 0), by decide +kernel⟩
theorem test_meets_ControlCommandsComplete_5_adda : ∃ (s : State) (k : CoreNo) (n : CtxNo) (i : Issued), issuedAt s k n 5 5 i = true :=
  ⟨(withCur (sCtx false) (pIns 242 5 + pIns 204 65535 + pIns 220 3) 5 0), (3), (1), (iss (pIns 242 5 + pIns 204 65535 + pIns 220 3) 5 0), by decide +kernel⟩
theorem test_meets_ControlCommandsComplete_6_waitAbs : ∃ (s : State) (k : CoreNo) (n : CtxNo) (b : Nat), (fetchesOk s k n b = true) ∧ (slotsOf b = 32) ∧ (slotOp b 5 = 6) ∧ (waitPasses s k n b = true) :=
  ⟨(((sProgB (pIns 242 6 + pIns 236 5 + pIns 204 3)).wr (Reg.QUE_CENQ 3 5) 4).wr (Reg.QUE_CDONE 3 5) 4), (3), (1), ((pIns 242 6 + pIns 236 5 + pIns 204 3)), by decide +kernel⟩
theorem test_meets_ControlCommandsComplete_7_waitOut : ∃ (s : State) (k : CoreNo) (n : CtxNo) (b : Nat), (fetchesOk s k n b = true) ∧ (slotsOf b = 32) ∧ (slotOp b 5 = 7) ∧ (waitPasses s k n b = true) :=
  ⟨(((sProgB (pIns 242 7 + pIns 236 5 + pIns 204 3)).wr (Reg.QUE_CENQ 3 5) 4).wr (Reg.QUE_CDONE 3 5) 4), (3), (1), ((pIns 242 7 + pIns 236 5 + pIns 204 3)), by decide +kernel⟩
theorem test_meets_ControlCommandsComplete_8_waitSatisfied : ∃ (s : State) (k : CoreNo) (n : CtxNo) (b : Nat), ((s.ctx k n).wait = .counter) ∧ (fetchesOk s k n b = true) ∧ (hasWait b = true) ∧ (waitPasses s k n b = true) :=
  ⟨((((sProgB (pIns 242 6 + pIns 236 5 + pIns 204 3)).wr (Reg.QUE_CENQ 3 5) 4).wr (Reg.QUE_CDONE 3 5) 4).setCtx 3 1 { wait := .counter }), (3), (1), ((pIns 242 6 + pIns 236 5 + pIns 204 3)), by decide +kernel⟩
theorem test_meets_ControlCommandsComplete_9_switch : ∃ (s : State) (k : CoreNo) (n : CtxNo) (i : Issued), (issuedAt s k n 5 8 i = true) ∧ (s.ctxRun k n = 1) :=
  ⟨(withCur (sCtx false) (pIns 242 8 + pIns 230 1 + pIns 222 1 + pIns 213 2 + pIns 204 1) 5 0), (3), (1), (iss (pIns 242 8 + pIns 230 1 + pIns 222 1 + pIns 213 2 + pIns 204 1) 5 0), by decide +kernel⟩
theorem test_meets_ControlCommandsComplete_10_barrier : ∃ (s : State) (k : CoreNo) (n : CtxNo) (i : Issued), (issuedAt s k n 5 9 i = true) ∧ (s.ctxsOn (s.ctxPart k n) k = [n.val]) :=
  ⟨(withCur ((sCtx false).setCtx 3 1 { sent := 5 }) (pIns 242 9 + pIns 204 7) 5 0), (3), (1), (iss (pIns 242 9 + pIns 204 7) 5 0), by decide +kernel⟩
theorem test_meets_ControlCommandsComplete_11_step : ∃ (s : State) (k : CoreNo) (n : CtxNo) (i : Issued), issuedAt s k n 5 10 i = true :=
  ⟨(withCur (sCtx false) (pIns 242 10) 5 0), (3), (1), (iss (pIns 242 10) 5 0), by decide +kernel⟩
theorem test_meets_ControlCommandsComplete_12_drain : ∃ (s : State) (k : CoreNo) (n : CtxNo) (i : Issued), issuedAt s k n 5 11 i = true :=
  ⟨(withCur (sCtx false) (pIns 242 11 + pIns 204 9) 5 0), (3), (1), (iss (pIns 242 11 + pIns 204 9) 5 0), by decide +kernel⟩
theorem test_meets_ControlCommandsComplete_13_event : ∃ (s : State) (k : CoreNo) (n : CtxNo) (i : Issued), (issuedAt s k n 5 12 i = true) ∧ ((s.events k).length < 16) :=
  ⟨(withCur (sCtx false) (pIns 242 12 + pIns 204 9) 5 0), (3), (1), (iss (pIns 242 12 + pIns 204 9) 5 0), by decide +kernel⟩
theorem test_meets_ControlCommandsComplete_14_halt : ∃ (s : State) (k : CoreNo) (n : CtxNo) (i : Issued), issuedAt s k n 5 13 i = true :=
  ⟨(withCur (sCtx false) (pIns 242 13) 5 0), (3), (1), (iss (pIns 242 13) 5 0), by decide +kernel⟩
theorem test_meets_ControlCommandsComplete_15_drainComplete : ∃ (s : State) (k : CoreNo) (n : CtxNo) (mask : Nat), ((s.ctx k n).wait = .drain mask) ∧ (s.ctxRun k n = 1) ∧ (s.drained k n mask = true) :=
  ⟨((sCtx false).setCtx 3 1 { wait := .drain 31 }), (3), (1), (31), by decide +kernel⟩
theorem test_meets_ControlCommandsComplete_16_stepDrained : ∃ (s : State) (k : CoreNo) (n : CtxNo), ((s.ctx k n).wait = .stepDrain) ∧ (s.ctxRun k n = 1) ∧ (s.drained k n 31 = true) :=
  ⟨((sCtx false).setCtx 3 1 { wait := .stepDrain }), (3), (1), by decide +kernel⟩
theorem test_meets_ControlCommandsComplete_17_haltComplete : ∃ (s : State) (k : CoreNo) (n : CtxNo), ((s.ctx k n).wait = .halting) ∧ (s.ctxRun k n = 1) ∧ (s.drained k n 31 = true) :=
  ⟨((sCtx false).setCtx 3 1 { wait := .halting }), (3), (1), by decide +kernel⟩
theorem test_meets_ControlCommandsComplete_18_switchComplete : ∃ (s : State) (k : CoreNo) (n : CtxNo) (mode : Bool) (fb : Nat) (nb : Nat) (ne : Nat), ((s.ctx k n).wait = .switch mode fb nb ne) ∧ (s.ctxRun k n = 2) ∧ (s.drained k n 31 = true) ∧ (s.queuesEmpty k n = true) ∧ ((List.range nb).all (fun x => decide (s.bufBase k n ≤ fb + x) && decide (fb + x < s.bufBase k n + s.bufCount k n)) = true) :=
  ⟨(((sCtx false).setCtx 3 1 { wait := .switch true 1 2 1 }).setRun 3 1 2), (3), (1), (true), (1), (2), (1), by decide +kernel⟩
theorem test_meets_ControlCommandsComplete_19_watchdogExpiry : ∃ (s : State) (k : CoreNo) (n : CtxNo) (mask : Nat), (s.fld (Reg.CORE_WDOG k) Fld.CORE_WDOG_EN = 1) ∧ (s.ctxRun k n = 1) ∧ ((s.ctx k n).wait = .drain mask) ∧ (s.fld (Reg.CORE_FLTINFO k n) Fld.CORE_FLTINFO_VALID = 0) :=
  ⟨(((sCtx false).setCtx 3 1 { wait := .drain 31 }).setF (Reg.CORE_WDOG 3) Fld.CORE_WDOG_EN 1), (3), (1), (31), by decide +kernel⟩
theorem test_meets_QueueCommandsComplete_0_descriptorStart : ∃ (s : State) (k : CoreNo) (q : Fin 16) (d : QDesc) (rest : List QDesc), (s.queue k q = d :: rest) ∧ (d.started = false) ∧ (d.write = false) :=
  ⟨(sDesc.setQueue 3 4 [desc0]), (3), (4), (desc0), ([]), by decide +kernel⟩
theorem test_meets_QueueCommandsComplete_1_descriptorRowLand : ∃ (s : State) (k : CoreNo) (q : Fin 16) (j : Fin 256) (i : Fin 4096) (cycles : Nat) (d : QDesc) (gs : List Granule), ((s.queue k q)[j.val]? = some d) ∧ (d.write = false) ∧ (d.started = true) ∧ (i < d.rows) ∧ (d.done.contains i.val = false) ∧ (d.tagged = false) ∧ (s.inRows k d.ctx (d.first + i) = true) ∧ (gs.length = 17) ∧ ((List.range 17).all (fun g => (s.respOf k q d.id i g).map (fun r => (r.data, r.poison || r.refused)) == some (nth 0 gs g, false)) = true) :=
  ⟨(sLand), (3), (4), (0), (1), (9), ({ desc0 with started := true, id := 7 }), ((List.range 17).map fun g => BitVec.ofNat 256 (g + 5)), by decide +kernel⟩
theorem test_meets_QueueCommandsComplete_2_descriptorComplete : ∃ (s : State) (k : CoreNo) (q : Fin 16) (d : QDesc) (rest : List QDesc), (s.queue k q = d :: rest) ∧ (s.descEnded k q d = true) ∧ (d.ended = false) ∧ (d.ctr < 64) ∧ ((List.range 4).all (fun n => (s.op k (8 + n)).isNone) = true) :=
  ⟨(sDesc.setQueue 3 4 [{ desc0 with started := true, done := [0, 1] }]), (3), (4), ({ desc0 with started := true, done := [0, 1] }), ([]), by decide +kernel⟩
theorem test_meets_QueueCommandsComplete_3_accumulate : ∃ (s : State) (k : CoreNo) (g : GroupNo) (d : Delivered) (rest : List Delivered) (i : Nat), (s.group k g = d :: rest) ∧ (s.op k (16 + g) = none) ∧ (d.job.tmpl.psrc = 0xFFFF) ∧ (s.tagged k d.job.ctx = false) ∧ (s.headroom k d.tile d.job.tmpl.base = none) ∧ ((List.range 11).all (fun x => s.inRows k d.job.ctx (d.job.tmpl.odst + x) && !s.spillPending k (d.job.tmpl.odst + x)) = true) ∧ (i < 11) :=
  ⟨((sCtx false).setGroup 3 1 [deliv0]), (3), (1), (deliv0), ([]), (10), by decide +kernel⟩
theorem test_meets_QueueCommandsComplete_4_scrubRow : ∃ (s : State) (k : CoreNo), (s.fld (Reg.SHELF_SCRUB k) Fld.SHELF_SCRUB_EN = 1) ∧ ((s.shelfRow k (SMap.get (fun _ => 0) s.core.scrub k)).poison = false) ∧ ((s.shelfRow k (SMap.get (fun _ => 0) s.core.scrub k)).ecc ≤ 1) :=
  ⟨((((({ core := { scrub := [(3, 49151)] } } : State).setF (Reg.SHELF_SCRUB 3) Fld.SHELF_SCRUB_EN 1).putRow 3 49151 (rowN 7) false true))), (3), by decide +kernel⟩
theorem test_meets_QueueCommandsComplete_5_blockedAccessRetry : ∃ (s : State) (k : CoreNo) (n : Fin 4) (i : Fin 16) (r : MeshRow), ((s.parked (ctxKey k n))[i.val]? = some r) ∧ (r.reduce = false) ∧ (s.tagged k n = true) ∧ (s.inRows k n r.drow = true) ∧ (s.tagAllowed k n .msh true r.drow = true) ∧ ((s.shelfRow k r.drow).full = false) ∧ (((s.parked (ctxKey k n)).take i).any (fun q => q.drow == r.drow) = false) ∧ (s.mayRetry k r.drow (64 + n) = true) ∧ ((s.slots (ctxKey k n)).all (fun x => !x.closed) = true) :=
  ⟨((((sCtx true).wr (Reg.SHELF_BUFA 3 1) (2 ^ 31 + 150)).wr (Reg.SHELF_BUFB 3 1) (31 * 2 ^ 21 + 31 * 2 ^ 16 + 100)).setParked (ctxKey 3 1) [row0]), (3), (1), (0), (row0), by decide +kernel⟩
theorem test_meets_MeshCommandsComplete_0_routerForward : ∃ (s : State) (r : CoreNo) (o : Fin 8) (h : Head), (s.headsFor r o = [h]) ∧ ((s.nextFeed r 5).isNone ∧ (s.nextFeed r 6).isNone ∧ (s.nextFeed r 7).isNone) ∧ (h.1 < 4) ∧ (o.val < 4) ∧ (h.2.1 = 1) :=
  ⟨(({} : State).setInputQ 5 3 1 [{ row0 with vc := 1, dnode := 7 }]), (5), (1), ((3, 1, { row0 with vc := 1, dnode := 7 })), by decide +kernel⟩
theorem test_meets_MeshCommandsComplete_1_meshRowDeliver : ∃ (s : State) (k : CoreNo) (n : CtxNo) (r : MeshRow) (rest : List MeshRow), (s.deliv (ctxKey k n) = r :: rest) ∧ (s.tagged k n = false) ∧ (r.reduce = false) ∧ (s.inRows k n r.drow = true) ∧ (s.spillPending k r.drow = false) ∧ (s.parkedFor k n r.drow = false) :=
  ⟨((sCtx false).setDeliv (ctxKey 3 1) [row0, { row0 with drow := 181 }]), (3), (1), (row0), ([{ row0 with drow := 181 }]), by decide +kernel⟩
theorem test_meets_MeshCommandsComplete_2_reduceRowArrive : ∃ (s : State) (k : CoreNo) (n : CtxNo) (r : MeshRow) (rest : List MeshRow) (e : Nat), (s.deliv (ctxKey k n) = r :: rest) ∧ (s.tagged k n = true) ∧ (r.reduce = true) ∧ (s.redEntry k r = some e) ∧ (s.slots (ctxKey k n) = []) ∧ (s.spilled k e r.drow = false) ∧ ((P40.ofRow r.data).contrib < s.rd (Reg.RTR_REDC k e)) :=
  ⟨(sRed), (3), (1), (rRow), ([]), (7), by decide +kernel⟩
theorem test_meets_BarrierCommandsComplete_0_barArrive : ∃ (s : State) (u : State) (k : CoreNo) (p : PartNo) (m : Msg), (s.takeMsg .barArrive k mgmtNode p = some (m, u)) ∧ (s.run p ≠ 3) :=
  ⟨(sMsg [⟨.event, 1, 2, 3, 4⟩, ⟨.barArrive, 3, 42, 2, 5 * 2 ^ 32 + 7⟩]), (sMsg [⟨.event, 1, 2, 3, 4⟩]), (3), (2), (⟨.barArrive, 3, 42, 2, 5 * 2 ^ 32 + 7⟩), by decide +kernel⟩
theorem test_meets_BarrierCommandsComplete_1_barArrive : ∃ (s : State) (u : State) (k : CoreNo) (p : PartNo) (m : Msg), (s.takeMsg .barArrive k mgmtNode p = some (m, u)) ∧ (s.run p = 3) :=
  ⟨((sMsg [⟨.barArrive, 3, 42, 2, 5 * 2 ^ 32 + 7⟩]).setF (Reg.CNET_PSTAT 2) Fld.CNET_PSTAT_RUN 3), ((sMsg []).setF (Reg.CNET_PSTAT 2) Fld.CNET_PSTAT_RUN 3), (3), (2), (⟨.barArrive, 3, 42, 2, 5 * 2 ^ 32 + 7⟩), by decide +kernel⟩
theorem test_meets_BarrierCommandsComplete_2_barQuery : ∃ (s : State) (u : State) (node : Fin 32) (p : PartNo) (m : Msg), s.takeMsg .barQuery mgmtNode node p = some (m, u) :=
  ⟨({ sMsg [⟨.barQuery, 42, 3, 2, 5 * 2 ^ 32⟩] with mesh := { (sMsg [⟨.barQuery, 42, 3, 2, 5 * 2 ^ 32⟩]).mesh with ejected := [(194, 2 ^ 24 + 9)] } }), ({ mesh := { ejected := [(194, 2 ^ 24 + 9)] } }), (3), (2), (⟨.barQuery, 42, 3, 2, 5 * 2 ^ 32⟩), by decide +kernel⟩
theorem test_meets_BarrierCommandsComplete_3_barCount : ∃ (s : State) (u : State) (node : Fin 32) (p : PartNo) (m : Msg) (id : Nat) (total : Nat) (counts : List (Nat × Nat)), (s.takeMsg .barCount node mgmtNode p = some (m, u)) ∧ ((s.root p).query = some (id, total)) ∧ (counts = ((s.root p).counts.filter fun c => c.1 != node.val) ++ [(node.val, m.arg % 2 ^ 24)]) ∧ ((s.members p).all (fun m => counts.any fun c => c.1 == m) = false) :=
  ⟨(mem23 (({ sMsg [⟨.barCount, 3, 42, 2, 5 * 2 ^ 32 + 1⟩] with mesh := { (sMsg [⟨.barCount, 3, 42, 2, 5 * 2 ^ 32 + 1⟩]).mesh with root := [(2, { query := some (5, 1) })] } }))), (mem23 ({ mesh := { root := [(2, { query := some (5, 1) })] } })), (3), (2), (⟨.barCount, 3, 42, 2, 5 * 2 ^ 32 + 1⟩), (5), (1), ([(3, 1)]), by decide +kernel⟩
theorem test_meets_BarrierCommandsComplete_4_barCount : ∃ (s : State) (u : State) (node : Fin 32) (p : PartNo) (m : Msg) (id : Nat) (total : Nat) (counts : List (Nat × Nat)), (s.takeMsg .barCount node mgmtNode p = some (m, u)) ∧ ((s.root p).query = some (id, total)) ∧ (counts = ((s.root p).counts.filter fun c => c.1 != node.val) ++ [(node.val, m.arg % 2 ^ 24)]) ∧ ((s.members p).all (fun m => counts.any fun c => c.1 == m) = true) ∧ (s.run p ≠ 3) ∧ (counts.foldl (fun a c => a + c.2) 0 % 2 ^ 24 = total % 2 ^ 24) ∧ (id < 256) :=
  ⟨(mem23 (({ sMsg [⟨.barCount, 3, 42, 2, 5 * 2 ^ 32 + 1⟩] with mesh := { (sMsg [⟨.barCount, 3, 42, 2, 5 * 2 ^ 32 + 1⟩]).mesh with root := [(2, { query := some (5, 10), counts := [(2, 9)], arrived := [(2, 5, 9), (3, 5, 1)] })], ejected := [(130, 9), (194, 3)], reported := [(130, 9), (194, 1)] } }))), (mem23 ({ mesh := { root := [(2, { query := some (5, 10), counts := [(2, 9)], arrived := [(2, 5, 9), (3, 5, 1)] })], ejected := [(130, 9), (194, 3)], reported := [(130, 9), (194, 1)] } })), (3), (2), (⟨.barCount, 3, 42, 2, 5 * 2 ^ 32 + 1⟩), (5), (10), ([(2, 9), (3, 1)]), by decide +kernel⟩
theorem test_meets_BarrierCommandsComplete_5_barRequeryTimer : ∃ (s : State) (p : PartNo) (id : Nat) (total : Nat), ((s.root p).query = some (id, total)) ∧ ((s.root p).counts = []) ∧ (s.inFlight p [.barQuery, .barCount] = false) :=
  ⟨(mem23 ({ mesh := { root := [(2, { query := some (5, 10), arrived := [(2, 5, 9), (3, 5, 1)] })] } })), (2), (5), (10), by decide +kernel⟩
theorem test_meets_BarrierCommandsComplete_6_barRelease : ∃ (s : State) (u : State) (k : CoreNo) (p : PartNo) (m : Msg) (n : CtxNo), (s.takeMsg .barRelease mgmtNode k p = some (m, u)) ∧ (n.val ∈ s.ctxsOn p k) ∧ ((s.ctx k n).wait = .barrier (m.arg / 2 ^ 32)) :=
  ⟨({ (sCtx false).setCtx 3 1 { wait := .barrier 5, sent := 7 } with mesh := { msgs := [⟨.barRelease, 42, 3, 2, 5 * 2 ^ 32⟩] } }), ((sCtx false).setCtx 3 1 { wait := .barrier 5, sent := 7 }), (3), (2), (⟨.barRelease, 42, 3, 2, 5 * 2 ^ 32⟩), (1), by decide +kernel⟩
theorem test_meets_BarrierCommandsComplete_7_stepDone : ∃ (s : State) (u : State) (k : CoreNo) (j : CoreNo) (p : PartNo) (m : Msg), (s.takeMsg .stepDone k mgmtNode p = some (m, u)) ∧ (j.val ∈ s.memberCores p) ∧ (j ≠ k ∧ (s.root p).stepDone.contains j.val = false ∧ s.allHalted p j = false) :=
  ⟨(mem23 { sCtx false with mesh := { msgs := [⟨.stepDone, 2, 42, 2, 6⟩] } }), (mem23 (sCtx false)), (2), (3), (2), (⟨.stepDone, 2, 42, 2, 6⟩), by decide +kernel⟩
theorem test_meets_BarrierCommandsComplete_8_stepDone : ∃ (s : State) (u : State) (k : CoreNo) (p : PartNo) (m : Msg), (s.takeMsg .stepDone k mgmtNode p = some (m, u)) ∧ (s.run p = 1) ∧ (s.memberCores p = [k.val]) ∧ (s.allHalted p k = false) ∧ (s.jobParts p ≠ 0) :=
  ⟨(sSD), (uOf sSD .stepDone 3 42 2), (3), (2), (⟨.stepDone, 3, 42, 2, 6⟩), by decide +kernel⟩
theorem test_meets_BarrierCommandsComplete_9_boundary : ∃ (s : State) (u : State) (k : CoreNo) (p : PartNo) (m : Msg), (s.takeMsg .boundary mgmtNode k p = some (m, u)) ∧ (s.armedTiles k = []) :=
  ⟨(sMsg [⟨.boundary, 42, 3, 2, 9⟩]), (sMsg []), (3), (2), (⟨.boundary, 42, 3, 2, 9⟩), by decide +kernel⟩
theorem test_meets_BarrierCommandsComplete_10_boundaryAck : ∃ (s : State) (u : State) (k : CoreNo) (j : CoreNo) (p : PartNo) (m : Msg), (s.takeMsg .boundaryAck k mgmtNode p = some (m, u)) ∧ (j.val ∈ s.memberCores p) ∧ (j ≠ k ∧ (s.root p).acks.contains j.val = false) :=
  ⟨(mem23 (sMsg [⟨.boundaryAck, 3, 42, 2, 9⟩])), (mem23 (sMsg [])), (3), (2), (2), (⟨.boundaryAck, 3, 42, 2, 9⟩), by decide +kernel⟩
theorem test_meets_BarrierCommandsComplete_11_stepStart : ∃ (s : State) (u : State) (k : CoreNo) (p : PartNo) (m : Msg) (n : CtxNo), (s.takeMsg .stepStart mgmtNode k p = some (m, u)) ∧ ((s.mesh.msgs.any fun m => m.type == .pstart && m.dnode == k && m.part == p) = false) ∧ (n.val ∈ s.ctxsOn p k) ∧ ((s.ctx k n).wait = .stepWait) :=
  ⟨({ (sCtx false).setCtx 3 1 { wait := .stepWait } with mesh := { msgs := [⟨.stepStart, 42, 3, 2, 6⟩] } }), ((sCtx false).setCtx 3 1 { wait := .stepWait }), (3), (2), (⟨.stepStart, 42, 3, 2, 6⟩), (1), by decide +kernel⟩
theorem test_meets_PartitionMessagesComplete_0_pstop : ∃ (s : State) (u : State) (node : Fin 32) (p : PartNo) (m : Msg), (s.takeMsg .pstop mgmtNode node p = some (m, u)) ∧ ((u.mesh.msgs.any fun m => m.type == .pstop && m.part == p) = true) :=
  ⟨(sMsg [⟨.pstop, 42, 3, 2, 0⟩, ⟨.pstop, 42, 4, 2, 0⟩]), (sMsg [⟨.pstop, 42, 4, 2, 0⟩]), (3), (2), (⟨.pstop, 42, 3, 2, 0⟩), by decide +kernel⟩
theorem test_meets_PartitionMessagesComplete_1_pstop : ∃ (s : State) (u : State) (node : Fin 32) (p : PartNo) (m : Msg), (s.takeMsg .pstop mgmtNode node p = some (m, u)) ∧ ((u.mesh.msgs.any fun m => m.type == .pstop && m.part == p) = false) ∧ ((s.part p).stopping = 2) ∧ ((s.part p).opened = false) ∧ (s.run p = 2) ∧ ((s.hbm.moves.any fun m => m.part == p && m.step != 0 && m.step != 9) = false) :=
  ⟨(((sMsg [⟨.pstop, 42, 3, 2, 0⟩]).setPart 2 { stopping := 2 }).setF (Reg.CNET_PSTAT 2) Fld.CNET_PSTAT_RUN 2), (((sMsg []).setPart 2 { stopping := 2 }).setF (Reg.CNET_PSTAT 2) Fld.CNET_PSTAT_RUN 2), (3), (2), (⟨.pstop, 42, 3, 2, 0⟩), by decide +kernel⟩
theorem test_meets_PartitionMessagesComplete_2_pstart : ∃ (s : State) (u : State) (node : Fin 32) (p : PartNo) (m : Msg) (n : CtxNo), (node.val < 16) ∧ (s.takeMsg .pstart mgmtNode node p = some (m, u)) ∧ (s.jobParts p ≠ 0) ∧ (s.ctxsOn p node = [n.val]) :=
  ⟨(sPS), (uOf sPS .pstart 42 3 2), (3), (2), (⟨.pstart, 42, 3, 2, 0⟩), (1), by decide +kernel⟩
theorem test_meets_PartitionMessagesComplete_3_forceSched : ∃ (s : State) (u : State) (k : CoreNo) (n : CtxNo), (s.takeArg .forceSched mgmtNode k (s.ctxPart k n) n = some u) ∧ (∀ q ∈ List.range 16, ∀ d ∈ s.queue k q, d.ctr < 64) :=
  ⟨({ sCtx true with mesh := { msgs := [⟨.forceSched, 42, 3, 2, 1⟩] } }), (sCtx true), (3), (1), by decide +kernel⟩
theorem test_meets_PartitionMessagesComplete_4_discard : ∃ (s : State) (u : State) (node : Fin 32) (p : PartNo) (m : Msg), s.takeMsg .discard mgmtNode node p = some (m, u) :=
  ⟨({ sCtx true with mesh := { msgs := [⟨.discard, 42, 3, 2, 1⟩] } }), (sCtx true), (3), (2), (⟨.discard, 42, 3, 2, 1⟩), by decide +kernel⟩
theorem test_meets_PartitionMessagesComplete_5_creditReclaim : ∃ (s : State) (u : State) (r : CoreNo) (p : PartNo) (m : Msg) (a : Fin 3), (s.takeMsg .creditReclaim mgmtNode r p = some (m, u)) ∧ (m.arg % 8 = a.val) :=
  ⟨({ mesh := { msgs := [⟨.creditReclaim, 42, 3, 2, 1⟩], credits := [(120, 3)] } }), ({ mesh := { credits := [(120, 3)] } }), (3), (2), (⟨.creditReclaim, 42, 3, 2, 1⟩), (1), by decide +kernel⟩
theorem test_meets_PartitionMessagesComplete_6_tagReclaim : ∃ (s : State) (k : CoreNo) (n : CtxNo) (m : Msg) (r : Nat), (s.mesh.msgs = [m]) ∧ (SMap.wf (fun _ => ({} : ShelfRow)) s.core.shelf = true) ∧ (m.type = .tagReclaim ∧ m.dnode = k.val ∧ m.part = s.ctxPart k n ∧ m.arg % 4 = n.val) ∧ (bitAt m.arg 2 = false) ∧ (s.inRows k n r = true) ∧ (r < 49152) :=
  ⟨((({ sCtx true with mesh := { msgs := [⟨.tagReclaim, 42, 3, 2, 1⟩] } } : State).putRow 3 215 (rowN 99) false true).wr (Reg.QUE_CDONE 3 5) 77), (3), (1), (⟨.tagReclaim, 42, 3, 2, 1⟩), (215), by decide +kernel⟩
theorem test_meets_PartitionMessagesComplete_7_reclaimDone : ∃ (s : State) (u : State) (node : Fin 32) (p : PartNo) (m : Msg), (s.takeMsg .reclaimDone node mgmtNode p = some (m, u)) ∧ ((s.recl p).awaited.erase node.val ≠ []) :=
  ⟨({ mesh := { msgs := [⟨.reclaimDone, 3, 42, 2, 11⟩], reclaim := [(2, { step := 1, awaited := [3, 3, 4] })] } }), ({ mesh := { reclaim := [(2, { step := 1, awaited := [3, 3, 4] })] } }), (3), (2), (⟨.reclaimDone, 3, 42, 2, 11⟩), by decide +kernel⟩
theorem test_meets_PartitionMessagesComplete_8_fault : ∃ (s : State) (u : State) (node : Fin 64) (p : PartNo) (taken : Nat) (m : Msg), (({ s with mesh := { s.mesh with storeU := s.mesh.storeU.drop taken } } : State).takeMsg .fault node mgmtNode p = some (m, u)) ∧ (u.mesh.storeU.length < 1024) :=
  ⟨({ mesh := { msgs := [⟨.fault, 3, 42, 2, 5⟩], storeU := [⟨.fault, 3, 42, 2, 3⟩, ⟨.fault, 3, 42, 2, 4⟩] } }), ({ mesh := { msgs := [], storeU := [⟨.fault, 3, 42, 2, 4⟩] } }), (3), (2), (1), (⟨.fault, 3, 42, 2, 5⟩), by decide +kernel⟩
theorem test_meets_PartitionMessagesComplete_9_telem : ∃ (s : State) (node : Fin 64) (p : PartNo) (arg : BitVec 40) (taken : Nat), (s.mesh.storeB.drop taken).length < 256 :=
  ⟨({ mesh := { storeB := [⟨.telem, 3, 42, 2, 3⟩, ⟨.telem, 3, 42, 2, 4⟩] } }), (3), (2), (77), (1), by decide +kernel⟩
theorem test_meets_PartitionMessagesComplete_10_cnetEvent : ∃ (s : State) (k : CoreNo) (taken : Nat) (e : Nat) (rest : List Nat), (s.events k = e :: rest) ∧ ((s.mesh.storeB.drop taken).length < 256) ∧ (((List.range 4).all fun n => (s.ctx k n).wait == .none) = true) :=
  ⟨((sCtx false).setEvents 3 [2 ^ 32 + 7, 9]), (3), (0), (2 ^ 32 + 7), ([9]), by decide +kernel⟩
theorem test_meets_PartitionMessagesComplete_11_reclaim : ∃ (s : State) (p : PartNo), (s.run p = 1 ∨ s.run p = 2) ∧ ((s.part p).opened = false) ∧ (s.ctxsOf p ≠ []) :=
  ⟨((sCtx false).setF (Reg.CNET_PSTAT 2) Fld.CNET_PSTAT_RUN 2), (2), by decide +kernel⟩
theorem test_meets_PartitionMessagesComplete_12_reclaimTimeout : ∃ (s : State) (p : PartNo), (s.run p = 3) ∧ ((s.recl p).step = 4) ∧ (s.failed = false) ∧ (noStreams s = true) :=
  ⟨(({ mesh := { reclaim := [(2, { step := 4 })] } } : State).setF (Reg.CNET_PSTAT 2) Fld.CNET_PSTAT_RUN 3), (2), by decide +kernel⟩
theorem test_meets_HbmCommandsComplete_0_regionWrite : ∃ (s : State) (u : State) (r : Fin 1024) (j : Fin 4) (w : Word), (u = s.wr (Reg.HBM_RGNA r + 4 * j) ((s.rd (Reg.HBM_RGNA r + 4 * j) - (s.rd (Reg.HBM_RGNA r + 4 * j) &&& writable (Reg.HBM_RGNA r + 4 * j))) + (w.toNat &&& writable (Reg.HBM_RGNA r + 4 * j)))) ∧ (s.allTrained = true) ∧ (s.inUse (s.rgnPart r) = false ∧ s.inUse (u.rgnPart r) = false) ∧ (s.rgnValid r = false ∧ u.rgnValid r = true) ∧ (u.regionFields r = true ∧ u.regionOk r = true) :=
  ⟨(sRw), (sRw.setF (Reg.HBM_RGNA 3) Fld.HBM_RGNA_VALID 1), (3), (0), (BitVec.ofNat 32 sRwW), by decide +kernel⟩
theorem test_meets_HbmCommandsComplete_1_regionWrite : ∃ (s : State) (r : Fin 1024) (j : Fin 4) (w : Word), s.inUse (s.rgnPart r) = true :=
  ⟨(sRgn.setF (Reg.CNET_PSTAT 2) Fld.CNET_PSTAT_RUN 1), (3), (1), (5), by decide +kernel⟩
theorem test_meets_HbmCommandsComplete_2_regionWrite : ∃ (s : State) (p : PartNo) (h : Fin 64) (w : Word), (s.run p = 0) ∧ (s.rgnValid (bits w.toNat 0 10) = true ∧ s.rgnPart (bits w.toNat 0 10) = p.val) :=
  ⟨({ sRgn with hbm := { stale := [135, 136] } }), (2), (7), (0x80000003#32), by decide +kernel⟩
theorem test_meets_HbmCommandsComplete_3_initFillComplete : ∃ (s : State) (r : Fin 1024) (g : Nat), (s.rgnInit r = true) ∧ ((s.hbm.writes.any fun w => decide (s.regionBase r ≤ w.g) && decide (w.g < s.regionBase r + s.regionSize r)) = false) ∧ (s.regionBase r ≤ g ∧ g < s.regionBase r + s.regionSize r) :=
  ⟨(({ sRgn with hbm := { mem := [(0x4000003, 7)], cond := [(0x4000003, 2)] } }).setF (Reg.HBM_RGND 3) Fld.HBM_RGND_INIT 1), (3), (0x4000003), by decide +kernel⟩
theorem test_meets_HbmCommandsComplete_4_hbmRequest : ∃ (s : State) (m : StackNo) (q : HbmReq), (s.hbm.reqs = [q]) ∧ (q.ctl = m.val) ∧ (q.part < 64) ∧ (s.pwr.selfRefresh = false) ∧ (s.reqAllowed q = true) ∧ (q.write = true) ∧ (s.hbm.writes.length < 2048) :=
  ⟨(sReq true), (3), (hreq true), by decide +kernel⟩
theorem test_meets_HbmCommandsComplete_5_hbmRequest : ∃ (s : State) (m : StackNo) (q : HbmReq), (s.hbm.reqs = [q]) ∧ (q.ctl = m.val) ∧ (q.part < 64) ∧ (s.pwr.selfRefresh = false) ∧ (s.reqAllowed q = true) ∧ (q.write = false) ∧ (s.hbm.reads.length < 8192) ∧ ((s.hbm.writes.all fun w => w.g != q.g) = true) :=
  ⟨(sReq false), (3), (hreq false), by decide +kernel⟩
theorem test_meets_HbmCommandsComplete_6_hbmRequest : ∃ (s : State) (m : StackNo) (q : HbmReq) (k : Nat) (u : Nat) (id : Nat) (x : Nat) (y : Nat), (s.hbm.reqs = [q]) ∧ (q.ctl = m.val) ∧ (q.part < 64) ∧ (s.pwr.selfRefresh = false) ∧ (s.reqAllowed q = false) ∧ (q.by_ = .desc k u id x y) ∧ (((s.queue k u).any fun d => d.started && d.id == id) = true) :=
  ⟨({ sLive with hbm := { sLive.hbm with reqs := [hreq false] } }), (3), (hreq false), (3), (4), (7), (0), (0), by decide +kernel⟩
theorem test_meets_HbmCommandsComplete_7_hbmReadData : ∃ (s : State) (m : StackNo) (q : HbmReq) (k : Nat) (u : Nat) (id : Nat) (x : Nat) (y : Nat), (s.hbm.reads = [q]) ∧ (q.ctl = m.val) ∧ (q.cond = 0) ∧ (q.by_ = .desc k u id x y) ∧ (((s.queue k u).any fun d => d.started && d.id == id) = true) :=
  ⟨({ sLive with hbm := { sLive.hbm with reads := [hreq false] } }), (3), (hreq false), (3), (4), (7), (0), (0), by decide +kernel⟩
theorem test_meets_HbmCommandsComplete_8_hbmWriteAck : ∃ (s : State) (m : StackNo) (q : HbmReq) (rest : List HbmReq) (k : Nat) (u : Nat) (id : Nat) (x : Nat) (y : Nat), (s.hbm.writes = q :: rest) ∧ (q.ctl = m.val) ∧ (q.by_ = .desc k u id x y) :=
  ⟨({ sLive with hbm := { sLive.hbm with writes := [hreq true] } }), (3), (hreq true), ([]), (3), (4), (7), (0), (0), by decide +kernel⟩
theorem test_meets_HbmCommandsComplete_9_patrolScrub : ∃ (s : State) (m : StackNo), s.granCond (8 * SMap.get (fun _ => 0) s.hbm.patrol m + m) = 0 :=
  ⟨({ hbm := { patrol := [(3, 1207959551)] } }), (3), by decide +kernel⟩
theorem test_meets_HbmCommandsComplete_11_stackSensorReading : ∃ (s : State) (m : StackNo) (b : Byte), s.fld (Reg.HBM_STAT m) Fld.HBM_STAT_TRAINED = 1 :=
  ⟨(({} : State).setF (Reg.HBM_STAT 3) Fld.HBM_STAT_TRAINED 1), (3), (85), by decide +kernel⟩
theorem test_meets_HbmCommandsComplete_12_hbmStackFailure : ∃ (s : State) (m : StackNo), (s.failed = false) ∧ (noStreams s = true) :=
  ⟨({}), (3), by decide +kernel⟩
theorem test_meets_KvMoveCommandsComplete_0_kvMoveOut : ∃ (s : State) (c : StreamNo) (b : Fin 1024) (m : Move) (e : KvEnt) (i : Nat), ((s.hbm.moves.find? fun m => m.stream == c.val && m.block == b.val && m.out && m.step == 0) = some m) ∧ (s.kv c b = some e) ∧ (e.tier = 0) ∧ (s.moveDest m none = some (2, 0, i)) ∧ (s.movesInFlight < 64) ∧ (s.pwr.selfRefresh = false) ∧ ((s.hbm.cond.all fun x => !(decide (e.off / 32 ≤ x.1) && decide (x.1 < e.off / 32 + 2048))) = true) :=
  ⟨({ sKv with hbm := { moves := [mvOut] } }), (9), (0), (mvOut), ({ tier := 0, off := 0x80000000, chip := 0, seq := 0 }), (1), by decide +kernel⟩
theorem test_meets_KvMoveCommandsComplete_1_kvMoveOutConfirm : ∃ (s : State) (c : StreamNo) (b : Fin 1024) (m : Move), ((s.hbm.moves.find? fun m => m.stream == c.val && m.block == b.val && m.out && m.step == 3) = some m) ∧ (m.tier = 2) ∧ ((s.stream c).state = .run) ∧ ((s.part m.part).stopping = 0) :=
  ⟨({ sKv with hbm := { moves := [mv3], sealed := [sldB] } }), (9), (0), (mv3), by decide +kernel⟩
theorem test_meets_KvMoveCommandsComplete_2_kvMoveIn : ∃ (s : State) (c : StreamNo) (b : Fin 1024) (m : Move) (e : KvEnt) (d : Sealed) (id : SealId), ((s.hbm.moves.find? fun m => m.stream == c.val && m.block == b.val && !m.out && decide (m.step < 2)) = some m) ∧ (s.kv c b = some e) ∧ (m.step = 0) ∧ (s.movesInFlight < 64) ∧ (s.pwr.selfRefresh = false) ∧ (e.tier = 2) ∧ (s.dmaOn = true) ∧ ((s.hbm.sealed.find? fun d => d.seq == e.seq) = some d) ∧ (id.tenant = (s.stream c).tenant ∧ id.ctx = c.val ∧ id.block = b.val ∧ id.gen = (s.stream c).gen ∧ id.seq = e.seq) :=
  ⟨({ sKv2 with hbm := { moves := [mvIn], sealed := [sldB] } }), (9), (0), (mvIn), ({ tier := 2, off := 1, chip := 0, seq := 1 }), (sldB), (⟨0, 5, 9, 0, 3, 1⟩), by decide +kernel⟩
theorem test_meets_KvMoveCommandsComplete_3_kvMoveInDone : ∃ (s : State) (c : StreamNo) (b : Fin 1024) (m : Move) (e : KvEnt) (off : Nat), ((s.hbm.moves.find? fun m => m.stream == c.val && m.block == b.val && !m.out && m.step == 4) = some m) ∧ (s.kv c b = some e) ∧ (s.freeBlock m.part (s.stream c).tenant [] = some off) ∧ ((s.stream c).state = .run) ∧ ((s.part m.part).stopping = 0) :=
  ⟨(sKvR), (9), (0), ({ mvIn with step := 4, data := [7, 8] }), ({ tier := 2, off := 1, chip := 0, seq := 1 }), (0x80010000), by decide +kernel⟩
theorem test_meets_StepCommandsComplete_0_sched : ∃ (s : State) (u : State) (k : CoreNo) (p : PartNo) (m : Msg), s.takeMsg .sched 41 k p = some (m, u) :=
  ⟨(sMsg [⟨.sched, 41, 3, 2, 9⟩]), (sMsg []), (3), (2), (⟨.sched, 41, 3, 2, 9⟩), by decide +kernel⟩
theorem test_meets_StepCommandsComplete_1_admitStream : ∃ (s : State) (p : PartNo) (cid : BitVec 16) (w : BitVec 1024) (now : BitVec 64) (c : Nat) (x : VfCmd), (firstCmd s p cid.toNat 1 x = true) ∧ (s.dmaOn = true) ∧ (s.run p ≠ 0) ∧ ((s.tick now.toNat).admitCheck p w.toNat = .inl c) :=
  ⟨(sAdm), (2), (4), (BitVec.ofNat 1024 admRec), (1000), (8), (cmdOf { op := 1, cid := 4 }), by decide +kernel⟩
theorem test_meets_StepCommandsComplete_2_admitStream : ∃ (s : State) (p : PartNo) (cid : BitVec 16) (w : BitVec 1024) (now : BitVec 64) (reason : Nat) (x : VfCmd), (firstCmd s p cid.toNat 1 x = true) ∧ (s.dmaOn = true) ∧ (s.run p ≠ 0) ∧ ((s.tick now.toNat).admitCheck p w.toNat = .inr reason) :=
  ⟨(sAdm), (2), (4), (5), (1000), (1), (cmdOf { op := 1, cid := 4 }), by decide +kernel⟩
theorem test_meets_StepCommandsComplete_3_cancel : ∃ (s : State) (p : PartNo) (cid : BitVec 16) (x : VfCmd), (firstCmd s p cid.toNat 2 x = true) ∧ ((s.stream x.entry.ctx).part = p.val ∧ (s.stream x.entry.ctx).gen = x.entry.gen) ∧ ((s.stream x.entry.ctx).state ≠ .free ∧ (s.stream x.entry.ctx).state ≠ .ended) :=
  ⟨(setV sKv { op := 2, cid := 4, ctx := 9, gen := 3 }), (2), (4), (cmdOf { op := 2, cid := 4, ctx := 9, gen := 3 }), by decide +kernel⟩
theorem test_meets_StepCommandsComplete_4_stepGrant : ∃ (s : State) (p : PartNo), (s.jobParts p = 0) ∧ (s.run p = 2) ∧ ((s.part p).planned = true ∧ (s.part p).opened = false ∧ (s.part p).stopping = 0 ∧ (s.part p).step < 65536) ∧ (s.engineBusy p = false) ∧ ((s.memberCores p).all (fun k => (s.root p).acks.contains k) = true) :=
  ⟨((sStep { planned := true, step := 65535 }).setRoot 2 { acks := [3] }), (2), by decide +kernel⟩
theorem test_meets_StepCommandsComplete_5_stepCommit : ∃ (s : State) (p : PartNo) (now : BitVec 64), (s.jobParts p = 0) ∧ (s.run p = 2) ∧ ((s.part p).planned = false ∧ (s.part p).opened = true ∧ (s.part p).failed = false ∧ (s.part p).stopping = 0) ∧ ((s.part p).plan = []) ∧ (s.srv.streams = []) ∧ ((s.mesh.msgs.any fun m => m.type == .pstart && m.part == p) = false) ∧ (s.fld (Reg.SRV_PSTAT p) Fld.SRV_PSTAT_PEND = 0) :=
  ⟨(sStep { opened := true, step := 65535 }), (2), (7), by decide +kernel⟩
theorem test_meets_StepCommandsComplete_6_replay : ∃ (s : State) (p : PartNo), (s.jobParts p = 0) ∧ (s.run p = 2) ∧ ((s.part p).planned = false ∧ (s.part p).opened = false ∧ (s.part p).stopping = 0 ∧ (s.part p).replay = true) ∧ ((s.mesh.msgs.any fun m => m.type == .pstart && m.part == p) = false) ∧ (s.fld (Reg.SRV_PSTAT p) Fld.SRV_PSTAT_PEND = 1) ∧ (s.fld (Reg.SRV_PCTX p) Fld.SRV_PCTX_COUNT ≠ 0) ∧ ((s.replayPlan p).isSome = true) :=
  ⟨(((sStep { replay := true, step := 5 }).setF (Reg.SRV_PSTAT 2) Fld.SRV_PSTAT_PEND 1).setF (Reg.SRV_PCTX 2) Fld.SRV_PCTX_COUNT 3), (2), by decide +kernel⟩
theorem test_meets_StepCommandsComplete_7_parkTimer : ∃ (s : State) (c : StreamNo) (now : BitVec 64) (b : Nat) (e : KvEnt), ((s.stream c).state = .paused) ∧ ((s.stream c).tpause + 1000 * (s.stream c).parkt ≤ max s.mt now.toNat) ∧ ((s.hbm.moves.any fun m => m.stream == c.val) = false) ∧ (b < (s.stream c).nblk ∧ s.kv c b = some e ∧ e.tier = 0) ∧ ((s.part (s.stream c).part).stopping = 0) :=
  ⟨(sPk), (9), (6000), (0), ({ tier := 0, off := 0x80000000, chip := 0, seq := 0 }), by decide +kernel⟩
theorem test_meets_StepCommandsComplete_8_pauseExpiry : ∃ (s : State) (c : StreamNo) (now : BitVec 64), ((s.stream c).inPause = true) ∧ ((s.stream c).tpause + 1000000 * (s.stream c).ttl ≤ max s.mt now.toNat) ∧ ((s.stream c).pinned = false ∧ (s.stream c).flr = false) :=
  ⟨(sPk), (9), (2001000), by decide +kernel⟩
theorem test_meets_StepCommandsComplete_9_moveDrainTimeout : ∃ (s : State) (p : PartNo) (m : Move), ((s.part p).stopping = 2 ∧ (s.part p).opened = false) ∧ (s.run p = 2) ∧ (s.hbm.moves = [m]) ∧ (m.part = p.val ∧ m.step = 1 ∧ m.out = false) ∧ ((s.stream m.stream).state = .resuming) ∧ ((s.mesh.msgs.any fun m => m.type == .pstop && m.part == p) = false) :=
  ⟨({ ((sStep { stopping := 2 }).setStream 9 { state := .resuming, part := 2 }) with hbm := { moves := [{ mvIn with step := 1 }] } }), (2), ({ mvIn with step := 1 }), by decide +kernel⟩
theorem test_meets_AdapterCommandsComplete_0_adpStop : ∃ (s : State) (p : PartNo) (i : Fin 64), (s.adp (p * 64 + i)).loading = false :=
  ⟨(sAdp.setF (Reg.ADP_SCTL 133) Fld.ADP_SCTL_STATE 1), (2), (5), by decide +kernel⟩
theorem test_meets_AdapterCommandsComplete_1_adpStop : ∃ (s : State) (p : PartNo) (i : Fin 64), (s.adp (p * 64 + i)).loading = true :=
  ⟨(sAdp.setAdp 133 { loading := true }), (2), (5), by decide +kernel⟩
theorem test_meets_AdapterCommandsComplete_2_adpLoad : ∃ (s : State) (p : PartNo) (i : Fin 64) (src : Nat) (b : Nat × Nat), (src = s.rd (Reg.ADP_SRC_LO p) + 2 ^ 32 * s.rd (Reg.ADP_SRC_HI p) + 2 ^ 64 * s.rd (Reg.ADP_SRCLEN p)) ∧ ((s.adp (p * 64 + i)).loading = false) ∧ (s.fld (Reg.ADP_SCTL (p * 64 + i)) Fld.ADP_SCTL_CFG = 1 ∧ s.fld (Reg.ADP_SCTL (p * 64 + i)) Fld.ADP_SCTL_STATE ≠ 2) ∧ (s.otherPin (p * 64 + i) = 0) ∧ (s.otherBank (p * 64 + i) = some b) ∧ (bitAt src 63 = true ∧ bits src 0 40 % 32 = 0) ∧ (bits src 64 32 ≠ 0 ∧ bits src 64 32 % 32 = 0 ∧ bits src 64 32 / 32 ≤ b.2) :=
  ⟨(sAdp), (2), (5), (2 ^ 63 + 2 ^ 70), ((0x4000000, 0x20000)), by decide +kernel⟩
theorem test_meets_AdapterCommandsComplete_3_adpLoadDone : ∃ (s : State) (p : PartNo) (i : Fin 64) (data : List Granule) (b : Nat × Nat) (j : Nat), ((s.adp (p * 64 + i)).loading = true) ∧ (s.otherBank (p * 64 + i) = some b) ∧ (bitAt (s.adp (p * 64 + i)).src 63 = true) ∧ (j < bits (s.adp (p * 64 + i)).src 64 32 / 32) :=
  ⟨(sAdp.setAdp 133 { loading := true, src := 2 ^ 63 + 2 ^ 70 }), (2), (5), ([7, 8]), ((0x4000000, 0x20000)), (1), by decide +kernel⟩
theorem test_meets_AdapterCommandsComplete_4_adpStart : ∃ (s : State) (p : PartNo) (i : Fin 64), ((s.adp (p * 64 + i)).loading = false) ∧ (s.fld (Reg.ADP_SSTAT (p * 64 + i)) Fld.ADP_SSTAT_LOADED = 1 ∧ s.fld (Reg.ADP_SCTL (p * 64 + i)) Fld.ADP_SCTL_STATE ≠ 2) ∧ (s.otherPin (p * 64 + i) = 0) :=
  ⟨(sAdp.setF (Reg.ADP_SSTAT 133) Fld.ADP_SSTAT_LOADED 1), (2), (5), by decide +kernel⟩
theorem test_meets_HostCommandsComplete_0_sqDoorbell : ∃ (s : State) (p : PartNo) (i : BitVec 16), i.toNat < s.fld (Reg.PCI_VSQSIZE p) Fld.PCI_VSQSIZE_ENTRIES :=
  ⟨(({} : State).setF (Reg.PCI_VSQSIZE 2) Fld.PCI_VSQSIZE_ENTRIES 64), (2), (63), by decide +kernel⟩
theorem test_meets_HostCommandsComplete_1_sqDoorbell : ∃ (s : State) (p : PartNo) (i : BitVec 16), s.fld (Reg.PCI_VSQSIZE p) Fld.PCI_VSQSIZE_ENTRIES ≤ i.toNat :=
  ⟨(({} : State).setF (Reg.PCI_VSQSIZE 2) Fld.PCI_VSQSIZE_ENTRIES 64), (2), (64), by decide +kernel⟩
theorem test_meets_HostCommandsComplete_2_cqDoorbell : ∃ (s : State) (p : PartNo) (i : BitVec 16) (n : Nat), (n = (i.toNat + s.fld (Reg.PCI_VCQSIZE p) Fld.PCI_VCQSIZE_ENTRIES - (s.vf p).cqHead) % s.fld (Reg.PCI_VCQSIZE p) Fld.PCI_VCQSIZE_ENTRIES) ∧ (i.toNat < s.fld (Reg.PCI_VCQSIZE p) Fld.PCI_VCQSIZE_ENTRIES ∧ n ≤ (s.vf p).cq.length) :=
  ⟨((({} : State).setF (Reg.PCI_VCQSIZE 2) Fld.PCI_VCQSIZE_ENTRIES 64).setVf 2 { cqHead := 63, cq := [{ kind := 3, phase := true, status := 1, cid := 9, gen := 3 }, { kind := 1, phase := true, status := 1, cid := 9 }] }), (2), (0), (1), by decide +kernel⟩
theorem test_meets_HostCommandsComplete_3_sqEntryFetch : ∃ (s : State) (p : PartNo) (e : SqEntry), (s.dmaOn = true) ∧ (s.fld (Reg.PCI_VCTL p) Fld.PCI_VCTL_EN = 1 ∧ (s.vf p).fetchOff = false) ∧ (s.rd (Reg.PCI_VSQDB p) ≠ (s.vf p).sqHead ∧ (s.vf p).cmds.length < 256) ∧ (2 ≤ s.cqFree p) ∧ (e.valid = true) :=
  ⟨((((sOn {}).setF (Reg.PCI_VCTL 2) Fld.PCI_VCTL_EN 1).setF (Reg.PCI_VCQSIZE 2) Fld.PCI_VCQSIZE_ENTRIES 64).wr (Reg.PCI_VSQDB 2) 1), (2), ({ op := 0, cid := 4 }), by decide +kernel⟩
theorem test_meets_HostCommandsComplete_4_hostNop : ∃ (s : State) (p : PartNo) (cid : BitVec 16) (x : VfCmd), firstCmd s p cid.toNat 0 x = true :=
  ⟨(setV {} { op := 0, cid := 4 }), (2), (4), (cmdOf { op := 0, cid := 4 }), by decide +kernel⟩
theorem test_meets_HostCommandsComplete_5_copyIn : ∃ (s : State) (p : PartNo) (cid : BitVec 16) (x : VfCmd) (r : Nat) (data : List (Granule × Bool)), (firstCmd s p cid.toNat 3 x = true) ∧ (s.dmaOn = true) ∧ (s.copyRegion p x.entry = some r) ∧ (data.length = x.entry.len / 32) :=
  ⟨(setV sCp { op := 3, cid := 4, off := 32, len := 64, handle := 7 }), (2), (4), (cmdOf { op := 3, cid := 4, off := 32, len := 64, handle := 7 }), (3), ([(5, false), (6, true)]), by decide +kernel⟩
theorem test_meets_HostCommandsComplete_6_copyOut : ∃ (s : State) (p : PartNo) (cid : BitVec 16) (x : VfCmd) (r : Nat), (firstCmd s p cid.toNat 4 x = true) ∧ (s.dmaOn = true) ∧ (s.copyRegion p x.entry = some r) :=
  ⟨(setV sCp { op := 4, cid := 4, off := 32, len := 64, handle := 7 }), (2), (4), (cmdOf { op := 4, cid := 4, off := 32, len := 64, handle := 7 }), (3), by decide +kernel⟩
theorem test_meets_HostCommandsComplete_7_copyDone : ∃ (s : State) (p : PartNo) (cid : BitVec 16) (x : VfCmd) (rest : List VfCmd) (err : Bool), ((s.vf p).cmds = x :: rest) ∧ (x.entry.cid = cid.toNat ∧ x.started = true ∧ x.left = 0 ∧ s.failed = false) ∧ (x.entry.op = 3 ∨ x.entry.op = 4) :=
  ⟨(({} : State).setVf 2 { cmds := [{ entry := { op := 3, cid := 4 }, started := true, status := 5 }] }), (2), (4), ({ entry := { op := 3, cid := 4 }, started := true, status := 5 }), ([]), (false), by decide +kernel⟩
theorem test_meets_HostCommandsComplete_8_t2add : ∃ (s : State) (p : PartNo) (cid : BitVec 16) (x : VfCmd) (i : Nat), (firstCmd s p cid.toNat 5 x = true) ∧ (((List.range 16).find? fun i => !((s.vf p).ranges.any fun r => r.index == i)) = some i) ∧ ((s.vf p).ranges.foldl (fun a r => a + r.slots) 0 + x.entry.len ≤ 16384) :=
  ⟨(setV {} { op := 5, cid := 4, addr := 0x40, len := 16384 }), (2), (4), (cmdOf { op := 5, cid := 4, addr := 0x40, len := 16384 }), (0), by decide +kernel⟩
theorem test_meets_HostCommandsComplete_9_t2del : ∃ (s : State) (p : PartNo) (cid : BitVec 16) (x : VfCmd) (r : T2Range), (firstCmd s p cid.toNat 6 x = true) ∧ ((s.vf p).ranges = [r]) ∧ (r.index = x.entry.ctx ∧ r.used = []) :=
  ⟨(({} : State).setVf 2 { cmds := [cmdOf { op := 6, cid := 4, ctx := 0 }], ranges := [{ index := 0, base := 0, slots := 5 }] }), (2), (4), (cmdOf { op := 6, cid := 4, ctx := 0 }), ({ index := 0, base := 0, slots := 5 }), by decide +kernel⟩
theorem test_meets_HostCommandsComplete_10_t2del : ∃ (s : State) (p : PartNo) (cid : BitVec 16) (x : VfCmd) (r : T2Range), (firstCmd s p cid.toNat 6 x = true) ∧ ((s.vf p).ranges = [r]) ∧ (r.index = x.entry.ctx ∧ r.used ≠ []) :=
  ⟨(({} : State).setVf 2 { cmds := [cmdOf { op := 6, cid := 4, ctx := 0 }], ranges := [{ index := 0, base := 0, slots := 5, used := [1] }] }), (2), (4), (cmdOf { op := 6, cid := 4, ctx := 0 }), ({ index := 0, base := 0, slots := 5, used := [1] }), by decide +kernel⟩
theorem test_meets_HostCommandsComplete_11_irqTimer : ∃ (s : State) (p : PartNo), ((s.vf p).sinceIrq ≠ 0) ∧ (bitAt (s.vf p).mask 0 = false) :=
  ⟨(({} : State).setVf 2 { sinceIrq := 2, mask := 2 }), (2), by decide +kernel⟩
theorem test_meets_HostCommandsComplete_15_pcieConfigRequest : ∃ (s : State) (r : CfgReq), s.phase ≠ 9 ∧ s.failed = false :=
  ⟨({}), (.other), by decide +kernel⟩
theorem test_meets_HostCommandsComplete_16_pcieConfigRequest : ∃ (s : State) (on : Bool), s.phase = 9 ∨ s.failed = true :=
  ⟨(sOn {}), (true), by decide +kernel⟩
theorem test_meets_PortTrainingCommandsComplete_0_portEnable : ∃ (s : State) (i : PortNo), (s.fld (Reg.LNK_CTL i) Fld.LNK_CTL_EN = 0) ∧ ((s.port i).outstanding = []) :=
  ⟨({}), (4), by decide +kernel⟩
theorem test_meets_PortTrainingCommandsComplete_1_portDisable : ∃ (s : State) (i : PortNo), (s.port i).outstanding = [] :=
  ⟨(prt 4 6 { epoch := 3, nextSeq := 5, tx := [tx0] }), (4), by decide +kernel⟩
theorem test_meets_PortTrainingCommandsComplete_2_partnerDetected : ∃ (s : State) (i : PortNo), s.portState i = 1 :=
  ⟨(prt 4 1 {}), (4), by decide +kernel⟩
theorem test_meets_PortTrainingCommandsComplete_3_equaliseDone : ∃ (s : State) (i : PortNo) (pass : BitVec 8) (m : Nat), (s.portState i = 2) ∧ (lanesFor pass.toNat (s.fld (Reg.LNK_CTL i) Fld.LNK_CTL_X4OK == 1) = some m) :=
  ⟨((prt 4 2 {}).setF (Reg.LNK_CTL 4) Fld.LNK_CTL_X4OK 1), (4), (0xF7), (0xF0), by decide +kernel⟩
theorem test_meets_PortTrainingCommandsComplete_4_equaliseDone : ∃ (s : State) (i : PortNo) (pass : BitVec 8), (s.portState i = 2) ∧ (lanesFor pass.toNat (s.fld (Reg.LNK_CTL i) Fld.LNK_CTL_X4OK == 1) = none) :=
  ⟨(prt 4 2 {}), (4), (0x77), by decide +kernel⟩
theorem test_meets_PortTrainingCommandsComplete_5_lockDone : ∃ (s : State) (i : PortNo), s.portState i = 3 :=
  ⟨(prt 4 3 {}), (4), by decide +kernel⟩
theorem test_meets_PortTrainingCommandsComplete_6_recordsAgreed : ∃ (s : State) (i : PortNo) (r : BitVec 256) (v : Nat) (f : Nat), (s.portState i = 4) ∧ (recField r.toNat 0 2 = 0x5845) ∧ (s.negotiate i r.toNat = .inr (v, f)) :=
  ⟨(sNeg 4), (4), (BitVec.ofNat 256 trec), (2), (0), by decide +kernel⟩
theorem test_meets_PortTrainingCommandsComplete_7_recordsAgreed : ∃ (s : State) (i : PortNo) (r : BitVec 256) (reason : Nat), (s.portState i = 4) ∧ (recField r.toNat 0 2 = 0x5845) ∧ (s.negotiate i r.toNat = .inl reason) :=
  ⟨((sNeg 4).wr (Reg.LNK_FLUEID 4) 8), (4), (BitVec.ofNat 256 trec), (4), by decide +kernel⟩
theorem test_meets_PortTrainingCommandsComplete_8_creditsReceived : ∃ (s : State) (i : PortNo), s.portState i = 5 :=
  ⟨(sNeg 5), (4), by decide +kernel⟩
theorem test_meets_PortTrainingCommandsComplete_9_trainTimeout : ∃ (s : State) (i : PortNo), 1 ≤ s.portState i ∧ s.portState i ≤ 5 :=
  ⟨(prt 4 1 {}), (4), by decide +kernel⟩
theorem test_meets_PortTrainingCommandsComplete_10_failedRetry : ∃ (s : State) (i : PortNo), (s.portState i = 9) ∧ (s.fld (Reg.LNK_CTL i) Fld.LNK_CTL_EN = 1) ∧ ((s.port i).outstanding = []) :=
  ⟨(prt 4 9 {}), (4), by decide +kernel⟩
theorem test_meets_PortTrainingCommandsComplete_11_retrainStart : ∃ (s : State) (i : PortNo) (lost : Bool), (s.portState i = 6) ∧ (lost = true ∨ 8 ≤ (s.port i).repRun) :=
  ⟨(prt 4 6 { repRun := 8 }), (4), (false), by decide +kernel⟩
theorem test_meets_PortTrainingCommandsComplete_12_retrainTimeout : ∃ (s : State) (i : PortNo), (s.portState i = 7) ∧ ((s.port i).outstanding = []) ∧ (s.srv.streams = []) :=
  ⟨(prt 4 7 { tx := [tx0, { tx0 with row := some row0 }] }), (4), by decide +kernel⟩
theorem test_meets_PortTrainingCommandsComplete_13_retrainDone : ∃ (s : State) (i : PortNo) (r : BitVec 256), (s.portState i = 7) ∧ (s.samePartner i r.toNat = true) ∧ ((s.negotiate i r.toNat).isRight = true) :=
  ⟨(sNeg 7), (4), (BitVec.ofNat 256 trec), by decide +kernel⟩
theorem test_meets_FlitCommandsComplete_0_flitTransmit : ∃ (s : State) (i : PortNo) (x : TxItem), (s.portState i = 6) ∧ (s.thm.step = 0) ∧ ((s.port i).tx = [x]) ∧ (x.type = .pread ∧ x.row = none) ∧ ((s.port i).sendNak = false ∧ (s.port i).resend = none) ∧ (nth 0 (s.port i).credits 1 ≠ 0 ∧ (s.port i).replay.length < 1024) :=
  ⟨(prt 4 6 { tx := [tx0], nextSeq := 4095 }), (4), (tx0), by decide +kernel⟩
theorem test_meets_FlitCommandsComplete_1_flitTransmit : ∃ (s : State) (i : PortNo), (s.portState i = 6) ∧ (s.thm.step = 0) ∧ ((s.port i).tx = []) ∧ ((s.port i).sendNak = false ∧ (s.port i).resend = none) :=
  ⟨(prt 4 6 { nextSeq := 4095, giveBack := [300, 1, 2, 3] }), (4), by decide +kernel⟩
theorem test_meets_FlitCommandsComplete_2_replayTimeout : ∃ (s : State) (i : PortNo), (s.portState i = 6) ∧ ((s.port i).replay ≠ []) :=
  ⟨(sNeg 6), (4), by decide +kernel⟩
theorem test_meets_FlitCommandsComplete_3_idleFlit : ∃ (s : State) (i : PortNo) (l : FlitLink), (s.portState i = 6) ∧ (l.check = true ∧ l.fecUe = 0 ∧ l.ksw = false) ∧ (l.ack.toNat = (s.port i).oldest) :=
  ⟨(sRx), (4), (fl0 3 20), by decide +kernel⟩
theorem test_meets_FlitCommandsComplete_4_nakFlit : ∃ (s : State) (u : State) (i : PortNo) (l : FlitLink), s.receive i l false = (true, u) :=
  ⟨(sRx), ((sRx.receive 4 (fl0 3 20) false).2), (4), (fl0 3 20), by decide +kernel⟩
theorem test_meets_FlitCommandsComplete_5_rowFlit : ∃ (s : State) (i : PortNo) (l : FlitLink) (sc : BitVec 64) (p : PartNo) (reduce : Bool) (poison : Bool) (wt : BitVec 10) (drow : BitVec 16) (step : BitVec 16) (data : Row), (s.portState i = 6) ∧ (l.check = true ∧ l.fecUe = 0) ∧ (l.seq.toNat ≠ (s.port i).expSeq) ∧ ((s.port i).nakFor = none) :=
  ⟨(sRx), (4), (fl0 3 20), (7), (2), (false), (false), (1), (120), (5), (rowN 9), by decide +kernel⟩
theorem test_meets_FlitCommandsComplete_6_rowFlit : ∃ (s : State) (u : State) (i : PortNo) (l : FlitLink) (sc : BitVec 64) (p : PartNo) (wt : BitVec 10) (drow : BitVec 16) (step : BitVec 16) (data : Row) (e : Nat) (node : Nat), ((s.setSc sc.toNat).receive i l true = (true, u)) ∧ (s.binding i p = some e) ∧ (s.run p ≠ 0 ∧ step.toNat = s.stepNo p) ∧ (s.jobParts p = 0) ∧ (s.landingNode i p drow.toNat = some node) ∧ ((s.bindSum i e p).sum + wt.toNat ≤ s.fld (Reg.LNK_PBC i e) Fld.LNK_PBC_EXPW) :=
  ⟨(sRx), (((sRx.setSc 7).receive 4 (fl0 11 20) true).2), (4), (fl0 11 20), (7), (2), (40), (149), (5), (rowN 9), (9), (0), by decide +kernel⟩
theorem test_meets_FlitCommandsComplete_7_pwriteFlit : ∃ (s : State) (u : State) (i : PortNo) (l : FlitLink) (schip : BitVec 12) (off : BitVec 44) (ngran : Fin 18) (tag : BitVec 16) (data : List Granule), (s.receive i l true = (true, u)) ∧ (1 ≤ ngran.val) :=
  ⟨(sRx), ((sRx.receive 4 (fl0 11 20) true).2), (4), (fl0 11 20), (5), (64), (2), (9), ([7, 8]), by decide +kernel⟩
theorem test_meets_FlitCommandsComplete_8_preadFlit : ∃ (s : State) (u : State) (i : PortNo) (l : FlitLink) (schip : BitVec 12) (off : BitVec 44) (ngran : Fin 18) (tag : BitVec 16), (s.receive i l true = (true, u)) ∧ (1 ≤ ngran.val) :=
  ⟨(sRx), ((sRx.receive 4 (fl0 11 20) true).2), (4), (fl0 11 20), (5), (64), (17), (9), by decide +kernel⟩
theorem test_meets_FlitCommandsComplete_9_prdataFlit : ∃ (s : State) (u : State) (i : PortNo) (l : FlitLink) (tag : BitVec 16) (data : List Granule) (r : PeerReq), (s.receive i l true = (true, u)) ∧ (((u.port i).outstanding.find? fun r => r.tag == tag.toNat && r.write == false) = some r) :=
  ⟨(sRx.setPort 4 { expSeq := 11, oldest := 20, outstanding := [⟨9, 1, 2, false⟩] }), (((sRx.setPort 4 { expSeq := 11, oldest := 20, outstanding := [⟨9, 1, 2, false⟩] }).receive 4 (fl0 11 20) true).2), (4), (fl0 11 20), (9), ([]), (⟨9, 1, 2, false⟩), by decide +kernel⟩
theorem test_meets_FlitCommandsComplete_10_packFlit : ∃ (s : State) (u : State) (i : PortNo) (l : FlitLink) (tag : BitVec 16) (r : PeerReq), (s.receive i l true = (true, u)) ∧ (((u.port i).outstanding.find? fun r => r.tag == tag.toNat && r.write == true) = some r) :=
  ⟨(sRx.setPort 4 { expSeq := 11, oldest := 20, outstanding := [⟨9, 1, 2, true⟩] }), (((sRx.setPort 4 { expSeq := 11, oldest := 20, outstanding := [⟨9, 1, 2, true⟩] }).receive 4 (fl0 11 20) true).2), (4), (fl0 11 20), (9), (⟨9, 1, 2, true⟩), by decide +kernel⟩
theorem test_meets_FlitCommandsComplete_11_xctlFlit : ∃ (s : State) (u : State) (i : PortNo) (l : FlitLink) (m : XMsg), (s.receive i l true = (true, u)) ∧ (1 ≤ m.xtype ∧ m.xtype ≤ 4) ∧ ((s.lnk.seen.any fun x => x.same m) = false) ∧ (((List.range 64).any fun p => s.jobOf p == some m.job) = true) :=
  ⟨(sRx), ((sRx.receive 4 (fl0 11 20) true).2), (4), (fl0 11 20), (xm 4), by decide +kernel⟩
theorem test_meets_CrossPartCommandsComplete_0_incomplete : ∃ (s : State) (u : State) (i : PortNo) (p : PartNo) (taken : Nat) (m : Msg), (s.takeMsg .incomplete (16 + i) 63 p = some (m, u)) ∧ ((s.mesh.storeU.drop taken).length < 1024) ∧ ((s.part p).opened = true ∧ m.arg = s.stepNo p) ∧ (s.jobParts p = 0) :=
  ⟨(({ mesh := { msgs := [⟨.incomplete, 20, 63, 2, 0⟩] } } : State).setPart 2 { opened := true }), (({} : State).setPart 2 { opened := true }), (4), (2), (0), (⟨.incomplete, 20, 63, 2, 0⟩), by decide +kernel⟩
theorem test_meets_CrossPartCommandsComplete_1_stepDeadline : ∃ (s : State) (i : PortNo) (e : Fin 64) (sc : BitVec 64) (p : Nat) (d : Nat), (p = s.fld (Reg.LNK_PBA i e) Fld.LNK_PBA_PART) ∧ (s.fld (Reg.LNK_PBA i e) Fld.LNK_PBA_VALID = 1) ∧ (s.deadline i e p = some d ∧ d ≤ sc.toNat) ∧ ((s.part p).opened = true) ∧ ((s.bindSum i e p).sum < s.fld (Reg.LNK_PBC i e) Fld.LNK_PBC_EXPW) ∧ ((s.bindSum i e p).declared = false) :=
  ⟨((sRx.setF (Reg.SRV_PCFG 2) Fld.SRV_PCFG_JOBPARTS 1).setPart 2 { opened := true }), (4), (9), (0), (2), (0), by decide +kernel⟩
theorem test_meets_CrossPartCommandsComplete_2_rackSync : ∃ (s : State) (sc : BitVec 64), s.fld Reg.LNK_SCCTL Fld.LNK_SCCTL_ARM = 1 :=
  ⟨((({} : State).setF Reg.LNK_SCCTL Fld.LNK_SCCTL_ARM 1).wr Reg.LNK_SCLOAD 0xFFFFFFFF), (5), by decide +kernel⟩
theorem test_meets_CrossPartCommandsComplete_3_rackSync : ∃ (s : State) (sc : BitVec 64) (v : Nat), (s.fld Reg.LNK_SCCTL Fld.LNK_SCCTL_ARM = 0) ∧ (s.lnk.scLoaded = true) ∧ (alignSc sc.toNat (s.fld Reg.LNK_SCCTL Fld.LNK_SCCTL_TOL) = some v) :=
  ⟨(({ lnk := { scLoaded := true } } : State).setF Reg.LNK_SCCTL Fld.LNK_SCCTL_TOL 4), (0xFFFFFFFFFFFFFFFE), (2 ^ 64), by decide +kernel⟩
theorem test_meets_CrossPartCommandsComplete_4_scArm : ∃ (s : State), s.multiRuns = false :=
  ⟨({}), by decide +kernel⟩
theorem test_meets_CrossPartCommandsComplete_5_xdone : ∃ (s : State) (u : State) (p : PartNo) (m : XMsg), ((s.takeInbox p fun m => m.xtype == 1 && (!s.leads p || decide ((s.stepNo p + 65536 - m.step) % 65536 < 32768))) = some (m, u)) ∧ (s.leads p = true ∧ m.step = s.stepNo p) ∧ ((s.xpart p).dones.contains m.origin = false) :=
  ⟨(sX (xm 1) true {}), (uIn (sX (xm 1) true {})), (2), (xm 1), by decide +kernel⟩
theorem test_meets_CrossPartCommandsComplete_6_xcommit : ∃ (s : State) (u : State) (p : PartNo) (m : XMsg) (rows : List CommitRow), ((s.takeInbox p fun m => m.xtype == 2) = some (m, u)) ∧ (s.leads p = false ∧ s.run p = 2 ∧ m.step = s.stepNo p) ∧ ((s.part p).opened = true ∧ (s.part p).stopping = 0) ∧ (s.srv.streams = []) :=
  ⟨(sX (xm 2) false { opened := true }), (uIn (sX (xm 2) false { opened := true })), (2), (xm 2), ([⟨9, 1, some 7⟩]), by decide +kernel⟩
theorem test_meets_CrossPartCommandsComplete_7_xgo : ∃ (s : State) (u : State) (p : PartNo) (m : XMsg) (sc : BitVec 64), ((s.takeInbox p fun m => m.xtype == 3 && (s.leads p || s.run p == 2)) = some (m, u)) ∧ (s.leads p = false ∧ (s.part p).opened = false) :=
  ⟨(sX (xm 3) false {}), (uIn (sX (xm 3) false {})), (2), (xm 3), (77), by decide +kernel⟩
theorem test_meets_CrossPartCommandsComplete_8_xinc : ∃ (s : State) (u : State) (p : PartNo) (m : XMsg), ((s.takeInbox p fun m => m.xtype == 4) = some (m, u)) ∧ ((s.part p).opened = true ∧ m.step = s.stepNo p) :=
  ⟨(sX (xm 4) false { opened := true }), (uIn (sX (xm 4) false { opened := true })), (2), (xm 4), by decide +kernel⟩
theorem test_meets_CrossPartCommandsComplete_9_leadCommitReady : ∃ (s : State) (p : PartNo) (sc : BitVec 64) (now : BitVec 64), (s.leads p = true ∧ s.jobParts p ≠ 0 ∧ s.run p = 2) ∧ ((s.part p).opened = false ∧ (s.part p).planned = true) ∧ ((s.xpart p).nextTick = none) :=
  ⟨(sX (xm 1) true { planned := true }), (2), (1000), (2000), by decide +kernel⟩
theorem test_meets_CrossPartCommandsComplete_10_startTick : ∃ (s : State) (p : PartNo) (sc : BitVec 64) (v : Nat), ((s.xpart p).nextTick = some v ∧ v ≤ sc.toNat) ∧ ((s.part p).opened = false) ∧ ((s.root p).granted = false) :=
  ⟨(({} : State).setXpart 2 { nextTick := some 1000, dones := [4], inc := true }), (2), (1000), (1000), by decide +kernel⟩
theorem test_meets_CrossPartCommandsComplete_11_xmsgRepeat : ∃ (s : State) (p : PartNo) (m : XMsg) (i : PortNo), ((s.xpart p).repeats = [m]) ∧ ((m.step + 65536 - s.stepNo p) % 65536 < 32768) ∧ (s.carriesJob i m.job = true) ∧ (((s.port i).tx.filter fun x => x.type == .xctl).length < 64) :=
  ⟨((bindS (prt 4 6 {})).setXpart 2 { repeats := [xm 3] }), (2), (xm 3), (4), by decide +kernel⟩
theorem test_meets_LoadCommandsComplete_0_load : ∃ (s : State) (u : State) (p : PartNo) (slot : Fin 2) (r : FlashRead) (img : WImage) (named : List (Nat × WTile)), (s.run p = 0 ∧ s.loading p = false ∧ s.fld Reg.IND_RSSTAT Fld.IND_RSSTAT_STOP ≠ 1) ∧ (u = (s.setF (Reg.FLS_PLOAD p) Fld.FLS_PLOAD_SLOT slot).flashRead r) ∧ (u.loadCheck p slot = .inr (img, named)) :=
  ⟨(sFl), ((sFl.setF (Reg.FLS_PLOAD 2) Fld.FLS_PLOAD_SLOT 1).flashRead ⟨1, 0, 2⟩), (2), (1), (⟨1, 0, 2⟩), (sFl.wts.slot1.getD wi0), ([(wkey, wt0)]), by decide +kernel⟩
theorem test_meets_LoadCommandsComplete_1_loadResume : ∃ (s : State) (u : State) (p : PartNo) (slot : Fin 2) (r : FlashRead) (img : WImage) (named : List (Nat × WTile)), (s.run p = 0 ∧ s.loading p = false ∧ s.fld Reg.IND_RSSTAT Fld.IND_RSSTAT_STOP ≠ 1) ∧ (s.mayResume p = true) ∧ (u = (s.setF (Reg.FLS_PLOAD p) Fld.FLS_PLOAD_SLOT (s.jpart p).slot).flashRead r) ∧ (u.loadCheck p (s.jpart p).slot = .inr (img, named)) :=
  ⟨sResume, (sResume.setF (Reg.FLS_PLOAD 2) Fld.FLS_PLOAD_SLOT 1).flashRead ⟨0, 0, 0⟩, 2, 0, ⟨0, 0, 0⟩, sFl.wts.slot1.getD wi0, [(wkey, wt0)], by decide +kernel, resume_matches, rfl, by decide +kernel⟩
theorem test_meets_LoadCommandsComplete_2_loadAbort : ∃ (s : State) (p : PartNo) (r : LoadRun) (key : Nat), (s.wts.loads = [r]) ∧ (r.part = p.val ∧ r.reason = 0) ∧ (∀ x ∈ r.keys, x < 16384) ∧ (key ∈ r.keys) :=
  ⟨((sBurst run0 { next := 5 }).setTileState 3 69 1), (2), (run0), (wkey), by decide +kernel⟩
theorem test_meets_LoadCommandsComplete_3_programBurst : ∃ (s : State) (k : CoreNo) (x : TileNo) (r : FlashRead) (run : LoadRun) (w : WTile) (c : WTile) (n : Nat) (col : Nat), (s.programOf (tileKey k x) = some (run, w)) ∧ (s.engineTile (tileKey k x) = some (tileKey k x)) ∧ (s.burst (tileKey k x) = { next := n }) ∧ (0 < n ∧ n < 1024 ∧ col < 1024) ∧ (s.writeWindow = true ∧ 60 ≤ s.roOf k ∧ s.roOf k < 300) ∧ (s.chunkOf run w = some c ∧ c.pathOk = true) :=
  ⟨(sBurst run0 { next := 5 }), (3), (69), (⟨0, 0, 0⟩), (run0), (wt0), (wt0), (5), (1023), by decide +kernel⟩
theorem test_meets_LoadCommandsComplete_4_tileProgramDone : ∃ (s : State) (k : CoreNo) (x : TileNo) (run : LoadRun) (w : WTile), (s.programOf (tileKey k x) = some (run, w)) ∧ ((s.burst (tileKey k x)).next = 1024) ∧ (s.writeWindow = true) ∧ (run.part < 64) :=
  ⟨(sBurst run0 { next := 1024, unrep := [7] }), (3), (69), (run0), (wt0), by decide +kernel⟩
theorem test_meets_LoadCommandsComplete_5_tileClearDone : ∃ (s : State) (k : CoreNo) (x : TileNo) (r : Nat) (pc : Nat), ((s.wts.loads.any fun r => r.clear.contains (tileKey k x)) = true) ∧ (s.engineTile (tileKey k x) = some (tileKey k x)) ∧ (s.writeWindow = true ∧ 60 ≤ s.roOf k ∧ s.roOf k < 300) ∧ (r < 1024 ∧ pc < 1104 ∧ isRefPcol pc = false) :=
  ⟨({ sBurst { run0 with program := [], clear := [wkey] } {} with core := { cells := [(cellKey 3 69 5 4, 77)] } }), (3), (69), (4), (5), by decide +kernel⟩
theorem test_meets_LoadCommandsComplete_6_tileRestore : ∃ (s : State) (k : CoreNo) (x : TileNo) (r : FlashRead) (run : LoadRun) (w : WTile) (c : WTile) (e : TileRec), ((s.wts.loads.findSome? fun run => (run.restore.find? fun e => e.1 == tileKey k x).map fun e => (run, e.2)) = some (run, w)) ∧ (s.engineTile (tileKey k x) = some (tileKey k x)) ∧ (s.chunkOf run w = some c) ∧ (s.goodRec (tileKey k x) run.image.imageId = some e) ∧ (s.tileFence k x = 0) ∧ (run.part < 64) :=
  ⟨({ sBurst { run0 with program := [], restore := [(wkey, wt0)] } {} with wts := { (sBurst { run0 with program := [], restore := [(wkey, wt0)] } {}).wts with recs := [(wkey, some rec0)] } }), (3), (69), (⟨0, 0, 0⟩), ({ run0 with program := [], restore := [(wkey, wt0)] }), (wt0), (wt0), (rec0), by decide +kernel⟩
theorem test_meets_LoadCommandsComplete_7_spillWrite : ∃ (s : State) (p : PartNo) (r : FlashRead) (run : LoadRun) (w : WSpill) (c : WSpill) (rest : List WSpill) (rgn : Nat) (i : Nat), (s.wts.loads = [run]) ∧ (run.part = p.val ∧ run.keys = []) ∧ (run.spills = w :: rest) ∧ (s.handleRegion p w.lregion = some rgn ∧ s.rgnInit rgn = false) ∧ (s.spillOf run w = some c) ∧ (i < c.content.length) :=
  ⟨({ sCp with wts := { loads := [{ run0 with program := [], spills := [ws0] }] } }), (2), (⟨1, 0, 0⟩), ({ run0 with program := [], spills := [ws0] }), (ws0), (ws0), ([]), (3), (1), by decide +kernel⟩
theorem test_meets_LoadCommandsComplete_8_loadComplete : ∃ (s : State) (p : PartNo) (run : LoadRun), (s.wts.loads = [run]) ∧ (run.part = p.val ∧ run.keys = [] ∧ run.spills = [] ∧ run.reason = 0) :=
  ⟨(sBurst { run0 with program := [] } {}), (2), ({ run0 with program := [] }), by decide +kernel⟩
theorem test_meets_ImageAndPartitionCommandsComplete_0_firingImageLoad : ∃ (s : State) (p : PartNo) (img : SignedFile) (f : SignedFile) (i : Nat), (s.pairCheck p img f = none) ∧ (img.nlcore = 1) ∧ ((img.given 3 0).any (fun i => badBuffer (img.entry 3 0 i)) = false) ∧ (s.ctxRun (s.lctx p 0).1 (s.lctx p 0).2 = 0) ∧ (i < (img.res 0).rows) :=
  ⟨sImg, 2, img0, rts0, 0, pair_passes, by decide +kernel⟩
theorem test_meets_ImageAndPartitionCommandsComplete_1_routeSetLoad : ∃ (s : State) (p : PartNo) (img : SignedFile) (f : SignedFile) (r : CoreNo) (b : Nat), (s.pairCheck p img f = none) ∧ (s.routeBase p ((f.given 0x10 0).filterMap fun i => s.flowOf p img (f.entry 0x10 0 i)).length = some b) :=
  ⟨sImg, 2, img0, rts0, 15, 0, pair_passes, by decide +kernel⟩
theorem test_meets_ImageAndPartitionCommandsComplete_2_partitionStop : ∃ (s : State) (p : PartNo), (s.run p = 1 ∨ s.run p = 2) ∧ ((s.part p).stopping = 0 ∧ (s.part p).opened = true) :=
  ⟨(mem23 ((sStep { opened := true }).setF (Reg.CNET_PSTAT 2) Fld.CNET_PSTAT_RUN 1)), (2), by decide +kernel⟩
theorem test_meets_ImageAndPartitionCommandsComplete_3_partitionStart : ∃ (s : State) (p : PartNo), (s.startReason p = 0) ∧ (s.jobParts p ≠ 0) :=
  ⟨(((mem23 ((({} : State).setF Reg.IND_RSSTAT Fld.IND_RSSTAT_STOP 0).setF (Reg.SRV_PCFG 2) Fld.SRV_PCFG_JOBPARTS 1)).setF Reg.GCTL_CTL Fld.GCTL_CTL_HOLD 0).setF (Reg.FLS_PLOAD 2) Fld.FLS_PLOAD_STATE 2), (2), by decide +kernel⟩
theorem test_meets_ImageAndPartitionCommandsComplete_4_stopTimeout : ∃ (s : State) (p : PartNo), ((s.part p).stopping = 1 ∧ (s.part p).opened = true ∧ (s.part p).plan = []) ∧ (s.run p = 1 ∨ s.run p = 2) ∧ (s.ctxsOf p ≠ []) :=
  ⟨(((sCtx false).setF (Reg.CNET_PSTAT 2) Fld.CNET_PSTAT_RUN 2).setPart 2 { stopping := 1, opened := true }), (2), by decide +kernel⟩
theorem test_meets_SecurityCommandsComplete_0_psikusterSelftestPass : ∃ (s : State), s.secState = 1 :=
  ⟨(({ sec := { fwk := true, minSvn := 7 } } : State).setF Reg.SEC_STAT Fld.SEC_STAT_STATE 1), by decide +kernel⟩
theorem test_meets_SecurityCommandsComplete_1_psikusterSelftestPass : ∃ (s : State) (n : Nat), (s.secState = 1) ∧ (n ≠ 0) ∧ (s.wts.loads = []) ∧ (noStreams s = true) :=
  ⟨(({} : State).setF Reg.SEC_STAT Fld.SEC_STAT_STATE 1), (3), by decide +kernel⟩
theorem test_meets_SecurityCommandsComplete_2_selftest : ∃ (s : State), (s.sec.zeroising = false) ∧ (s.secState ∈ [0, 1, 2, 3, 5]) :=
  ⟨(sSec 2), by decide +kernel⟩
theorem test_meets_SecurityCommandsComplete_3_selftest : ∃ (s : State), (s.sec.zeroising = false) ∧ (s.secState ∈ [0, 1, 2, 3, 5]) ∧ (s.wts.loads = []) ∧ (noStreams s = true) :=
  ⟨(sSec 2), by decide +kernel⟩
theorem test_meets_SecurityCommandsComplete_4_loadmk : ∃ (s : State), (s.sec.zeroising = false) ∧ (s.secState = 2) ∧ ((s.sec.tenants.any fun x => x.id == s.mbx 0 % 2 ^ 16) = true) ∧ ((s.sec.models.filter fun m => m.1 != s.mbx 1).length < 4096) :=
  ⟨(((sSec 2).wr (Reg.SEC_MBX 0) 5).wr (Reg.SEC_MBX 1) 77), by decide +kernel⟩
theorem test_meets_SecurityCommandsComplete_5_dropmk : ∃ (s : State), (s.sec.zeroising = false) ∧ (s.secState = 2 ∨ s.secState = 3) ∧ ((s.wts.loads.any fun l => l.image.enc && l.image.modelKey == s.mbx 1) = false) :=
  ⟨((sSec 3).wr (Reg.SEC_MBX 1) 8), by decide +kernel⟩
theorem test_meets_SecurityCommandsComplete_6_setlink : ∃ (s : State), (s.sec.zeroising = false) ∧ (s.secState = 2) ∧ (s.sec.fwk = true) :=
  ⟨(((sSec 2).wr (Reg.SEC_MBX 0) 6).wr (Reg.SEC_MBX 3) 77), by decide +kernel⟩
theorem test_meets_SecurityCommandsComplete_7_droplink : ∃ (s : State), (s.sec.zeroising = false) ∧ (s.secState = 2 ∨ s.secState = 3) ∧ (s.portUpWithJob (s.mbx 0 % 2 ^ 16) = false) :=
  ⟨((sSec 2).wr (Reg.SEC_MBX 0) 6), by decide +kernel⟩
theorem test_meets_SecurityCommandsComplete_8_svnraise : ∃ (s : State), (s.sec.zeroising = false) ∧ (s.secState = 2 ∨ s.secState = 3) ∧ (s.sec.minSvn < s.rd Reg.CFG_SVN) :=
  ⟨((sSec 2).wr Reg.CFG_SVN 9), by decide +kernel⟩
theorem test_meets_SecurityCommandsComplete_9_zeroise : ∃ (s : State), (s.sec.zeroising = false) ∧ (s.secState = 2 ∨ s.secState = 3) ∧ (s.quiet = true) ∧ (s.wts.loads = []) :=
  ⟨((((hold (sSec 2)).setF (Reg.HBM_RGNA 3) Fld.HBM_RGNA_VALID 1).setF (Reg.HBM_RGNA 4) Fld.HBM_RGNA_VALID 1).setF (Reg.HBM_RGNA 4) Fld.HBM_RGNA_TYPE 4), by decide +kernel⟩
theorem test_meets_SecurityCommandsComplete_11_dbgchal : ∃ (s : State), (s.sec.zeroising = false) ∧ (s.secState = 2) ∧ (s.debugBarred = false) :=
  ⟨((sSec 2).setF Reg.SEC_DBG Fld.SEC_DBG_LOCK 0), by decide +kernel⟩
theorem test_meets_SecurityCommandsComplete_12_dbgresp : ∃ (s : State), (s.sec.zeroising = false) ∧ (s.secState = 2 ∨ s.secState = 3) ∧ (s.debugBarred = false) ∧ (s.sec.nonce ≠ none) ∧ (s.allStopped = true) ∧ (s.wts.loads = []) :=
  ⟨(sSecN), by decide +kernel⟩
theorem test_meets_SecurityCommandsComplete_13_dbgresp : ∃ (s : State) (k : Bool) (g : Bool), (s.sec.zeroising = false) ∧ (s.secState = 2 ∨ s.secState = 3) ∧ (s.debugBarred = false) ∧ (s.sec.nonce ≠ none) ∧ (¬ (k = true ∧ g = true)) :=
  ⟨(sSecN), (true), (false), by decide +kernel⟩
theorem test_meets_SecurityCommandsComplete_14_setfwk : ∃ (s : State) (n : Nat), (s.sec.zeroising = false) ∧ (s.secState ∈ [2, 3, 5]) ∧ (s.operatorSession n = true) ∧ (s.sec.fwk = false) :=
  ⟨(sSec5), (4), by decide +kernel⟩
theorem test_meets_SecurityCommandsComplete_15_revoke : ∃ (s : State) (n : Nat) (i : QuadNo) (c : CfgImage), (s.sec.zeroising = false) ∧ (s.secState = 2 ∨ s.secState = 3) ∧ (s.operatorSession n = true) ∧ (s.boot.image = some c) ∧ (c.keyId ≠ i.val) ∧ (bitAt s.sec.revoked c.keyId = false) :=
  ⟨({ sSec 2 with boot := { (sSec 2).boot with image := some cfg0 } }), (4), (3), (cfg0), by decide +kernel⟩
theorem test_meets_SecurityCommandsComplete_17_tamperCheck : ∃ (s : State), (s.secState ≠ 4) ∧ (s.secState ≠ 0) ∧ (s.wts.loads = []) ∧ (noStreams s = true) :=
  ⟨(sSec 2), by decide +kernel⟩
theorem test_meets_SecurityCommandsComplete_20_periodicSelftest : ∃ (s : State), (s.secState = 2 ∨ s.secState = 3) ∧ (s.wts.loads = []) ∧ (noStreams s = true) :=
  ⟨(sSec 2), by decide +kernel⟩
theorem test_meets_SecurityCommandsComplete_21_entropyTestFail : ∃ (s : State) (i : Fin 3), (s.secState = 2 ∨ s.secState = 3) ∧ (s.fld Reg.SEC_ERR Fld.SEC_ERR_SOFTN + 1 < 3) :=
  ⟨(sSec 2), (2), by decide +kernel⟩
theorem test_meets_SecurityCommandsComplete_22_entropyTestFail : ∃ (s : State) (i : Fin 3), (s.secState = 2 ∨ s.secState = 3) ∧ (3 ≤ s.fld Reg.SEC_ERR Fld.SEC_ERR_SOFTN + 1) ∧ (s.wts.loads = []) ∧ (noStreams s = true) :=
  ⟨((sSec 2).setF Reg.SEC_ERR Fld.SEC_ERR_SOFTN 2), (2), by decide +kernel⟩
theorem test_meets_SecurityCommandsComplete_23_entropyRestartPass : ∃ (s : State), (s.secState = 3) ∧ (s.fld Reg.SEC_ERR Fld.SEC_ERR_SOFTN < 3) :=
  ⟨(sSec 3), by decide +kernel⟩
theorem test_meets_FaultCommandsComplete_2_advisoryRepeat : ∃ (s : State) (k : CoreNo), (s.arithRaised k = true) ∧ ((s.log.advis.find? fun a => a.code == 2 && a.unit == unitCore k) = none) :=
  ⟨(({} : State).setF (Reg.CORE_LSTAT 3 2) ⟨3, 1⟩ 1), (3), by decide +kernel⟩
theorem test_meets_FaultCommandsComplete_3_parityError : ∃ (s : State) (n : Nat), (s.failed = false) ∧ (noStreams s = true) :=
  ⟨({}), (4), by decide +kernel⟩
theorem test_meets_FaultCommandsComplete_4_parityError : ∃ (s : State) (k : CoreNo), (s.failed = false) ∧ (noStreams s = true) :=
  ⟨({}), (4), by decide +kernel⟩
theorem test_meets_FaultCommandsComplete_5_parityError : ∃ (s : State) (k : CoreNo) (g : Nat), (bitAt (s.fld Reg.LOG_CFENCE Fld.LOG_CFENCE_FAULT) k = false) ∧ (s.phase ≠ 9 ∨ s.fencedCores + 1 < s.fld Reg.LOG_ESC Fld.LOG_ESC_PARTN) :=
  ⟨({}), (4), (1), by decide +kernel⟩
theorem test_meets_FaultCommandsComplete_6_parityError : ∃ (s : State) (k : CoreNo) (g : GroupNo), (SMap.get (fun _ => 0) s.log.fenceG (k * 16 + g) = 0) ∧ (popCount 16 (s.rd (Reg.LOG_GFENCE k)) + 1 < s.fld Reg.LOG_ESC Fld.LOG_ESC_COREN) ∧ (((List.range 64).all fun i => (s.tileReaders k (64 * g + i)).all fun r => decide (r.1 < 4)) = true) :=
  ⟨({}), (4), (2), by decide +kernel⟩
theorem test_meets_FaultCommandsComplete_7_fence : ∃ (s : State) (k : CoreNo) (i : TileNo), (s.tileFence k i = 0) ∧ (((List.range 64).filter fun j => s.tileFence k (i.val / 64 * 64 + j) != 0).length + 1 < s.fld Reg.LOG_ESC Fld.LOG_ESC_GRPN) ∧ (((s.tileReaders k i).all fun r => decide (r.1 < 4)) = true) :=
  ⟨(({} : State).setEng 3 70 { bufs := [job0] }), (3), (70), by decide +kernel⟩
theorem test_meets_FaultCommandsComplete_8_fence : ∃ (s : State) (k : CoreNo) (i : TileNo), (i < 16) ∧ (SMap.get (fun _ => 0) s.log.fenceG (k * 16 + i) = 0) ∧ (popCount 16 (s.rd (Reg.LOG_GFENCE k)) + 1 < s.fld Reg.LOG_ESC Fld.LOG_ESC_COREN) ∧ (((List.range 64).all fun j => (s.tileReaders k (64 * i + j)).all fun r => decide (r.1 < 4)) = true) :=
  ⟨({}), (4), (2), by decide +kernel⟩
theorem test_meets_FaultCommandsComplete_9_fence : ∃ (s : State) (k : CoreNo), (bitAt (s.fld Reg.LOG_CFENCE Fld.LOG_CFENCE_FAULT) k = false) ∧ (s.phase ≠ 9 ∨ s.fencedCores + 1 < s.fld Reg.LOG_ESC Fld.LOG_ESC_PARTN) :=
  ⟨({}), (4), by decide +kernel⟩
theorem test_meets_FaultCommandsComplete_10_fenceClear : ∃ (s : State) (k : CoreNo) (i : TileNo), (((s.ownersOfGroup k (i / 64)).all fun p => s.run p == 0) = true) ∧ (s.tileFence k i ≠ 4) :=
  ⟨({ log := { fenceT := [(3 * 1024 + 70, 2)] } }), (3), (70), by decide +kernel⟩
theorem test_meets_FaultCommandsComplete_11_fenceClear : ∃ (s : State) (k : CoreNo) (i : TileNo), (i < 16) ∧ (((s.ownersOfGroup k i).all fun p => s.run p == 0) = true) :=
  ⟨({ log := { fenceT := [(3 * 1024 + 70, 3)], fenceG := [(49, 2)] } }), (3), (1), by decide +kernel⟩
theorem test_meets_FaultCommandsComplete_12_testStart : ∃ (s : State) (c : BitVec 16), (c ≠ 0) ∧ (s.quiet = true) ∧ (s.fld Reg.LOG_TSTAT Fld.LOG_TSTAT_BUSY = 0) ∧ (testCheck s.log.test = 0) :=
  ⟨(sTest), (0x24), by decide +kernel⟩
theorem test_meets_FaultCommandsComplete_13_testStart : ∃ (s : State) (c : BitVec 16), (c ≠ 0) ∧ (s.quiet = true) ∧ (s.fld Reg.LOG_TSTAT Fld.LOG_TSTAT_BUSY = 0) ∧ (testCheck s.log.test ≠ 0) :=
  ⟨({ sTest with log := {} }), (0x24), by decide +kernel⟩
theorem test_meets_FaultCommandsComplete_14_testRoundDone : ∃ (s : State) (o : List (List Nat)), (s.fld Reg.LOG_TSTAT Fld.LOG_TSTAT_BUSY = 1) ∧ (s.fld Reg.LOG_TSTAT Fld.LOG_TSTAT_FAILED = 0) ∧ (s.log.testLeft = []) ∧ (s.log.testBoot = false) ∧ ((s.log.testRound.all fun k => decide (k < 16)) = true) ∧ (((List.range s.log.testRound.length).all fun i => (firstFailing (match s.log.test with | some c => c.sets | none => []) (nth [] o i)).isNone) = true) :=
  ⟨(((({ log := { test := some tc0, testRound := [2, 5] } } : State).setF Reg.LOG_TSTAT Fld.LOG_TSTAT_BUSY 1).setF Reg.LOG_CFENCE Fld.LOG_CFENCE_TEST 0x24)), ([[7], [7]]), by decide +kernel⟩
theorem test_meets_FaultCommandsComplete_15_logWriteDone : ∃ (s : State) (d : Sherd) (l : List Sherd), (s.mgmt.restarting = false) ∧ (s.fld Reg.LOG_STAT Fld.LOG_STAT_RSFAIL = 0) ∧ (s.writeWindow = true) ∧ (s.log.queue = d :: l) ∧ (s.log.hold = none) :=
  ⟨({ log := { queue := [sh0, sh0] }, thm := { ({} : State).thm with diodes := [some 20000] } }), (sh0), ([sh0]), by decide +kernel⟩
theorem test_meets_FaultCommandsComplete_16_logWriteDone : ∃ (s : State), s.log.failAt ≠ some (s.log.ringNext, 1) :=
  ⟨({}), by decide +kernel⟩
theorem test_meets_FaultCommandsComplete_17_logWriteDone : ∃ (s : State) (a : Nat), s.fld Reg.LOG_STAT Fld.LOG_STAT_RSFAIL = 0 :=
  ⟨({}), (300), by decide +kernel⟩
theorem test_meets_FaultCommandsComplete_18_logWindowFallback : ∃ (s : State) (i : Fin 64) (d : Sherd), (s.log.queue[i.val]? = some d) ∧ (3 ≤ d.sev) ∧ (s.fld Reg.LOG_STAT Fld.LOG_STAT_WAITWIN = 1) ∧ (s.log.erasing = false) ∧ (s.log.resvErased ≠ 0) ∧ (s.log.hold = none) :=
  ⟨(({ log := { queue := [sh0, { sh0 with sev := 3 }], resvErased := 600 } } : State).setF Reg.LOG_STAT Fld.LOG_STAT_WAITWIN 1), (1), ({ sh0 with sev := 3 }), by decide +kernel⟩
theorem test_meets_FaultCommandsComplete_19_logSectorEraseDone : ∃ (s : State), (s.log.erasing = true) ∧ (s.fld Reg.LOG_STAT Fld.LOG_STAT_RSFAIL = 0) :=
  ⟨({ log := { erasing := true, resvErased := 511 } }), by decide +kernel⟩
theorem test_meets_OperatingPointCommandsComplete_0_opRequest : ∃ (s : State) (w : Word), opReqLegal w.toNat = true :=
  ⟨({}), (0o1543), by decide +kernel⟩
theorem test_meets_OperatingPointCommandsComplete_1_opRequest : ∃ (s : State) (w : Word), opReqLegal w.toNat = false :=
  ⟨({}), (0o1643), by decide +kernel⟩
theorem test_meets_OperatingPointCommandsComplete_2_avsWriteAck : ∃ (s : State) (q : QuadNo), (s.quad q).stage = .write :=
  ⟨(sQ { stage := .write, tries := 2 }), (1), by decide +kernel⟩
theorem test_meets_OperatingPointCommandsComplete_3_avsWriteAck : ∃ (s : State) (q : QuadNo), ((s.quad q).stage = .write) ∧ ((s.quad q).tries + 1 < 3) :=
  ⟨(sQ { stage := .write, tries := 1 }), (1), by decide +kernel⟩
theorem test_meets_OperatingPointCommandsComplete_4_avsWriteAck : ∃ (s : State) (q : QuadNo), ((s.quad q).stage = .write) ∧ (3 ≤ (s.quad q).tries + 1) :=
  ⟨(sQ { stage := .write, tries := 2, target := 4, freq := 3 }), (1), by decide +kernel⟩
theorem test_meets_OperatingPointCommandsComplete_5_avsWriteAck : ∃ (s : State) (q : QuadNo), ((s.quad q).stage = .lowerWrite) ∧ ((s.quad q).freq = s.effective q ∨ (s.quad q).freq = 0) :=
  ⟨(sQ { stage := .lowerWrite, freq := 0 }), (1), by decide +kernel⟩
theorem test_meets_OperatingPointCommandsComplete_6_avsWriteAck : ∃ (s : State) (q : QuadNo), (s.quad q).stage = .lowerWrite :=
  ⟨(sQ { stage := .lowerWrite, tries := 4 }), (1), by decide +kernel⟩
theorem test_meets_OperatingPointCommandsComplete_7_voltageReadbackOk : ∃ (s : State) (q : QuadNo), (s.quad q).stage = .readback :=
  ⟨(sQ { stage := .readback }), (1), by decide +kernel⟩
theorem test_meets_OperatingPointCommandsComplete_8_voltageReadbackOk : ∃ (s : State) (q : QuadNo), (s.quad q).stage = .confirm :=
  ⟨(sQ { stage := .confirm }), (1), by decide +kernel⟩
theorem test_meets_OperatingPointCommandsComplete_9_settleElapsed : ∃ (s : State) (q : QuadNo), (s.quad q).stage = .settle :=
  ⟨(sQ { stage := .settle }), (1), by decide +kernel⟩
theorem test_meets_OperatingPointCommandsComplete_10_frequencySlewDone : ∃ (s : State) (q : QuadNo), (s.fld Reg.CLK_REFSTAT Fld.CLK_REFSTAT_LOCKED = 1) ∧ ((s.quad q).stage = .slew) ∧ ((s.quad q).target = s.effective q) :=
  ⟨(((sQ { stage := .slew, target := 3, freq := 2 }).setF Reg.CLK_REFSTAT Fld.CLK_REFSTAT_LOCKED 1).setF Reg.CLK_OPREQ ⟨3, 3⟩ 3), (1), by decide +kernel⟩
theorem test_meets_OperatingPointCommandsComplete_11_frequencySlewDone : ∃ (s : State) (q : QuadNo), (s.fld Reg.CLK_REFSTAT Fld.CLK_REFSTAT_LOCKED = 1) ∧ ((s.quad q).stage = .slewDown) :=
  ⟨((sQ { stage := .slewDown, target := 3, freq := 5, boosting := true }).setF Reg.CLK_REFSTAT Fld.CLK_REFSTAT_LOCKED 1), (1), by decide +kernel⟩
theorem test_meets_OperatingPointCommandsComplete_12_raiseTimeout : ∃ (s : State) (q : QuadNo), (s.quad q).stage = .readback ∨ (s.quad q).stage = .write :=
  ⟨(sQ { stage := .readback, target := 4, freq := 3 }), (1), by decide +kernel⟩
theorem test_meets_OperatingPointCommandsComplete_13_boostLimit : ∃ (s : State) (q : QuadNo), ((s.quad q).boosting = true) ∧ ((s.quad q).stage = .idle) ∧ ((s.quad q).freq = 5) :=
  ⟨(sQ { freq := 5, target := 5, boosting := true }), (1), by decide +kernel⟩
theorem test_meets_OperatingPointCommandsComplete_14_boostRestEnd : ∃ (s : State) (q : QuadNo), (s.quad q).resting = true :=
  ⟨(sQ { freq := 4, resting := true, boostCeil := 4 }), (1), by decide +kernel⟩
theorem test_meets_ClockSourceCommandsComplete_0_rackRefLost : ∃ (s : State), (s.clk.switch = none) ∧ (s.fld Reg.CLK_STAT Fld.CLK_STAT_SRC = 0) :=
  ⟨(({} : State).setF Reg.CLK_STAT Fld.CLK_STAT_SRC 0), by decide +kernel⟩
theorem test_meets_ClockSourceCommandsComplete_1_refQualWindow : ∃ (s : State) (n : Nat), (s.clk.switch = none) ∧ (15624 ≤ n ∧ n ≤ 15626) ∧ (s.fld Reg.CLK_REFCTL Fld.CLK_REFCTL_AUTORET = 0) :=
  ⟨(({ clk := { windows := 999 } } : State).setF Reg.CLK_REFCTL Fld.CLK_REFCTL_AUTORET 0), (15625), by decide +kernel⟩
theorem test_meets_ClockSourceCommandsComplete_2_refQualWindow : ∃ (s : State) (n : Nat), (s.clk.switch = none) ∧ ((15618 ≤ n ∧ n < 15624) ∨ (15626 < n ∧ n ≤ 15632)) :=
  ⟨({ clk := { windows := 999 } }), (15632), by decide +kernel⟩
theorem test_meets_ClockSourceCommandsComplete_3_refSwitchOrder : ∃ (s : State), (s.clk.switch = none) ∧ (s.fld Reg.CLK_REFCTL Fld.CLK_REFCTL_TARGET = 1 ∨ s.fld Reg.CLK_REFSTAT Fld.CLK_REFSTAT_QUALOK = 1) :=
  ⟨(({} : State).setF Reg.CLK_REFCTL Fld.CLK_REFCTL_TARGET 1), by decide +kernel⟩
theorem test_meets_ClockSourceCommandsComplete_4_srefSwitchDone : ∃ (s : State) (e : Nat) (x : Nat) (n : Nat) (l : Bool), (s.clk.switch = some (x, l)) ∧ (n = 96 + (if l then e else 0)) :=
  ⟨({ clk := { switch := some (1, true), windows := 44 } }), (5), (1), (101), (true), by decide +kernel⟩
theorem test_meets_ClockSourceCommandsComplete_6_crystalLost : ∃ (s : State), s.fld Reg.CLK_STAT Fld.CLK_STAT_SRC = 0 :=
  ⟨(({ clk := { xpll := true } } : State).setF Reg.CLK_STAT Fld.CLK_STAT_SRC 0), by decide +kernel⟩
theorem test_meets_ClockSourceCommandsComplete_7_crystalLost : ∃ (s : State), s.fld Reg.CLK_STAT Fld.CLK_STAT_SRC = 1 :=
  ⟨(({ clk := { xpll := true } } : State).setF Reg.CLK_STAT Fld.CLK_STAT_SRC 1), by decide +kernel⟩
theorem test_meets_ClockSourceCommandsComplete_8_xpllLossTimeout : ∃ (s : State), (s.clk.xpll = false) ∧ (s.fld Reg.CLK_STAT Fld.CLK_STAT_SRC = 1) ∧ (s.failed = false) ∧ (noStreams s = true) :=
  ⟨(({} : State).setF Reg.CLK_STAT Fld.CLK_STAT_SRC 1), by decide +kernel⟩
theorem test_meets_ClockSourceCommandsComplete_9_clockGate : ∃ (s : State) (i : Fin 62), s.neverGated i = false :=
  ⟨({}), (20), by decide +kernel⟩
theorem test_meets_ClockSourceCommandsComplete_11_islandSwitch : ∃ (s : State) (w : Word), (s.quiet = true) ∧ (bits w.toNat 0 7 ≤ 60) ∧ (s.fld Reg.CLK_ISW Fld.CLK_ISW_BUSY = 0) ∧ (bitAt w.toNat 31 = true) :=
  ⟨(hold {}), (0x80000084), by decide +kernel⟩
theorem test_meets_ClockSourceCommandsComplete_12_islandSwitchDone : ∃ (s : State), s.fld Reg.CLK_ISW Fld.CLK_ISW_BUSY = 1 :=
  ⟨(({ clk := { gated := 16 } } : State).wr Reg.CLK_ISW 0xC0000084), by decide +kernel⟩
theorem test_meets_ClockSourceCommandsComplete_13_freqMeasureStart : ∃ (s : State) (u : QuadNo) (w : Word), (s.fld (Reg.CLK_FMCTL u) Fld.CLK_FMCTL_BUSY = 0) ∧ (4 ≤ bits w.toNat 24 5 ∧ bits w.toNat 24 5 ≤ 24) ∧ (bits w.toNat 16 7 ≤ 65 ∧ bits w.toNat 0 7 ≤ 65) ∧ (bitAt w.toNat 31 = true) :=
  ⟨({}), (2), (0x84200041), by decide +kernel⟩
theorem test_meets_ClockSourceCommandsComplete_14_freqMeasureDone : ∃ (s : State) (u : QuadNo) (n : Nat), s.fld (Reg.CLK_FMCTL u) Fld.CLK_FMCTL_BUSY = 1 :=
  ⟨(({} : State).setF (Reg.CLK_FMCTL 2) Fld.CLK_FMCTL_BUSY 1), (2), (0x100000005), by decide +kernel⟩
theorem test_meets_IdleAndStateCommandsComplete_0_idleEntry : ∃ (s : State) (k : CoreNo), (s.coreQuiet k = true) ∧ (bitAt s.pwr.idle k = false) ∧ (((quadCores (quadOf k)).all fun j => bitAt (putBit s.pwr.idle k true) j) = false) :=
  ⟨({}), (4), by decide +kernel⟩
theorem test_meets_IdleAndStateCommandsComplete_1_idleEntry : ∃ (s : State) (k : CoreNo), (s.coreQuiet k = true) ∧ (bitAt s.pwr.idle k = false) ∧ (((quadCores (quadOf k)).all fun j => bitAt (putBit s.pwr.idle k true) j) = true) :=
  ⟨({ pwr := { idle := 0xFFEF } }), (4), by decide +kernel⟩
theorem test_meets_IdleAndStateCommandsComplete_2_idleBias : ∃ (s : State) (k : CoreNo), bitAt s.pwr.idle k = true :=
  ⟨({ pwr := { idle := 0xFFEF } }), (5), by decide +kernel⟩
theorem test_meets_IdleAndStateCommandsComplete_3_idleExit : ∃ (s : State) (k : CoreNo), (bitAt s.pwr.idle k = true) ∧ (s.quadIdle (quadOf k) = false) :=
  ⟨({ pwr := { idle := 0x20 } }), (5), by decide +kernel⟩
theorem test_meets_IdleAndStateCommandsComplete_4_idleExit : ∃ (s : State) (k : CoreNo), (bitAt s.pwr.idle k = true) ∧ (s.quadIdle (quadOf k) = true) :=
  ⟨({ pwr := { idle := 0xFFFF } }), (5), by decide +kernel⟩
theorem test_meets_IdleAndStateCommandsComplete_5_sleep : ∃ (s : State), (s.fld Reg.PWR_STAT Fld.PWR_STAT_STATE = 0) ∧ (s.pwr.off = false) ∧ (s.entryReason 2 = 0) :=
  ⟨(hold {}), by decide +kernel⟩
theorem test_meets_IdleAndStateCommandsComplete_6_deep : ∃ (s : State), (s.fld Reg.PWR_STAT Fld.PWR_STAT_STATE = 0) ∧ (s.pwr.off = false) ∧ (s.entryReason 3 = 0) :=
  ⟨(hold (({} : State).setF Reg.PWR_WAKECFG Fld.PWR_WAKECFG_PEN 0)), by decide +kernel⟩
theorem test_meets_IdleAndStateCommandsComplete_7_off : ∃ (s : State), (s.fld Reg.PWR_STAT Fld.PWR_STAT_STATE = 0) ∧ (s.pwr.off = false) ∧ (s.entryReason 4 = 0) :=
  ⟨(hold {}), by decide +kernel⟩
theorem test_meets_IdleAndStateCommandsComplete_8_run : ∃ (s : State), s.fld Reg.PWR_STAT Fld.PWR_STAT_STATE = 2 :=
  ⟨((prt 4 10 {}).setF Reg.PWR_STAT Fld.PWR_STAT_STATE 2), by decide +kernel⟩
theorem test_meets_IdleAndStateCommandsComplete_9_powerDownDrain : ∃ (s : State), (s.fld Reg.PWR_STAT Fld.PWR_STAT_STATE = 1) ∧ (s.pwr.entryStep = 1) ∧ (s.pwr.entering = 2) :=
  ⟨(({ (prt 4 6 {}) with pwr := { entryStep := 1, entering := 2 } } : State).setF Reg.PWR_STAT Fld.PWR_STAT_STATE 1), by decide +kernel⟩
theorem test_meets_IdleAndStateCommandsComplete_10_powerDownDrain : ∃ (s : State), (s.fld Reg.PWR_STAT Fld.PWR_STAT_STATE = 1) ∧ (s.pwr.entryStep = 1) ∧ (3 ≤ s.pwr.entering) :=
  ⟨(({ (prt 4 6 {}) with pwr := { entryStep := 1, entering := 3 } } : State).setF Reg.PWR_STAT Fld.PWR_STAT_STATE 1), by decide +kernel⟩
theorem test_meets_IdleAndStateCommandsComplete_11_powerDownDrain : ∃ (s : State), (s.fld Reg.PWR_STAT Fld.PWR_STAT_STATE = 1) ∧ (s.pwr.entryStep = 1) :=
  ⟨(({ (prt 4 6 { serving := [{ tag := 2, write := false, off := 3, ngran := 4, got := [] }] }) with pwr := { entryStep := 1, entering := 2 } } : State).setF Reg.PWR_STAT Fld.PWR_STAT_STATE 1), by decide +kernel⟩
theorem test_meets_IdleAndStateCommandsComplete_12_entryCommit : ∃ (s : State), (s.fld Reg.PWR_STAT Fld.PWR_STAT_STATE = 1) ∧ (s.pwr.entryStep = 7) ∧ (s.pwr.entering = 2) ∧ (s.levelWake = false) :=
  ⟨(({ pwr := { entryStep := 7, entering := 2 } } : State).setF Reg.PWR_STAT Fld.PWR_STAT_STATE 1), by decide +kernel⟩
theorem test_meets_IdleAndStateCommandsComplete_13_entryCommit : ∃ (s : State), (s.fld Reg.PWR_STAT Fld.PWR_STAT_STATE = 1) ∧ (s.pwr.entryStep = 7) ∧ (s.pwr.entering = 3) ∧ (bitAt s.boot.slow 1 = false) :=
  ⟨(({ pwr := { entryStep := 7, entering := 3 } } : State).setF Reg.PWR_STAT Fld.PWR_STAT_STATE 1), by decide +kernel⟩
theorem test_meets_IdleAndStateCommandsComplete_14_entryCommit : ∃ (s : State), (RegsCanonical s) ∧ (s.fld Reg.PWR_STAT Fld.PWR_STAT_STATE = 1) ∧ (s.pwr.entryStep = 7) ∧ (s.pwr.entering = 4) ∧ (s.fld Reg.PWR_WAKECFG Fld.PWR_WAKECFG_WLEVEL = 0) :=
  ⟨(({ pwr := { entryStep := 7, entering := 4 } } : State).setF Reg.PWR_STAT Fld.PWR_STAT_STATE 1), by decide +kernel⟩
theorem test_meets_IdleAndStateCommandsComplete_15_entryCommit : ∃ (s : State), (RegsCanonical s) ∧ (s.fld Reg.PWR_STAT Fld.PWR_STAT_STATE = 1) ∧ (s.pwr.entryStep = 7) ∧ (s.pwr.entering = 4) ∧ (s.levelWake = true) :=
  ⟨(({ pwr := { entryStep := 7, entering := 4 }, boot := { slow := 2 } } : State).setF Reg.PWR_STAT Fld.PWR_STAT_STATE 1 |>.setF Reg.PWR_WAKECFG Fld.PWR_WAKECFG_WLEVEL 1), by decide +kernel⟩
theorem test_meets_IdleAndStateCommandsComplete_16_wake : ∃ (s : State) (l : Bool), (s.fld Reg.PWR_WAKECFG Fld.PWR_WAKECFG_WEN = 1) ∧ (s.pwr.off = false) ∧ (s.fld Reg.PWR_STAT Fld.PWR_STAT_STATE = 2) :=
  ⟨((prt 4 10 {}).setF Reg.PWR_STAT Fld.PWR_STAT_STATE 2), (true), by decide +kernel⟩
theorem test_meets_IdleAndStateCommandsComplete_17_wake : ∃ (s : State) (l : Bool), (s.fld Reg.PWR_WAKECFG Fld.PWR_WAKECFG_WEN = 1) ∧ (s.pwr.off = true) :=
  ⟨({ pwr := { off := true } }), (true), by decide +kernel⟩
theorem test_meets_IdleAndStateCommandsComplete_18_wake : ∃ (s : State), (s.fld Reg.PWR_WAKECFG Fld.PWR_WAKECFG_WEN = 1) ∧ (s.pwr.off = false) ∧ (s.fld Reg.PWR_STAT Fld.PWR_STAT_STATE = 1) :=
  ⟨(({ pwr := { entryStep := 7, entering := 2 } } : State).setF Reg.PWR_STAT Fld.PWR_STAT_STATE 1), by decide +kernel⟩
theorem test_meets_IdleAndStateCommandsComplete_19_linkActivityWake : ∃ (s : State) (p : PortNo) (l : Bool), (s.portState p = 10) ∧ (s.fld Reg.PWR_STAT Fld.PWR_STAT_STATE = 2) :=
  ⟨((prt 4 10 {}).setF Reg.PWR_STAT Fld.PWR_STAT_STATE 2), (4), (true), by decide +kernel⟩
theorem test_meets_IdleAndStateCommandsComplete_20_stokePattern : ∃ (s : State) (p : PortNo) (n : Nat) (l : Bool), (6 ≤ n) ∧ (bitAt (s.fld Reg.PWR_WAKECFG Fld.PWR_WAKECFG_STOKE) p = true) ∧ (s.fld Reg.PWR_STAT Fld.PWR_STAT_STATE = 3) :=
  ⟨(({} : State).setF Reg.PWR_STAT Fld.PWR_STAT_STATE 3), (4), (6), (true), by decide +kernel⟩
theorem test_meets_IdleAndStateCommandsComplete_21_pcieWake : ∃ (s : State) (l : Bool), (s.fld Reg.PWR_WAKECFG Fld.PWR_WAKECFG_PEN = 1) ∧ (s.fld Reg.PWR_STAT Fld.PWR_STAT_STATE = 2) :=
  ⟨((prt 4 10 {}).setF Reg.PWR_STAT Fld.PWR_STAT_STATE 2), (true), by decide +kernel⟩
theorem test_meets_IdleAndStateCommandsComplete_22_exitComplete : ∃ (s : State), (s.fld Reg.PWR_STAT Fld.PWR_STAT_STATE = 4) ∧ (s.pwr.entering = 2) :=
  ⟨(({ pwr := { entering := 2 } } : State).setF Reg.PWR_STAT Fld.PWR_STAT_STATE 4), by decide +kernel⟩
theorem test_meets_IdleAndStateCommandsComplete_23_exitComplete : ∃ (s : State), (s.fld Reg.PWR_STAT Fld.PWR_STAT_STATE = 4) ∧ (s.pwr.entering = 3) :=
  ⟨(({ pwr := { entering := 3 } } : State).setF Reg.PWR_STAT Fld.PWR_STAT_STATE 4), by decide +kernel⟩
theorem test_meets_PowerSupplyCommandsComplete_1_powerGovernorTick : ∃ (s : State) (x : BitVec 16) (y : BitVec 16), s.fld Reg.PWR_CAP Fld.PWR_CAP_CAP < x.toNat :=
  ⟨((({} : State).setF Reg.PWR_CAP Fld.PWR_CAP_CAP 500).setF Reg.CLK_OPREQ ⟨3, 3⟩ 5), (501), (3), by decide +kernel⟩
theorem test_meets_PowerSupplyCommandsComplete_2_powerGovernorTick : ∃ (s : State) (x : BitVec 16) (y : BitVec 16), (x.toNat ≤ s.fld Reg.PWR_CAP Fld.PWR_CAP_CAP) ∧ (s.fld Reg.PWR_CAP Fld.PWR_CAP_CAP < x.toNat + s.fld Reg.PWR_GOV Fld.PWR_GOV_MARGIN) :=
  ⟨((({} : State).setF Reg.PWR_CAP Fld.PWR_CAP_CAP 500).setF Reg.PWR_GOV Fld.PWR_GOV_MARGIN 20), (490), (3), by decide +kernel⟩
theorem test_meets_PowerSupplyCommandsComplete_6_supplySag : ∃ (s : State), (s.pwr.dead = false) ∧ (s.fld Reg.PWR_STAT Fld.PWR_STAT_STATE = 0) ∧ (s.pwr.off = false) ∧ (s.thm.step = 0) ∧ (s.fld Reg.HOLD_STAT Fld.HOLD_STAT_ARMED = 1) :=
  ⟨(({} : State).setF Reg.HOLD_STAT Fld.HOLD_STAT_ARMED 1), by decide +kernel⟩
theorem test_meets_PowerSupplyCommandsComplete_7_supplySag : ∃ (s : State), (s.pwr.dead = false) ∧ (s.fld Reg.PWR_STAT Fld.PWR_STAT_STATE = 0) ∧ (s.pwr.off = false) ∧ (s.thm.step = 0) ∧ (s.fld Reg.HOLD_STAT Fld.HOLD_STAT_ARMED = 0) :=
  ⟨({}), by decide +kernel⟩
theorem test_meets_PowerSupplyCommandsComplete_8_bankPageDone : ∃ (s : State) (x : SavePage) (l : List SavePage), (s.pwr.banking = x :: l) ∧ (l ≠ []) :=
  ⟨({ pwr := { banking := [pg0, pg0] } }), (pg0), ([pg0]), by decide +kernel⟩
theorem test_meets_PowerSupplyCommandsComplete_9_bankPageDone : ∃ (s : State) (x : SavePage), (s.pwr.banking = [x]) ∧ (s.boot.rise = false) ∧ (s.thm.step ≠ 0) :=
  ⟨({ pwr := { banking := [pg0], half := 1 }, thm := { ({} : State).thm with step := 5 } }), (pg0), by decide +kernel⟩
theorem test_meets_PowerSupplyCommandsComplete_10_bankPageDone : ∃ (s : State) (x : SavePage), (s.pwr.banking = [x]) ∧ (s.boot.rise = true) :=
  ⟨({ pwr := { banking := [pg0] }, boot := { rise := true } }), (pg0), by decide +kernel⟩
theorem test_meets_PowerSupplyCommandsComplete_11_powerReturn : ∃ (s : State), (s.boot.pwrgood = true) ∧ (s.pwr.dead = true) ∧ (s.pwr.banking = []) :=
  ⟨({ pwr := { dead := true }, boot := { pwrgood := true } }), by decide +kernel⟩
theorem test_meets_PowerSupplyCommandsComplete_12_powerReturn : ∃ (s : State), (s.boot.pwrgood = true) ∧ (s.pwr.dead = false) :=
  ⟨({ boot := { pwrgood := true, slow := 3 } }), by decide +kernel⟩
theorem test_meets_ThermalCommandsComplete_0_conversionDone : ∃ (s : State) (c : QuadNo) (r : BitVec 24) (e : Nat) (w : Nat), (s.fld (Reg.MADC_CSTAT c) Fld.MADC_CSTAT_BUSY = 1) ∧ (bitAt s.thm.urg c = false) ∧ (e = s.fld (Reg.MADC_CSTAT c) Fld.MADC_CSTAT_CUR) ∧ (w = s.rd (Reg.MADC_SEQ c e)) ∧ (s.fld (Reg.MADC_CCTL c) Fld.MADC_CCTL_EN = 0) ∧ (bits w 0 6 ∉ [29, 31, 32] ∧ 20 ≤ bits w 0 6) :=
  ⟨(sMadc 21 true), (2), (0xFFFFF0), (3), (21), by decide +kernel⟩
theorem test_meets_ThermalCommandsComplete_1_conversionDone : ∃ (s : State) (c : QuadNo) (r : BitVec 24) (e : Nat) (w : Nat), (s.fld (Reg.MADC_CSTAT c) Fld.MADC_CSTAT_BUSY = 1) ∧ (bitAt s.thm.urg c = false) ∧ (e = s.fld (Reg.MADC_CSTAT c) Fld.MADC_CSTAT_CUR) ∧ (w = s.rd (Reg.MADC_SEQ c e)) ∧ (bits w 0 6 < 20) ∧ (bitAt s.thm.startRdy c = true) ∧ (signed 24 r.toNat ≤ s.coneT Reg.THM_CONE3) :=
  ⟨(sMadc 4 true), (2), (40960), (3), (4), by decide +kernel⟩
theorem test_meets_ThermalCommandsComplete_2_conversionDone : ∃ (s : State) (c : QuadNo) (r : BitVec 24) (e : Nat) (w : Nat) (v : Int), (s.fld (Reg.MADC_CSTAT c) Fld.MADC_CSTAT_BUSY = 1) ∧ (bitAt s.thm.urg c = false) ∧ (e = s.fld (Reg.MADC_CSTAT c) Fld.MADC_CSTAT_CUR) ∧ (w = s.rd (Reg.MADC_SEQ c e)) ∧ (bits w 0 6 = 32) ∧ (bitAt s.thm.startRdy c = true) ∧ (v = signed 24 r.toNat) ∧ (2 * (2 ^ 23 * (2 ^ bits w 16 2 : Nat) : Int) ≤ 100 * v ∧ 100 * v ≤ 98 * (2 ^ 23 * (2 ^ bits w 16 2 : Nat) : Int)) :=
  ⟨(sMadc 32 true), (2), (4194304), (3), (32), (4194304), by decide +kernel⟩
theorem test_meets_ThermalCommandsComplete_3_urgentConversion : ∃ (s : State) (c : QuadNo) (w : Word), (entryLegal w.toNat = true) ∧ (bitAt w.toNat 31 = true) ∧ (s.fld (Reg.MADC_CSTAT c) Fld.MADC_CSTAT_BUSY = 0) ∧ (bitAt s.thm.urg c = false) :=
  ⟨({}), (2), (0x80220015), by decide +kernel⟩
theorem test_meets_ThermalCommandsComplete_4_urgentConversion : ∃ (s : State) (c : QuadNo) (w : Word), (entryLegal w.toNat = true) ∧ (bitAt w.toNat 31 = true) ∧ (s.fld (Reg.MADC_CSTAT c) Fld.MADC_CSTAT_BUSY = 1) :=
  ⟨(sMadc 21 true), (2), (0x80220015), by decide +kernel⟩
theorem test_meets_ThermalCommandsComplete_5_urgentConversionDone : ∃ (s : State) (c : QuadNo) (r : BitVec 24), (bitAt s.thm.urg c = true) ∧ (bits (s.rd (Reg.MADC_URG c)) 0 6 = 32 ∨ bitAt s.thm.urgRdy c = false) :=
  ⟨({ thm := { ({} : State).thm with urg := 4 } }), (2), (77), by decide +kernel⟩
theorem test_meets_ThermalCommandsComplete_6_urgentConversionDone : ∃ (s : State) (c : QuadNo) (r : BitVec 24), (bitAt s.thm.urg c = true) ∧ (bits (s.rd (Reg.MADC_URG c)) 0 6 < 20) ∧ (bitAt s.thm.urgRdy c = true) ∧ (signed 24 r.toNat ≤ s.coneT Reg.THM_CONE3) :=
  ⟨(({ thm := { ({} : State).thm with urg := 4, urgRdy := 4 } } : State).wr (Reg.MADC_URG 2) 0x80000005), (2), (77), by decide +kernel⟩
theorem test_meets_ThermalCommandsComplete_8_refen : ∃ (s : State), ((List.range 4).any fun c => s.fld (Reg.MADC_CCTL c) Fld.MADC_CCTL_EN == 1) = false :=
  ⟨((List.range 4).foldl (fun s c => s.setF (Reg.MADC_CCTL c) Fld.MADC_CCTL_EN 0) {}), by decide +kernel⟩
theorem test_meets_ThermalCommandsComplete_9_refReady : ∃ (s : State), s.fld Reg.MADC_CTL Fld.MADC_CTL_REFEN = 1 :=
  ⟨(({} : State).setF Reg.MADC_CTL Fld.MADC_CTL_REFEN 1), by decide +kernel⟩
theorem test_meets_ThermalCommandsComplete_11_roCount : ∃ (s : State) (k : CoreNo), s.fld Reg.THM_ROCMD Fld.THM_ROCMD_BUSY = 0 :=
  ⟨({}), (4), by decide +kernel⟩
theorem test_meets_ThermalCommandsComplete_12_roBackgroundCount : ∃ (s : State) (k : CoreNo), bitAt s.pwr.idle k = false :=
  ⟨({}), (4), by decide +kernel⟩
theorem test_meets_ThermalCommandsComplete_13_roCountDone : ∃ (s : State) (k : CoreNo) (t0 : Int) (t1 : Int) (t2 : Int) (t3 : Int), (s.thm.roWait.contains k.val = true) ∧ ((s.quad (quadOf k)).stage ∉ [.slew, .slewDown, .count]) :=
  ⟨((({ thm := { ({} : State).thm with roWait := [4, 7] } } : State).setF Reg.THM_ROCMD Fld.THM_ROCMD_BUSY 1).setF Reg.THM_ROCMD Fld.THM_ROCMD_CORE 4), (4), (20000), (20001), (-5), (20481), by decide +kernel⟩
theorem test_meets_ThermalCommandsComplete_14_throttleStep : ∃ (s : State), s.fld Reg.THM_STAT Fld.THM_STAT_C2Q ≠ 0 :=
  ⟨(({} : State).setF Reg.THM_STAT Fld.THM_STAT_C2Q 5), by decide +kernel⟩
theorem test_meets_ThermalCommandsComplete_15_releaseStep : ∃ (s : State), s.fld Reg.THM_STAT Fld.THM_STAT_C2Q = 0 :=
  ⟨(({} : State).wr Reg.THM_CEIL 0x0640A4A), by decide +kernel⟩
theorem test_meets_ThermalCommandsComplete_16_shutdownRecordWritten : ∃ (s : State) (r : ShutRec), (s.thm.step = 4) ∧ (s.thm.staged = some r) ∧ (s.thm.erasedPages ≠ 0) ∧ (s.pwr.erased0 = true ∨ s.pwr.erased1 = true) :=
  ⟨({ thm := { ({} : State).thm with step := 4, staged := some shr0, erasedPages := 4 } }), (shr0), by decide +kernel⟩
theorem test_meets_ThermalCommandsComplete_17_shutdownRecordWritten : ∃ (s : State), (s.thm.step = 4) ∧ (s.pwr.erased0 = false ∧ s.pwr.erased1 = false) :=
  ⟨({ pwr := { erased0 := false, erased1 := false }, thm := { ({} : State).thm with step := 4, staged := some shr0, erasedPages := 0 } }), by decide +kernel⟩
theorem test_meets_PowerUpCommandsComplete_0_pwrgoodRise : ∃ (s : State) (b : Board), (s.boot.pwrgood = false) ∧ (s.pwr.banking = []) :=
  ⟨({}), ({ copy0 := some cfg0 }), by decide +kernel⟩
theorem test_meets_PowerUpCommandsComplete_1_pwrgoodRise : ∃ (s : State) (b : Board), (s.boot.pwrgood = false) ∧ (s.pwr.banking ≠ []) ∧ (s.boot.bootNo ≠ 0) :=
  ⟨({ boot := { bootNo := 3 }, pwr := { banking := [pg0] } }), {}, by decide +kernel⟩
theorem test_meets_PowerUpCommandsComplete_2_pwrgoodFall : ∃ (s : State), s.boot.pwrgood = true :=
  ⟨({ boot := { pwrgood := true } }), by decide +kernel⟩
theorem test_meets_PowerUpCommandsComplete_3_crystalDelayEnd : ∃ (s : State), (s.boot.pwrgood = true) ∧ (s.pwr.dead = false) :=
  ⟨({ boot := { pwrgood := true } }), by decide +kernel⟩
theorem test_meets_PowerUpCommandsComplete_4_xpllLockTimeout : ∃ (s : State), (s.clk.crystal = true) ∧ (s.clk.xpll = false) :=
  ⟨({ clk := { crystal := true } }), by decide +kernel⟩
theorem test_meets_PowerUpCommandsComplete_5_xpllLock : ∃ (s : State), (s.inPhase 1 = true) ∧ (s.boot.sampled = true) ∧ (s.boot.recheck = 0) ∧ (s.fld Reg.CLK_STAT Fld.CLK_STAT_XLOSS = 0) ∧ (s.clk.windows < 1000) :=
  ⟨(({ boot := { pwrgood := true, sampled := true } } : State).setF Reg.CFG_BOOT Fld.CFG_BOOT_PHASE 1 |>.setF Reg.GCTL_STRAP Fld.GCTL_STRAP_OSC 6), by decide +kernel⟩
theorem test_meets_PowerUpCommandsComplete_6_xpllLock : ∃ (s : State), (s.phase ≠ 1) ∧ (s.clk.windows < 1000) :=
  ⟨({}), by decide +kernel⟩
theorem test_meets_PowerUpCommandsComplete_7_strapLatch : ∃ (s : State) (x : BitVec 9) (y : BitVec 9) (z : BitVec 4) (v : BitVec 4), (s.inPhase 1 = true) ∧ (s.clk.crystal = true) ∧ (s.clk.xpll = false) ∧ (s.boot.sampled = false) ∧ (s.boot.warm = false) :=
  ⟨(({ boot := { pwrgood := true }, clk := { crystal := true } } : State).setF Reg.CFG_BOOT Fld.CFG_BOOT_PHASE 1), (0x155), (0x103), (3), (9), by decide +kernel⟩
theorem test_meets_PowerUpCommandsComplete_8_strapRecheck : ∃ (s : State) (x : BitVec 9) (y : BitVec 9), (s.inPhase 1 = true) ∧ (s.clk.xpll = false) ∧ (s.boot.recheck ≠ 0) :=
  ⟨(({ boot := { pwrgood := true, recheck := 0x103 } } : State).setF Reg.CFG_BOOT Fld.CFG_BOOT_PHASE 1), (0x155), (0x101), by decide +kernel⟩
theorem test_meets_PowerUpCommandsComplete_9_slowInputQualified : ∃ (s : State) (i : QuadNo) (b : Bool), bitAt (s.fld Reg.GCTL_INPUT Fld.GCTL_INPUT_HELD) i = true :=
  ⟨(({} : State).setF Reg.GCTL_INPUT Fld.GCTL_INPUT_HELD 15), (1), (true), by decide +kernel⟩
theorem test_meets_PowerUpCommandsComplete_10_configCopyRead : ∃ (s : State) (n : Nat) (c : CfgImage), (s.inPhase 2 = true) ∧ (s.boot.selfOk = true) ∧ (bitAt s.boot.slow 0 = false) ∧ (n = (s.fld Reg.GCTL_STRAP Fld.GCTL_STRAP_COPY + s.boot.tried) % 2) ∧ ((if n = 0 then s.boot.copy0 else s.boot.copy1) = some c) ∧ (s.copyReason (some c) = 0) :=
  ⟨(sCopy cfgG), (0), (cfgG), by decide +kernel⟩
theorem test_meets_PowerUpCommandsComplete_11_configCopyRead : ∃ (s : State) (n : Nat), (s.inPhase 2 = true) ∧ (s.boot.selfOk = true) ∧ (bitAt s.boot.slow 0 = false) ∧ (n = s.copyReason (if s.fld Reg.GCTL_STRAP Fld.GCTL_STRAP_COPY % 2 = 0 then s.boot.copy0 else s.boot.copy1)) ∧ (n ≠ 0) ∧ (s.boot.tried = 0) :=
  ⟨(sCopy { cfgG with major := 2 }), (2), by decide +kernel⟩
theorem test_meets_PowerUpCommandsComplete_12_configCopyRead : ∃ (s : State), (s.inPhase 2 = true) ∧ (s.boot.selfOk = true) ∧ (bitAt s.boot.slow 0 = false) ∧ (s.boot.tried = 1) ∧ (s.copyReason (if (s.fld Reg.GCTL_STRAP Fld.GCTL_STRAP_COPY + 1) % 2 = 0 then s.boot.copy0 else s.boot.copy1) = 1) :=
  ⟨({ sCopy cfgG with boot := { (sCopy cfgG).boot with tried := 1 } }), by decide +kernel⟩
theorem test_meets_BringUpCommandsComplete_0_configApply : ∃ (s : State), (s.inPhase 4 = true) ∧ (s.boot.pmbus = []) ∧ (s.boot.order ≠ 1) ∧ ((s.forEach [3, 4, 5, 6, 7, 8, 9] State.applyOrder).phase ≠ 15) :=
  ⟨(({ boot := { pwrgood := true, order := 3, image := some cfgG } } : State).setF Reg.CFG_BOOT Fld.CFG_BOOT_PHASE 4), by decide +kernel⟩
theorem test_meets_BringUpCommandsComplete_1_configApply : ∃ (s : State), (s.inPhase 4 = true) ∧ (s.boot.pmbus = []) ∧ (s.boot.order = 1) ∧ ((((s.firmwareStart.skipRecs).applyOrder 1).applyOrder 2).boot.pmbus ≠ []) :=
  ⟨(({ boot := { pwrgood := true, image := some { cfgG with recs := [{ type := 0x13, crit := true, body := .pmbus [pm0] }] } } } : State).setF Reg.CFG_BOOT Fld.CFG_BOOT_PHASE 4), by decide +kernel⟩
theorem test_meets_BringUpCommandsComplete_2_pmbusTransaction : ∃ (s : State) (i : Nat) (j : Nat) (e : PmbusEnt) (l : List (Nat × Nat × PmbusEnt)) (d : BitVec 16), (s.inPhase 4 = true) ∧ (s.boot.pmbus = (i, j, e) :: l) ∧ (e.kind ≠ 3 ∨ d.toNat &&& e.aux = e.data &&& e.aux) :=
  ⟨(sPm 0 0), (2), (1), (pm0), ([]), (0x1234), by decide +kernel⟩
theorem test_meets_BringUpCommandsComplete_3_pmbusTransaction : ∃ (s : State) (i : Nat) (j : Nat) (e : PmbusEnt) (l : List (Nat × Nat × PmbusEnt)) (d : BitVec 16), (s.inPhase 4 = true) ∧ (s.boot.pmbus = (i, j, e) :: l) ∧ (e.kind < 4) ∧ (s.boot.tries < 2) :=
  ⟨(sPm 1 0), (2), (1), (pm0), ([]), (0x1234), by decide +kernel⟩
theorem test_meets_BringUpCommandsComplete_4_pmbusTransaction : ∃ (s : State) (i : Nat) (j : Nat) (e : PmbusEnt) (l : List (Nat × Nat × PmbusEnt)) (d : BitVec 16), (s.inPhase 4 = true) ∧ (s.boot.pmbus = (i, j, e) :: l) ∧ (e.kind < 4) ∧ (2 ≤ s.boot.tries) :=
  ⟨(sPm 2 0), (2), (1), (pm0), ([]), (0x1234), by decide +kernel⟩
theorem test_meets_BringUpCommandsComplete_5_hbmTrainingDone : ∃ (s : State) (l : List Nat) (u : State), (s.inPhase 5 = true) ∧ (u = ((List.range 8).foldl State.stackTrained { s with hbm := { s.hbm with repair := s.hbm.repair.filter fun k => !l.contains k } }).forEach [10, 11, 12, 13, 14] State.applyOrder) ∧ (u.phase ≠ 15) ∧ (u.boot.test = none) :=
  ⟨sTrain, [], (List.range 8).foldl State.stackTrained sTrain, by decide +kernel, train_orders, train_phase, train_boot⟩
theorem test_meets_BringUpCommandsComplete_6_hbmTrainingDone : ∃ (s : State) (b : BitVec 8) (l : List Nat), (s.inPhase 5 = true) ∧ (b ≠ 0) ∧ (s.failed = false) ∧ (noStreams s = true) :=
  ⟨(({ boot := { pwrgood := true } } : State).setF Reg.CFG_BOOT Fld.CFG_BOOT_PHASE 5), (4), {}, by decide +kernel⟩
theorem test_meets_BringUpCommandsComplete_7_testPhaseTimeout : ∃ (s : State), s.inPhase 6 = true :=
  ⟨(({ boot := { pwrgood := true } } : State).setF Reg.CFG_BOOT Fld.CFG_BOOT_PHASE 6), by decide +kernel⟩
theorem test_meets_BringUpCommandsComplete_8_bootActions : ∃ (s : State) (l : List FlashRead), (s.inPhase 7 = true) ∧ (s.boot.acted = false) ∧ (bits (s.rd Reg.IND_RSSTAT) 0 2 = 0) ∧ (s.fld Reg.GCTL_STRAP Fld.GCTL_STRAP_NOLOAD = 1 ∨ (s.boot.acts = [] ∧ ((List.range 64).all fun p => (s.jpart p).state != 2) = true)) :=
  ⟨(sOp 7), ([]), by decide +kernel⟩
theorem test_meets_BringUpCommandsComplete_9_bootActions : ∃ (s : State) (l : List FlashRead), (s.inPhase 7 = true) ∧ (s.boot.acted = false) ∧ (bits (s.rd Reg.IND_RSSTAT) 0 2 = 0) :=
  ⟨(sOp 7), ([]), by decide +kernel⟩
theorem test_meets_BringUpCommandsComplete_10_interfacesOpen : ∃ (s : State), (s.inPhase 7 = true) ∧ (s.boot.acted = true) ∧ (s.wts.loads = []) ∧ (s.partnReached = false) ∧ (noStreams s = true) ∧ ((s.boot.acts.all fun a => !a.start) = true) :=
  ⟨({ (sOp 7) with boot := { (sOp 7).boot with acted := true, portEn := 6 } }), by decide +kernel⟩
theorem test_meets_BringUpCommandsComplete_11_restart : ∃ (s : State) (w : BitVec 16), (w = 0xB007) ∧ (s.allStopped = true) ∧ (4 ≤ s.phase) :=
  ⟨(sOp 9), (0xB007), by decide +kernel⟩
theorem test_meets_BringUpCommandsComplete_12_restart : ∃ (s : State) (c : Channel) (n : Option Nat) (q : Nat) (u : State), (s.mgmtOn c = true) ∧ (s.popReq c = some (q, u)) ∧ (s.mgmtReady = true) ∧ (s.authorised .sessionOnEth c n = true) ∧ (s.allStopped = true) :=
  ⟨(sOp 9), (.i3c), (none), (0), (sOp 9), by decide +kernel⟩
theorem test_meets_TransportCommandsComplete_0_mgmtDatagram : ∃ (s : State) (d : Datagram), (s.mgmtOn .eth = true) ∧ (d.port = 59160 ∧ d.frameLen ≤ 1518 ∧ d.magic = 0x4D48 ∧ d.version = 1 ∧ d.mtype ∈ [0, 1, 5, 6] ∧ 1 ≤ d.bodyLen ∧ d.bodyLen ≤ 1400) ∧ (s.mgmtReady = true) ∧ (s.mgmt.ethReqs.length < 8) :=
  ⟨(sM), (dg0), by decide +kernel⟩
theorem test_meets_TransportCommandsComplete_1_mgmtDatagram : ∃ (s : State) (d : Datagram), (s.mgmtOn .eth = true) ∧ (d.port = 59160 ∧ d.frameLen ≤ 1518 ∧ d.magic = 0x4D48 ∧ d.version = 1 ∧ d.mtype ∈ [0, 1, 5, 6] ∧ 1 ≤ d.bodyLen ∧ d.bodyLen ≤ 1400) ∧ (s.mgmtReady = false) ∧ (s.shutDown = false) ∧ (s.phase ≠ 15) :=
  ⟨(sOp 4), (dg0), by decide +kernel⟩
theorem test_meets_TransportCommandsComplete_2_getstatus : ∃ (s : State), s.mgmtOn .i3c = true :=
  ⟨(sM), by decide +kernel⟩
theorem test_meets_TransportCommandsComplete_3_setdasa : ∃ (s : State) (x : BitVec 7) (y : BitVec 7), (s.mgmtOn .i3c = true) ∧ (x.toNat = 0x30 + s.fld Reg.GCTL_STRAP Fld.GCTL_STRAP_I3CADDR) :=
  ⟨(sM), (0x30), (9), by decide +kernel⟩
theorem test_meets_TransportCommandsComplete_4_entdaa : ∃ (s : State) (y : BitVec 7), s.mgmtOn .i3c = true :=
  ⟨(sM), (9), by decide +kernel⟩
theorem test_meets_TransportCommandsComplete_5_setEndpointId : ∃ (s : State) (c : Channel) (x : BitVec 8), canServe s c none .open_ false = true :=
  ⟨(sM), (.i3c), (9), by decide +kernel⟩
theorem test_meets_TransportCommandsComplete_6_getEndpointId : ∃ (s : State) (c : Channel), canServe s c none .open_ false = true :=
  ⟨(sM), (.i3c), by decide +kernel⟩
theorem test_meets_TransportCommandsComplete_7_getEndpointUuid : ∃ (s : State) (c : Channel), canServe s c none .open_ false = true :=
  ⟨(sM), (.i3c), by decide +kernel⟩
theorem test_meets_TransportCommandsComplete_8_getMctpVersionSupport : ∃ (s : State) (c : Channel), canServe s c none .open_ false = true :=
  ⟨(sM), (.i3c), by decide +kernel⟩
theorem test_meets_TransportCommandsComplete_9_getMessageTypeSupport : ∃ (s : State) (c : Channel), canServe s c none .open_ false = true :=
  ⟨(sM), (.i3c), by decide +kernel⟩
theorem test_meets_PldmCommandsComplete_0_gettid : ∃ (s : State) (c : Channel) (n : Option Nat), canServe s c n .sessionOnEth false = true :=
  ⟨(sM), (.i3c), (none), by decide +kernel⟩
theorem test_meets_PldmCommandsComplete_1_settid : ∃ (s : State) (c : Channel) (n : Option Nat) (x : BitVec 8), canServe s c n .sessionOnEth false = true :=
  ⟨(sM), (.i3c), (none), (7), by decide +kernel⟩
theorem test_meets_PldmCommandsComplete_2_getpldmversion : ∃ (s : State) (c : Channel) (n : Option Nat) (x : BitVec 8), (canServe s c n .sessionOnEth false = true) ∧ (pldmTypes.contains x.toNat = true) :=
  ⟨(sM), (.i3c), (none), (63), by decide +kernel⟩
theorem test_meets_PldmCommandsComplete_3_getpldmversion : ∃ (s : State) (c : Channel) (n : Option Nat) (x : BitVec 8), (canServe s c n .sessionOnEth false = true) ∧ (pldmTypes.contains x.toNat = false) :=
  ⟨(sM), (.i3c), (none), (62), by decide +kernel⟩
theorem test_meets_PldmCommandsComplete_4_getpldmtypes : ∃ (s : State) (c : Channel) (n : Option Nat), canServe s c n .sessionOnEth false = true :=
  ⟨(sM), (.i3c), (none), by decide +kernel⟩
theorem test_meets_PldmCommandsComplete_5_getpldmcommands : ∃ (s : State) (c : Channel) (n : Option Nat) (x : BitVec 8) (k : Nat), (canServe s c n .sessionOnEth false = true) ∧ ((x.toNat, k) ∈ [(0, 5), (2, 7), (4, 2), (5, 13), (63, 5)]) :=
  ⟨(sM), (.i3c), (none), (5), (13), by decide +kernel⟩
theorem test_meets_PldmCommandsComplete_6_getpdrrepositoryinfo : ∃ (s : State) (c : Channel) (n : Option Nat), canServe s c n .sessionOnEth false = true :=
  ⟨(sM), (.i3c), (none), by decide +kernel⟩
theorem test_meets_PldmCommandsComplete_7_getpdr : ∃ (s : State) (c : Channel) (n : Option Nat) (x : Nat), (canServe s c n .sessionOnEth false = true) ∧ (x < 53) :=
  ⟨(sM), (.i3c), (none), (52), by decide +kernel⟩
theorem test_meets_PldmCommandsComplete_8_getpdr : ∃ (s : State) (c : Channel) (n : Option Nat) (x : Nat), (canServe s c n .sessionOnEth false = true) ∧ (53 ≤ x) :=
  ⟨(sM), (.i3c), (none), (53), by decide +kernel⟩
theorem test_meets_PldmCommandsComplete_9_getsensorreading : ∃ (s : State) (c : Channel) (n : Option Nat) (x : Sensor) (v : Nat), (canServe s c n .sessionOnEth false = true) ∧ (s.sensorValue x = some v) :=
  ⟨(sM), (.i3c), (none), (.packagePower), (0), by decide +kernel⟩
theorem test_meets_PldmCommandsComplete_10_getsensorreading : ∃ (s : State) (c : Channel) (n : Option Nat) (x : Sensor), (canServe s c n .sessionOnEth false = true) ∧ (s.sensorValue x = none) :=
  ⟨(sM), (.i3c), (none), (.diode 3), by decide +kernel⟩
theorem test_meets_PldmCommandsComplete_11_getstatesensorreadings : ∃ (s : State) (c : Channel) (n : Option Nat) (x : StateSensor), canServe s c n .sessionOnEth false = true :=
  ⟨(sM), (.i3c), (none), (.rackStop), by decide +kernel⟩
theorem test_meets_PldmCommandsComplete_12_seteventreceiver : ∃ (s : State) (c : Channel) (n : Option Nat) (x : Bool), canServe s c n .sessionOnEth false = true :=
  ⟨(sEv), (.i3c), (none), (false), by decide +kernel⟩
theorem test_meets_PldmCommandsComplete_13_pollforplatformeventmessage : ∃ (s : State) (n : Option Nat) (e : MgmtEvent) (l : List MgmtEvent), (canServe s .i3c n .sessionOnEth false = true) ∧ (s.mgmt.evI3c = e :: l) :=
  ⟨(sEv), (none), (.cper 3), ([.cper 4]), by decide +kernel⟩
theorem test_meets_PldmCommandsComplete_14_pollforplatformeventmessage : ∃ (s : State) (c : Channel) (n : Option Nat), (canServe s c n .sessionOnEth false = true) ∧ (c = .eth ∨ s.mgmt.evI3c = []) :=
  ⟨(sEv), (.eth), (some 4), by decide +kernel⟩
theorem test_meets_PldmCommandsComplete_15_getfrurecordtablemetadata : ∃ (s : State) (c : Channel) (n : Option Nat), canServe s c n .sessionOnEth false = true :=
  ⟨(sM), (.i3c), (none), by decide +kernel⟩
theorem test_meets_PldmCommandsComplete_16_getfrurecordtable : ∃ (s : State) (c : Channel) (n : Option Nat), canServe s c n .sessionOnEth false = true :=
  ⟨(sM), (.i3c), (none), by decide +kernel⟩
theorem test_meets_FirmwareUpdateCommandsComplete_0_querydeviceidentifiers : ∃ (s : State) (c : Channel) (n : Option Nat), canServe s c n .open_ s.updateEarly = true :=
  ⟨(sM), (.i3c), (none), by decide +kernel⟩
theorem test_meets_FirmwareUpdateCommandsComplete_1_getfirmwareparameters : ∃ (s : State) (c : Channel) (n : Option Nat), canServe s c n .open_ s.updateEarly = true :=
  ⟨(sM), (.i3c), (none), by decide +kernel⟩
theorem test_meets_FirmwareUpdateCommandsComplete_2_requestupdate : ∃ (s : State) (c : Channel) (n : Option Nat), (canServe s c n .open_ s.updateEarly = true) ∧ (s.mgmt.update = none) :=
  ⟨(sM), (.i3c), (none), by decide +kernel⟩
theorem test_meets_FirmwareUpdateCommandsComplete_3_requestupdate : ∃ (s : State) (c : Channel) (n : Option Nat), (canServe s c n .open_ s.updateEarly = true) ∧ (s.mgmt.update ≠ none) :=
  ⟨(sUp 1), (.i3c), (none), by decide +kernel⟩
theorem test_meets_FirmwareUpdateCommandsComplete_4_passcomponenttable : ∃ (s : State) (c : Channel) (n : Option Nat) (u : Update), (canServe s c n .open_ s.updateEarly = true) ∧ (s.mgmt.update = some u) :=
  ⟨(sUp 1), (.i3c), (none), (up0 1), by decide +kernel⟩
theorem test_meets_FirmwareUpdateCommandsComplete_5_updatecomponent : ∃ (s : State) (c : Channel) (n : Option Nat) (k : BitVec 16) (z : Nat) (u : Update), (canServe s c n (compAccess k.toNat) s.updateEarly = true) ∧ (s.mgmt.update = some u) ∧ (updateComps.contains k.toNat = true) ∧ (z ≤ s.areaSize k.toNat) ∧ (s.fld Reg.LOG_STAT Fld.LOG_STAT_RSFAIL = 0 ∨ k.toNat < 3) ∧ ((s.wts.loads.any fun l => k.toNat == 0x10 + l.slot) = false) ∧ (s.phase ≠ 15 ∨ k.toNat < 3) :=
  ⟨(sUp 2), (.i3c), (none), (1), (99), (up0 2), by decide +kernel⟩
theorem test_meets_FirmwareUpdateCommandsComplete_6_firmwareDataReceived : ∃ (s : State) (z : Nat) (u : Update), (s.mgmt.update = some u) ∧ (u.stage = 3) :=
  ⟨(sUp 3), (6), (up0 3), by decide +kernel⟩
theorem test_meets_FirmwareUpdateCommandsComplete_7_firmwareDataReceived : ∃ (s : State) (z : Nat) (u : Update) (x : CfgImage), (s.mgmt.update = some u) ∧ (u.stage = 3) ∧ (u.comp = 1) ∧ (s.copyVerdict x = 0) :=
  ⟨(sUp 3), (6), (up0 3), (cfgG), by decide +kernel⟩
theorem test_meets_FirmwareUpdateCommandsComplete_8_firmwareDataReceived : ∃ (s : State) (z : Nat) (u : Update) (x : CfgImage), (s.mgmt.update = some u) ∧ (u.stage = 3) ∧ (u.comp = 1) ∧ (s.copyVerdict x ≠ 0) :=
  ⟨(sUp 3), (6), (up0 3), ({ cfgG with major := 3 }), by decide +kernel⟩
theorem test_meets_FirmwareUpdateCommandsComplete_9_activatefirmware : ∃ (s : State) (c : Channel) (n : Option Nat), (canServe s c n .open_ s.updateEarly = true) ∧ (s.mgmt.update ≠ none) :=
  ⟨(sUp 5), (.i3c), (none), by decide +kernel⟩
theorem test_meets_FirmwareUpdateCommandsComplete_10_getstatusPldm : ∃ (s : State) (c : Channel) (n : Option Nat) (u : Update), (canServe s c n .open_ s.updateEarly = true) ∧ (s.mgmt.update = some u) :=
  ⟨(sUp 3), (.i3c), (none), (up0 3), by decide +kernel⟩
theorem test_meets_FirmwareUpdateCommandsComplete_11_getstatusPldm : ∃ (s : State) (c : Channel) (n : Option Nat), (canServe s c n .open_ s.updateEarly = true) ∧ (s.mgmt.update = none) :=
  ⟨(sM), (.i3c), (none), by decide +kernel⟩
theorem test_meets_FirmwareUpdateCommandsComplete_12_cancelupdatecomponent : ∃ (s : State) (c : Channel) (n : Option Nat) (u : Update), (canServe s c n .open_ s.updateEarly = true) ∧ (s.mgmt.update = some u) :=
  ⟨(sUp 3), (.i3c), (none), (up0 3), by decide +kernel⟩
theorem test_meets_FirmwareUpdateCommandsComplete_13_cancelupdate : ∃ (s : State) (c : Channel) (n : Option Nat), canServe s c n .open_ s.updateEarly = true :=
  ⟨(sUp 3), (.i3c), (none), by decide +kernel⟩
theorem test_meets_OemReadCommandsComplete_0_readmeter : ∃ (s : State) (c : Channel) (n : Option Nat) (x : Fin 1088), canServe s c n .session false = true :=
  ⟨(sM), (.i3c), (some 4), (5), by decide +kernel⟩
theorem test_meets_OemReadCommandsComplete_1_readhistory : ∃ (s : State) (c : Channel) (n : Option Nat) (x : Fin 16384), canServe s c n .session false = true :=
  ⟨(sM), (.i3c), (some 4), (5), by decide +kernel⟩
theorem test_meets_OemReadCommandsComplete_2_readlog : ∃ (s : State) (c : Channel) (n : Option Nat) (b : Bool) (x : Fin 16384), canServe s c n .session false = true :=
  ⟨(sM), (.i3c), (some 4), (true), (5), by decide +kernel⟩
theorem test_meets_OemReadCommandsComplete_3_readstuckmap : ∃ (s : State) (c : Channel) (n : Option Nat), canServe s c n .session false = true :=
  ⟨(sM), (.i3c), (some 4), by decide +kernel⟩
theorem test_meets_OemReadCommandsComplete_4_readshutdownrecords : ∃ (s : State) (c : Channel) (n : Option Nat), canServe s c n .session false = true :=
  ⟨(sM), (.i3c), (some 4), by decide +kernel⟩
theorem test_meets_SpdmCommandsComplete_0_getVersion : ∃ (s : State) (c : Channel), canServe s c none .open_ false = true :=
  ⟨(sM), (.i3c), by decide +kernel⟩
theorem test_meets_SpdmCommandsComplete_1_getCapabilities : ∃ (s : State) (c : Channel), canServe s c none .open_ false = true :=
  ⟨(sM), (.i3c), by decide +kernel⟩
theorem test_meets_SpdmCommandsComplete_2_negotiateAlgorithms : ∃ (s : State) (c : Channel), canServe s c none .open_ false = true :=
  ⟨(sM), (.i3c), by decide +kernel⟩
theorem test_meets_SpdmCommandsComplete_3_negotiateAlgorithms : ∃ (s : State) (c : Channel), canServe s c none .open_ false = true :=
  ⟨(sM), (.i3c), by decide +kernel⟩
theorem test_meets_SpdmCommandsComplete_4_getDigests : ∃ (s : State) (c : Channel), canServe s c none .open_ false = true :=
  ⟨(sM), (.i3c), by decide +kernel⟩
theorem test_meets_SpdmCommandsComplete_5_getCertificate : ∃ (s : State) (c : Channel) (x : BitVec 4), (canServe s c none .open_ false = true) ∧ (x.toNat < 2) :=
  ⟨(sM), (.i3c), (1), by decide +kernel⟩
theorem test_meets_SpdmCommandsComplete_6_getCertificate : ∃ (s : State) (c : Channel) (x : BitVec 4), (canServe s c none .open_ false = true) ∧ (2 ≤ x.toNat) :=
  ⟨(sM), (.i3c), (2), by decide +kernel⟩
theorem test_meets_SpdmCommandsComplete_7_challenge : ∃ (s : State) (c : Channel), (canServe s c none .open_ false = true) ∧ (s.secState = 2) :=
  ⟨(sM), (.i3c), by decide +kernel⟩
theorem test_meets_SpdmCommandsComplete_8_getMeasurements : ∃ (s : State) (c : Channel) (x : BitVec 8) (l : List Nat), (canServe s c none .open_ false = true) ∧ (s.measurement x.toNat = some l) :=
  ⟨sM, .i3c, 1, [Config.digest 7 0], by decide +kernel, rfl⟩
theorem test_meets_SpdmCommandsComplete_9_getMeasurements : ∃ (s : State) (c : Channel) (x : BitVec 8), (canServe s c none .open_ false = true) ∧ (s.measurement x.toNat = none) :=
  ⟨(sM), (.i3c), (6), by decide +kernel⟩
theorem test_meets_SpdmCommandsComplete_10_keyExchange : ∃ (s : State) (c : Channel) (x : Option Nat), (canServe s c none .open_ false = true) ∧ (s.mgmt.sessions.length < 4) ∧ (s.secFull = true) :=
  ⟨(sM), (.i3c), (some 3), by decide +kernel⟩
theorem test_meets_SpdmCommandsComplete_11_finish : ∃ (s : State) (c : Channel) (k : Nat), (canServe s c none .open_ false = true) ∧ ((s.mgmt.sessions.any fun x => x.id == k) = true) :=
  ⟨(sM), (.i3c), (4), by decide +kernel⟩
theorem test_meets_SpdmCommandsComplete_12_finish : ∃ (s : State) (c : Channel) (k : Nat), (canServe s c none .open_ false = true) ∧ ((s.mgmt.sessions.any fun x => x.id == k) = true) :=
  ⟨(sM), (.i3c), (4), by decide +kernel⟩
theorem test_meets_SpdmCommandsComplete_13_heartbeat : ∃ (s : State) (c : Channel) (k : Nat), (canServe s c none .open_ false = true) ∧ ((s.mgmt.sessions.any fun x => x.id == k) = true) :=
  ⟨(sM), (.i3c), (4), by decide +kernel⟩
theorem test_meets_SpdmCommandsComplete_14_keyUpdate : ∃ (s : State) (c : Channel) (k : Nat), (canServe s c none .open_ false = true) ∧ ((s.mgmt.sessions.any fun x => x.id == k) = true) :=
  ⟨(sM), (.i3c), (4), by decide +kernel⟩
theorem test_meets_SpdmCommandsComplete_15_endSession : ∃ (s : State) (c : Channel) (k : Nat), (canServe s c none .open_ false = true) ∧ ((s.mgmt.sessions.any fun x => x.id == k) = true) :=
  ⟨(sM), (.i3c), (4), by decide +kernel⟩
theorem test_meets_SpdmCommandsComplete_16_respondIfReady : ∃ (s : State) (c : Channel), canServe s c none .open_ false = true :=
  ⟨(sM), (.i3c), by decide +kernel⟩
theorem test_meets_BoardCommandsComplete_0_pmbusPoll : ∃ (s : State) (l : List PmbusReading), s.phase = 8 ∨ s.phase = 9 :=
  ⟨(sPmb), ([pr0]), by decide +kernel⟩
theorem test_meets_BoardCommandsComplete_1_smbalert : ∃ (s : State) (l : List PmbusReading), (s.phase = 8 ∨ s.phase = 9) ∧ (s.mgmt.rcvEth = true) ∧ (s.mgmt.restarting = false) ∧ (s.mgmt.rcvI3c = false) :=
  ⟨(sPmb), ([pr0]), by decide +kernel⟩
theorem test_meets_BoardCommandsComplete_2_secondWrap : ∃ (s : State), (s.mgmt.setTo = none) ∧ (s.mgmt.secs + 1 < s.mgmt.pend) :=
  ⟨(sM), by decide +kernel⟩
theorem test_meets_BoardCommandsComplete_3_secondWrap : ∃ (s : State) (v : Nat), (s.mgmt.setTo = some v) ∧ (v < s.mgmt.pend) :=
  ⟨({ sM with mgmt := { sM.mgmt with setTo := some 2000 } }), (2000), by decide +kernel⟩
theorem test_meets_BoardCommandsComplete_4_secondWrap : ∃ (s : State) (k : Nat), (s.mgmt.setTo = none) ∧ (s.mgmt.pend ≤ s.mgmt.secs + 1) ∧ (k = s.fld Reg.MTR_PCFG Fld.MTR_PCFG_LEN) :=
  ⟨({ sM with mgmt := { sM.mgmt with secs := 3599, meters := [(5, { tokin := 4, rem := 9 }), (7, { hbmb := 3 })] } }), (({} : State).fld Reg.MTR_PCFG Fld.MTR_PCFG_LEN), by decide +kernel⟩
theorem test_meets_BoardCommandsComplete_6_timeRead : ∃ (s : State) (n : Fin 1000000000) (k : Nat), k = max s.mgmt.nanos n.val :=
  ⟨({ sM with mgmt := { sM.mgmt with secs := 0x300000005, nanos := 7 } }), (44), (44), by decide +kernel⟩
theorem test_meets_BoardCommandsComplete_7_meterSnapshot : ∃ (s : State) (w : Word), (bits w.toNat 16 14 ≤ 1087) ∧ (bits w.toNat 0 5 ≤ 15) :=
  ⟨({ sM with mgmt := { sM.mgmt with meters := [(5, { tokin := 4 })] } }), (0x50003), by decide +kernel⟩
theorem test_meets_BoardCommandsComplete_8_meterPersist : ∃ (s : State), (s.writeWindow = true) ∧ (s.fld Reg.LOG_STAT Fld.LOG_STAT_RSFAIL = 0) :=
  ⟨({ sM with thm := { sM.thm with diodes := [some 20000] } }), by decide +kernel⟩
theorem test_meets_BoardCommandsComplete_9_indicatorDiagnosis : ∃ (s : State) (n : QuadNo) (w : Nat), (w = s.rd (Reg.IND_CFG n)) ∧ (n ≠ 0) ∧ (bits w 28 2 = 2) ∧ (5120 ≤ 10 * bits w 0 8 * bits w 8 9) ∧ (bits w 8 9 ≠ 0) ∧ (nth 0 s.mgmt.diag n = 2) :=
  ⟨(({ sM with mgmt := { sM.mgmt with diag := [0, 2, 0, 0] } } : State).wr (Reg.IND_CFG 1) (2 ^ 29 + 256 * 200 + 200)), (1), (2 ^ 29 + 256 * 200 + 200), by decide +kernel⟩
theorem test_meets_BoardCommandsComplete_10_indicatorDiagnosis : ∃ (s : State) (n : QuadNo) (w : Nat) (b : Bool), (w = s.rd (Reg.IND_CFG n)) ∧ (n ≠ 0) ∧ (bits w 28 2 = 2) ∧ (5120 ≤ 10 * bits w 0 8 * bits w 8 9) ∧ (bits w 8 9 ≠ 0) ∧ (nth 0 s.mgmt.diag n ≠ (if b then 2 else 1)) :=
  ⟨(sM.wr (Reg.IND_CFG 1) (2 ^ 29 + 256 * 200 + 200)), (1), (2 ^ 29 + 256 * 200 + 200), (true), by decide +kernel⟩
theorem test_meets_BoardCommandsComplete_11_rackstopAccept : ∃ (s : State) (b : Bool) (x : Bool) (i : Nat), (i = b2n b) ∧ (bitAt (s.fld Reg.GCTL_INPUT Fld.GCTL_INPUT_HELD) (2 + i) = false) ∧ (s.allStopped = true) ∧ (s.wts.loads = []) :=
  ⟨(sM), (true), (true), (1), by decide +kernel⟩
theorem test_meets_BoardCommandsComplete_12_rackstopAccept : ∃ (s : State) (b : Bool), (bitAt (s.fld Reg.GCTL_INPUT Fld.GCTL_INPUT_HELD) (2 + b2n b) = false) ∧ (bitAt (s.rd Reg.IND_RSSTAT) 2 = false) ∧ (s.wts.loads = []) ∧ (noStreams s = true) :=
  ⟨((sM.wr Reg.IND_RSSTAT 0).setF (Reg.CNET_PSTAT 2) Fld.CNET_PSTAT_RUN 1), (true), by decide +kernel⟩
theorem test_meets_BoardCommandsComplete_13_rackstopDiscrepancy : ∃ (s : State), (bitAt (s.rd Reg.IND_RSSTAT) 0 ≠ bitAt (s.rd Reg.IND_RSSTAT) 1) ∧ (bitAt (s.rd Reg.IND_RSSTAT) 2 = true) :=
  ⟨(sM.wr Reg.IND_RSSTAT 5), by decide +kernel⟩
theorem test_meets_BoardCommandsComplete_14_gpiAccept : ∃ (s : State) (i : Fin 8) (b : Bool) (x : Bool), (bitAt (s.rd Reg.IND_GPICFG) (8 + i) = true) ∧ ((nth {} s.mgmt.gpi i).frozen = false) ∧ (x = (b == bitAt (s.rd Reg.IND_GPICFG) i)) :=
  ⟨(sM.wr Reg.IND_GPICFG 0x808), (3), (true), (true), by decide +kernel⟩
theorem test_meets_BoardCommandsComplete_15_gpiStuck : ∃ (s : State) (i : Fin 8), bitAt (s.rd Reg.IND_GPISTAT) i = true :=
  ⟨(sM.wr Reg.IND_GPISTAT 8), (3), by decide +kernel⟩
theorem test_meets_BoardCommandsComplete_16_gpiChatterWindow : ∃ (s : State) (i : Fin 8) (n : Nat), (10 < n) ∧ (bitAt (s.rd Reg.IND_GPICFG) (8 + i) = true) :=
  ⟨(sM.wr Reg.IND_GPICFG 0x808), (3), (11), by decide +kernel⟩
theorem test_meets_IdleStepChangesNothing :
    ({} : State).pending = [] :=
  rfl
theorem test_meets_StateAfterReset :
    isHigh Reg.LOG_SEQ_HI = true ∧ State.reset.asleep Reg.LOG_SEQ_HI = false :=
  by decide +kernel
theorem test_meets_StepsKeepTheStoresCanonical :
    StoresCanonical { (sCtx true) with pending := [.clr 3 1] } ∧ ∃ t, Machine.step { (sCtx true) with pending := [.clr 3 1] } = .next t :=
  ⟨by decide +kernel, _, rfl⟩
theorem test_meets_StagingQueueStaysBounded :
    ({ log := { queue := List.replicate 64 sh0 }, pending := [.watchdogExpiry 3 1] } : State).log.queue.length ≤ 64 ∧ ∃ t, Machine.step { log := { queue := List.replicate 64 sh0 }, pending := [.watchdogExpiry 3 1] } = .next t :=
  ⟨by decide +kernel, _, rfl⟩
theorem test_meets_EveryStepTakesTheFrontCommand :
    ({ pending := [.clr 3 1, .nop 3 1] } : State).pending = [.clr 3 1, .nop 3 1] ∧ ∃ t, Machine.step { pending := [.clr 3 1, .nop 3 1] } = .next t :=
  ⟨rfl, _, rfl⟩
theorem test_meets_WriteByAccessCodes :
    (regRow Reg.LOG_CTL).isSome = true ∧ 3 < 32 :=
  by decide +kernel
theorem test_meets_CounterClearClears :
    issuedAt (sClr 9) 3 1 4 3 iClr = true ∧ (sClr 9).cenq 3 (bits iClr.bundle 190 6) = (sClr 9).cdone 3 (bits iClr.bundle 190 6) :=
  by decide +kernel
theorem test_meets_CounterClearFaults :
    issuedAt (sClr 8) 3 1 4 3 iClr = true ∧ (sClr 8).cenq 3 (bits iClr.bundle 190 6) ≠ (sClr 8).cdone 3 (bits iClr.bundle 190 6) ∧ (sClr 8).ctxRun 3 1 ≠ 0 ∧ (sClr 8).fld (Reg.CORE_FLTINFO 3 1) Fld.CORE_FLTINFO_VALID = 0 :=
  by decide +kernel
theorem test_meets_ModeMismatch :
    (.jump 3 1 : Instr) ∈ slotCommands 3 1 ∧ fetches sMode 3 1 = true ∧ bits (sMode.bundleNat 3 1 (sMode.pcOf 3 1)) 255 1 ≠ b2n (sMode.tagged 3 1) ∧ sMode.fld (Reg.CORE_FLTINFO 3 1) Fld.CORE_FLTINFO_VALID = 0 :=
  by decide +kernel
theorem test_meets_LinkConfigurationEnabled :
    sLinkOn.asleep (Reg.LNK_CTL 4) = false ∧ sLinkOn.fld (Reg.LNK_CTL 4) Fld.LNK_CTL_EN = 1 ∧ sLinkOn.merged (Reg.LNK_CTL 4) (0x80000000#32).toNat % 2 ^ 31 ≠ sLinkOn.rd (Reg.LNK_CTL 4) % 2 ^ 31 :=
  by decide +kernel
theorem test_meets_LinkConfigurationDisabled :
    ({} : State).asleep (Reg.LNK_CTL 4) = false ∧ ({} : State).fld (Reg.LNK_CTL 4) Fld.LNK_CTL_EN = 0 ∧ bits (({} : State).merged (Reg.LNK_CTL 4) (0x2800#32).toNat) 12 2 ≠ 3 ∧ bits (({} : State).merged (Reg.LNK_CTL 4) (0x2800#32).toNat) 10 2 ≤ bits (({} : State).merged (Reg.LNK_CTL 4) (0x2800#32).toNat) 12 2 ∧ bitAt (0x2800#32).toNat 31 = false :=
  by decide +kernel
theorem test_meets_AccessOutsideTheRowRange :
    acc0.k < 16 ∧ acc0.ctx < 4 ∧ (sCtx true).inRows acc0.k acc0.ctx acc0.row = false ∧ (sCtx true).ctxRun acc0.k acc0.ctx ≠ 0 ∧ (sCtx true).fld (Reg.CORE_FLTINFO acc0.k acc0.ctx) Fld.CORE_FLTINFO_VALID = 0 :=
  by decide +kernel
theorem test_meets_SingleBitErrorRead :
    acc0.k < 16 ∧ (sEcc.shelfRow acc0.k acc0.row).poison = false ∧ (sEcc.shelfRow acc0.k acc0.row).ecc = 1 :=
  by decide +kernel
theorem test_meets_ContextStart :
    (3 < 16 ∧ 1 < 4) ∧ ((sCtx true).startCtx 3 1).ownsCtr 3 1 6 = true ∧ ((sCtx true).startCtx 3 1).ownsQueue 3 1 15 = true ∧ ((sCtx true).startCtx 3 1).inRows 3 1 100 = true :=
  by decide +kernel
theorem test_meets_LowWordRead :
    isLow (RegAddr.pf ⟨0xC0003, by decide⟩).off = true ∧ (sCtx true).asleep (RegAddr.pf ⟨0xC0003, by decide⟩).off = false ∧ (sCtx true).latches = State.reset.latches ∧ (sCtx true).asleep ((RegAddr.pf ⟨0xC0003, by decide⟩).off + 4) = false :=
  by decide +kernel
theorem test_meets_P40RowRoundTrip :
    p40max.fits = true :=
  by decide +kernel
theorem test_meets_MergeOrderDoesNotMatter :
    p40max.sameKey { p40max with exp := 3 } = true ∧ p40max.sameKey { p40max with contrib := 9 } = true ∧ sameKeys p40max [{ p40max with exp := 3 }, { p40max with contrib := 9 }] = true ∧ [{ p40max with exp := 3 }, { p40max with contrib := 9 }] ≠ [] :=
  by decide +kernel
theorem test_meets_MergeOrderDoesNotMatterPerm :
    [{ p40max with exp := 3 }, { p40max with contrib := 9 }].Perm [{ p40max with contrib := 9 }, { p40max with exp := 3 }] :=
  List.Perm.swap _ _ _
theorem test_meets_RangeVerifiedRowsAreExact :
    isContribution p40one = true ∧ [{ p40one with exp := 15, top := 15 }].all isContribution = true ∧ sameKeys p40one [{ p40one with exp := 15, top := 15 }] = true ∧ ([{ p40one with exp := 15, top := 15 }].foldl P40.merge p40one).verified = true :=
  by decide +kernel
theorem test_meets_Bf16Conversion :
    16256 < 65536 ∧ bf16Rat 16256 = some 1 ∧ (roundTo fmtBF16 257 (-8)).osat = false ∧ (roundTo fmtBF16 257 (-8)).code = 16256 :=
  by decide +kernel
theorem test_meets_Bf16ConversionSaturates :
    (roundTo fmtBF16 (-511) 119).osat = true :=
  by decide +kernel
theorem test_meets_NegativeZero :
    fmtE4M3 ∈ [fmtE2M1, fmtE4M3, fmtBF16] ∧ (0 : Int) = 0 :=
  by decide +kernel
theorem test_meets_SamplerChoosesByTheRanking :
    smp0.temp = 0 ∧ (∀ c ∈ [0x3F80, 0x4000, 0x4000], (bf16Rat c).isSome = true) ∧ [0x3F80, 0x4000, 0x4000] ≠ [] ∧ [(1, 600000), (0, 300000), (2, 300000)] ≠ [] :=
  by decide +kernel
theorem test_meets_RefusedRequest :
    { sRgn with core := sLive.core }.reqAllowed { hreq true with part := 5 } = false ∧ ({ sRgn with core := sLive.core }.queue 3 4).any (fun d => d.started && d.id == 7) = true :=
  by decide +kernel
theorem test_meets_CommittedEntry :
    sKv.leads 2 = true ∧ sKv.failed = false :=
  by decide +kernel
theorem test_meets_CommittedEntryBlocks :
    1 < (PlanEnt.blocks { ctx := 9, kind := 2, last := true, pos := 3, token := 5, ntok := 2, adp := 0, blocks := [0x80010000, 0x80020000] }).length :=
  by decide +kernel

end Sys2Proof.Tests
end

section
set_option Elab.async false

/-! ### The state after reset, register writes and counter reads -/

namespace Sys2Proof

namespace Machine

/-! #### Register rows at reset -/

/-- A register whose row has the reset value 0 reads 0 after reset. -/
theorem State.rd_reset_of_rows {a : Nat} (hs : resetSpecial a = none) (h : ∀ r ∈ rowsAt a, r.hit a = true → r.reset = 0) :
    State.reset.rd a = 0 := by
  show (resetWord a).toNat = 0
  unfold resetWord
  rw [hs]
  cases hr : regRow a with
  | none => rfl
  | some r =>
    have h0 := h r (List.mem_of_find?_eq_some hr) (List.find?_some (p := fun r : RegRow => r.hit a) hr)
    simp [h0]

theorem resetSpecial_core {a : Nat} (h1 : 0x1000000 ≤ a) (h2 : a < 0x2000000) : resetSpecial a = none := by
  unfold resetSpecial
  iterate 9 rw [if_neg (by omega)]

theorem rowsAt_tile {a : Nat} (h1 : 0x1000000 ≤ a) (h2 : a < 0x2000000) (h3 : 0x80000 ≤ a % 0x100000) : rowsAt a = rowsTILE := by
  unfold rowsAt
  iterate 18 rw [if_neg (by omega)]
  rw [if_pos ⟨h1, h2⟩]
  dsimp only
  iterate 5 rw [if_neg (by omega)]

/-- The registers of a tile repeat at a stride of 0x200. -/
theorem RegRow.mod_of_hit {r : RegRow} {a : Nat} (hs : r.strides = [(0x100000, 16), (0x200, 1024)]) (h : r.hit a = true) :
    a % 0x200 = r.base % 0x200 := by
  simp only [RegRow.hit, hs, stridesHit, Bool.and_eq_true, decide_eq_true_eq, beq_iff_eq] at h
  omega

theorem State.tileState_reset {k t : Nat} (hk : k < 16) (ht : t < 1024) : State.reset.tileState k t = 0 := by
  have ha : Reg.TILE_STAT k t = 0x1080004 + k * 0x100000 + t * 0x200 := rfl
  have hrows : ∀ r ∈ rowsTILE, r.reset ≠ 0 → r.strides = [(0x100000, 16), (0x200, 1024)] ∧ r.base % 0x200 ≠ 4 := by decide
  have h0 : State.reset.rd (Reg.TILE_STAT k t) = 0 := by
    refine State.rd_reset_of_rows (resetSpecial_core (by omega) (by omega)) ?_
    rw [rowsAt_tile (by omega) (by omega) (by omega)]
    refine fun r hr hit => by_contra fun hne => ?_
    obtain ⟨hs, hb⟩ := hrows r hr hne
    have hmod := RegRow.mod_of_hit hs hit
    omega
  rw [State.tileState, State.fld, h0, bits_zero]

/-! #### The words of a 64-bit counter (R18) -/

theorem isHigh_of_isLow {a : Nat} (h : isLow a = true) : isHigh (a + 4) = true := by simp [isHigh, h]

/-- The high word of a 64-bit counter reads what is latched for it. -/
theorem State.view_high {s : State} {a : Nat} (hs : s.asleep a = false) (hh : isHigh a = true) :
    s.view a = (SMap.get (fun _ => (0 : Word)) s.latches a).toNat := by
  simp [State.view, hs, hh]

theorem State.readLow_of_isLow {s : State} {a : Nat} (hs : s.asleep a = false) (h : isLow a = true) :
    s.readLow a = { s with
      latches := SMap.set (fun _ => (0 : Word)) s.latches (a + 4) (BitVec.ofNat 32 (s.rd (a + 4)))
      host := { s.host with readData := s.rd a } } := by
  simp [State.readLow, hs, h]

/-! #### The bits of a masked write (R15, R16) -/

theorem bitAt_eq_testBit (x i : Nat) : bitAt x i = x.testBit i := by
  rw [bitAt, Nat.testBit_eq_decide_div_mod_eq, beq_eq_decide]

/-- The complement of a mask in 32 bits. -/
theorem testBit_not32 {i : Nat} (hi : i < 32) (m : Nat) : (0xFFFFFFFF ^^^ m).testBit i = !m.testBit i := by
  have h1 : (0xFFFFFFFF : Nat).testBit i = true := by
    rw [show (0xFFFFFFFF : Nat) = 2 ^ 32 - 1 from rfl, Nat.testBit_two_pow_sub_one]
    exact decide_eq_true hi
  rw [Nat.testBit_xor, h1, Bool.true_xor]

theorem State.testBit_merged (s : State) (a v : Nat) {i : Nat} (hi : i < 32) :
    (s.merged a v).testBit i = if (s.openMask a).testBit i then v.testBit i else (s.rd a).testBit i := by
  rw [State.merged, Nat.testBit_or, Nat.testBit_and, Nat.testBit_and, testBit_not32 hi]
  cases (s.openMask a).testBit i
  · simp
  · simp

/-- One bit of a masked write, by the bits of the masks: the formula of the write and the order in which the access codes decide. -/
theorem accessCode_bit : ∀ w1s w1c rw v old : Bool, ((if rw then v else old) && !(v && w1c) || (v && w1s)) =
    if w1s && v then true else if w1c && v then false else if rw then v else old := by decide

theorem State.writeMasked_of_row {a : Nat} {r : RegRow} (hr : regRow a = some r) (s : State) (v : Nat) :
    s.writeMasked a v = s.wr a ((s.merged a v &&& (0xFFFFFFFF ^^^ (v &&& r.w1c))) ||| (v &&& r.w1s)) := by
  simp [State.writeMasked, hr]

end Machine

open Machine

/-- Settles O37: with no command waiting a step is the first branch of its definition. -/
theorem idleStepChangesNothing : Obligations.IdleStepChangesNothing := by
  intro s hs
  rw [Machine.step, hs]

/-- Settles O39: the stores of the reset state are empty lists, so every register reads its reset value and every latch 0. -/
theorem stateAfterReset : Obligations.StateAfterReset := by
  have hhigh : ∀ a, isHigh a = true → State.reset.asleep a = false → State.reset.view a = 0 := fun a hh hs => by
    rw [State.view_high hs hh]
    rfl
  exact ⟨⟨rfl, rfl, rfl, rfl⟩, rfl, fun _ => rfl, by decide, by decide, by decide, by decide, by decide,
    fun _ hk _ ht => State.tileState_reset hk ht, by decide, by decide, hhigh⟩

/-- Settles O50: the read of the low word writes the latch that a view of the high word reads. -/
theorem lowWordRead : Obligations.LowWordRead := by
  constructor
  · intro s r hlow hs
    refine ⟨_, congrArg Host.Outcome.next (State.readLow_of_isLow hs hlow), rfl, fun _ _ => rfl, fun u hu hu' => ?_⟩
    rw [State.view_high hu' (isHigh_of_isLow hlow), hu, SMap.get_set_same, BitVec.toNat_ofNat, Nat.mod_eq_of_lt (s.rd_lt _)]
  · intro u r hlow hu hu'
    rw [State.view_high hu' (isHigh_of_isLow hlow), hu]
    rfl

/-- Settles O43: each bit of the word that a masked write writes, by the bits of the register's masks. -/
theorem writeByAccessCodes : Obligations.WriteByAccessCodes := by
  intro s a v i r hr hi
  rw [State.writeMasked_of_row hr]
  refine ⟨?_, fun b hb => State.rd_wr_ne hb.symm s _⟩
  simp only [bitAt_eq_testBit]
  rw [State.rd_wr_mod, Nat.testBit_mod_two_pow, decide_eq_true hi, Bool.true_and, Nat.testBit_or, Nat.testBit_and, testBit_not32 hi,
    Nat.testBit_and, Nat.testBit_and, s.testBit_merged a v hi]
  exact accessCode_bit ..

/-- Refutes O1: the clause of LOG_CTL names no condition on the word that the register holds. In a state whose LOG_CTL has its reserved
bit 5 set, a write of 0 (MINSEV 0 is legal) keeps that bit (R15): LOG_CTL reads 0x20, and not the five low bits of the value written. -/
theorem not_registerCommandsComplete : ¬ Obligations.RegisterCommandsComplete := by
  rintro ⟨h, -⟩
  obtain ⟨t, ht, hrd, -⟩ := h (State.reset.wr Reg.LOG_CTL 0x20) 0 (by decide)
  obtain rfl : (State.reset.wr Reg.LOG_CTL 0x20).writeReg Reg.LOG_CTL 0 = t := Host.Outcome.next.inj ht
  have hkept : ((State.reset.wr Reg.LOG_CTL 0x20).writeReg Reg.LOG_CTL 0).rd Reg.LOG_CTL = 0x20 := by decide
  exact absurd (hkept.symm.trans hrd) (by decide)

end Sys2Proof
end

section
set_option Elab.async false

/-! ### What every step keeps -/

namespace Sys2Proof

/-- Entries of a store in canonical form may be changed or left out one by one, when no key changes and no entry that stays
becomes what an unlisted key reads as. -/
theorem SMap.wf_filterMap {α : Type} [DecidableEq α] (d : Nat → α) {f : Nat × α → Option (Nat × α)}
    (hf : ∀ e e', f e = some e' → e'.1 = e.1 ∧ (e.2 ≠ d e.1 → e'.2 ≠ d e'.1))
    {m : SMap α} (h : SMap.wf d m = true) : SMap.wf d (m.filterMap f) = true := by
  induction m with
  | nil => rfl
  | cons e m ih =>
    obtain ⟨hne, ha, hm⟩ := (SMap.wf_cons d e.1 e.2 m).1 h
    cases he : f e with
    | none => rw [List.filterMap_cons_none he]; exact ih hm
    | some e' =>
      rw [List.filterMap_cons_some he]
      refine (SMap.wf_cons d e'.1 e'.2 _).2 ⟨(hf e e' he).2 hne, (SMap.above_iff _ _).2 fun x hx => ?_, ih hm⟩
      obtain ⟨y, hy, hyx⟩ := List.mem_filterMap.1 hx
      rw [(hf e e' he).1, (hf y x hyx).1]
      exact (SMap.above_iff e.1 m).1 ha y hy

namespace Machine

/-! ### What every command keeps

A command takes the state through the functions of the blocks, and each of them keeps what `Kept` names: it is enough to show this once
for the few functions that write a store with an address, the staging queue or the queue of commands, and to follow it through the rest.
The rule for a function has the function's name, so that the proof for a chain of calls is the chain of their rules; a proof about a body
with intermediate states names them `s1`, `s2` and so on. An update of other parts of the state is `Kept.upd`. -/

/-- What every command keeps of a state `o` in the states `s` on its way: the stores with an address stay in canonical form, the
staging queue stays at 64 entries or fewer, and the queue of commands stays as it is. -/
structure Kept (o s : State) : Prop where
  regsWf : SMap.wf resetWord o.regs = true → SMap.wf resetWord s.regs = true
  shelfWf : SMap.wf (fun _ => ({} : ShelfRow)) o.core.shelf = true → SMap.wf (fun _ => ({} : ShelfRow)) s.core.shelf = true
  memWf : SMap.wf (fun _ => (0 : Granule)) o.hbm.mem = true → SMap.wf (fun _ => (0 : Granule)) s.hbm.mem = true
  cellsWf : SMap.wf cellDefault o.core.cells = true → SMap.wf cellDefault s.core.cells = true
  staged : o.log.queue.length ≤ 64 → s.log.queue.length ≤ 64
  queued : s.pending = o.pending

/-- The state of the result of an access of a shelf row. -/
def AccRes.state : AccRes → State
  | .ok s _ _ => s
  | .blocked s => s
  | .refused s => s
/-- The state of the result of one step of a unit. -/
def UnitRes.state : UnitRes → State
  | .go s _ => s
  | .stop s _ => s
  | .fin s => s
/-- The state of the result of a row's delivery. -/
def Landed.state : Landed → State
  | .written s => s
  | .waits s => s

/-- A command answers a next state, which has kept what `Kept` names. -/
def Answers (o : State) (r : Host.Outcome State Fault Refusal) : Prop := ∃ t, r = .next t ∧ Kept o t

variable {o s t : State}

theorem Answers.ite {c : Prop} [Decidable c] {r r' : Host.Outcome State Fault Refusal} (h : Answers o r) (g : Answers o r') :
    Answers o (if c then r else r') := by
  split
  · exact h
  · exact g

namespace Kept

theorem refl (s : State) : Kept s s := ⟨id, id, id, id, id, rfl⟩

/-- An update of other parts of the state, among them parts of the blocks that hold a store or the staging queue. -/
theorem upd (h : Kept o s) {latches core mesh hbm srv lnk wts boot clk pwr thm log sec mgmt host free}
    (e : (core.shelf, core.cells, hbm.mem, log.queue) = (s.core.shelf, s.core.cells, s.hbm.mem, s.log.queue) := by rfl) :
    Kept o ⟨s.regs, latches, core, mesh, hbm, srv, lnk, wts, boot, clk, pwr, thm, log, sec, mgmt, host, free, s.pending⟩ := by
  simp only [Prod.mk.injEq] at e
  obtain ⟨e1, e2, e3, e4⟩ := e
  exact ⟨h.regsWf, e1 ▸ h.shelfWf, e3 ▸ h.memWf, e2 ▸ h.cellsWf, e4 ▸ h.staged, h.queued⟩

theorem next (h : Kept o s) : Answers o (.next s) := ⟨s, rfl, h⟩

/-! #### Conditions and loops -/

theorem ite {c : Prop} [Decidable c] (h : Kept o s) (g : Kept o t) : Kept o (if c then s else t) := by
  split
  · exact h
  · exact g

theorem when (h : Kept o s) {c f} (hf : ∀ s, Kept o s → Kept o (f s)) : Kept o (s.when c f) := (hf s h).ite h

theorem getD (h : Kept o s) {x : Option State} (hx : ∀ t, x = some t → Kept o t) : Kept o (x.getD s) := by
  cases x with
  | none => exact h
  | some t => exact hx t rfl

/-- A loop whose accumulator holds the state. -/
theorem foldl {α β : Type} (g : β → State) {f : β → α → β} (hf : ∀ b x, Kept o (g b) → Kept o (g (f b x))) {l : List α} {b : β}
    (h : Kept o (g b)) : Kept o (g (l.foldl f b)) := by
  induction l generalizing b with
  | nil => exact h
  | cons x l ih => exact ih (hf b x h)

theorem forEach (h : Kept o s) {α : Type} {l : List α} {f} (hf : ∀ s x, Kept o s → Kept o (f s x)) : Kept o (s.forEach l f) :=
  foldl id hf h

theorem accIte {c : Prop} [Decidable c] {r r' : AccRes} (h : Kept o r.state) (g : Kept o r'.state) : Kept o (if c then r else r').state := by
  split
  · exact h
  · exact g

/-! #### The writers of the stores with an address -/

theorem wr (h : Kept o s) {a v} : Kept o (s.wr a v) := { h with regsWf := fun w => SMap.wf_set _ _ _ (h.regsWf w) }
theorem resetReg (h : Kept o s) {a} : Kept o (s.resetReg a) := { h with regsWf := fun w => SMap.wf_del _ _ (h.regsWf w) }
theorem resetRange (h : Kept o s) {lo hi} : Kept o (s.resetRange lo hi) := { h with regsWf := fun w => SMap.wf_filter _ _ (h.regsWf w) }

theorem keepRegs (h : Kept o s) {m} : Kept o (s.keepRegs m) := by
  refine { h with regsWf := fun w => SMap.wf_filterMap _ (fun e e' he => ?_) (h.regsWf w) }
  dsimp only at he
  split at he
  · simp at he
  · next hne =>
    obtain rfl := Option.some.inj he
    exact ⟨rfl, fun _ => hne⟩

theorem setGran (h : Kept o s) {g v poison} : Kept o (s.setGran g v poison) :=
  { h with memWf := fun w => SMap.wf_set _ _ _ (h.memWf w) }

theorem setShelfRow (h : Kept o s) {k r x} : Kept o (s.setShelfRow k r x) :=
  { h with shelfWf := fun w => SMap.wf_set _ _ _ (h.shelfWf w) }

theorem setPair (h : Kept o s) {key pc r lv} : Kept o (s.setPair key pc r lv) :=
  { h with cellsWf := fun w => SMap.wf_set _ _ _ (h.cellsWf w) }

theorem emptyTags (h : Kept o s) {k n} : Kept o (s.emptyTags k n) := by
  refine { h with shelfWf := fun w => SMap.wf_filterMap _ (fun e e' he => ?_) (h.shelfWf w) }
  dsimp only at he
  split_ifs at he with _ hne
  · obtain rfl := Option.some.inj he
    exact ⟨rfl, fun _ => hne⟩
  · obtain rfl := Option.some.inj he
    exact ⟨rfl, id⟩

/-- Rows of the shelf, granules and cells may be left out. -/
theorem filterShelf (h : Kept o s) {p} : Kept o { s with core := { s.core with shelf := s.core.shelf.filter p } } :=
  { h with shelfWf := fun w => SMap.wf_filter _ _ (h.shelfWf w) }

theorem filterMem (h : Kept o s) {p} : Kept o { s with hbm := { s.hbm with mem := s.hbm.mem.filter p } } :=
  { h with memWf := fun w => SMap.wf_filter _ _ (h.memWf w) }

theorem filterCells (h : Kept o s) {p} : Kept o { s with core := { s.core with cells := s.core.cells.filter p } } :=
  { h with cellsWf := fun w => SMap.wf_filter _ _ (h.cellsWf w) }

theorem losePower (h : Kept o s) : Kept o s.losePower := { h with shelfWf := fun _ => rfl, memWf := fun _ => rfl }

/-- An update that may change the staging queue as well. -/
theorem updQueue (h : Kept o s) {latches core mesh hbm srv lnk wts boot clk pwr thm log sec mgmt host free}
    (hl : o.log.queue.length ≤ 64 → log.queue.length ≤ 64)
    (e : (core.shelf, core.cells, hbm.mem) = (s.core.shelf, s.core.cells, s.hbm.mem) := by rfl) :
    Kept o ⟨s.regs, latches, core, mesh, hbm, srv, lnk, wts, boot, clk, pwr, thm, log, sec, mgmt, host, free, s.pending⟩ := by
  simp only [Prod.mk.injEq] at e
  obtain ⟨e1, e2, e3⟩ := e
  exact ⟨h.regsWf, e1 ▸ h.shelfWf, e3 ▸ h.memWf, e2 ▸ h.cellsWf, hl, h.queued⟩

/-! #### Ops -/

theorem setF (h : Kept o s) {a f v} : Kept o (s.setF a f v) := h.wr
theorem inc (h : Kept o s) {a n} : Kept o (s.inc a n) := h.wr
theorem wr64 (h : Kept o s) {a v} : Kept o (s.wr64 a v) := h.wr.wr
theorem inc64 (h : Kept o s) {a n} : Kept o (s.inc64 a n) := h.wr64
theorem freshNat (h : Kept o s) : Kept o (s.freshNat).2 := h.upd
theorem freshInt (h : Kept o s) : Kept o (s.freshInt).2 := h.upd
theorem raisePf (h : Kept o s) {v} : Kept o (s.raisePf v) := h.ite (h.upd.ite h.upd)
theorem setVf (h : Kept o s) {p v} : Kept o (s.setVf p v) := h.upd
theorem raiseVf (h : Kept o s) {p v} : Kept o (s.raiseVf p v) := h.setVf.ite h.setVf
theorem reply (h : Kept o s) {r} : Kept o (s.reply r) := h.upd
theorem eventEth (h : Kept o s) {e} : Kept o (s.eventEth e) := h.ite ((h.upd.ite h).ite h.reply)
theorem eventI3c (h : Kept o s) {e} : Kept o (s.eventI3c e) := h.ite (h.upd.ite h)
theorem sensorEvent (h : Kept o s) {kind index state} : Kept o (s.sensorEvent kind index state) := h.eventEth.eventI3c
theorem takeSeq (h : Kept o s) : Kept o (s.takeSeq).2 := h.inc64
theorem qstat (h : Kept o s) : Kept o (s.qstat) := h.setF.setF

/-- A record is handed to the transports that are up (R477): its own command writes the list of what was sent alone. -/
theorem sent (h : Kept o s) {c : Prop} [Decidable c] {e m : Bool} {x y : MgmtEvent} {l : List (Sherd × Nat)} :
    Kept o (if c then s else
      let u := (s.when e fun s => s.eventEth x).when m fun s => s.eventI3c y
      if e || m then { u with log := { u.log with exported := l } } else u) := by
  have h2 := (h.when (c := e) fun _ h => h.eventEth (e := x)).when (c := m) fun _ h => h.eventI3c (e := y)
  exact h.ite (h2.upd.ite h2)

theorem suppress (h : Kept o s) {d} : Kept o (s.suppress d) := by
  unfold State.suppress
  extract_lets +onlyGivenNames s1
  have h1 : Kept o s1 := h.inc.setF
  split
  · exact h1.upd
  · exact h1.takeSeq.upd

theorem suppress_queue (s : State) (d : Sherd) : (s.suppress d).log.queue = s.log.queue := by
  unfold State.suppress
  extract_lets +onlyGivenNames s1
  split
  · rfl
  · rfl

theorem toReserved (h : Kept o s) {d} : Kept o (s.toReserved d).2 := by
  unfold State.toReserved
  split
  · exact h
  · exact h.upd

theorem toReserved_queue (s : State) (d : Sherd) : (s.toReserved d).2.log.queue = s.log.queue := by
  unfold State.toReserved
  split
  · rfl
  · rfl

theorem enqueueSherd (h : Kept o s) {d} (hq : o.log.queue.length ≤ 64 → s.log.queue.length < 64) : Kept o (s.enqueueSherd d) := by
  unfold State.enqueueSherd
  refine sent (qstat (h.updQueue fun w => ?_))
  rw [List.length_append]
  exact hq w

/-- The low-severity record to be suppressed is one of the queue. -/
theorem newestLow_lt {q : List Sherd} {i : Nat} (e : newestLow q = some i) : i < q.length := by
  have key : ∀ (l : List Nat) (r : Option Nat), (∀ j ∈ r, j < q.length) → ∀ j ∈ l.foldl (fun r i => match q[i]? with
      | some d => if d.sev ≤ 2 then some i else r
      | none => r) r, j < q.length := by
    intro l
    induction l with
    | nil => exact fun _ hr => hr
    | cons i l ih =>
      refine fun r hr => ih _ fun j hj => ?_
      rcases hd : q[i]? with _ | d
      · exact hr j (by simpa [hd] using hj)
      · have hlt := (List.getElem?_eq_some_iff.1 hd).1
        simp only [hd] at hj
        split_ifs at hj
        · exact Option.some.inj hj ▸ hlt
        · exact hr j hj
  exact key (List.range q.length) none (by simp) i e

theorem stageSherd (h : Kept o s) {d} : Kept o (s.stageSherd d) := by
  unfold State.stageSherd
  refine .ite h.toReserved.sent ?_
  extract_lets +onlyGivenNames q
  split
  · split
    · exact h.suppress
    · next hq =>
      refine h.enqueueSherd fun _ => ?_
      have : ¬ 60 ≤ s.log.queue.length := hq
      omega
  · split
    · next hq => exact h.enqueueSherd fun _ => hq
    · split
      · next i hi =>
        have hlt : i < s.log.queue.length := newestLow_lt hi
        have hlen : (s.log.queue.eraseIdx i).length + 1 = s.log.queue.length := List.length_eraseIdx_add_one hlt
        refine (h.updQueue fun w => ?_).suppress.enqueueSherd fun w => ?_
        · have := h.staged w
          show (s.log.queue.eraseIdx i).length ≤ 64
          omega
        · have := h.staged w
          rw [suppress_queue]
          show (s.log.queue.eraseIdx i).length < 64
          omega
      · exact h.suppress

theorem sherdN (h : Kept o s) {e count} : Kept o (s.sherdN e count) := h.takeSeq.stageSherd.when fun _ h => h.raisePf
theorem sherd (h : Kept o s) {e} : Kept o (s.sherd e) := h.sherdN

theorem advise (h : Kept o s) {e} : Kept o (s.advise e) := by
  unfold State.advise
  split
  · exact h.upd.sherd
  · exact h.upd.ite h.upd.sherdN

/-! #### Flags -/

theorem lput (h : Kept o s) {k l c v} : Kept o (s.lput k l c v) := by
  unfold State.lput
  split
  · exact h.wr64
  · exact h.wr

theorem arithAdvise (h : Kept o s) {k} : Kept o (s.arithAdvise k) := h.advise.ite h

theorem lraise (h : Kept o s) {k l c} : Kept o (s.lraise k l c) := by
  unfold State.lraise
  exact h.setF.when fun _ h => h.arithAdvise

theorem lcount (h : Kept o s) {k l c n} : Kept o (s.lcount k l c n) := h.lput.when fun _ h => h.lraise
theorem lthrWrite (h : Kept o s) {k l hi w} : Kept o (s.lthrWrite k l hi w) := h.wr.forEach fun _ _ h => h.when fun _ h1 => h1.lraise
theorem layerClr (h : Kept o s) {k l} : Kept o (s.layerClr k l) := h.forEach fun _ _ h => h.lput

/-! #### Ctx -/

theorem setCtx (h : Kept o s) {k n c} : Kept o (s.setCtx k n c) := h.upd
theorem setRun (h : Kept o s) {k n v} : Kept o (s.setRun k n v) := h.setF
theorem setPart (h : Kept o s) {p x} : Kept o (s.setPart p x) := h.upd
theorem addUsage (h : Kept o s) {p tread wops gran} : Kept o (s.addUsage p tread wops gran) := h.upd
theorem failStep (h : Kept o s) {p} : Kept o (s.failStep p) := h.setPart.ite h
theorem post (h : Kept o s) {t from_ to_ p arg} : Kept o (s.post t from_ to_ p arg) := h.upd

theorem takeMsg (h : Kept o s) {t from_ to_ p x} (e : s.takeMsg t from_ to_ p = some x) : Kept o x.2 := by
  unfold State.takeMsg at e
  split at e
  · obtain rfl := Option.some.inj e
    exact h.upd
  · simp at e

theorem ctxFault (h : Kept o s) {k n pc slot reason op bw} : Kept o (s.ctxFault k n pc slot reason op bw) :=
  h.ite (h.setRun.setF.ite ((h.setRun.setF.wr.forEach fun _ _ h => h.wr).forEach fun _ _ h => h.wr).sherd.post.failStep)

theorem bundleFault (h : Kept o s) {k n pc slot reason op} : Kept o (s.bundleFault k n pc slot reason op) := h.ctxFault
theorem setOp (h : Kept o s) {k u op} : Kept o (s.setOp k u op) := h.upd
theorem setEng (h : Kept o s) {k t e} : Kept o (s.setEng k t e) := h.upd
theorem setQueue (h : Kept o s) {k q l} : Kept o (s.setQueue k q l) := h.upd.setF
theorem setGroup (h : Kept o s) {k g l} : Kept o (s.setGroup k g l) := h.upd
theorem setDrift (h : Kept o s) {k t d} : Kept o (s.setDrift k t d) := h.upd
theorem setTileState (h : Kept o s) {k t v} : Kept o (s.setTileState k t v) := h.setF

/-! #### Correct -/

theorem setActs (h : Kept o s) {k t f} : Kept o (s.setActs k t f) := h.upd
theorem setShds (h : Kept o s) {k t f} : Kept o (s.setShds k t f) := h.upd
theorem countClamps (h : Kept o s) {k n} : Kept o (s.countClamps k n) := h.when fun _ h => h.setF.inc

theorem initTile (h : Kept o s) {k t} : Kept o (s.initTile k t) := by
  unfold State.initTile
  extract_lets +onlyGivenNames cal dt g c ws n s1 src s2 s3 s4
  have h1 : Kept o s1 := h.setActs.setShds
  clear_value s1
  have h2 : Kept o s2 := h1.upd
  exact h2.setDrift.countClamps.setF

theorem driftAdvise (h : Kept o s) {k t} : Kept o (s.driftAdvise k t) := h.advise

theorem driftChange (h : Kept o s) {k t f} (hf : ∀ s, Kept o s → Kept o (f s)) : Kept o (s.driftChange k t f) :=
  (hf s h).driftAdvise.ite (hf s h)

theorem commitDone (h : Kept o s) {k} : Kept o (s.commitDone k) := h.setF.setF.ite h
theorem dropArmed (h : Kept o s) {k t} : Kept o (s.dropArmed k t) := h.setDrift.commitDone.ite h

/-! #### Rings -/

theorem writeCq (h : Kept o s) {p kind status cid gen value pos} : Kept o (s.writeCq p kind status cid gen value pos) :=
  h.ite (h.setVf.when fun _ h => h.raiseVf)

theorem complete (h : Kept o s) {p cid status gen value} : Kept o (s.complete p cid status gen value) := by
  unfold State.complete
  extract_lets f
  split
  · exact h.setVf.writeCq
  · exact h

theorem setCmd (h : Kept o s) {p cid g} : Kept o (s.setCmd p cid g) := by
  unfold State.setCmd
  extract_lets f
  split
  · exact h.setVf
  · exact h

theorem ringError (h : Kept o s) {p cause} : Kept o (s.ringError p cause) := (h.setF.setF.setF.when fun _ h => h.raisePf).setVf.raiseVf

/-! #### Streams -/

theorem setKv (h : Kept o s) {c b e} : Kept o (s.setKv c b e) := h.upd
theorem slot2 (h : Kept o s) {p slot take} : Kept o (s.slot2 p slot take) := h.setVf
theorem setStream (h : Kept o s) {c x} : Kept o (s.setStream c x) := h.upd

theorem unsealed (h : Kept o s) {seq} : Kept o (s.unseal seq) := by
  unfold State.unseal
  exact h.upd

theorem freeEntry (h : Kept o s) {p c b} : Kept o (s.freeEntry p c b) := by
  unfold State.freeEntry
  split
  · exact h
  · exact ((h.when fun _ h => h.slot2).when fun _ h => h.unsealed).setKv

theorem freeKv (h : Kept o s) {c} : Kept o (s.freeKv c) := h.upd.forEach fun _ _ h => h.ite h.freeEntry
theorem pin (h : Kept o s) {p slot bank up} : Kept o (s.pin p slot bank up) := h.setF
theorem unpin (h : Kept o s) {c} : Kept o (s.unpin c) := h.pin.setStream.ite h

theorem endStream (h : Kept o s) {c status} : Kept o (s.endStream c status) :=
  h.ite (h.unpin.freeKv.setStream.ite h.unpin.freeKv.setStream.setVf.writeCq)

theorem flrStreams (h : Kept o s) {p} : Kept o (s.flrStreams p) := h.forEach fun _ _ h => h.setStream.ite h.setStream
theorem dropMove (h : Kept o s) {m} : Kept o (s.dropMove m) := h.upd
theorem freeDest (h : Kept o s) {m} : Kept o (s.freeDest m) := h.when fun _ h => (h.when fun _ h1 => h1.slot2).unsealed

theorem failMove (h : Kept o s) {m} : Kept o (s.failMove m) :=
  h.dropMove.inc.freeDest.freeEntry.ite (h.dropMove.inc.freeDest.ite h.dropMove.inc.freeDest.upd)

theorem abortMoves (h : Kept o s) {p} : Kept o (s.abortMoves p) := h.forEach fun _ _ h => h.failMove

/-! #### Fences -/

theorem eject (h : Kept o s) {node p wt} : Kept o (s.eject node p wt) := h.upd
theorem rowWritten (h : Kept o s) {node r} : Kept o (s.rowWritten node r) := h.upd.eject
theorem sink (h : Kept o s) {router node r} : Kept o (s.sink router node r) := h.inc.rowWritten
theorem setDeliv (h : Kept o s) {c l} : Kept o (s.setDeliv c l) := h.upd
theorem setParked (h : Kept o s) {c l} : Kept o (s.setParked c l) := h.upd
theorem setSlots (h : Kept o s) {c l} : Kept o (s.setSlots c l) := h.upd
theorem discardCtx (h : Kept o s) {k n} : Kept o (s.discardCtx k n) := (h.forEach fun _ _ h => h.sink).inc.setDeliv.setParked.setSlots
theorem setPRun (h : Kept o s) {p v} : Kept o (s.setPRun p v) := h.setF.setF.when fun _ h => h.setF.raiseVf
theorem dropWaiters (h : Kept o s) {k gone} : Kept o (s.dropWaiters k gone) := h.upd

theorem unsend (h : Kept o s) {k} : Kept o (s.unsend k) := by
  unfold State.unsend
  split
  · split
    · exact h.setCtx
    · exact h
  · exact h

theorem emptyCtx (h : Kept o s) {k n} : Kept o (s.emptyCtx k n) :=
  ((h.when fun _ h => h.unsend).upd.dropWaiters.forEach fun _ _ h => h.setQueue).upd.discardCtx

theorem stopCtx (h : Kept o s) {k n} : Kept o (s.stopCtx k n) := h.setRun.setCtx.emptyCtx
theorem setRoot (h : Kept o s) {p x} : Kept o (s.setRoot p x) := h.upd
theorem setRecl (h : Kept o s) {p x} : Kept o (s.setRecl p x) := h.upd

theorem endPart (h : Kept o s) {p status} : Kept o (s.endPart p status) :=
  (h.forEach fun _ _ h => h.endStream).forEach fun _ _ h => h.when fun _ h1 => h1.setF

theorem stopPart (h : Kept o s) {p} : Kept o (s.stopPart p) := (h.forEach fun _ _ h => h.stopCtx).upd.setF.setPRun.setVf.setPart
theorem pcDone (h : Kept o s) {p} : Kept o (s.pcDone p) := h.setF.raisePf.ite h
theorem finishStop (h : Kept o s) {p} : Kept o (s.finishStop p) := h.stopPart.setPart.pcDone
theorem tryStop (h : Kept o s) {p} : Kept o (s.tryStop p) := h.ite ((h.endPart.setPart.ite h).ite (h.endPart.setPart.ite h).finishStop)
theorem orderStop (h : Kept o s) {p} : Kept o (s.orderStop p) := h.ite (h.setPart.forEach fun _ _ h => h.post).tryStop
theorem stopForced (h : Kept o s) {p} : Kept o (s.stopForced p) := h.ite h.endPart.abortMoves.finishStop
theorem setPort (h : Kept o s) {i x} : Kept o (s.setPort i x) := h.upd
theorem setPortState (h : Kept o s) {i v} : Kept o (s.setPortState i v) := h.setF
theorem setCredit (h : Kept o s) {r op vc n} : Kept o (s.setCredit r op vc n) := h.upd

theorem dropPort (h : Kept o s) {i} : Kept o (s.dropPort i) := by
  unfold State.dropPort
  extract_lets x reqs s1
  have h1 : Kept o s1 := h.setPort.setCredit
  refine h1.forEach fun _ _ h2 => ?_
  split
  · exact h2.failMove.tryStop
  · exact h2

theorem disablePort (h : Kept o s) {i} : Kept o (s.disablePort i) := h.setF.dropPort.setPortState.setF

theorem partFail (h : Kept o s) {code} : Kept o (s.partFail code) := by
  unfold State.partFail
  refine .ite h ?_
  exact (((h.setF.setF.setF.forEach fun _ _ h => h.stopForced).forEach fun _ _ h => h.disablePort).forEach fun _ _ h => h.setF.raiseVf).upd.sherd

theorem loadTileFailed (h : Kept o s) {key reason} : Kept o (s.loadTileFailed key reason) := by
  unfold State.loadTileFailed
  extract_lets w inLoad
  split
  · exact h
  · exact h.upd

theorem fenceTileOnly (h : Kept o s) {k t cause report} : Kept o (s.fenceTileOnly k t cause report) := by
  unfold State.fenceTileOnly
  refine .ite h ?_
  extract_lets +onlyGivenNames readers e s1 s2 src s3 s4 s5 s6
  have h2 : Kept o s2 := h.setEng.setTileState
  have h3 : Kept o s3 := h2.upd
  have h4 : Kept o s4 := h3.dropArmed.loadTileFailed
  have h5 : Kept o s5 := h4.when fun _ h => h.forEach fun _ _ h => h.bundleFault
  have h6 : Kept o s6 := by
    unfold s6
    split
    · split
      · exact h5.setOp.ite h5
      · exact h5
    · exact h5
  exact (h6.forEach fun _ _ h => h.failStep).sherd

theorem fenceGroupOnly (h : Kept o s) {k g cause report} : Kept o (s.fenceGroupOnly k g cause report) :=
  h.ite (h.setF.upd.sherd.forEach fun _ _ h => h.fenceTileOnly)

theorem fenceCoreOnly (h : Kept o s) {k cause set sig} : Kept o (s.fenceCoreOnly k cause set sig) := by
  unfold State.fenceCoreOnly
  refine .ite h ?_
  exact ((h.setF.upd.setF.forEach fun _ _ h => h.failStep).forEach fun _ _ h => h.emptyCtx.setRun).sherd.forEach fun _ _ h => h.fenceGroupOnly

theorem fenceCore (h : Kept o s) {k cause set sig} : Kept o (s.fenceCore k cause set sig) := h.fenceCoreOnly.partFail.ite h.fenceCoreOnly
theorem fenceGroup (h : Kept o s) {k g cause} : Kept o (s.fenceGroup k g cause) := h.fenceGroupOnly.fenceCore.ite h.fenceGroupOnly
theorem fenceTile (h : Kept o s) {k t cause} : Kept o (s.fenceTile k t cause) := h.fenceTileOnly.fenceGroup.ite h.fenceTileOnly
theorem testFence (h : Kept o s) {k} : Kept o (s.testFence k) := h.forEach fun _ _ h => h.setTileState

theorem wipeCore (h : Kept o s) {k} : Kept o (s.wipeCore k) := by
  unfold State.wipeCore
  extract_lets +onlyGivenNames src s1 s2 s3
  have h1 : Kept o s1 := h.filterShelf.upd
  have h2 : Kept o s2 := h1.resetRange.resetRange
  exact h2.resetRange.resetRange.resetRange

/-! #### Shared -/

theorem setJpart (h : Kept o s) {p j} : Kept o (s.setJpart p j) := h.upd
theorem setJtile (h : Kept o s) {key p v} : Kept o (s.setJtile key p v) := h.upd
theorem writeTileCfg (h : Kept o s) {key w spares} : Kept o (s.writeTileCfg key w spares) := h.setF.upd.forEach fun _ _ h => h.wr
theorem tileReady (h : Kept o s) {key r} : Kept o (s.tileReady key r) := h.setEng.setF.setF.setTileState.initTile
theorem restoreTile (h : Kept o s) {key w r} : Kept o (s.restoreTile key w r) := h.ite h.writeTileCfg.tileReady
theorem setPload (h : Kept o s) {p v} : Kept o (s.setPload p v) := h.setF.when fun _ h => h.raisePf
theorem failLoad (h : Kept o s) {p reason} : Kept o (s.failLoad p reason) := h.upd.setJpart.setF.setPload.sherd

theorem abortLoad (h : Kept o s) {r} : Kept o (s.abortLoad r) :=
  (h.forEach fun _ _ h => (h.when fun _ h1 => h1.setTileState).when fun _ h1 => h1.setJtile).upd.failLoad

theorem abortLoads (h : Kept o s) : Kept o (s.abortLoads) := h.forEach fun _ _ h => h.abortLoad

theorem restorePart (h : Kept o s) {p} : Kept o (s.restorePart p) := by
  unfold State.restorePart
  extract_lets j
  split
  · exact h
  · refine .ite h ?_
    extract_lets ents good bad s1
    have h1 : Kept o s1 := by
      unfold s1
      refine h.forEach fun _ _ h2 => ?_
      split
      · exact h2.restoreTile
      · exact h2
    exact h1.setF.setF.setPload.ite (h1.setF.setF.forEach fun _ _ h1 => h1.setTileState).upd.setPload

theorem restoreAll (h : Kept o s) : Kept o (s.restoreAll) := h.forEach fun _ _ h => h.restorePart

theorem restoreCore (h : Kept o s) {k} : Kept o (s.restoreCore k) := by
  unfold State.restoreCore
  extract_lets s1
  have h1 : Kept o s1 := h.forEach fun _ _ h1 => h1.setTileState
  refine h1.forEach fun _ _ h2 => ?_
  extract_lets j
  split
  · exact h2
  · refine .ite h2 ?_
    refine h2.forEach fun _ _ h3 => ?_
    split
    · refine .ite h3 ?_
      split
      · exact h3.restoreTile
      · exact h3
    · exact h3

theorem programShutRec (h : Kept o s) : Kept o (s.programShutRec) := by
  unfold State.programShutRec
  split
  · exact h
  · exact h.upd.ite h.upd

theorem abandonReads (h : Kept o s) : Kept o (s.abandonReads) := h.upd

theorem abortTransfers (h : Kept o s) : Kept o (s.abortTransfers) :=
  ((h.inc.forEach fun _ _ h => h.failMove).forEach fun _ _ h => h.complete).upd.forEach fun _ _ h => h.setPort

theorem portsSleep (h : Kept o s) : Kept o (s.portsSleep) := h.forEach fun _ _ h => h.when fun _ h1 => h1.setPortState
theorem portsWake (h : Kept o s) : Kept o (s.portsWake) := h.forEach fun _ _ h => h.when fun _ h1 => h1.setPortState

theorem applyFences (h : Kept o s) : Kept o (s.applyFences) :=
  ((h.forEach fun _ _ h => h.setF.setF).forEach fun _ _ h => h.setF).forEach fun _ _ h => h.setTileState

theorem saveAndLose (h : Kept o s) : Kept o (s.saveAndLose) := by
  unfold State.saveAndLose
  exact h.losePower.keepRegs

theorem loseDomains (h : Kept o s) : Kept o (s.loseDomains) := h.losePower.keepRegs
theorem stackTrained (h : Kept o s) {m} : Kept o (s.stackTrained m) := h.freshNat.setF.setF.setF
theorem startPort (h : Kept o s) {i} : Kept o (s.startPort i) := h.dropPort.setPortState.setF.setF

theorem deepRestore (h : Kept o s) : Kept o s.deepRestore := by
  unfold State.deepRestore
  extract_lets +onlyGivenNames s1 s2 s3 src s4 s5 s6 s7 s8
  have h3 : Kept o s3 := (h.applyFences.forEach fun _ _ h => h.stackTrained).forEach fun _ _ h => h.setF
  have h4 : Kept o s4 := h3.upd
  have h7 : Kept o s7 := h4.setF.setF.forEach fun _ _ h => h.when fun _ h => h.setF
  exact h7.restoreAll.forEach fun _ _ h => h.startPort

theorem bringUp (h : Kept o s) {phase cause} : Kept o (s.bringUp phase cause) := by
  unfold State.bringUp
  extract_lets +onlyGivenNames keep c q s1 wts boot log mgmt s2
  have h1 : Kept o s1 := h.losePower.keepRegs
  have h2 : Kept o s2 := h1.updQueue fun w => by
    show (if cause = 3 then q else []).length ≤ 64
    split
    · exact h1.staged w
    · exact Nat.zero_le _
  exact h2.setF.setF

theorem stampTime (h : Kept o s) : Kept o (s.stampTime) := h.freshNat.wr
theorem bootFail (h : Kept o s) {reason} : Kept o (s.bootFail reason) := h.ite h.setF.setF.upd.stampTime

/-! #### Clock -/

theorem setQuad (h : Kept o s) {q x} : Kept o (s.setQuad q x) := h.upd
theorem clampEvent (h : Kept o s) {src} : Kept o (s.clampEvent src) := h.ite h.upd
theorem clamp (h : Kept o s) {src} : Kept o (s.clamp src) := (h.inc.setF.when fun _ h => h.raisePf).clampEvent
theorem setEff (h : Kept o s) {q v} : Kept o (s.setEff q v) := h.setF
theorem setBusy (h : Kept o s) {q v} : Kept o (s.setBusy q v) := h.setF
theorem judgeClamps (h : Kept o s) {q} : Kept o (s.judgeClamps q) := h.setQuad.forEach fun _ _ h => h.when fun _ h1 => h1.clamp

theorem startMove (h : Kept o s) {q} : Kept o (s.startMove q) :=
  h.ite (h.setBusy.setQuad.ite (h.setBusy.setQuad.upd.ite (h.setBusy.setQuad.ite h.setBusy.setQuad)))

theorem replan (h : Kept o s) {q} : Kept o (s.replan q) := h.judgeClamps.startMove
theorem replanAll (h : Kept o s) : Kept o (s.replanAll) := h.forEach fun _ _ h => h.replan
theorem raiseFailed (h : Kept o s) {q} : Kept o (s.raiseFailed q) := h.setQuad.judgeClamps.sherd
theorem opRequest (h : Kept o s) {w} : Kept o (s.opRequest w) := h.setF.ite (h.wr.forEach fun _ _ h => h.setQuad).replanAll

theorem execAvsWriteAck (h : Kept o s) {q ack} : Answers o (execAvsWriteAck q ack s) := by
  unfold Machine.execAvsWriteAck
  extract_lets x
  exact ((h.setQuad.ite (h.setQuad.ite h.raiseFailed)).ite ((h.setQuad.setBusy.replan.ite h.setQuad).ite h)).next

theorem execVoltageReadbackOk (h : Kept o s) {q} : Answers o (execVoltageReadbackOk q s) := by
  unfold Machine.execVoltageReadbackOk
  extract_lets x
  exact (h.setQuad.ite (h.setQuad.ite h.setQuad)).next

theorem execSettleElapsed (h : Kept o s) {q} : Answers o (execSettleElapsed q s) := by
  unfold Machine.execSettleElapsed
  extract_lets x
  exact (h.setQuad.ite h).next

theorem slewDone (h : Kept o s) {q} : Kept o (s.slewDone q) := h.ite (h.setQuad.setEff.setBusy.replan.ite (h.setQuad.setEff.ite h))

theorem execRaiseTimeout (h : Kept o s) {q} : Answers o (execRaiseTimeout q s) := by
  unfold Machine.execRaiseTimeout
  extract_lets x
  exact (h.raiseFailed.ite h).next

theorem execBoostLimit (h : Kept o s) {q} : Answers o (execBoostLimit q s) := by
  unfold Machine.execBoostLimit
  extract_lets x
  exact (h.setQuad.replan.ite h).next

theorem execBoostRestEnd (h : Kept o s) {q} : Answers o (execBoostRestEnd q s) := by
  unfold Machine.execBoostRestEnd
  extract_lets x
  exact (h.setQuad.replan.ite h).next

theorem roCounted (h : Kept o s) {q k} : Kept o (s.roCounted q k) := h.ite (h.setQuad.ite (h.setQuad.setBusy.replan.ite h.setQuad))
theorem startSwitch (h : Kept o s) {target loss} : Kept o (s.startSwitch target loss) := h.setF.upd
theorem requalify (h : Kept o s) {w} : Kept o (s.requalify w) := h.upd.setF.setF
theorem autoReturn (h : Kept o s) : Kept o (s.autoReturn) := h.startSwitch.ite h

theorem rackLost (h : Kept o s) : Kept o (s.rackLost) := by
  unfold State.rackLost
  split
  · exact h.setF.upd
  · exact h
  · exact h.setF.startSwitch.advise.ite h.requalify

theorem execRackRefLost (h : Kept o s) : Answers o (execRackRefLost s) := h.upd.rackLost.next

theorem execRefQualWindow (h : Kept o s) {count missing} : Answers o (execRefQualWindow count missing s) :=
  (h.ite (h.rackLost.ite (h.upd.requalify.autoReturn.ite h.upd.requalify))).next

theorem refOrder (h : Kept o s) : Kept o (s.refOrder) := h.setF.ite h.setF.startSwitch

theorem execSrefSwitchDone (h : Kept o s) {edges} : Answers o (execSrefSwitchDone edges s) := by
  refine Kept.next ?_
  split
  · exact h
  · exact h.upd.setF.setF.setF.setF.inc.requalify.setF.inc64.inc64.upd

theorem execCrystalLost (h : Kept o s) : Answers o (execCrystalLost s) := by
  unfold Machine.execCrystalLost
  extract_lets +onlyGivenNames src clk s1
  have h0 : Kept o src := h.setF
  have h1 : Kept o s1 := h0.upd
  clear_value s1
  exact (h1.when fun _ h1 => h1.sherd).next

theorem execXpllLossTimeout (h : Kept o s) : Answers o (execXpllLossTimeout s) := (h.partFail.ite h).next
theorem execClockGate (h : Kept o s) {i} : Answers o (execClockGate i s) := (h.ite h.upd).next
theorem islandSwitch (h : Kept o s) {w} : Kept o (s.islandSwitch w) := h.setF.ite (h.setF.setF.when fun _ h => h.setF.setF.upd)
theorem execIslandSwitchDone (h : Kept o s) : Answers o (execIslandSwitchDone s) := (h.ite h.setF.setF.setF.upd).next
theorem freqStart (h : Kept o s) {u w} : Kept o (s.freqStart u w) := h.setF.ite (h.setF.setF.setF.when fun _ h => h.setF.setF)
theorem execFreqMeasureDone (h : Kept o s) {u edges} : Answers o (execFreqMeasureDone u edges s) := (h.ite h.wr.setF.setF.setF).next

/-! #### Power -/

theorem execIdleEntry (h : Kept o s) {k} : Answers o (execIdleEntry k s) := (h.ite (h.upd.setF.setQuad.setEff.setBusy.ite h.upd)).next
theorem execIdleBias (h : Kept o s) {k} : Answers o (execIdleBias k s) := (h.upd.ite h).next
theorem idleExit (h : Kept o s) {k} : Kept o (s.idleExit k) := h.ite (h.upd.setF.setQuad.setEff.setBusy.replan.ite h.upd)
theorem writeNote (h : Kept o s) {reason} : Kept o (s.writeNote reason) := h.ite (h.upd.ite h.upd)
theorem judgeArmed (h : Kept o s) : Kept o (s.judgeArmed) := h.setF.setF.setF.writeNote.advise.ite h.setF.setF
theorem charger (h : Kept o s) : Kept o (s.charger) := h.setF.judgeArmed

theorem execChargeComplete (h : Kept o s) {ms} : Answers o (execChargeComplete ms s) := by
  unfold Machine.execChargeComplete
  extract_lets +onlyGivenNames src s1
  have h1 : Kept o s1 := h.upd
  clear_value s1
  refine Kept.next ?_
  split
  · exact h1.charger
  · extract_lets +onlyGivenNames ok s2 src2
    have h2 : Kept o s2 := h1.setF
    clear_value s2
    exact h2.upd.charger

theorem execBoardReadingStale (h : Kept o s) : Answers o (execBoardReadingStale s) := by
  unfold Machine.execBoardReadingStale
  extract_lets a
  exact h.setF.charger.next

theorem flushRecords (h : Kept o s) : Kept o s.flushRecords := by
  unfold State.flushRecords
  extract_lets +onlyGivenNames q s1
  have h1 : Kept o s1 := h.forEach fun _ _ h => h.upd
  refine qstat (h1.updQueue fun _ => ?_)
  exact Nat.zero_le 64

theorem powerRequest (h : Kept o s) {target} : Kept o (s.powerRequest target) := h.setF.ite (h.ite (h.setF.setF.ite h.setF.flushRecords.upd))
theorem quiesce (h : Kept o s) : Kept o (s.quiesce) := h.portsSleep.upd
theorem padsLatch (h : Kept o s) : Kept o (s.padsLatch) := h.upd.setF.judgeArmed.setF

theorem powerDownDrain (h : Kept o s) {timeout} : Kept o (s.powerDownDrain timeout) :=
  h.ite ((h.when fun _ h => h.abortTransfers).quiesce.when fun _ h => h.padsLatch)

theorem abandonEntry (h : Kept o s) : Kept o (s.abandonEntry) := (h.when fun _ h => h.setF.portsWake).upd.setF.charger
theorem wakeSrc (h : Kept o s) {src port} : Kept o (s.wakeSrc src port) := h.setF.setF
theorem leave (h : Kept o s) {src port} : Kept o (s.leave src port) := h.wakeSrc.setF.upd.portsWake.ite h.wakeSrc.setF.upd

theorem wakeEvent (h : Kept o s) {src port lost deep} : Kept o (s.wakeEvent src port lost deep) := by
  unfold State.wakeEvent
  split
  · exact h.ite h.wakeSrc.abandonEntry
  · exact h.leave
  · exact h.leave.ite h
  · exact h.wakeSrc
  · exact h

theorem execEntryCommit (h : Kept o s) : Answers o (execEntryCommit s) := by
  refine Kept.next (.ite h ?_)
  extract_lets +onlyGivenNames t src s1 s2 src2 s3 src3 s4
  have h1 : Kept o s1 := h.upd
  have h2 : Kept o s2 := h1.setF.saveAndLose
  have h3 : Kept o s3 := h1.setF.loseDomains
  have h4 : Kept o s4 := h1.setF.ite (h2.upd.ite h3.upd)
  exact .ite (h4.bringUp.ite h4.leave) h4

theorem execWake (h : Kept o s) {asserted lost} : Answers o (execWake asserted lost s) := by
  unfold Machine.execWake
  extract_lets +onlyGivenNames src s1
  have h1 : Kept o s1 := h.upd
  exact (h1.ite (h1.bringUp.ite h1.wakeEvent)).next

theorem execLinkActivityWake (h : Kept o s) {p lost} : Answers o (execLinkActivityWake p lost s) := (h.wakeEvent.ite h).next
theorem execStokePattern (h : Kept o s) {p bursts lost} : Answers o (execStokePattern p bursts lost s) := (h.wakeEvent.ite h).next
theorem execPcieWake (h : Kept o s) {lost} : Answers o (execPcieWake lost s) := (h.wakeEvent.ite h).next

theorem powerRun (h : Kept o s) : Kept o (s.powerRun) := by
  unfold State.powerRun
  split
  · exact h.leave
  · exact h.setF
  · exact h.setF
  · exact h

theorem execExitComplete (h : Kept o s) : Answers o (execExitComplete s) :=
  (h.ite (h.when fun _ h => h.deepRestore.replanAll.setF).upd.setF.charger).next

theorem padRelease (h : Kept o s) {mask} : Kept o (s.padRelease mask) := h.setF

theorem execAuxBrownout (h : Kept o s) : Answers o (execAuxBrownout s) := by
  unfold Machine.execAuxBrownout
  extract_lets +onlyGivenNames saved s1
  have h1 : Kept o s1 := h.bringUp
  extract_lets +onlyGivenNames s2
  have h2 : Kept o s2 := h1.setF.setF
  exact h2.upd.next

theorem execPowerGovernorTick (h : Kept o s) {pkg array} : Answers o (execPowerGovernorTick pkg array s) := by
  unfold Machine.execPowerGovernorTick
  extract_lets +onlyGivenNames s1
  have h1 : Kept o s1 := h.wr
  extract_lets +onlyGivenNames cap
  exact (h1.upd.setQuad.replan.ite ((h1.upd.ite h1.upd.setQuad.replan).ite h1.upd)).next

theorem execReadCreditTick (h : Kept o s) : Answers o (execReadCreditTick s) := by
  unfold Machine.execReadCreditTick
  extract_lets pool c
  exact h.upd.next

theorem startBanking (h : Kept o s) : Kept o (s.startBanking) := h.upd

theorem supplySag (h : Kept o s) : Kept o (s.supplySag) := by
  unfold State.supplySag
  extract_lets +onlyGivenNames src s1 src1 armed s2 src2 s3 src3
  have h1 : Kept o s1 := h.upd
  have h2 : Kept o s2 := h1.when fun _ h => h.abandonEntry
  have h3 : Kept o s3 := h2.when fun _ h => h.programShutRec
  exact h1.ite (h1.upd.ite (h1.upd.ite (h1.upd.ite (h2.upd.ite h3.upd.startBanking))))

theorem execBankPageDone (h : Kept o s) : Answers o (execBankPageDone s) := by
  refine Kept.next ?_
  split
  · exact h
  · exact (h.upd.ite h.upd).ite ((h.upd.ite h.upd).bringUp.ite ((h.upd.ite h.upd).upd.ite (h.upd.ite h.upd)))

theorem execPowerReturn (h : Kept o s) : Answers o (execPowerReturn s) := (h.ite ((h.bringUp.ite h).ite h.upd)).next

/-! #### Thermal -/

theorem showPeriod (h : Kept o s) {c} : Kept o (s.showPeriod c) := h.setF
theorem startEntry (h : Kept o s) {c e} : Kept o (s.startEntry c e) := h.setF.setF.upd
theorem startConverters (h : Kept o s) : Kept o (s.startConverters) := h.forEach fun _ _ h => h.startEntry.showPeriod.ite h

theorem boardReading (h : Kept o s) {ok r gain} : Kept o (s.boardReading ok r gain) :=
  h.setF.setF.setF.freshNat.setF.charger.ite h.setF.setF.setF.charger

theorem showHot (h : Kept o s) : Kept o (s.showHot) := by
  unfold State.showHot
  extract_lets +onlyGivenNames best
  cases best with
  | none => exact h
  | some b => exact h.setF.setF

theorem lowerAth (h : Kept o s) : Kept o (s.lowerAth) := h.setF
theorem setCeil (h : Kept o s) {q v} : Kept o (s.setCeil q v) := h.setF
theorem setC2 (h : Kept o s) {q b} : Kept o (s.setC2 q b) := h.setF.setF
theorem judgeCone1 (h : Kept o s) {v} : Kept o (s.judgeCone1 v) := (h.ite h.setF.setF.inc.raisePf.advise).ite (h.setF.ite h)
theorem assertCone2 (h : Kept o s) {q} : Kept o (s.assertCone2 q) := (h.setC2.setF.inc.raisePf.setCeil.when fun _ h => h.setQuad).replan.sherd

theorem judgeCone2 (h : Kept o s) {d v} : Kept o (s.judgeCone2 d v) :=
  ((h.forEach fun _ _ h => h.assertCone2).when fun _ h => h.lowerAth).forEach fun _ _ h => h.when fun _ h1 => h1.setC2

theorem trip (h : Kept o s) {d r1 r2} : Kept o (s.trip d r1 r2) :=
  ((h.upd.forEach fun _ _ h => h.stopForced).abandonReads.forEach fun _ _ h => h.setQuad.setEff.setBusy).sherd

theorem judgeCone3 (h : Kept o s) {d v} : Kept o (s.judgeCone3 d v) := by
  unfold State.judgeCone3
  refine .ite ?_ h.upd
  split
  · exact h.trip.ite h
  · exact h.upd

theorem diodeResult (h : Kept o s) {d v} : Kept o (s.diodeResult d v) := h.upd.showHot.judgeCone1.judgeCone2.judgeCone3

theorem useResult (h : Kept o s) {input gain ok v} : Kept o (s.useResult input gain ok v) :=
  h.ite (h.diodeResult.ite ((h.upd.setF.upd.charger.ite h.upd.setF).ite ((h.upd.when fun _ h => h.setF).ite h.upd)))

theorem execConversionDone (h : Kept o s) {c r} : Answers o (execConversionDone c r s) := by
  refine Kept.next ?_
  exact h.ite ((h.wr.startEntry.ite h.wr.setF).boardReading.ite (h.wr.startEntry.ite h.wr.setF).useResult)

theorem execShutdownRecordWritten (h : Kept o s) : Answers o (execShutdownRecordWritten s) :=
  (h.ite (h.programShutRec.startBanking.upd.ite h.programShutRec.upd)).next

theorem execThrottleStep (h : Kept o s) : Answers o (execThrottleStep s) := by
  unfold Machine.execThrottleStep
  extract_lets c2
  exact (h.ite (h.forEach fun _ _ h => h.setCeil.replan).lowerAth).next

theorem execReleaseStep (h : Kept o s) : Answers o (execReleaseStep s) := by
  unfold Machine.execReleaseStep
  extract_lets c2 s1
  have h1 : Kept o s1 := h.forEach fun _ _ h1 => h1.setCeil.replan
  exact (h1.setF.ite h1).next

theorem urgentConversion (h : Kept o s) {c w} : Kept o (s.urgentConversion c w) :=
  h.setF.ite ((h.when fun _ h => h.wr).ite ((h.when fun _ h => h.wr).setF.inc.ite (h.when fun _ h => h.wr).setF.setF.upd))

theorem execUrgentConversionDone (h : Kept o s) {c r} : Answers o (execUrgentConversionDone c r s) := by
  refine Kept.next ?_
  exact h.ite (h.wr.setF.setF.upd.startConverters.ite h.wr.setF.setF.upd.startConverters.useResult)

theorem writeRefen (h : Kept o s) {on} : Kept o (s.writeRefen on) := h.setF.ite (h.setF.ite h.setF.setF)
theorem execRefReady (h : Kept o s) : Answers o (execRefReady s) := (h.setF.ite h).next
theorem orderCount (h : Kept o s) {k} : Kept o (s.orderCount k) := h.ite h.upd
theorem roCommand (h : Kept o s) {w} : Kept o (s.roCommand w) := h.setF.ite (h.setF.when fun _ h => h.setF.setF.orderCount)
theorem execRoCount (h : Kept o s) {k cmd} : Answers o (execRoCount k cmd s) := (h.roCommand.ite h.orderCount).next
theorem execRoBackgroundCount (h : Kept o s) {k} : Answers o (execRoBackgroundCount k s) := (h.ite h.orderCount).next

theorem execRoCountDone (h : Kept o s) {k t0 t1 t2 t3} : Answers o (execRoCountDone k t0 t1 t2 t3 s) := by
  unfold Machine.execRoCountDone
  extract_lets x
  exact (h.ite (h.upd.setF.setF.wr.ite h.upd).roCounted).next

/-! #### Fault -/

theorem releaseHold (h : Kept o s) : Kept o (s.releaseHold) := by
  unfold State.releaseHold
  split
  · split
    · next hq => exact h.upd.enqueueSherd fun _ => Nat.lt_trans hq (by decide)
    · exact h
  · exact h

theorem drainReserved (h : Kept o s) {n} : Kept o (State.drainReserved n s) := by
  induction n generalizing s with
  | zero => exact h
  | succ n ih =>
    unfold State.drainReserved
    split
    · exact h
    · next d rest e =>
      refine .ite (ih (qstat (h.toReserved.updQueue fun w => ?_))) h
      have : (d :: rest).length ≤ 64 := by simpa [toReserved_queue, e] using (h.toReserved (d := d)).staged w
      exact Nat.le_of_succ_le this

theorem storeFail (h : Kept o s) {addr} : Kept o (s.storeFail addr) := by
  unfold State.storeFail
  refine .ite h ?_
  extract_lets +onlyGivenNames s1
  split
  next q s2 e =>
  have h2 : Kept o s2 := by
    have h1 : Kept o s1 := h.setF
    have := h1.takeSeq
    rwa [e] at this
  extract_lets +onlyGivenNames d s3 log s4
  have h3 : Kept o s3 := h2.sent.raisePf
  have h4 : Kept o s4 := by
    refine h3.toReserved.ite ?_
    split
    · exact h3.suppress
    · next hq =>
      refine qstat (h3.updQueue fun _ => ?_)
      show (s3.log.queue ++ [d]).length ≤ 64
      rw [List.length_append]
      exact Nat.succ_le_of_lt (Nat.lt_of_lt_of_le (Nat.lt_of_not_le hq) (by decide))
  exact h4.drainReserved

theorem execLogWriteDone (h : Kept o s) {r} : Answers o (execLogWriteDone r s) := by
  refine Kept.next ?_
  split
  · exact h.storeFail
  · exact h.storeFail.ite h.upd
  · split
    · exact h
    · next d rest e =>
      refine .ite h (.ite h.setF ?_)
      extract_lets +onlyGivenNames s1 l s2
      have h1 : Kept o s1 := h.setF
      have h2 : Kept o s2 := h1.updQueue fun w => by
        have : (d :: rest).length ≤ 64 := e ▸ h.staged w
        exact Nat.le_of_succ_le this
      exact h2.qstat.releaseHold

theorem execLogWindowFallback (h : Kept o s) {i} : Answers o (execLogWindowFallback i s) := by
  refine Kept.next ?_
  split
  · refine .ite (releaseHold (qstat (h.toReserved.updQueue fun w => ?_))) h
    exact (List.length_eraseIdx_le ..).trans (h.toReserved.staged w)
  · exact h

theorem execLogSectorEraseDone (h : Kept o s) : Answers o (execLogSectorEraseDone s) := (h.ite (h.upd.drainReserved.releaseHold.ite h.upd)).next

theorem execParityError (h : Kept o s) {u} : Answers o (execParityError u s) := by
  refine Kept.next ?_
  split
  · exact h.sherd.fenceCore
  · exact h.sherd.fenceGroup
  · exact h.sherd.partFail
  · exact h.sherd.partFail

theorem fenceOrder (h : Kept o s) {kind k i} : Kept o (s.fenceOrder kind k i) := by
  unfold State.fenceOrder
  split
  · exact h.fenceTile
  · exact h.fenceGroup.ite h.setF
  · exact h.fenceCore.ite h.setF
  · exact h.setF

theorem fenceClear (h : Kept o s) {kind k i} : Kept o (s.fenceClear kind k i) := by
  unfold State.fenceClear
  extract_lets +onlyGivenNames s1
  have h1 : Kept o s1 := h.setF
  extract_lets +onlyGivenNames free
  split
  · exact h1.ite h.upd
  · exact h1.ite h.upd.setF
  · exact h1

theorem startRound (h : Kept o s) : Kept o (s.startRound) := h.upd

theorem testStart (h : Kept o s) {cores boot} : Kept o (s.testStart cores boot) :=
  h.setF.setF.setF.sherd.ite (h.setF.setF.setF.setF.forEach fun _ _ h => h.testFence).upd.startRound

theorem testCommand (h : Kept o s) {w} : Kept o (s.testCommand w) := h.setF.ite (h.setF.ite h.setF.setF.testStart)

theorem endCoreTest (h : Kept o s) {k obs} : Kept o (s.endCoreTest k obs) := by
  unfold State.endCoreTest
  extract_lets +onlyGivenNames sets s1 src s2 s3
  have h1 : Kept o s1 := h.wipeCore
  have h2 : Kept o s2 := h1.upd
  have h3 : Kept o s3 := h2.setF
  split
  · extract_lets +onlyGivenNames src1 log s4
    have h0 : Kept o src1 := h3.setF
    have h4 : Kept o s4 := .ite h0.upd h3
    exact h4.ite h4.restoreCore
  · exact h3.setF.fenceCore

theorem execTestRoundDone (h : Kept o s) {obs} : Answers o (execTestRoundDone obs s) := by
  refine Kept.next (.ite h ?_)
  extract_lets +onlyGivenNames r s1 bad s2 s3 src s4 fp src2 s5
  have h1 : Kept o s1 := h.forEach fun _ _ h => h.endCoreTest
  have h3 : Kept o s3 := h1.setF.setF.setF
  have h4 : Kept o s4 := h3.upd
  have h5 : Kept o s5 := h4.upd
  exact h1.startRound.ite (.ite (h5.bootFail.ite h5.setF) h4)

theorem execFwWatchdogExpiry (h : Kept o s) : Answers o (execFwWatchdogExpiry s) := h.upd.sherd.next

theorem execManagementRestartDone (h : Kept o s) : Answers o (execManagementRestartDone s) := by
  unfold Machine.execManagementRestartDone
  extract_lets +onlyGivenNames ev src s1
  have h1 : Kept o s1 := h.upd
  exact (h1.forEach fun _ _ h1 => h1.reply).next

/-! #### Security -/

theorem setSec (h : Kept o s) {v} : Kept o (s.setSec v) := h.setF
theorem secResult (h : Kept o s) {v} : Kept o (s.secResult v) := h.setF
theorem zeroise (h : Kept o s) : Kept o (s.zeroise) := h.upd.setF.setF.abortLoads.forEach fun _ _ h => h.when fun _ h1 => h1.setF
theorem hardError (h : Kept o s) {test} : Kept o (s.hardError test) := h.setF.zeroise.setSec.sherd.partFail

theorem secCommand (h : Kept o s) {states f} (hf : ∀ s, Kept o s → Kept o (f s)) : Kept o (s.secCommand states f) :=
  h.setF.ite (h.secResult.ite (hf s h))

theorem knownAnswer (h : Kept o s) {ok} : Kept o (s.knownAnswer ok) := h.ite h.hardError
theorem secSelftest (h : Kept o s) {ok} : Kept o (s.secSelftest ok) := h.secCommand fun _ h => h.secResult.ite h.secResult.hardError
theorem loadMk (h : Kept o s) {unwrapOk} : Kept o (s.loadMk unwrapOk) := h.secCommand fun _ h => h.secResult.ite (h.secResult.ite h.upd.secResult)
theorem dropMk (h : Kept o s) : Kept o (s.dropMk) := h.secCommand fun _ h => h.secResult.ite h.upd.secResult
theorem setLink (h : Kept o s) {unwrapOk} : Kept o (s.setLink unwrapOk) := h.secCommand fun _ h => h.secResult.ite h.upd.secResult
theorem dropLink (h : Kept o s) : Kept o (s.dropLink) := h.secCommand fun _ h => h.secResult.ite h.upd.secResult
theorem svnRaise (h : Kept o s) : Kept o (s.svnRaise) := h.secCommand fun _ h => h.secResult.ite h.upd.wr.secResult

theorem zeroiseCmd (h : Kept o s) {session} : Kept o (s.zeroiseCmd session) :=
  h.secCommand fun _ h => h.secResult.ite (h.zeroise.setSec.forEach fun _ _ h1 => h1.stopForced).secResult

theorem dbgChal (h : Kept o s) : Kept o (s.dbgChal) :=
  h.secCommand fun _ h => h.secResult.ite (h.forEach fun _ _ h1 => h1.freshNat.wr).upd.secResult

theorem dbgResp (h : Kept o s) {keyOk sigOk} : Kept o (s.dbgResp keyOk sigOk) := by
  unfold State.dbgResp
  refine h.secCommand fun _ h1 => ?_
  refine .ite h1.secResult ?_
  exact h1.upd.secResult.ite (h1.upd.forEach fun _ _ h1 => h1.stopForced).zeroise.setSec.setF.secResult.advise

theorem execSetfwk (h : Kept o s) {session} : Answers o (execSetfwk session s) :=
  (h.secCommand fun _ h => h.secResult.ite h.setF.upd.secResult).next

theorem execRevoke (h : Kept o s) {session slot} : Answers o (execRevoke session slot s) :=
  (h.secCommand fun _ h => h.secResult.ite h.upd.secResult).next

theorem execPsikusterSelftestPass (h : Kept o s) {fail} : Answers o (execPsikusterSelftestPass fail s) := by
  refine Kept.next ?_
  refine .ite h ?_
  split
  · exact h.setF.upd.hardError.bootFail
  · exact h.upd.setSec.setF.setF.wr

theorem execTamperCheck (h : Kept o s) {opened} : Answers o (execTamperCheck opened s) := (h.setF.hardError.ite h).next
theorem execPeriodicSelftest (h : Kept o s) {ok} : Answers o (execPeriodicSelftest ok s) := (h.knownAnswer.ite h).next

theorem execEntropyTestFail (h : Kept o s) {test} : Answers o (execEntropyTestFail test s) :=
  ((h.setF.setF.hardError.ite h.setF.setF.setSec).ite h).next

theorem execEntropyRestartPass (h : Kept o s) : Answers o (execEntropyRestartPass s) := (h.setSec.ite h).next
theorem applyTenants (h : Kept o s) {lock ents} : Kept o (s.applyTenants lock ents) := (h.when fun _ h => h.setF).upd.inc

/-! #### Mgmt -/

theorem statusMessage (h : Kept o s) {seq} : Kept o (s.statusMessage seq) := h.freshNat.reply

theorem popReq (h : Kept o s) {c x} (e : s.popReq c = some x) : Kept o x.2 := by
  unfold State.popReq at e
  split at e
  · obtain rfl := Option.some.inj e
    exact h
  · split at e
    · obtain rfl := Option.some.inj e
      exact h.upd
    · simp at e

theorem request (h : Kept o s) {c sess name a early f}
    (hf : ∀ {answer s}, (∀ {x d s}, Kept o s → Kept o (answer x d s)) → Kept o s → Kept o (f s answer)) :
    Kept o (s.request c sess name a early f) := by
  unfold State.request
  refine .ite h ?_
  split
  · exact h
  · next q s1 e =>
    have h1 := h.popReq e
    extract_lets +onlyGivenNames answer
    exact h1.reply.ite (h1.reply.ite (hf (fun h => h.reply) h1))

theorem report (h : Kept o s) {c sess name a d} : Kept o (s.report c sess name a d) := h.request fun ha h => ha h
theorem execMgmtDatagram (h : Kept o s) {d} : Answers o (execMgmtDatagram d s) := (h.ite (h.statusMessage.ite (h.ite h.upd))).next
theorem execGetstatus (h : Kept o s) : Answers o (execGetstatus s) := (h.ite h.reply).next
theorem execSetdasa (h : Kept o s) {static dyn} : Answers o (execSetdasa static dyn s) := (h.upd.ite h).next
theorem execEntdaa (h : Kept o s) {dyn} : Answers o (execEntdaa dyn s) := (h.upd.ite h).next

theorem execSetEndpointId (h : Kept o s) {c eid} : Answers o (execSetEndpointId c eid s) := by
  refine Kept.next (h.request fun ha h => ?_)
  refine ha ?_
  cases c with
  | eth => exact h.upd
  | i3c => exact h.upd

theorem execSettid (h : Kept o s) {c sess tid} : Answers o (execSettid c sess tid s) := (h.request fun ha h => ha h.upd).next

theorem execGetpldmversion (h : Kept o s) {c sess type} : Answers o (execGetpldmversion c sess type s) :=
  (h.request fun ha h => (ha h).ite (ha h)).next

theorem execGetpldmcommands (h : Kept o s) {c sess type} : Answers o (execGetpldmcommands c sess type s) := by
  refine Kept.next ?_
  refine h.request fun ha h1 => ?_
  split
  · exact ha h1
  · exact ha h1

theorem execGetpdr (h : Kept o s) {c sess rec} : Answers o (execGetpdr c sess rec s) := (h.request fun ha h => (ha h).ite (ha h)).next

theorem execGetsensorreading (h : Kept o s) {c sess x} : Answers o (execGetsensorreading c sess x s) := by
  refine Kept.next ?_
  refine h.request fun ha h1 => ?_
  split
  · exact ha h1
  · exact ha h1

theorem execSeteventreceiver (h : Kept o s) {c sess on} : Answers o (execSeteventreceiver c sess on s) := by
  refine Kept.next (h.request fun ha h => ?_)
  refine ha ?_
  cases c with
  | eth => exact h.upd
  | i3c => exact h.upd

theorem execPollforplatformeventmessage (h : Kept o s) {c sess} : Answers o (execPollforplatformeventmessage c sess s) := by
  refine Kept.next ?_
  refine h.request fun ha h1 => ?_
  split
  · exact ha h1.upd
  · exact ha h1

theorem execQuerydeviceidentifiers (h : Kept o s) {c sess} : Answers o (execQuerydeviceidentifiers c sess s) := (h.request fun ha h => ha h).next
theorem execGetfirmwareparameters (h : Kept o s) {c sess} : Answers o (execGetfirmwareparameters c sess s) := (h.request fun ha h => ha h).next

theorem execRequestupdate (h : Kept o s) {c sess} : Answers o (execRequestupdate c sess s) := by
  refine Kept.next ?_
  refine h.request fun ha h1 => ?_
  split
  · exact ha h1
  · exact ha h1.upd

theorem execPasscomponenttable (h : Kept o s) {c sess} : Answers o (execPasscomponenttable c sess s) := by
  refine Kept.next ?_
  refine h.request fun ha h1 => ?_
  split
  · exact ha h1.upd
  · exact ha h1

theorem execUpdatecomponent (h : Kept o s) {c sess comp size} : Answers o (execUpdatecomponent c sess comp size s) := by
  refine Kept.next ?_
  refine h.request fun ha h1 => ?_
  extract_lets n
  split
  · exact ha h1
  · exact (ha h1).ite (ha h1.upd).reply

theorem writeComponent (h : Kept o s) {comp x} : Kept o (s.writeComponent comp x).2 := by
  unfold State.writeComponent
  split
  · split_ifs
    · exact h.upd
    · exact h.upd
    · exact h
  · extract_lets +onlyGivenNames ok
    split_ifs
    · exact h.upd
    · exact h.upd
    · exact h
  · split_ifs
    · exact h.upd
    · exact h

theorem execFirmwareDataReceived (h : Kept o s) {bytes content} : Answers o (execFirmwareDataReceived bytes content s) := by
  refine Kept.next ?_
  split
  · exact h
  · refine .ite h ?_
    split
    · exact h.upd.reply
    · exact h.reply.writeComponent.upd.reply.when fun _ h => h.reply

theorem execActivatefirmware (h : Kept o s) {c sess} : Answers o (execActivatefirmware c sess s) := by
  refine Kept.next ?_
  refine h.request fun ha h1 => ?_
  split
  · exact ha h1.upd
  · exact ha h1

theorem execGetstatusPldm (h : Kept o s) {c sess} : Answers o (execGetstatusPldm c sess s) := by
  refine Kept.next ?_
  refine h.request fun ha h1 => ?_
  split
  · exact ha h1
  · exact ha h1

theorem execCancelupdatecomponent (h : Kept o s) {c sess} : Answers o (execCancelupdatecomponent c sess s) := by
  refine Kept.next ?_
  refine h.request fun ha h1 => ?_
  split
  · exact ha h1.upd
  · exact ha h1

theorem execCancelupdate (h : Kept o s) {c sess} : Answers o (execCancelupdate c sess s) := (h.request fun ha h => ha h.upd).next

theorem spdmStage (h : Kept o s) {c n} : Kept o (s.spdmStage c n) := by
  unfold State.spdmStage
  split
  · exact h.upd
  · exact h.upd

theorem execGetVersion (h : Kept o s) {c} : Answers o (execGetVersion c s) := (h.request fun ha h => ha h.spdmStage).next
theorem execGetCapabilities (h : Kept o s) {c} : Answers o (execGetCapabilities c s) := (h.request fun ha h => ha h.spdmStage).next

theorem execNegotiateAlgorithms (h : Kept o s) {c offered} : Answers o (execNegotiateAlgorithms c offered s) :=
  (h.request fun ha h => (ha h.spdmStage).ite (ha h)).next

theorem execGetCertificate (h : Kept o s) {c slot} : Answers o (execGetCertificate c slot s) := (h.request fun ha h => (ha h).ite (ha h)).next
theorem execChallenge (h : Kept o s) {c} : Answers o (execChallenge c s) := (h.request fun ha h => (ha h.freshNat).ite (ha h)).next

theorem execGetMeasurements (h : Kept o s) {c index} : Answers o (execGetMeasurements c index s) := by
  refine Kept.next ?_
  refine h.request fun ha h1 => ?_
  split
  · exact ha h1
  · exact ha h1

theorem execKeyExchange (h : Kept o s) {c root} : Answers o (execKeyExchange c root s) := (h.request fun ha h => (ha h).ite (ha h.upd)).next
theorem onSession (h : Kept o s) {c id name f} : Kept o (s.onSession c id name f) := h.request fun ha h => (ha h.upd).ite (ha h)
theorem execRespondIfReady (h : Kept o s) {c} : Answers o (execRespondIfReady c s) := (h.request fun ha h => ha h).next

theorem execPmbusPoll (h : Kept o s) {answers} : Answers o (execPmbusPoll answers s) := by
  unfold Machine.execPmbusPoll
  extract_lets one
  exact (h.upd.ite h).next

theorem execSmbalert (h : Kept o s) {answers} : Answers o (execSmbalert answers s) :=
  (h.ite (h.forEach fun _ _ h => h.forEach fun _ _ h1 => h1.sensorEvent).upd).next

theorem addHist (h : Kept o s) {kind flags id start stop counts} : Kept o (s.addHist kind flags id start stop counts) := h.takeSeq.upd
theorem closePeriod (h : Kept o s) : Kept o (s.closePeriod) := (h.forEach fun _ _ h => h.ite h.addHist).upd

theorem execSecondWrap (h : Kept o s) : Answers o (execSecondWrap s) := by
  unfold Machine.execSecondWrap
  extract_lets +onlyGivenNames nextSec src s2 src2 s1
  have h2 : Kept o s2 := h.setF.setF
  clear_value s2
  have h1 : Kept o s1 := by
    unfold s1
    split
    · exact h.upd
    · extract_lets +onlyGivenNames s3
      have h3 : Kept o s3 := h2.upd
      exact h3.ite h3.setF.addHist
  exact (h1.closePeriod.ite h1).next

theorem timeSet (h : Kept o s) : Kept o (s.timeSet) := h.setF.upd

theorem execTimeRead (h : Kept o s) {nanos} : Answers o (execTimeRead nanos s) := by
  unfold Machine.execTimeRead
  extract_lets +onlyGivenNames n src s1
  have h1 : Kept o s1 := h.upd
  clear_value s1
  exact h1.wr.wr.wr.next

theorem meterSnapshot (h : Kept o s) {w} : Kept o (s.meterSnapshot w) := h.setF.ite h.wr.upd
theorem execMeterPersist (h : Kept o s) : Answers o (execMeterPersist s) := (h.ite h.upd).next

theorem execIndicatorDiagnosis (h : Kept o s) {n opened dark} : Answers o (execIndicatorDiagnosis n opened dark s) := by
  unfold Machine.execIndicatorDiagnosis
  extract_lets +onlyGivenNames w long done found last old new src s1 s2
  have h1 : Kept o s1 := h.upd
  have h2 : Kept o s2 := h1.setF
  clear_value s2
  exact (h2.setF.sensorEvent.ite h2).next

theorem rackStop (h : Kept o s) : Kept o (s.rackStop) := (h.forEach fun _ _ h => h.orderStop).abortLoads.sensorEvent
theorem judgeRackStop (h : Kept o s) : Kept o (s.judgeRackStop) := h.setF.rackStop.ite (h.setF.sensorEvent.ite h.setF)

theorem execRackstopAccept (h : Kept o s) {b asserted} : Answers o (execRackstopAccept b asserted s) := by
  unfold Machine.execRackstopAccept
  extract_lets i
  exact (h.ite (h.setF.upd.when fun _ h => h.upd).judgeRackStop).next

theorem execRackstopDiscrepancy (h : Kept o s) : Answers o (execRackstopDiscrepancy s) := (h.ite h.setF.sherd.judgeRackStop).next

theorem execGpiAccept (h : Kept o s) {i high} : Answers o (execGpiAccept i high s) := by
  unfold Machine.execGpiAccept
  extract_lets cfg active
  exact (h.ite ((h.setF.when fun _ h => h.setF).when fun _ h => h.sensorEvent)).next

theorem execGpiStuck (h : Kept o s) {i} : Answers o (execGpiStuck i s) := (h.setF.sensorEvent.ite h).next
theorem execGpiChatterWindow (h : Kept o s) {i edges} : Answers o (execGpiChatterWindow i edges s) := (h.setF.upd.ite h).next

/-! #### Host -/

theorem sqDoorbell (h : Kept o s) {p i} : Kept o (s.sqDoorbell p i) := h.wr.ringError.ite h.wr
theorem cqDoorbell (h : Kept o s) {p i} : Kept o (s.cqDoorbell p i) := h.wr.ringError.ite (h.wr.setVf.forEach fun _ _ h => h.setStream.ite h)

theorem execSqEntryFetch (h : Kept o s) {p e} : Answers o (execSqEntryFetch p e s) := by
  unfold Machine.execSqEntryFetch
  extract_lets f
  refine Kept.next ?_
  refine .ite h ?_
  split
  · exact h.ringError
  · exact h.ite (h.setVf.ite h.setVf.complete)

theorem execHostNop (h : Kept o s) {p cid} : Answers o (execHostNop p cid s) := by
  refine Kept.next ?_
  split
  · exact h.complete
  · exact h

theorem execCopyIn (h : Kept o s) {p cid data} : Answers o (execCopyIn p cid data s) := by
  refine Kept.next ?_
  split
  · exact h
  · refine .ite h ?_
    split
    · exact h.complete
    · exact h.setCmd.upd

theorem execCopyOut (h : Kept o s) {p cid} : Answers o (execCopyOut p cid s) := by
  refine Kept.next ?_
  split
  · exact h
  · refine .ite h ?_
    split
    · exact h.complete
    · exact h.setCmd.upd

theorem copyGranule (h : Kept o s) {p cid i r} : Kept o (s.copyGranule p cid i r) := by
  unfold State.copyGranule
  split
  · exact h
  · exact h.setCmd.ite h.setCmd.upd

theorem execCopyDone (h : Kept o s) {p cid hostErr} : Answers o (execCopyDone p cid hostErr s) := by
  refine Kept.next ?_
  split
  · exact h.complete.ite h
  · exact h

theorem execT2add (h : Kept o s) {p cid} : Answers o (execT2add p cid s) := by
  refine Kept.next ?_
  split
  · exact h
  · extract_lets f total
    split
    · exact h.complete.ite h.setVf.complete
    · exact h.complete

theorem execT2del (h : Kept o s) {p cid} : Answers o (execT2del p cid s) := by
  refine Kept.next ?_
  split
  · exact h
  · extract_lets f
    split
    · exact h.complete
    · exact h.complete.ite h.setVf.complete

theorem execIrqTimer (h : Kept o s) {p} : Answers o (execIrqTimer p s) := by
  unfold Machine.execIrqTimer
  extract_lets f
  exact (h.ite h.setVf.raiseVf).next

theorem ringEnable (h : Kept o s) {p on} : Kept o (s.ringEnable p on) := h.setF.wr.wr.setVf.ite (h.setF.ite h.setF.setF.setF.setVf)
theorem vfReset (h : Kept o s) {p} : Kept o (s.vfReset p) := h.flrStreams.upd.resetRange.resetRange.resetReg.resetReg.setF.setVf

theorem execPfReset (h : Kept o s) {link} : Answers o (execPfReset link s) := by
  unfold Machine.execPfReset
  extract_lets +onlyGivenNames s1
  have h1 : Kept o s1 := h.forEach fun _ _ h1 => h1.vfReset
  extract_lets +onlyGivenNames s2
  have h2 : Kept o s2 := h1.wr
  exact h2.upd.next

theorem execPcieConfigRequest (h : Kept o s) {r} : Answers o (execPcieConfigRequest r s) := by
  refine Kept.next ?_
  refine .ite h.upd ?_
  split
  · exact h.upd
  · exact h

theorem execBarMisalignedAccess (h : Kept o s) {off size} : Answers o (execBarMisalignedAccess off size s) := (h.ite h.upd).next

/-! #### Drift -/

theorem setColWin (h : Kept o s) {k t c x} : Kept o (s.setColWin k t c x) := h.upd

theorem buildTile (h : Kept o s) {k t} : Kept o (s.buildTile k t) := by
  unfold State.buildTile
  extract_lets +onlyGivenNames d co en ts tc ws n s1 cols src s2
  have h1 : Kept o s1 := h.setShds
  clear_value s1
  have h2 : Kept o s2 := h1.upd
  exact h2.setDrift.countClamps

theorem openRound (h : Kept o s) {k} : Kept o (s.openRound k) := h.ite (h.setF.upd.forEach fun _ _ h => h.buildTile)
theorem armSet (h : Kept o s) {k ts} : Kept o (s.armSet k ts) := (h.setF.setF.forEach fun _ _ h => h.setDrift).commitDone
theorem buildComplete (h : Kept o s) {k} : Kept o (s.buildComplete k) := h.ite (h.setF.upd.armSet.ite h.setF.upd.setF)
theorem roundTimer (h : Kept o s) {k} : Kept o (s.roundTimer k) := h.openRound.ite h
theorem tempRound (h : Kept o s) {k} : Kept o (s.tempRound k) := h.openRound.ite h
theorem arm (h : Kept o s) {k} : Kept o (s.arm k) := h.setF.ite ((h.forEach fun _ _ h => h.when fun _ h1 => h1.setDrift).armSet.ite h.armSet)
theorem discardSet (h : Kept o s) {k} : Kept o (s.discardSet k) := h.ite (h.setF.forEach fun _ _ h => h.setShds.setDrift)
theorem shadowWrite (h : Kept o s) {k v} : Kept o (s.shadowWrite k v) := h.setF.ite h.upd.setDrift
theorem flipTile (h : Kept o s) {k t} : Kept o (s.flipTile k t) := h.ite (h.driftChange fun _ h => h.setActs.setDrift).inc.commitDone
theorem flipPart (h : Kept o s) {k p} : Kept o (s.flipPart k p) := h.forEach fun _ _ h => h.flipTile

theorem idleFlip (h : Kept o s) {p} : Kept o (s.idleFlip p) := by
  unfold State.idleFlip
  split
  · exact h.ite (h.forEach fun _ _ h => h.flipPart)
  · exact h.forEach fun _ _ h => h.forEach fun _ _ h1 => h1.flipTile

theorem execAgeMaxReached (h : Kept o s) {k t} : Answers o (execAgeMaxReached k t s) := (h.driftChange fun _ h => h.setDrift).next

theorem closeRef (h : Kept o s) {k t} : Kept o (s.closeRef k t) := by
  unfold State.closeRef
  extract_lets d e q cleared s1
  have h1 : Kept o s1 := (h.driftChange fun _ h1 => h1.setDrift).ite h.setDrift.inc
  exact h1.openRound.ite h1

theorem refWindowClose (h : Kept o s) {k t} : Kept o (s.refWindowClose k t) := h.closeRef.ite h
theorem refSample (h : Kept o s) {k t use sigma xy} : Kept o (s.refSample k t use sigma xy) := h.refWindowClose.setDrift.inc
theorem driftEvent (h : Kept o s) {k t} : Kept o (s.driftEvent k t) := h.inc.setDrift.closeRef.ite h.inc.setDrift

theorem colSample (h : Kept o s) {k t use codes clips} : Kept o (s.colSample k t use codes clips) :=
  h.setDrift.ite (h.setDrift.forEach fun _ _ h => h.ite h.setColWin)

theorem lambda (h : Kept o s) {v v0 fp} : Kept o (s.lambda v v0 fp).2 := by
  unfold State.lambda
  split
  · exact h.freshInt
  · split
    · exact h
    · exact h

theorem closeCols (h : Kept o s) {k t} : Kept o (s.closeCols k t) := by
  unfold State.closeCols
  extract_lets +onlyGivenNames cols minc step r src s1
  have hr : Kept o r.1 := by
    refine foldl Prod.fst (fun a c h => ?_) h
    show Kept o (step a c).1
    unfold step
    extract_lets +onlyGivenNames s2 w fp v v0 fresh
    split_ifs
    · exact h.setColWin.inc
    · exact h.setColWin
    · exact h.lambda.setColWin
  have h1 : Kept o s1 := hr.setDrift
  refine .ite h1 ?_
  extract_lets +onlyGivenNames med
  have h2 : Kept o (if med = 0 then s1.freshInt else (0, s1)).2 := by
    split
    · exact h1.freshInt
    · exact h1
  split
  next m s2 e =>
  rw [e] at h2
  exact h2.forEach fun _ _ h => h.setColWin

theorem colWindowClose (h : Kept o s) {k t} : Kept o (s.colWindowClose k t) := h.closeCols.ite h
theorem newWindows (h : Kept o s) {k} : Kept o (s.newWindows k) := h.upd

/-! #### Shelf -/

theorem putRow (h : Kept o s) {k r d poison full} : Kept o (s.putRow k r d poison full) := h.setShelfRow
theorem setWaiters (h : Kept o s) {k r l} : Kept o (s.setWaiters k r l) := h.upd
theorem addWaiter (h : Kept o s) {k r who fill} : Kept o (s.addWaiter k r who fill) := h.ite h.setWaiters
theorem delWaiter (h : Kept o s) {k r who fill} : Kept o (s.delWaiter k r who fill) := h.setWaiters
theorem accFault (h : Kept o s) {a reason op} : Kept o (s.accFault a reason op) := h.bundleFault.ite h.ctxFault

theorem readRow (h : Kept o s) {a} : Kept o (s.readRow a).1 := by
  unfold State.readRow
  extract_lets +onlyGivenNames x
  split
  · extract_lets +onlyGivenNames s1 s2
    have h2 : Kept o s2 := h.setF.wr.ite h.setF.wr.inc.setShelfRow
    exact h2.accFault
  · split
    · exact h.setF.inc
    · exact h

theorem access (h : Kept o s) {a w r} (e : s.access a w = r) : Kept o r.state := by
  subst e
  unfold State.access
  extract_lets +onlyGivenNames fill x s1
  have h1 : Kept o s1 := h.delWaiter
  refine accIte h.accFault (accIte h.accFault (accIte h.addWaiter ?_))
  split
  · exact h1.putRow
  · exact (h1.setShelfRow.ite h1).readRow

theorem scrubRow (h : Kept o s) {k found} : Kept o (s.scrubRow k found) :=
  h.ite (h.upd.ite (h.upd.setShelfRow.setF.inc.ite (h.upd.setShelfRow.setF.wr.inc.sherd.ite h.upd)))

/-! #### Queue -/

theorem enqueue (h : Kept o s) {k n q src w hoff pc tagged} : Kept o (s.enqueue k n q src w hoff pc tagged) := by
  unfold State.enqueue
  split
  · exact h.bundleFault
  · exact h.setQueue.wr

theorem issueRow (h : Kept o s) {k q d row data poison} : Kept o (s.issueRow k q d row data poison) := h.upd
theorem dropReqs (h : Kept o s) {k q id} : Kept o (s.dropReqs k q id) := h.upd
theorem setDesc (h : Kept o s) {k q j d} : Kept o (s.setDesc k q j d) := h.setQueue

theorem sendRows (h : Kept o s) {k q j n} : Kept o (s.sendRows k q j n) := by
  induction n generalizing s with
  | zero => exact h
  | succ n ih =>
    unfold State.sendRows
    split
    · exact h
    · refine .ite h ?_
      extract_lets +onlyGivenNames i
      split
      · next e => exact h.access e
      · next e => exact (h.access e).setDesc
      · next e => exact ih (h.access e).issueRow.setDesc

theorem descStart (h : Kept o s) {k q} : Kept o (s.descStart k q) := by
  unfold State.descStart
  split
  · exact h
  · exact h.ite (h.upd.setDesc.sendRows.ite (h.upd.setDesc.forEach fun _ _ h => h.issueRow))

theorem lateTime (h : Kept o s) {k row cycles} : Kept o (s.lateTime k row cycles) := by
  unfold State.lateTime
  refine h.forEach fun _ _ h1 => ?_
  split
  · exact h1.when fun _ h1 => h1.inc
  · exact h1

theorem landRow (h : Kept o s) {k q j i cycles} : Kept o (s.landRow k q j i cycles) := by
  unfold State.landRow
  split
  · exact h
  · refine .ite h ?_
    extract_lets rs bad data spill
    split
    · rename_i s1 e
      have h1 := h.access e
      exact h1
    · rename_i s1 e
      have h1 := h.access e
      exact h1.dropReqs.setDesc
    · rename_i s1 data poison e
      have h1 := h.access e
      exact h1.upd.setDesc.when fun _ h1 => h1.lateTime

theorem countDone (h : Kept o s) {k q d err} : Kept o (s.countDone k q d err) := h.wr.upd.setF.setF.ite h.wr

theorem descPop (h : Kept o s) {k q} : Kept o (s.descPop k q) := by
  unfold State.descPop
  split
  · exact h
  · exact h.ite (h.dropReqs.setQueue.ite h.dropReqs.setQueue.countDone)

theorem retryQueue (h : Kept o s) {k q} : Kept o (s.retryQueue k q) := by
  unfold State.retryQueue
  refine h.forEach fun _ _ h1 => ?_
  split
  · exact h1
  · exact (h1.sendRows.ite h1).ite (h1.landRow.ite h1)

/-! #### Units -/

theorem setInputQ (h : Kept o s) {r i vc l} : Kept o (s.setInputQ r i vc l) := h.upd
theorem pushInput (h : Kept o s) {r i vc x} : Kept o (s.pushInput r i vc x) := h.setInputQ.upd
theorem handSegment (h : Kept o s) {k t j} : Kept o (s.handSegment k t j) := h.setEng

theorem andThen {r : AccRes} (h : Kept o r.state) {u row f} (hf : ∀ s d p, Kept o s → Kept o (f s d p).state) :
    Kept o (r.andThen u row f).state := by
  cases r with
  | ok s d p => exact hf s d p h
  | blocked s => exact h
  | refused s => exact h

theorem stepDispatch (h : Kept o s) {k u g t0 n row istep kind ts} : Kept o (s.stepDispatch k u g t0 n row istep kind ts).state := by
  unfold State.stepDispatch
  split
  · exact h
  · split
    · exact h
    · exact (h.access rfl).andThen fun _ _ _ h => h
    · extract_lets +onlyGivenNames t
      split
      · exact h
      · exact h.handSegment

theorem stepMove (h : Kept o s) {k u src dst n kind} : Kept o (s.stepMove k u src dst n kind).state := by
  unfold State.stepMove
  split
  · exact h
  · extract_lets +onlyGivenNames put
    have hput (x) : Kept o (put x).state := (h.access rfl).andThen fun _ _ _ h => h
    split
    · exact hput _
    · exact hput _
    · exact (h.access rfl).andThen fun _ _ _ h => h

theorem creditWheel (h : Kept o s) {k l c} : Kept o (s.creditWheel k l c) := h.lcount.lcount.lcount.lcount

theorem stepWheel (h : Kept o s) {k u x op t a b c ac bc} : Kept o (s.stepWheel k u x op t a b c ac bc).state := by
  unfold State.stepWheel
  extract_lets +onlyGivenNames n plan
  split
  · exact (h.access rfl).andThen fun _ _ _ h => h
  · extract_lets +onlyGivenNames rows side r j
    split
    · exact h.creditWheel.addUsage
    · exact (h.access rfl).andThen fun _ _ _ h => h

theorem stepMerge (h : Kept o s) {k u x t a b c ac bc} : Kept o (s.stepMerge k u x t a b c ac bc).state := by
  unfold State.stepMerge
  split
  · exact h.addUsage
  · split
    · exact (h.access rfl).andThen fun _ _ _ h => h
    · exact (h.access rfl).andThen fun _ _ _ h => h.lcount
    · extract_lets +onlyGivenNames p q
      split
      · exact h.bundleFault
      · exact (h.access rfl).andThen fun _ _ _ h => h

theorem sentRow (h : Kept o s) {c} : Kept o (s.sentRow c) := h.upd

theorem stepSend (h : Kept o s) {k u dest red ste drow src n kind} : Kept o (s.stepSend k u dest red ste drow src n kind).state := by
  unfold State.stepSend
  split
  · exact h
  · split
    · exact h
    · exact (h.access rfl).andThen fun _ _ _ h => h.pushInput.sentRow

theorem stepEnqRow (h : Kept o s) {k u x q row slot kind} : Kept o (s.stepEnqRow k u x q row slot kind).state :=
  (h.access rfl).andThen fun _ _ _ h => h

theorem stepEnq (h : Kept o s) {k u q src desc} : Kept o (s.stepEnq k u q src desc).state := by
  unfold State.stepEnq
  split
  · exact h
  · exact h.enqueue

theorem stepAccum (h : Kept o s) {k u x d} : Kept o (s.stepAccum k u x d).state := by
  unfold State.stepAccum
  extract_lets +onlyGivenNames t
  split
  · exact h
  · split
    · exact h.bundleFault
    · extract_lets +onlyGivenNames c put
      have hput (r) : Kept o (put r).state := (h.access rfl).andThen fun _ _ _ h => h
      split
      · exact hput _
      · split
        · exact (h.access rfl).andThen fun _ _ _ h => h.lcount
        · extract_lets +onlyGivenNames p
          split
          · exact h.bundleFault
          · exact hput _

theorem unitStep (h : Kept o s) {k u x r} (e : s.unitStep k u x = r) : Kept o r.state := by
  subst e
  unfold State.unitStep
  split
  · exact h.stepDispatch
  · exact h.stepMove
  · exact h.stepMerge
  · exact h.stepWheel
  · exact h.stepSend
  · exact h.stepEnqRow
  · exact h.stepEnq
  · exact h.stepAccum

theorem markLate (h : Kept o s) {k u op} : Kept o (s.markLate k u op) := by
  unfold State.markLate
  split
  · exact h
  · exact h.ite (h.upd.inc.setF.when fun _ h => h.advise)

theorem endOp (h : Kept o s) {k u} : Kept o (s.endOp k u) := (h.unsend.ite h).setOp.upd

theorem runOp (h : Kept o s) {k u n} : Kept o (s.runOp k u n) := by
  induction n generalizing s with
  | zero => exact h
  | succ n ih =>
    unfold State.runOp
    split
    · exact h
    · split
      · next e => exact ih (h.unitStep e).setOp
      · next e => exact (h.unitStep e).setOp.markLate
      · next e => exact (h.unitStep e).endOp

theorem runUnit (h : Kept o s) {k u} : Kept o (s.runUnit k u) := by
  unfold State.runUnit
  split
  · exact h
  · exact h.runOp

theorem startUnit (h : Kept o s) {k u n pc tagged j} : Kept o (s.startUnit k u n pc tagged j) := h.setOp.runUnit

theorem accumulate (h : Kept o s) {k g} : Kept o (s.accumulate k g) := by
  unfold State.accumulate
  split
  · exact h
  · exact h.ite h.setGroup.startUnit

theorem descComplete (h : Kept o s) {k q} : Kept o (s.descComplete k q) := by
  unfold State.descComplete
  extract_lets s1
  have h1 : Kept o s1 := h.descPop
  split
  · exact h1.runUnit
  · exact h1

/-! #### Program -/

theorem fetch (h : Kept o s) {k b} : Kept o (s.fetch k b) := h.upd.inc
theorem setWait (h : Kept o s) {k n w} : Kept o (s.setWait k n w) := h.setCtx
theorem setPc (h : Kept o s) {k n v} : Kept o (s.setPc k n v) := h.setF
theorem issueBundle (h : Kept o s) {k n pc b} : Kept o (s.issueBundle k n pc b) := h.ite h.setCtx.setPc

theorem tryIssue (h : Kept o s) {k n} : Kept o (s.tryIssue k n) := by
  unfold State.tryIssue
  extract_lets +onlyGivenNames c
  refine .ite h ?_
  extract_lets +onlyGivenNames pc phys
  refine .ite h.ctxFault ?_
  extract_lets +onlyGivenNames s1
  have h1 : Kept o s1 := h.fetch
  extract_lets +onlyGivenNames b
  split
  · exact h1.bundleFault
  · extract_lets +onlyGivenNames mode
    refine .ite h1.bundleFault ?_
    split
    · exact h1.bundleFault
    · refine .ite h1.issueBundle ?_
      refine .ite h1.setWait ?_
      split
      · exact h1.bundleFault
      · refine .ite h1.setWait ?_
        split
        · exact h1.bundleFault
        · exact h1.issueBundle

theorem doneSlot (h : Kept o s) {k n slot i} : Kept o (s.doneSlot k n slot i) := h.setCtx

theorem slotCmd (h : Kept o s) {k n slot op f} (hf : ∀ s i, Kept o s → Kept o (f s i)) : Kept o (s.slotCmd k n slot op f) := by
  unfold State.slotCmd
  extract_lets +onlyGivenNames r
  have hr : Kept o r := h.ite h.tryIssue
  split
  · exact h.ite hr
  · exact (hf _ _ hr.doneSlot).ite h

theorem startSlot (h : Kept o s) {k n slot i j} : Kept o (s.startSlot k n slot i j) := h.startUnit
theorem nopCmd (h : Kept o s) {k n} : Kept o (s.nopCmd k n) := h.ite (h.ite h.tryIssue)
theorem cmdDispatch (h : Kept o s) {k n} : Kept o (s.cmdDispatch k n) := h.slotCmd fun _ _ h => h.startSlot
theorem cmdMove (h : Kept o s) {k n op} : Kept o (s.cmdMove k n op) := h.slotCmd fun _ _ h => h.startSlot
theorem cmdWheel (h : Kept o s) {k n op} : Kept o (s.cmdWheel k n op) := h.slotCmd fun _ _ h => h.startSlot
theorem cmdSend (h : Kept o s) {k n op} : Kept o (s.cmdSend k n op) := h.slotCmd fun _ _ h => h.setCtx.startSlot
theorem cmdEnqT (h : Kept o s) {k n} : Kept o (s.cmdEnqT k n) := h.slotCmd fun _ _ h => h.startSlot
theorem cmdEnqS (h : Kept o s) {k n} : Kept o (s.cmdEnqS k n) := h.slotCmd fun _ _ h => h.startSlot
theorem clearCtr (h : Kept o s) {k c} : Kept o (s.clearCtr k c) := h.upd.wr.wr.wr
theorem cmdClr (h : Kept o s) {k n} : Kept o (s.cmdClr k n) := h.slotCmd fun _ _ h => h.bundleFault.ite h.clearCtr
theorem execJump (h : Kept o s) {k n} : Answers o (execJump k n s) := (h.slotCmd fun _ _ h => h.setPc).next
theorem cmdLoop (h : Kept o s) {k n} : Kept o (s.cmdLoop k n) := h.slotCmd fun _ _ h => h.ite h.setCtx.setPc
theorem cmdSetl (h : Kept o s) {k n} : Kept o (s.cmdSetl k n) := h.slotCmd fun _ _ h => h.setCtx
theorem cmdSeta (h : Kept o s) {k n} : Kept o (s.cmdSeta k n) := h.slotCmd fun _ _ h => h.setCtx
theorem cmdAdda (h : Kept o s) {k n} : Kept o (s.cmdAdda k n) := h.slotCmd fun _ _ h => h.setCtx
theorem execWaitAbs (h : Kept o s) {k n} : Answers o (execWaitAbs k n s) := (h.slotCmd fun _ _ h => h).next
theorem execWaitOut (h : Kept o s) {k n} : Answers o (execWaitOut k n s) := (h.slotCmd fun _ _ h => h).next
theorem waitSatisfied (h : Kept o s) {k n} : Kept o (s.waitSatisfied k n) := h.tryIssue.ite h
theorem cmdSwitch (h : Kept o s) {k n} : Kept o (s.cmdSwitch k n) := h.slotCmd fun _ _ h => h.setWait.when fun _ h1 => h1.setRun
theorem execStep (h : Kept o s) {k n} : Answers o (execStep k n s) := (h.slotCmd fun _ _ h => h.setWait).next
theorem execDrain (h : Kept o s) {k n} : Answers o (execDrain k n s) := (h.slotCmd fun _ _ h => h.setWait).next
theorem setEvents (h : Kept o s) {k l} : Kept o (s.setEvents k l) := h.upd
theorem cmdEvent (h : Kept o s) {k n} : Kept o (s.cmdEvent k n) := h.slotCmd fun _ _ h => h.setWait.ite h.setEvents
theorem execHalt (h : Kept o s) {k n} : Answers o (execHalt k n s) := (h.slotCmd fun _ _ h => h.setWait).next

theorem drainComplete (h : Kept o s) {k n} : Kept o (s.drainComplete k n) := by
  unfold State.drainComplete
  split
  · exact h.setWait.ite h
  · exact h

theorem watchdog (h : Kept o s) {k n} : Kept o (s.watchdog k n) := by
  unfold State.watchdog
  refine .ite h ?_
  split
  · exact h.bundleFault
  · exact h

/-! #### Tile -/

theorem tileWrej (h : Kept o s) {k t} : Kept o (s.tileWrej k t) := h.setF
theorem judgeRun (h : Kept o s) {k t run} : Kept o (s.judgeRun k t run) := h.fenceTile.ite h
theorem closeWindow (h : Kept o s) {k t last} : Kept o (s.closeWindow k t last) := h.setEng.setF
theorem flagWindowEnd (h : Kept o s) {k t} : Kept o (s.flagWindowEnd k t) := h.closeWindow.ite h
theorem tileEvent (h : Kept o s) {k t} : Kept o (s.tileEvent k t) := h.setF.driftEvent

theorem countFlag (h : Kept o s) {k t last} : Kept o (s.countFlag k t last) :=
  (h.setF.setEng.tileEvent.judgeRun.ite h.setF).ite (h.setEng.tileEvent.judgeRun.ite h.setEng)

theorem tileCfgWrite (h : Kept o s) {k t off mask v} : Kept o (s.tileCfgWrite k t off mask v) :=
  h.tileWrej.ite (h.upd.ite (h.flagWindowEnd.wr.closeWindow.ite h.wr))

theorem tileClr (h : Kept o s) {k t} : Kept o (s.tileClr k t) := h.wr.wr.wr.wr

theorem takeCredit (h : Kept o s) {k x} (e : s.takeCredit k = some x) : Kept o x := by
  unfold State.takeCredit at e
  extract_lets +onlyGivenNames c at e
  split_ifs at e
  · obtain rfl := Option.some.inj e
    exact h.upd
  · obtain rfl := Option.some.inj e
    exact h.upd

theorem convert (h : Kept o s) {k t c a corr} : Kept o (s.convert k t c a corr).2 := h.freshInt

theorem convertAll (h : Kept o s) {k t a ws c} : Kept o (s.convertAll k t a ws c).2 := by
  induction ws generalizing s c with
  | nil => exact h
  | cons w ws ih => exact ih h.convert

theorem physicalRead (h : Kept o s) {k t e job} : Kept o (s.physicalRead k t e job) := h.inc64.addUsage.convertAll.setEng

theorem readStart (h : Kept o s) {k t} : Kept o (s.readStart k t) := by
  unfold State.readStart
  extract_lets e
  split
  · exact h
  · refine .ite h ?_
    split
    · exact h
    · rename_i s1 e
      have h1 := h.takeCredit e
      exact h1.physicalRead

theorem tileCheck (h : Kept o s) {k t} : Kept o (s.tileCheck k t) := by
  unfold State.tileCheck
  extract_lets e
  split
  · exact h
  · exact h.ite (h.setEng.ite (h.setEng.ite h.setEng))

theorem lastRead (h : Kept o s) {k t d clipped} : Kept o (s.lastRead k t d clipped) := (h.wr.wr.wr.forEach fun _ _ h => h.wr).setF
theorem countRead (h : Kept o s) {k t d clipped} : Kept o (s.countRead k t d clipped) := h.inc.inc.inc.inc
theorem countLayer (h : Kept o s) {k d clipped} : Kept o (s.countLayer k d clipped) := h.lcount.lcount.lcount.lcount
theorem sampleRead (h : Kept o s) {k t d} : Kept o (s.sampleRead k t d) := h.refSample.colSample.ite h.refSample

theorem tileDeliver (h : Kept o s) {k t} : Kept o (s.tileDeliver k t) := by
  unfold State.tileDeliver
  extract_lets +onlyGivenNames e
  split
  · exact h
  · extract_lets +onlyGivenNames clipped out drop s1
    have h1 : Kept o s1 := h.setEng
    extract_lets +onlyGivenNames s2
    have h2 : Kept o s2 := h1.ite h1.setGroup.countLayer
    exact (h2.lastRead.countRead.flagWindowEnd.sampleRead.when fun _ h2 => h2.countFlag).runUnit

/-! #### Mesh -/

theorem portTake (h : Kept o s) {i r} : Kept o (s.portTake i r) := by
  unfold State.portTake
  extract_lets +onlyGivenNames s1
  have h1 : Kept o s1 := h.rowWritten
  extract_lets +onlyGivenNames x same
  split
  · exact h1.setPort.inc.setCredit
  · exact h1.setPort

theorem nextFeed (h : Kept o s) {r i x} (e : s.nextFeed r i = some x) : Kept o x.2 := by
  unfold State.nextFeed at e
  split at e
  · split at e
    · split at e
      · obtain rfl := Option.some.inj e
        exact h.setPart
      · simp at e
    · simp at e
  · split at e
    · split at e
      · obtain rfl := Option.some.inj e
        exact h.setPort
      · simp at e
    · simp at e

theorem feedInput (h : Kept o s) {r i n} : Kept o (s.feedInput r i n) := by
  induction n generalizing s with
  | zero => exact h
  | succ n ih =>
    unfold State.feedInput
    refine .ite h ?_
    split
    · next e => exact ih (h.nextFeed e).pushInput
    · exact h

theorem putOut (h : Kept o s) {r op x} : Kept o (s.putOut r op x) := by
  unfold State.putOut
  refine .ite h.pushInput ?_
  refine .ite ?_ ?_
  · refine .ite h.sink ?_
    split
    · exact h.setDeliv
    · exact h.sink
  · refine .ite h.sink ?_
    refine .ite h.upd ?_
    split
    · exact h.setCredit.portTake.ite h.inc.sink
    · exact h

theorem setRoutePos (h : Kept o s) {r op p x} : Kept o (s.setRoutePos r op p x) := h.upd

theorem pickData (h : Kept o s) {r p q hs x} (e : s.pickData r p q hs = some x) : Kept o x.2 := by
  unfold State.pickData at e
  extract_lets +onlyGivenNames es y order at e
  split at e
  · obtain ⟨_, _, rfl⟩ := Option.map_eq_some_iff.1 e
    exact h.setRoutePos
  · obtain ⟨_, _, rfl⟩ := Option.map_eq_some_iff.1 e
    exact h.inc

theorem arbitrate (h : Kept o s) {r p x} (e : s.arbitrate r p = some x) : Kept o x.2 := by
  unfold State.arbitrate at e
  extract_lets +onlyGivenNames hs src at e
  split at e
  · simp at e
  · extract_lets +onlyGivenNames s1 mine at e
    have h1 : Kept o s1 := h.upd
    split at e
    · obtain rfl := Option.some.inj e
      exact h1
    · split at e
      · obtain rfl := Option.some.inj e
        exact h1
      · exact h1.pickData e

theorem popInput (h : Kept o s) {r i v} : Kept o (s.popInput r i v) :=
  h.setInputQ.ite (h.setInputQ.runUnit.ite (h.setInputQ.feedInput.ite h.setInputQ))

theorem feedRouter (h : Kept o s) {r} : Kept o (s.feedRouter r) := h.forEach fun _ _ h => h.feedInput

theorem forward (h : Kept o s) {r op sb dat} : Kept o (s.forward r op sb dat) := by
  unfold State.forward
  extract_lets s1
  have h1 : Kept o s1 := h.feedRouter
  split
  · exact h1
  · rename_i h s2 e
    have h2 := h1.arbitrate e
    exact h2.popInput.setF.sherd.ite ((h2.ite h2.inc).inc.putOut.forEach fun _ _ h2 => h2.popInput)

theorem land (h : Kept o s) {k n r x} (e : s.land k n r = x) : Kept o x.state := by
  subst e
  unfold State.land
  split
  · next e => exact (h.access e).rowWritten
  · next e => exact (h.access e).rowWritten
  · next e => exact h.access e

theorem landReduce (h : Kept o s) {k n r x} (e : s.landReduce k n r = x) : Kept o x.state := by
  subst e
  unfold State.landReduce
  extract_lets +onlyGivenNames a
  split
  · next e => exact (h.access e).rowWritten
  · next e => exact h.access e
  · next e =>
    have h1 := h.access e
    extract_lets +onlyGivenNames old new w
    split
    · next e => exact (h1.access e).rowWritten
    · next e => exact (h1.access e).rowWritten
    · next e => exact h1.access e

/-- The delivery of a row, in either way. -/
theorem landEither (h : Kept o s) {c : Prop} [Decidable c] {k n r x} (e : (if c then s.landReduce k n r else s.land k n r) = x) :
    Kept o x.state := by
  split at e
  · exact h.landReduce e
  · exact h.land e

theorem landHead (h : Kept o s) {k n r done} (hd : ∀ s, Kept o s → Kept o (done s)) : Kept o (s.landHead k n r done) := by
  unfold State.landHead
  extract_lets +onlyGivenNames c pop park
  have hpark {s} (h : Kept o s) : Kept o (park s) := (hd _ h.setDeliv.setParked).ite h
  refine .ite (hpark h) ?_
  split
  · next e => exact hd _ (h.landEither e).setDeliv
  · next e => exact hpark (h.landEither e)

theorem meshDeliver (h : Kept o s) {k n} : Kept o (s.meshDeliver k n) := by
  unfold State.meshDeliver
  split
  · exact h
  · exact h.ite (h.landHead fun _ h => h)

theorem setSpill (h : Kept o s) {k e row b} : Kept o (s.setSpill k e row b) := h.setF
theorem slotOut (h : Kept o s) {k x} : Kept o (s.slotOut k x) := h.putRow
theorem mismatch (h : Kept o s) {k n held new r} : Kept o (s.mismatch k n held new r) := h.inc.ctxFault.rowWritten
theorem overShort (h : Kept o s) {k n reg} : Kept o (s.overShort k n reg) := h.inc.advise

theorem closeSlot (h : Kept o s) {k n x} : Kept o (s.closeSlot k n x) := by
  unfold State.closeSlot
  extract_lets +onlyGivenNames c r s1
  have h1 : Kept o s1 := h.when fun _ h => h.overShort
  extract_lets +onlyGivenNames keep
  have hkeep {s} (h : Kept o s) : Kept o (keep s) := h.setParked.ite h.setSlots
  refine .ite (hkeep h1) ?_
  split
  · next e => exact h1.land e
  · next e => exact hkeep (h1.land e)

theorem putSlot (h : Kept o s) {k n x} : Kept o (s.putSlot k n x) := h.closeSlot.ite h.setSlots

theorem roomSlot (h : Kept o s) {k n x} (e : s.roomSlot k n = some x) : Kept o x := by
  unfold State.roomSlot at e
  extract_lets +onlyGivenNames c l at e
  split at e
  · obtain rfl := Option.some.inj e
    exact h
  · split at e
    · obtain rfl := Option.some.inj e
      exact h.slotOut.setSpill.inc.setSlots
    · simp at e

theorem openSlot (h : Kept o s) {k n e r} : Kept o (s.openSlot k n e r) :=
  h.rowWritten.putSlot.ite (h.readRow.mismatch.ite h.readRow.setSpill.rowWritten.putSlot)

theorem reduceRow (h : Kept o s) {k n i r x} (e : s.reduceRow k n i r = some x) : Kept o x := by
  unfold State.reduceRow at e
  extract_lets +onlyGivenNames c p at e
  split at e
  · split at e
    · obtain rfl := Option.some.inj e
      exact h.mismatch
    · obtain rfl := Option.some.inj e
      exact h.rowWritten.setSlots.putSlot
  · obtain ⟨_, e1, rfl⟩ := Option.map_eq_some_iff.1 e
    exact (h.roomSlot e1).openSlot

theorem reduceArrive (h : Kept o s) {k n} : Kept o (s.reduceArrive k n) := by
  unfold State.reduceArrive
  extract_lets c
  split
  · exact h
  · refine .ite h ?_
    split
    · exact h.landHead fun _ h => h.inc
    · split
      · rename_i s1 e
        have h1 := h.setDeliv.reduceRow e
        exact h1
      · exact h

theorem parkClosed (h : Kept o s) {k n} : Kept o (s.parkClosed k n) := by
  unfold State.parkClosed
  extract_lets c
  split
  · exact h.setSlots.setParked.ite h
  · exact h

theorem retryParked (h : Kept o s) {k n i} : Kept o (s.retryParked k n i) := by
  unfold State.retryParked
  extract_lets +onlyGivenNames c
  split
  · exact h
  · refine .ite h ?_
    split
    · exact h
    · next e => exact (h.landEither e).setParked.parkClosed

theorem retrySlot (h : Kept o s) {k n i} : Kept o (s.retrySlot k n i) := by
  unfold State.retrySlot
  extract_lets c
  split
  · exact h
  · refine .ite h ?_
    split
    · rename_i s1 e
      have h1 := h.land e
      exact h
    · rename_i s1 e
      have h1 := h.land e
      exact h1.setSlots

theorem retry (h : Kept o s) {k w} : Kept o (s.retry k w) := by
  unfold State.retry
  split
  · split
    · split
      · exact h.runUnit.ite h
      · exact h.runUnit
    · exact h
  · exact h.retryQueue
  · exact h.retryParked
  · exact h.retrySlot

theorem flushSlots (h : Kept o s) {k n} : Kept o (s.flushSlots k n) :=
  (h.forEach fun _ _ h => h.slotOut.when fun _ h1 => h1.overShort).setSlots.forEach fun _ _ h => h.wr.wr.ite h

theorem tagBuffer (h : Kept o s) {k b full} : Kept o (s.tagBuffer k b full) := h.ite (h.forEach fun _ _ h => h.setShelfRow)

theorem switchComplete (h : Kept o s) {k n} : Kept o (s.switchComplete k n) := by
  unfold State.switchComplete
  split
  · refine .ite h ?_
    split
    · exact h.bundleFault
    · exact ((h.flushSlots.forEach fun _ _ h => h.tagBuffer).ite h.flushSlots).setF.setWait.setRun
  · exact h

/-! #### Hbm -/

theorem regionRej (h : Kept o s) : Kept o (s.regionRej) := h.setF

theorem regionWrite (h : Kept o s) {r j w} : Kept o (s.regionWrite r j w) :=
  h.regionRej.ite ((h.wr.upd.ite h.wr).setF.ite ((h.wr.upd.ite h.wr).setF.ite (h.wr.upd.ite h.wr)))

theorem hmapWrite (h : Kept o s) {p hd w} : Kept o (s.hmapWrite p hd w) := h.regionRej.ite h.wr.upd

theorem writeRegion (h : Kept o s) {x w} : Kept o (s.writeRegion x w) := by
  unfold State.writeRegion
  split
  · exact h.regionWrite
  · exact h.hmapWrite

theorem setMeter (h : Kept o s) {set m} : Kept o (s.setMeter set m) := h.upd
theorem addHbmb (h : Kept o s) {set n} : Kept o (s.addHbmb set n) := h.setMeter

theorem initDone (h : Kept o s) {r} : Kept o (s.initDone r) := by
  unfold State.initDone
  extract_lets +onlyGivenNames lo hi inside
  refine .ite h ?_
  extract_lets +onlyGivenNames src s1 s2
  have h1 : Kept o s1 := h.filterMem.upd
  have h2 : Kept o s2 := h1.forEach fun _ _ h => h.inc64
  exact h2.addHbmb.setF

theorem recordRow (h : Kept o s) {g} : Kept o (s.recordRow g) := h.ite (h.sherd.partFail.ite h.upd)
theorem corrected (h : Kept o s) {m} : Kept o (s.corrected m) := h.setF.inc.upd.upd.setF.advise.ite h.setF.inc.upd
theorem uncorrected (h : Kept o s) {g} : Kept o (s.uncorrected g) := h.setF.inc.wr.wr.sherd.recordRow

theorem judgeRead (h : Kept o s) {g c found} : Kept o (s.judgeRead g c found).2 := by
  unfold State.judgeRead
  split_ifs
  · exact h.inc
  · exact h.uncorrected
  · exact h.corrected
  · exact h

theorem markBad (h : Kept o s) {g data} : Kept o (s.markBad g data) := h.upd.ite h
theorem ownRead (h : Kept o s) {g found} : Kept o (s.ownRead g found).2 := h.judgeRead.markBad.ite h.judgeRead
theorem patrol (h : Kept o s) {m found} : Kept o (s.patrol m found) := h.upd.ownRead
theorem ceWindowEnd (h : Kept o s) {m} : Kept o (s.ceWindowEnd m) := h.upd
theorem stackReading (h : Kept o s) {m t} : Kept o (s.stackReading m t) := h.ite h.setF.setF
theorem stackFailure (h : Kept o s) {m} : Kept o (s.stackFailure m) := h.sherd.partFail

theorem peerGranule (h : Kept o s) {port tag i a} : Kept o (s.peerGranule port tag i a) := by
  unfold State.peerGranule
  extract_lets x
  split
  · exact h
  · exact h.setPort.ite h.setPort

theorem answerReq (h : Kept o s) {q data poison refused} : Kept o (s.answerReq q data poison refused) := by
  unfold State.answerReq
  extract_lets a
  split
  · exact h.upd.ite h
  · exact h.copyGranule
  · exact h.peerGranule

theorem readContent (h : Kept o s) {g} : Kept o (s.readContent g).2.2 := by
  unfold State.readContent
  split
  · exact h
  · dsimp only
    split
    · exact h.freshNat
    · exact h.freshNat

theorem acceptReq (h : Kept o s) {q} : Kept o (s.acceptReq q) := by
  unfold State.acceptReq
  refine .ite h.inc.answerReq ?_
  extract_lets +onlyGivenNames s1 s2 src
  have h1 : Kept o s1 := by
    unfold s1
    split
    · exact h.addHbmb
    · exact h
  have h2 : Kept o s2 := h1.addUsage
  clear_value s2
  refine .ite h2.upd ?_
  exact h2.readContent.upd

theorem hbmRequest (h : Kept o s) {m} : Kept o (s.hbmRequest m) := by
  unfold State.hbmRequest
  extract_lets cand elig
  refine .ite h ?_
  split
  · exact h
  · split
    · exact h
    · exact h.upd.acceptReq

theorem hbmReadData (h : Kept o s) {m j found} : Kept o (s.hbmReadData m j found) := by
  unfold State.hbmReadData
  extract_lets mine
  split
  · exact h
  · exact (h.upd.judgeRead.when fun _ h => h.markBad).inc64.answerReq

theorem hbmWriteAck (h : Kept o s) {m} : Kept o (s.hbmWriteAck m) := by
  unfold State.hbmWriteAck
  split
  · exact h
  · exact h.upd.setGran.inc64.answerReq

theorem setMove (h : Kept o s) {m n} : Kept o (s.setMove m n) := h.upd
theorem orderMoves (h : Kept o s) {c out} : Kept o (s.orderMoves c out) := h.upd

theorem afterMove (h : Kept o s) {p c} : Kept o (s.afterMove p c) := by
  unfold State.afterMove
  extract_lets +onlyGivenNames x more s1 src s2
  have h1 : Kept o s1 := h.orderMoves
  have h2 : Kept o s2 := by
    unfold s2
    split
    · exact h.ite h.setStream
    · exact h1.setStream.ite h1
    · exact h
  exact h2.tryStop

theorem moveEnds (h : Kept o s) {m status} : Kept o (s.moveEnds m status) :=
  (h.dropMove.inc.freeDest.freeEntry.ite h.dropMove.inc.freeDest.endStream).tryStop

theorem moveRetry (h : Kept o s) {m} : Kept o (s.moveRetry m) := h.failMove.afterMove

theorem peerMove (h : Kept o s) {i m off gs x} (e : s.peerMove i m off gs = some x) : Kept o x := by
  unfold State.peerMove at e
  extract_lets +onlyGivenNames tags at e
  split at e
  · simp at e
  · obtain rfl := Option.some.inj e
    exact h.setPort

theorem sealOut (h : Kept o s) {m g0 d} : Kept o (s.sealOut m g0 d) := by
  unfold State.sealOut
  extract_lets +onlyGivenNames x chip seq b n src s1 s2 a out src2
  have h1 : Kept o s1 := h.upd
  have h2 : Kept o s2 := h1.setMove
  clear_value s2
  refine .ite h2.upd.slot2 ?_
  split
  · exact h2.moveRetry
  · exact h2.getD fun _ e => h2.peerMove e

theorem kvMoveOut (h : Kept o s) {c b found lend} : Kept o (s.kvMoveOut c b found lend) := by
  unfold State.kvMoveOut
  split
  · split
    · exact h
    · extract_lets +onlyGivenNames wait
      refine .ite h ?_
      extract_lets +onlyGivenNames g0 marked
      generalize marked ++ _ = l
      have h1 : Kept o (l.foldl (fun (a : Bool × State) f =>
          (a.1 || (a.2.ownRead (g0 + f.1) f.2).1, (a.2.ownRead (g0 + f.1) f.2).2)) (false, s)).2 := by
        refine foldl Prod.snd (fun _ _ h => ?_) h
        exact h.ownRead
      split
      next bad s1 e1 =>
      rw [e1] at h1
      extract_lets +onlyGivenNames s2 s3
      have h3 : Kept o s3 := (h1.forEach fun _ _ h => h.inc64).addHbmb
      exact h3.moveEnds.ite h3.sealOut
  · exact h

theorem kvMoveOutConfirm (h : Kept o s) {c b result} : Kept o (s.kvMoveOutConfirm c b result) := by
  unfold State.kvMoveOutConfirm
  split
  · exact h
  · exact h.ite (h.moveRetry.ite (h.dropMove.inc.setKv.freeEntry.ite h.dropMove.inc.setKv.setStream).afterMove)

theorem checkIn (h : Kept o s) {m e t} : Kept o (s.checkIn m e t) := by
  unfold State.checkIn
  extract_lets x
  split
  · exact h.setMove.ite h.moveEnds
  · exact h.moveEnds

theorem kvMoveIn (h : Kept o s) {c b t} : Kept o (s.kvMoveIn c b t) := by
  unfold State.kvMoveIn
  split
  · refine .ite (h.ite h.checkIn) ?_
    refine .ite h ?_
    refine .ite ?_ (h.checkIn.ite h)
    split
    · exact h.moveRetry
    · split
      · rename_i s1 e
        have h1 := h.peerMove e
        exact h1.setMove
      · exact h
  · exact h

theorem kvMoveInDone (h : Kept o s) {c b} : Kept o (s.kvMoveInDone c b) := by
  unfold State.kvMoveInDone
  split
  · split
    · exact h
    · extract_lets +onlyGivenNames s1
      have h1 : Kept o s1 := h.forEach fun _ _ h1 => h1.setGran
      extract_lets +onlyGivenNames s2
      have h2 : Kept o s2 := h1.forEach fun _ _ h2 => h2.inc64
      extract_lets +onlyGivenNames s3
      have h3 : Kept o s3 := h2.addHbmb
      exact (h3.freeEntry.dropMove.inc.setKv.freeEntry.ite h3.freeEntry.dropMove.inc.setKv.setStream).afterMove
  · exact h

/-! #### Serving -/

theorem tick (h : Kept o s) {now} : Kept o (s.tick now) := h.wr64

theorem engineWrite (h : Kept o s) {g v} : Kept o (s.engineWrite g v) := by
  unfold State.engineWrite
  extract_lets s1
  have h1 : Kept o s1 := by
    unfold s1
    split
    · exact h.addHbmb
    · exact h
  exact h1.setGran.inc64

theorem engineRead (h : Kept o s) {g} : Kept o (s.engineRead g).2 := by
  unfold State.engineRead
  extract_lets +onlyGivenNames s1
  have h1 : Kept o s1 := by
    unfold s1
    split
    · exact h.addHbmb
    · exact h
  exact h1.ownRead.inc64

theorem countUp (h : Kept o s) {c i} : Kept o (s.countUp c i) := by
  unfold State.countUp
  split
  · exact h.inc
  · exact h.setGran

theorem addShare (h : Kept o s) {set tread wops gran} : Kept o (s.addShare set tread wops gran) := h.setMeter
theorem splitUsage (h : Kept o s) {p l} : Kept o (s.splitUsage p l) := h.upd.addShare.ite (h.upd.forEach fun _ _ h => h.addShare).addShare
theorem admitStream (h : Kept o s) {p c w} : Kept o (s.admitStream p c w) := (h.setStream.setPart.forEach fun _ _ h => h.engineWrite).setVf

theorem admitCmd (h : Kept o s) {p cid rec now} : Kept o (s.admitCmd p cid rec now) := by
  unfold State.admitCmd
  extract_lets s1
  have h1 : Kept o s1 := h.tick
  split
  · exact h1
  · refine .ite h1 ?_
    split
    · exact h1.complete
    · refine .ite h1.complete ?_
      split
      · exact h1.complete
      · exact h1.admitStream.complete

theorem cancelCmd (h : Kept o s) {p cid} : Kept o (s.cancelCmd p cid) := by
  unfold State.cancelCmd
  split
  · exact h
  · exact h.complete.ite (h.ite h.setStream).complete

theorem park (h : Kept o s) {c} : Kept o (s.park c) := h.ite h.setStream.orderMoves.afterMove
theorem parkTimer (h : Kept o s) {c now} : Kept o (s.parkTimer c now) := h.tick.park.ite h.tick
theorem expire (h : Kept o s) {c} : Kept o (s.expire c) := h.endStream.inc.ite h
theorem pauseExpiry (h : Kept o s) {c now} : Kept o (s.pauseExpiry c now) := h.tick.expire
theorem moveDrain (h : Kept o s) {p} : Kept o (s.moveDrain p) := h.abortMoves.tryStop.ite h
theorem decideUp (h : Kept o s) {p} : Kept o (s.decideUp p) := h.ite (h.setPart.setF.ite (h.setPart.setF.ite h))
theorem resume (h : Kept o s) {c} : Kept o (s.resume c) := h.setStream.ite h.upd.setStream.orderMoves

theorem resumeAll (h : Kept o s) {p} : Kept o (s.resumeAll p) :=
  (h.forEach fun _ _ h => h.setStream.ite h.setStream).forEach fun _ _ h => h.resume.ite h

theorem pauseLoop (h : Kept o s) {p n ents} : Kept o (s.pauseLoop p n ents).2 := by
  induction n generalizing s ents with
  | zero => exact h
  | succ n ih =>
    unfold State.pauseLoop
    split
    · exact h
    · split
      · exact ih (h.ite h.setStream)
      · exact h

theorem leaveQueue (h : Kept o s) {e} : Kept o (s.leaveQueue e) := h.ite (h.setStream.ite h.setStream.pin)

theorem parkOne (h : Kept o s) {p} : Kept o (s.parkOne p) := by
  unfold State.parkOne
  extract_lets l
  split
  · exact h.park
  · exact h

theorem freshPlan (h : Kept o s) {p} : Kept o (s.freshPlan p).2 := by
  unfold State.freshPlan
  extract_lets +onlyGivenNames s1 a
  have h1 : Kept o s1 := h.resumeAll
  split
  next ents s2 e =>
  have h2 : Kept o s2 := by
    have := h1.pauseLoop (p := p) (n := 256) (ents := a.ents)
    rwa [e] at this
  extract_lets +onlyGivenNames s3 s4 s5 f
  have h3 : Kept o s3 := h2.inc.forEach fun _ _ h => h.parkOne
  have h5 : Kept o s5 := h3.inc.forEach fun _ _ h => h.leaveQueue
  exact h5.setVf

theorem replayPlan (h : Kept o s) {p x} (e : s.replayPlan p = some x) : Kept o x.2 := by
  unfold State.replayPlan at e
  extract_lets +onlyGivenNames step at e
  obtain ⟨_, _, rfl⟩ := Option.map_eq_some_iff.1 e
  exact h.setVf

theorem sendPlan (h : Kept o s) {p} : Kept o (s.sendPlan p) := h.setPart.forEach fun _ _ h => h.post

theorem makePlan (h : Kept o s) {p} : Kept o (s.makePlan p) := by
  unfold State.makePlan
  extract_lets +onlyGivenNames x
  refine .ite h ?_
  extract_lets +onlyGivenNames served r
  cases e : r with
  | none => exact h
  | some a =>
    have h1 : Kept o a.2 := by
      unfold r at e
      split_ifs at e
      · exact Option.some.inj e ▸ h
      · exact h.replayPlan e
      · exact Option.some.inj e ▸ h.freshPlan
    exact h1.setPart.inc.when fun _ h => h.sendPlan

theorem tryStart (h : Kept o s) {p} : Kept o (s.tryStart p) := h.ite (h.splitUsage.setRoot.setPart.setF.setPRun.forEach fun _ _ h => h.post)
theorem takePlanRows (h : Kept o s) {p} : Kept o (s.takePlanRows p) := h.upd.setPart
theorem stepGrant (h : Kept o s) {p} : Kept o (s.stepGrant p) := (h.ite h.takePlanRows).ite (h.ite h.takePlanRows).setRoot.tryStart

theorem takeSched (h : Kept o s) {k p} : Kept o (s.takeSched k p) := by
  unfold State.takeSched
  split
  · rename_i fst s1 e
    have h1 := h.takeMsg e
    exact h1
  · exact h

theorem readLogits (h : Kept o s) {k n rs acc} : Kept o (s.readLogits k n rs acc).2 := by
  induction rs generalizing s acc with
  | nil => exact h
  | cons r rs ih =>
    unfold State.readLogits
    split
    · next e => exact ih (h.access e)
    · next e => exact h.access e
    · next e => exact h.access e
    · next e => exact h.access e

theorem sampleEntry (h : Kept o s) {p k n i e} : Kept o (s.sampleEntry p k n i e) := by
  unfold State.sampleEntry
  split
  next rows s1 e1 =>
  have h1 : Kept o s1 := by
    have := h.readLogits (k := k) (n := n) (rs := s.logitRows p k n i) (acc := [])
    rwa [e1] at this
  split
  · exact h1.failStep
  · exact h1.setPart.inc

theorem sampleStep (h : Kept o s) {p x} (e : s.sampleStep p = some x) : Kept o x := by
  unfold State.sampleStep at e
  extract_lets +onlyGivenNames y ents at e
  split at e
  · obtain rfl := Option.some.inj e
    exact h
  · split at e
    · obtain rfl := Option.some.inj e
      exact h.setPart.ite h.failStep
    · extract_lets +onlyGivenNames ready s1 at e
      split at e
      · simp at e
      · obtain rfl := Option.some.inj e
        exact h.setPart.forEach fun _ _ h => h.ite h.sampleEntry

theorem commitEntry (h : Kept o s) {p e smp} : Kept o (s.commitEntry p e smp) := by
  unfold State.commitEntry
  extract_lets +onlyGivenNames x c s1 pos token s2 s3 src s4 s5 m lead s6
  have h2 : Kept o s2 := h.inc.forEach fun _ _ h => h.setKv
  have h3 : Kept o s3 := h2.setStream
  have h4 : Kept o s4 := h3.setStream
  have h5 : Kept o s5 := (h4.forEach fun _ _ h => h.countUp).ite h4
  have h6 : Kept o s6 := h5.when fun _ h => h.setMeter
  clear_value s6
  cases e : token with
  | none => exact h6
  | some t => exact h6.countUp.ite h6.countUp.setMeter.writeCq

theorem commit (h : Kept o s) {p} : Kept o (s.commit p) := by
  unfold State.commit
  extract_lets +onlyGivenNames x ents smp miss s1 s2 s3 s4 src s5 src2 s6
  have h2 : Kept o s2 := (h.forEach fun _ _ h => h.commitEntry).splitUsage
  have h4 : Kept o s4 := h2.inc.setF.setF
  have h6 : Kept o s6 := h4.setVf.setPart
  refine h6.forEach fun _ _ h7 => ?_
  split
  · exact h7.endStream
  · exact h7

theorem stepFails (h : Kept o s) {p} : Kept o (s.stepFails p) := by
  unfold State.stepFails
  extract_lets x n s1
  have h1 : Kept o s1 := h.splitUsage.setPart
  refine .ite (h1.setF.forEach fun _ _ h1 => h1.ite h1.endStream).setPart.setVf.sherd ?_
  exact h1.setF.when fun _ h1 => h1.setF

theorem setAdp (h : Kept o s) {a x} : Kept o (s.setAdp a x) := h.upd
theorem adpFlip (h : Kept o s) {a} : Kept o (s.adpFlip a) := h.ite h.setF.setF.setF.wr.setAdp

theorem retire (h : Kept o s) {c} : Kept o (s.retire c) := by
  unfold State.retire
  extract_lets +onlyGivenNames s1
  have h1 : Kept o s1 := h.unpin
  extract_lets +onlyGivenNames x
  split
  · exact h1.setStream
  · exact h1.setStream
  · exact h1.setStream
  · exact h1.setStream
  · exact h1.setStream
  · exact h1.setStream
  · exact h1

theorem adapters (h : Kept o s) {p} : Kept o (s.adapters p) := (h.forEach fun _ _ h => h.adpFlip).forEach fun _ _ h => h.retire.ite h
theorem reorderMoves (h : Kept o s) {p} : Kept o (s.reorderMoves p) := h.upd

theorem boundary (h : Kept o s) {p} : Kept o (s.boundary p) := by
  unfold State.boundary
  extract_lets +onlyGivenNames s1 s2 s3 s4 s5 s6 s7
  have h3 : Kept o s3 := (h.forEach fun _ _ h => h.endStream).adapters.forEach fun _ _ h => h.expire
  have h6 : Kept o s6 := (h3.when fun _ h => h.decideUp).makePlan.reorderMoves
  exact (h6.forEach fun _ _ h => h.park).tryStop

theorem endStep (h : Kept o s) {p x} (e : s.endStep p = some x) : Kept o x := by
  unfold State.endStep at e
  split at e
  · obtain rfl := Option.some.inj e
    exact h.boundary
  · split at e
    · simp at e
    · next e1 =>
      obtain rfl := Option.some.inj e
      have h1 := h.sampleStep e1
      exact (h1.stepFails.ite h1.commit).boundary

theorem stepCommit (h : Kept o s) {p now} : Kept o (s.stepCommit p now) :=
  h.tick.ite (h.tick.getD fun _ e => h.tick.endStep e)

theorem replayCmd (h : Kept o s) {p} : Kept o (s.replayCmd p) := h.ite h.setF.makePlan
theorem adpRef (h : Kept o s) {a} : Kept o (s.adpRef a) := h.setF
theorem adpStop (h : Kept o s) {a} : Kept o (s.adpStop a) := h.adpRef.ite h.setF
theorem adpLoad (h : Kept o s) {a} : Kept o (s.adpLoad a) := h.adpRef.ite h.setF.setAdp

theorem adpLoadDone (h : Kept o s) {a data} : Kept o (s.adpLoadDone a data) := by
  unfold State.adpLoadDone
  extract_lets x
  split
  · refine .ite h ?_
    extract_lets s1
    have h1 : Kept o s1 := by
      unfold s1
      split
      · exact h
      · refine h.forEach fun _ i h2 => ?_
        refine .ite h2.engineWrite ?_
        split
        · next f _ =>
          extract_lets bad
          split
          next v s2 e =>
          have h3 := h2.engineRead (g := f + i)
          rw [e] at h3
          exact h3.engineWrite.setGran
        · exact h2
    exact h1.setAdp.setF

theorem adpStart (h : Kept o s) {a} : Kept o (s.adpStart a) := h.adpRef.ite h.setF

/-! #### Cnet -/

theorem spreadX (h : Kept o s) {m but} : Kept o (s.spreadX m but) := h.forEach fun _ _ h => h.inc.ite h.setPort
theorem sawX (h : Kept o s) {m} : Kept o (s.sawX m) := h.upd
theorem setXpart (h : Kept o s) {p x} : Kept o (s.setXpart p x) := h.upd

theorem createX (h : Kept o s) {p xtype step arg} : Kept o (s.createX p xtype step arg) := by
  unfold State.createX
  split
  · exact h
  · exact (h.when fun _ h => h.setXpart).sawX.spreadX

theorem takeArg (h : Kept o s) {t from_ to_ p arg x} (e : s.takeArg t from_ to_ p arg = some x) : Kept o x := by
  unfold State.takeArg at e
  split at e
  · obtain rfl := Option.some.inj e
    exact h.upd
  · simp at e

theorem barrierCheck (h : Kept o s) {p k} : Kept o (s.barrierCheck p k) := by
  unfold State.barrierCheck
  split
  · exact h
  · exact h.post.ite h

theorem cmdBarrier (h : Kept o s) {k n} : Kept o (s.cmdBarrier k n) := h.slotCmd fun _ _ h => h.setWait.barrierCheck
theorem queryBarrier (h : Kept o s) {p id total} : Kept o (s.queryBarrier p id total) := h.setRoot.forEach fun _ _ h => h.post

theorem rootBarrier (h : Kept o s) {p} : Kept o (s.rootBarrier p) := by
  unfold State.rootBarrier
  extract_lets r
  split
  · exact h.queryBarrier.ite h
  · exact h

theorem barArrive (h : Kept o s) {k p} : Kept o (s.barArrive k p) := by
  unfold State.barArrive
  split
  · exact h
  · rename_i m s1 e
    have h1 := h.takeMsg e
    exact h1.ite h1.setRoot.setF.rootBarrier

theorem barQuery (h : Kept o s) {node p} : Kept o (s.barQuery node p) := by
  unfold State.barQuery
  split
  · exact h
  · rename_i m s1 e
    have h1 := h.takeMsg e
    exact h1.upd.post

theorem clearSent (h : Kept o s) {p k} : Kept o (s.clearSent p k) := h.forEach fun _ _ h => h.setCtx

theorem releaseBarrier (h : Kept o s) {p id} : Kept o (s.releaseBarrier p id) :=
  ((h.forEach fun _ _ h => h.upd).setRoot.setF.setF.forEach fun _ _ h => h.clearSent).forEach fun _ _ h => h.post

theorem barRelease (h : Kept o s) {k p} : Kept o (s.barRelease k p) := by
  unfold State.barRelease
  split
  · exact h
  · rename_i m s1 e
    have h1 := h.takeMsg e
    exact (h1.forEach fun _ _ h1 => h1.setWait).clearSent

theorem endReclaim (h : Kept o s) {p} : Kept o (s.endReclaim p) := h.stopPart.ite h.setRecl.setPart.setPRun.tryStop

theorem reclStep (h : Kept o s) {p n step} : Kept o (s.reclStep p n step) := by
  induction n generalizing s step with
  | zero => exact h
  | succ n ih =>
    unfold State.reclStep
    refine .ite ((ih h.setRecl).ite h.setRecl.queryBarrier) (.ite h.endReclaim ?_)
    extract_lets +onlyGivenNames os
    exact (ih h).ite (h.setRecl.forEach fun _ _ h => h.post)

theorem barCount (h : Kept o s) {node p} : Kept o (s.barCount node p) := by
  unfold State.barCount
  split
  · exact h
  · rename_i m s1 e
    have h1 := h.takeMsg e
    extract_lets +onlyGivenNames r
    split
    · exact h1
    · extract_lets +onlyGivenNames counts s2
      have h2 : Kept o s2 := h1.setRoot
      exact h2.ite ((h2.setRoot.reclStep.ite h2.setRoot).ite (h2.releaseBarrier.ite h2.setRoot))

theorem requery (h : Kept o s) {p} : Kept o (s.requery p) := by
  unfold State.requery
  split
  · exact h.queryBarrier.ite h
  · exact h

theorem startReclaim (h : Kept o s) {p dead} : Kept o (s.startReclaim p dead) :=
  h.ite (h.failStep.stepFails.ite h).setPart.upd.setRoot.setF.setPRun.setRecl.reclStep

theorem reclTimeout (h : Kept o s) {p} : Kept o (s.reclTimeout p) := h.ite h.sherd.partFail
theorem clearQueues (h : Kept o s) {k n} : Kept o (s.clearQueues k n) := (h.forEach fun _ _ h => h.clearCtr).forEach fun _ _ h => h.setQueue

theorem abortDesc (h : Kept o s) {k q d} : Kept o (s.abortDesc k q d).1 := by
  unfold State.abortDesc
  extract_lets +onlyGivenNames s1
  have h1 : Kept o s1 := h.countDone
  split
  · exact h1
  · exact h1

theorem abortQueue (h : Kept o s) {k q} : Kept o (s.abortQueue k q) := by
  refine .setQueue (foldl Prod.fst (fun a d h => ?_) h)
  split
  · exact h
  · exact h.abortDesc

theorem forceCtx (h : Kept o s) {k n} : Kept o (s.forceCtx k n) :=
  (((h.setF.when fun _ h => h.setRun).setCtx.forEach fun _ _ h => h.endOp).dropWaiters.forEach fun _ _ h => h.abortQueue).upd.post

theorem forceSched (h : Kept o s) {k n} : Kept o (s.forceSched k n) := by
  unfold State.forceSched
  split
  · rename_i s1 e
    have h1 := h.takeArg e
    exact h1.forceCtx
  · exact h

theorem setDisc (h : Kept o s) {r p v} : Kept o (s.setDisc r p v) := h.setF
theorem sinkResps (h : Kept o s) {k q} : Kept o (s.sinkResps k q) := h.upd

theorem discardCore (h : Kept o s) {k p} : Kept o (s.discardCore k p) :=
  (h.forEach fun _ _ h => h.discardCtx.dropWaiters.forEach fun _ _ h1 => h1.setQueue.sinkResps).forEach fun _ _ h => h.wr.wr

theorem discard (h : Kept o s) {node p} : Kept o (s.discard node p) := by
  unfold State.discard
  split
  · exact h
  · rename_i m s1 e
    have h1 := h.takeMsg e
    exact (h1.setDisc.setF.when fun _ h1 => h1.discardCore).post

theorem creditReclaim (h : Kept o s) {r p} : Kept o (s.creditReclaim r p) := by
  unfold State.creditReclaim
  split
  · exact h
  · rename_i m s1 e
    have h1 := h.takeMsg e
    exact (h1.forEach fun _ _ h1 => h1.setCredit).setF.post

theorem tagReclaim (h : Kept o s) {k n} : Kept o (s.tagReclaim k n) := by
  unfold State.tagReclaim
  extract_lets p
  split
  · exact h
  · exact ((h.upd.forEach fun _ _ h => h.setShelfRow).ite h.upd.emptyTags).clearQueues.post

theorem reclaimDone (h : Kept o s) {node p} : Kept o (s.reclaimDone node p) := by
  unfold State.reclaimDone
  split
  · exact h
  · rename_i fst s1 e
    have h1 := h.takeMsg e
    exact h1.setRecl.reclStep.ite h1.setRecl

theorem stepCheck (h : Kept o s) {p k} : Kept o (s.stepCheck p k) := h.post.ite h
theorem stepDrained (h : Kept o s) {k n} : Kept o (s.stepDrained k n) := h.ite h.setF.setWait.stepCheck

theorem rootStep (h : Kept o s) {p} : Kept o (s.rootStep p) := by
  unfold State.rootStep
  extract_lets +onlyGivenNames r cores
  refine .ite h ?_
  extract_lets +onlyGivenNames s1 s2
  have h2 : Kept o s2 := h.setRoot.setPRun.forEach fun _ _ h => h.post
  exact .ite (h2.getD fun _ e => h2.sampleStep e) h2

theorem rootStepDone (h : Kept o s) {k p} : Kept o (s.rootStepDone k p) := by
  unfold State.rootStepDone
  split
  · exact h
  · rename_i fst s1 e
    have h1 := h.takeMsg e
    exact h1.setRoot.rootStep

theorem haltComplete (h : Kept o s) {k n} : Kept o (s.haltComplete k n) :=
  h.ite (h.setWait.setRun.upd.when fun _ h => h.failStep).barrierCheck.stepCheck.rootBarrier.rootStep

theorem takeBoundary (h : Kept o s) {k p} : Kept o (s.takeBoundary k p) := by
  unfold State.takeBoundary
  split
  · exact h
  · rename_i m s1 e
    have h1 := h.takeMsg e
    exact h1.flipPart.post

theorem boundaryAck (h : Kept o s) {k p} : Kept o (s.boundaryAck k p) := by
  unfold State.boundaryAck
  split
  · exact h
  · rename_i fst s1 e
    have h1 := h.takeMsg e
    exact (h1.setRoot.setXpart.createX.ite h1.setRoot).tryStart

theorem takeStepStart (h : Kept o s) {k p} : Kept o (s.takeStepStart k p) := by
  unfold State.takeStepStart
  refine .ite h ?_
  split
  · exact h
  · rename_i fst s1 e
    have h1 := h.takeMsg e
    exact h1.forEach fun _ _ h1 => h1.setWait

theorem startCtx (h : Kept o s) {k n} : Kept o (s.startCtx k n) := h.emptyCtx.clearQueues.emptyTags.setCtx.setF.setRun.wr.setF.setF.wr.wr.upd
theorem afterStart (h : Kept o s) {p} : Kept o (s.afterStart p) := h.ite h.makePlan

theorem takePstart (h : Kept o s) {node p} : Kept o (s.takePstart node p) := by
  unfold State.takePstart
  split
  · exact h
  · rename_i fst s1 e
    have h1 := h.takeMsg e
    exact ((h1.forEach fun _ _ h1 => h1.startCtx).ite h1).afterStart

theorem launch (h : Kept o s) {p remap} : Kept o (s.launch p remap) := by
  unfold State.launch
  extract_lets s1
  have h1 : Kept o s1 := h.when fun _ h1 => h1.forEach fun _ _ h2 => h2.endStream
  exact ((h1.setPart.upd.setRoot.setPRun.when fun _ h1 => h1.setF).forEach fun _ _ h1 => h1.post).afterStart

theorem takePstop (h : Kept o s) {node p} : Kept o (s.takePstop node p) := by
  unfold State.takePstop
  split
  · exact h
  · rename_i fst s1 e
    have h1 := h.takeMsg e
    exact h1.tryStop

theorem storeUrgent (h : Kept o s) {m} : Kept o (s.storeUrgent m) := h.upd.ite (h.inc.setF.ite h.inc.setF.upd.sherd)
theorem storeBulk (h : Kept o s) {m} : Kept o (s.storeBulk m) := h.upd.ite h.inc

theorem takeFault (h : Kept o s) {node p taken bad} : Kept o (s.takeFault node p taken bad) := by
  unfold State.takeFault
  extract_lets +onlyGivenNames src s1
  have h1 : Kept o s1 := h.upd
  clear_value s1
  split
  · exact h1
  · next e =>
    have h2 := h1.takeMsg e
    exact h2.inc.ite h2.storeUrgent

theorem takeBulk (h : Kept o s) {m taken bad} : Kept o (s.takeBulk m taken bad) := h.upd.inc.ite h.upd.storeBulk

theorem cnetEvent (h : Kept o s) {k taken bad} : Kept o (s.cnetEvent k taken bad) := by
  unfold State.cnetEvent
  split
  · exact h
  · extract_lets s1
    have h1 : Kept o s1 := h.setEvents.takeBulk
    refine h1.forEach fun _ _ h2 => ?_
    split
    · exact h2.ite h2.setEvents.setWait
    · exact h2

/-! #### Link -/

theorem advance (h : Kept o s) {i from_ to_} : Kept o (s.advance i from_ to_) := h.setPortState.ite h
theorem trainFails (h : Kept o s) {i reason} : Kept o (s.trainFails i reason) := h.setF.setPortState
theorem portEnable (h : Kept o s) {i} : Kept o (s.portEnable i) := h.ite h.setF.startPort

theorem equaliseDone (h : Kept o s) {i pass} : Kept o (s.equaliseDone i pass) := by
  unfold State.equaliseDone
  refine .ite h ?_
  split
  · exact h.setF.setPortState
  · exact h.trainFails

theorem recordsAgreed (h : Kept o s) {i r} : Kept o (s.recordsAgreed i r) := by
  unfold State.recordsAgreed
  refine .ite h ?_
  split
  · exact h.trainFails
  · exact h.wr.wr.setPort.setPortState

theorem creditsReceived (h : Kept o s) {i} : Kept o (s.creditsReceived i) := h.ite h.setPort.setPortState
theorem trainTimeout (h : Kept o s) {i} : Kept o (s.trainTimeout i) := h.trainFails.ite h
theorem failedRetry (h : Kept o s) {i} : Kept o (s.failedRetry i) := h.startPort.ite h
theorem retrainStart (h : Kept o s) {i lost} : Kept o (s.retrainStart i lost) := h.ite h.inc.setPort.setPortState

theorem goDown (h : Kept o s) {i} : Kept o (s.goDown i) :=
  h.dropPort.inc.setPortState.setF.setF.sherd.ite (h.dropPort.inc.setPortState.setF.setF.sherd.forEach fun _ _ h => h.endStream)

theorem retrainTimeout (h : Kept o s) {i} : Kept o (s.retrainTimeout i) := h.goDown.ite h
theorem retrainDone (h : Kept o s) {i r} : Kept o (s.retrainDone i r) := h.ite (h.goDown.ite h.setPort.setF.setPortState)
theorem purgeTx (h : Kept o s) {i} : Kept o (s.purgeTx i) := h.setPort.inc.setCredit

theorem sendItems (h : Kept o s) {i js arb ksw} : Kept o (s.sendItems i js arb ksw) := by
  unfold State.sendItems
  extract_lets x
  split
  · exact h
  · exact h.setPort.when fun _ h => h.setCredit

theorem flitTransmit (h : Kept o s) {i ksw} : Kept o (s.flitTransmit i ksw) := by
  unfold State.flitTransmit
  refine .ite h ?_
  extract_lets +onlyGivenNames ksw s1
  have h1 : Kept o s1 := h.purgeTx
  extract_lets +onlyGivenNames x
  split
  · exact h1.setPort
  · exact h1.setPort
  · exact h1.sendItems
  · exact h1.setPort

theorem startReplay (h : Kept o s) {i} : Kept o (s.startReplay i) := h.setPort.inc
theorem replayTimeout (h : Kept o s) {i} : Kept o (s.replayTimeout i) := h.startReplay.ite h

theorem receive (h : Kept o s) {i l numbered} : Kept o (s.receive i l numbered).2 := by
  unfold State.receive
  split
  · exact h
  · extract_lets +onlyGivenNames s1 ok s2 x y
    have h2 : Kept o s2 := h.inc.inc.inc
    split
    · exact h2.setPort
    · exact h2.setPort

theorem giveCredit (h : Kept o s) {i vc} : Kept o (s.giveCredit i vc) := h.setPort
theorem nakFlit (h : Kept o s) {i l} : Kept o (s.nakFlit i l) := h.receive.startReplay.ite h.receive
theorem setSc (h : Kept o s) {sc} : Kept o (s.setSc sc) := h.wr64
theorem setBindSum (h : Kept o s) {i e b} : Kept o (s.setBindSum i e b) := h.upd
theorem declare (h : Kept o s) {i e p} : Kept o (s.declare i e p) := h.ite h.setBindSum.inc.post

theorem rxRow (h : Kept o s) {i r} : Kept o (s.rxRow i r) := by
  unfold State.rxRow
  extract_lets x
  split
  · exact h.setPort.inc.giveCredit
  · exact h.setPort

theorem dropRow (h : Kept o s) {i a} : Kept o (s.dropRow i a) := h.inc.giveCredit

theorem placeRow (h : Kept o s) {i e p reduce poison late wt drow data} : Kept o (s.placeRow i e p reduce poison late wt drow data) := by
  unfold State.placeRow
  extract_lets s1
  have h1 : Kept o s1 := h.inc
  split
  · exact h1.dropRow
  · exact h1.rxRow

theorem rowFlit (h : Kept o s) {i l sc p reduce poison wt drow step data} : Kept o (s.rowFlit i l sc p reduce poison wt drow step data) := by
  unfold State.rowFlit
  split
  next ok s1 e1 =>
  have h1 : Kept o s1 := by
    have := (h.setSc (sc := sc)).receive (i := i) (l := l) (numbered := true)
    rwa [e1] at this
  refine .ite h1 ?_
  split
  · exact h1.dropRow
  · exact h1.dropRow.ite ((h1.ite h1.setBindSum).when fun _ h1 => h1.declare).placeRow

theorem stepDeadline (h : Kept o s) {i e sc} : Kept o (s.stepDeadline i e sc) := by
  unfold State.stepDeadline
  extract_lets +onlyGivenNames s1
  have h1 : Kept o s1 := h.setSc
  extract_lets +onlyGivenNames p
  split
  · exact h1.declare.ite h1
  · exact h1

theorem incomplete (h : Kept o s) {i p taken} : Kept o (s.incomplete i p taken) := by
  unfold State.incomplete
  split
  · exact h
  · next m s1 e =>
    have h1 := h.takeMsg e
    extract_lets +onlyGivenNames src s2 s3 s4
    have h2 : Kept o s2 := by
      refine storeUrgent ?_
      exact h1.upd
    have h3 : Kept o s3 := h2.sherd
    have h4 : Kept o s4 := h3.failStep.ite (h3.inc.ite h3)
    exact h4.ite h4.setXpart.createX

theorem peerRequest (h : Kept o s) {i write schip off ngran tag data} : Kept o (s.peerRequest i write schip off ngran tag data) :=
  h.ite h.setPort.upd

theorem pwriteFlit (h : Kept o s) {i l schip off ngran tag data} : Kept o (s.pwriteFlit i l schip off ngran tag data) :=
  h.receive.giveCredit.peerRequest.ite h.receive

theorem preadFlit (h : Kept o s) {i l schip off ngran tag} : Kept o (s.preadFlit i l schip off ngran tag) :=
  h.receive.giveCredit.peerRequest.ite h.receive

theorem peerAnswer (h : Kept o s) {i write tag status} : Kept o (s.peerAnswer i write tag status) := by
  unfold State.peerAnswer
  extract_lets +onlyGivenNames s1
  have h1 : Kept o s1 := h.giveCredit
  extract_lets +onlyGivenNames x
  split
  · exact h1
  · extract_lets +onlyGivenNames s2
    have h2 : Kept o s2 := h1.setPort
    split
    · exact h2
    · exact h2.ite (h2.moveEnds.ite h2.moveRetry)

theorem prdataFlit (h : Kept o s) {i l tag status} : Kept o (s.prdataFlit i l tag status) := h.receive.peerAnswer.ite h.receive
theorem packFlit (h : Kept o s) {i l tag status} : Kept o (s.packFlit i l tag status) := h.receive.peerAnswer.ite h.receive

theorem rackSync (h : Kept o s) {sc} : Kept o (s.rackSync sc) := by
  unfold State.rackSync
  refine .ite (h.setSc.setF.upd.setF.forEach fun _ _ h => h.tryStart) ?_
  refine .ite h.setSc ?_
  split
  · exact h.setSc
  · exact h.setSc.setF.setF.setF.sherd

theorem scArm (h : Kept o s) : Kept o (s.scArm) := h.setF.ite h.setF
theorem takeX (h : Kept o s) {i m} : Kept o (s.takeX i m) := h.ite (h.sawX.spreadX.upd.ite h.sawX.spreadX)
theorem xctlFlit (h : Kept o s) {i l ms} : Kept o (s.xctlFlit i l ms) := (h.receive.giveCredit.forEach fun _ _ h => h.takeX).ite h.receive

theorem takeInbox (h : Kept o s) {p want x} (e : s.takeInbox p want = some x) : Kept o x.2 := by
  unfold State.takeInbox at e
  split at e
  · simp at e
  · obtain ⟨_, _, rfl⟩ := Option.map_eq_some_iff.1 e
    exact h.upd

theorem takeXdone (h : Kept o s) {p} : Kept o (s.takeXdone p) := by
  unfold State.takeXdone
  split
  · exact h
  · rename_i m s1 e
    have h1 := h.takeInbox e
    exact h1.setXpart.ite h1

theorem takeXcommit (h : Kept o s) {p rows} : Kept o (s.takeXcommit p rows) := by
  unfold State.takeXcommit
  split
  · exact h
  · rename_i m s1 e
    have h1 := h.takeInbox e
    exact h1.ite h1.setPart.commit.boundary

theorem takeXgo (h : Kept o s) {p sc} : Kept o (s.takeXgo p sc) := by
  unfold State.takeXgo
  split
  · exact h.setSc
  · rename_i m s1 e
    have h1 := h.takeInbox e
    exact h1.setSc.ite (h1.setSc.failStep.stepFails.boundary.ite h1.setSc).setXpart.setPart

theorem takeXinc (h : Kept o s) {p} : Kept o (s.takeXinc p) := by
  unfold State.takeXinc
  split
  · exact h
  · rename_i m s1 e
    have h1 := h.takeInbox e
    exact h1.setXpart.failStep.ite (h1.inc.sherd.ite h1)

theorem sendXgo (h : Kept o s) {p sc} : Kept o (s.sendXgo p sc) := h.ite h.setXpart.createX

theorem leadEnds (h : Kept o s) {p sc x} (e : s.leadEnds p sc = some x) : Kept o x := by
  unfold State.leadEnds at e
  split at e
  · obtain rfl := Option.some.inj e
    exact h.makePlan
  · split at e
    · simp at e
    · split at e
      · simp at e
      · next e1 =>
        obtain rfl := Option.some.inj e
        have h1 := endStep (h.failStep.ite h) e1
        exact h1.freshNat.createX.ite h1

theorem leadCommit (h : Kept o s) {p sc now} : Kept o (s.leadCommit p sc now) := by
  unfold State.leadCommit
  extract_lets s1
  have h1 : Kept o s1 := h.setSc.tick
  refine .ite h1 ?_
  split
  · exact h1
  · rename_i s2 e
    have h2 := h1.leadEnds e
    exact h2.sendXgo

theorem startTick (h : Kept o s) {p sc} : Kept o (s.startTick p sc) := by
  unfold State.startTick
  extract_lets s1
  have h1 : Kept o s1 := h.setSc
  split
  · exact h1
  · exact h1.ite h1.setXpart.setRoot.tryStart

theorem repeatX (h : Kept o s) {p} : Kept o (s.repeatX p) := h.setXpart.forEach fun _ _ h => h.spreadX

/-! #### Weights -/

theorem flashRead (h : Kept o s) {r} : Kept o (s.flashRead r) := (h.inc.inc.inc.when fun _ h => h.setF).when fun _ h => h.setF
theorem tileLoading (h : Kept o s) {key} : Kept o (s.tileLoading key) := h.setTileState.dropArmed
theorem tileFails (h : Kept o s) {key reason} : Kept o (s.tileFails key reason) := h.loadTileFailed.when fun _ h => h.setTileState

theorem loadStart (h : Kept o s) {p slot keep img named} : Kept o (s.loadStart p slot keep img named) := by
  unfold State.loadStart
  extract_lets +onlyGivenNames owned others jstate done clear run s1 s2 s3 s4 src s5 s6
  have h1 : Kept o s1 := h.when fun _ h => h.forEach fun _ _ h => h.setJtile
  have h4 : Kept o s4 := (h1.setJpart.forEach fun _ _ h => h.tileLoading).forEach fun _ _ h => h.tileLoading
  have h5 : Kept o s5 := h4.upd
  exact h5.setF.setF.setPload.forEach fun _ _ h => h.tileFails

theorem loadCmd (h : Kept o s) {p slot resume r} : Kept o (s.loadCmd p slot resume r) := by
  unfold State.loadCmd
  refine .ite h.setF ?_
  extract_lets keep slot s1
  have h1 : Kept o s1 := h.setF.flashRead
  split
  · exact h1.setF
  · exact h1.loadStart

theorem loadAbort (h : Kept o s) {p} : Kept o (s.loadAbort p) := by
  unfold State.loadAbort
  split
  · exact h.abortLoad
  · exact h

theorem dropTile (h : Kept o s) {key} : Kept o (s.dropTile key) := h.upd

theorem reach (h : Kept o s) {nominal c} : Kept o (s.reach nominal c).2 := by
  unfold State.reach
  split
  · exact h
  · exact h
  · exact h.freshNat

theorem reachPair (h : Kept o s) {key pc r m b} : Kept o (s.reachPair key pc r m b) := h.reach.reach.setPair

theorem fillSpare (h : Kept o s) {key i c w b x} (e : s.fillSpare key i c w b = some x) : Kept o x := by
  have key : Kept o ((s.fillSpare key i c w b).getD s) := by
    refine foldl (fun a : Option State => a.getD s) (fun a r ha => ?_) h
    split
    · exact setPair ha
    · exact h
  rwa [e] at key

/-- The loop over the spare columns is opened by `delta`: an equation of it would be checked by trying the 64 columns. -/
theorem moveColumn (h : Kept o s) {key c w b n} : Kept o (s.moveColumn key c w b n).1 := by
  delta State.moveColumn State.moveColumn._f
  generalize List.range 64 = l
  induction n generalizing b with
  | zero => exact h
  | succ n ih =>
    dsimp only [Nat.brecOn, Nat.brecOn.go] at ih ⊢
    split
    · exact h
    · split
      · next e => exact h.fillSpare e
      · exact ih

theorem programPair (h : Kept o s) {key r c w b} : Kept o (s.programPair key r c w b).1 := by
  unfold State.programPair
  extract_lets +onlyGivenNames home
  split
  · exact h.reachPair
  · extract_lets +onlyGivenNames pc
    split
    · exact h.setPair
    · extract_lets +onlyGivenNames b1
      split
      next s2 i b2 e =>
      have h2 : Kept o s2 := by
        have := h.moveColumn (key := key) (c := c) (w := w) (b := b1) (n := 65)
        rwa [e] at this
      split
      · exact h2
      · exact foldl id (fun _ _ h => h.reachPair) h2

theorem setBurst (h : Kept o s) {key b} : Kept o (s.setBurst key b) := h.upd

theorem programRow (h : Kept o s) {key w found} : Kept o (s.programRow key w found) := by
  rw [State.programRow]
  generalize List.range 1024 = l
  split
  next s1 b e =>
  have h1 := foldl Prod.fst (fun (a : State × Burst) c h =>
    h.programPair (key := key) (r := ((s.burst key).learn found).next) (c := c) (w := w) (b := a.2)) (l := l) (b := (s, (s.burst key).learn found)) h
  rw [e] at h1
  exact h1.setBurst

theorem programBurst (h : Kept o s) {key found r} : Kept o (s.programBurst key found r) := by
  unfold State.programBurst
  split
  · exact h
  · extract_lets +onlyGivenNames b t
    refine .ite h ?_
    refine .ite (h.ite h.inc.setBurst) ?_
    extract_lets +onlyGivenNames s1
    have h1 : Kept o s1 := h.flashRead.ite h
    split
    · exact h1.tileFails
    · exact h1.tileFails.ite (h1.when fun _ h1 => h1.setJtile).programRow

theorem replaceStuck (h : Kept o s) {key l} : Kept o (s.replaceStuck key l) := h.upd

theorem tileDone (h : Kept o s) {key found} : Kept o (s.tileDone key found) := by
  unfold State.tileDone
  split
  · exact h
  · next run w _ =>
    extract_lets +onlyGivenNames b
    refine .ite h ?_
    extract_lets +onlyGivenNames x b1 redo
    have h1 : Kept o (redo.foldl (fun (a : State × Burst) e => a.1.programPair key e.1 e.2 x a.2) (s, b1)).1 :=
      foldl Prod.fst (fun _ _ h => h.programPair) h
    clear_value redo
    split
    next s1 b2 e =>
    rw [e] at h1
    extract_lets +onlyGivenNames spares rec_ src s2 s3 s4 n
    have h2 : Kept o s2 := h1.upd
    have h4 : Kept o s4 := h2.setJtile.writeTileCfg.tileReady.replaceStuck
    exact h4.dropTile.setF

theorem tileClear (h : Kept o s) {key} : Kept o (s.tileClear key) := by
  unfold State.tileClear
  extract_lets +onlyGivenNames t
  refine .ite h ?_
  exact (h.filterCells.forEach fun _ _ h => h.wr).setTileState.dropTile

theorem tileRestore (h : Kept o s) {key r} : Kept o (s.tileRestore key r) := by
  unfold State.tileRestore
  split
  · exact h
  · refine .ite h ?_
    extract_lets s1
    have h1 : Kept o s1 := h.flashRead
    split
    · exact h1.restoreTile.dropTile.setF
    · exact h1.tileFails
    · exact h1.upd

theorem setLoad (h : Kept o s) {p f} : Kept o (s.setLoad p f) := h.upd

theorem spillWrite (h : Kept o s) {p r} : Kept o (s.spillWrite p r) := by
  unfold State.spillWrite
  split
  · exact h
  · split
    · exact h
    · split
      · exact h.setLoad
      · refine .ite h ?_
        extract_lets s1
        have h1 : Kept o s1 := h.flashRead
        split
        · exact h1.setLoad
        · exact (h1.forEach fun _ _ h1 => h1.setGran).addHbmb.setLoad

theorem loadComplete (h : Kept o s) {p} : Kept o (s.loadComplete p) := by
  unfold State.loadComplete
  split
  · exact h
  · exact h.ite (h.upd.failLoad.ite h.upd.upd.setJpart.setPload)

/-! #### Images -/

theorem wrBytes (h : Kept o s) {a l} : Kept o (s.wrBytes a l) := h.forEach fun _ _ h => h.wr

theorem writeLcore (h : Kept o s) {p l f} : Kept o (s.writeLcore p l f) := by
  unfold State.writeLcore
  extract_lets +onlyGivenNames c
  clear_value c
  split
  next k n =>
  extract_lets +onlyGivenNames r s0 has s1 s2 s3 s4 s5 s6 s7 s8 pm src s9
  have h2 : Kept o s2 := h.setF.setF.forEach fun _ _ h => h.wr.wr
  have h4 : Kept o s4 := (h2.forEach fun _ _ h => h.wrBytes).forEach fun _ _ h => h.wrBytes
  have h6 : Kept o s6 := (h4.forEach fun _ _ h => h.wrBytes).forEach fun _ _ h => h.wrBytes
  have h8 : Kept o s8 := (h6.forEach fun _ _ h => h.setShelfRow).forEach fun _ _ h => h.wrBytes
  have h9 : Kept o s9 := h8.upd
  exact h9.forEach fun _ _ h => h.wrBytes

theorem imageEnd (h : Kept o s) {p e} : Kept o (s.imageEnd p e) := h.upd
theorem routeEnd (h : Kept o s) {p e} : Kept o (s.routeEnd p e) := h.upd
theorem countSig (h : Kept o s) {p} : Kept o (s.countSig p) := h.upd

theorem imageLoad (h : Kept o s) {p img f} : Kept o (s.imageLoad p img f) := by
  unfold State.imageLoad
  split
  · exact h.imageEnd
  · extract_lets ls refused
    refine .ite ((h.forEach fun _ _ h => h.setF).forEach fun _ _ h => h.setF).imageEnd ?_
    exact (h.forEach fun _ _ h => h.writeLcore).countSig.imageEnd

theorem writeRoutes (h : Kept o s) {p flows} : Kept o (s.writeRoutes p flows) := by
  unfold State.writeRoutes
  split
  · exact h
  · exact h.forEach fun _ _ h => (h.forEach fun _ _ h1 => h1.wr).wr.forEach fun _ _ h1 => h1.setRoutePos

theorem writeReds (h : Kept o s) {p k f} : Kept o (s.writeReds p k f) :=
  (h.forEach fun _ _ h => h.wr.wr.wr.wr64).forEach fun _ _ h => h.wr.wr.wr.wr.wr

theorem routeLoad (h : Kept o s) {p img f} : Kept o (s.routeLoad p img f) := by
  unfold State.routeLoad
  split
  · exact h.routeEnd
  · exact (h.writeRoutes.forEach fun _ _ h => h.writeReds).countSig.routeEnd

/-! #### Partition -/

theorem pcStat (h : Kept o s) {p result reason} : Kept o (s.pcStat p result reason) := h.setF.setF.setF
theorem stopCommand (h : Kept o s) {p} : Kept o (s.stopCommand p) := h.pcStat.ite (h.pcStat.setPart.ite h.pcStat.orderStop)
theorem startCommand (h : Kept o s) {p remap} : Kept o (s.startCommand p remap) := h.pcStat.ite h.pcStat.launch
theorem stopTimeout (h : Kept o s) {p} : Kept o (s.stopTimeout p) := h.startReclaim.ite h
theorem writePcmd (h : Kept o s) {v} : Kept o (s.writePcmd v) := h.stopCommand.ite (h.startCommand.ite h)
theorem romStart (h : Kept o s) : Kept o (s.romStart) := h.setF.padRelease.writeRefen.startConverters.setSec
theorem writeReset (h : Kept o s) {v} : Kept o (s.writeReset v) := h.ite h.bringUp.romStart

/-! #### RegWrite -/

theorem writeMasked (h : Kept o s) {a v} : Kept o (s.writeMasked a v) := by
  unfold State.writeMasked
  split
  · exact h.wr
  · exact h

theorem writeIf (h : Kept o s) {ok rej f a v} : Kept o (s.writeIf ok rej f a v) := h.writeMasked.ite h.setF
theorem writeGctl (h : Kept o s) {a v} : Kept o (s.writeGctl a v) := (h.ite h.writeMasked).ite (h.writePcmd.ite (h.writeReset.ite h.writeMasked))
theorem writeSec (h : Kept o s) {a v} : Kept o (s.writeSec a v) := (h.setF.ite h).ite h.writeMasked
theorem writeFcmd (h : Kept o s) {v} : Kept o (s.writeFcmd v) := h.ite (h.fenceOrder.ite (h.fenceClear.ite h.setF))
theorem writeLog (h : Kept o s) {a v} : Kept o (s.writeLog a v) := h.writeFcmd.ite (h.testCommand.ite h.writeIf)
theorem writeMtr (h : Kept o s) {a v} : Kept o (s.writeMtr a v) := (h.timeSet.ite h).ite (h.meterSnapshot.ite h.writeIf)
theorem writeRefctl (h : Kept o s) {v} : Kept o (s.writeRefctl v) := h.setF.ite (h.wr.refOrder.ite h.wr)

theorem writeClk (h : Kept o s) {a v} : Kept o (s.writeClk a v) :=
  h.writeRefctl.ite (h.opRequest.ite (h.islandSwitch.ite (h.freqStart.ite h.writeIf)))

theorem writeCap (h : Kept o s) {v} : Kept o (s.writeCap v) := h.setF.ite (h.setF.clamp.ite h.setF)
theorem writeBudget (h : Kept o s) {v} : Kept o (s.writeBudget v) := h.wr.setF
theorem writePwrCmd (h : Kept o s) {v} : Kept o (s.writePwrCmd v) := h.ite (h.powerRun.ite (h.powerRequest.ite h.setF))

theorem writePwr (h : Kept o s) {a v} : Kept o (s.writePwr a v) :=
  h.writePwrCmd.ite (h.padRelease.ite (h.writeCap.ite (h.writeBudget.ite (h.writeMasked.charger.ite h.writeIf))))

theorem writeMadc (h : Kept o s) {a v} : Kept o (s.writeMadc a v) :=
  h.writeRefen.ite (h.writeMasked.ite (h.urgentConversion.ite (h.ite (h.setF.ite h.writeMasked.showPeriod.startConverters))))

theorem writeThm (h : Kept o s) {a v} : Kept o (s.writeThm a v) := h.roCommand.ite h.writeIf
theorem writeInd (h : Kept o s) {a v} : Kept o (s.writeInd a v) := h.writeMasked.judgeRackStop.ite (h.writeMasked.upd.ite h.writeIf)
theorem writeMsixPf (h : Kept o s) {i v} : Kept o (s.writeMsixPf i v) := h.upd.ite (h.upd.upd.ite h.upd)
theorem writeMsixVf (h : Kept o s) {p i v} : Kept o (s.writeMsixVf p i v) := h.setVf.ite (h.setVf.ite h.setVf)

theorem writeVf (h : Kept o s) {p op a v} : Kept o (s.writeVf p op a v) :=
  h.ringEnable.ite (h.sqDoorbell.ite (h.cqDoorbell.ite (h.writeMsixVf.ite h.writeIf)))

theorem writeSrv (h : Kept o s) {a v} : Kept o (s.writeSrv a v) := h.writeMasked.ite ((h.replayCmd.ite h).ite h.writeIf)

theorem writeAdp (h : Kept o s) {a v} : Kept o (s.writeAdp a v) :=
  (((h.when fun _ h => h.adpStop).when fun _ h => h.adpLoad).when fun _ h => h.adpStart).ite h.writeIf

theorem coreRej (h : Kept o s) {k} : Kept o (s.coreRej k) := h.setF
theorem writeCtx (h : Kept o s) {k n a v} : Kept o (s.writeCtx k n a v) := h.coreRej.ite h.writeMasked
theorem writeTable (h : Kept o s) {k range i a v} : Kept o (s.writeTable k range i a v) := h.writeMasked.ite h.coreRej
theorem writePmem (h : Kept o s) {k j a v} : Kept o (s.writePmem k j a v) := h.writeMasked.upd.ite h.coreRej
theorem writeBuf (h : Kept o s) {k b a v} : Kept o (s.writeBuf k b a v) := h.writeMasked.ite h.coreRej

theorem writeDrift (h : Kept o s) {k a v} : Kept o (s.writeDrift k a v) := by
  unfold State.writeDrift
  extract_lets o w ok
  refine .ite (((h.when fun _ h => h.discardSet).when fun _ h => h.openRound).when fun _ h => h.arm) ?_
  exact h.shadowWrite.ite (h.writeMasked.newWindows.ite h.writeIf)

theorem rtrRej (h : Kept o s) {k} : Kept o (s.rtrRej k) := h.setF

theorem writeShare (h : Kept o s) {base a v x} (e : s.writeShare base a v = some x) : Kept o x := by
  unfold State.writeShare at e
  extract_lets +onlyGivenNames j w changed t sum at e
  split_ifs at e
  obtain rfl := Option.some.inj e
  exact h.writeMasked

theorem writeRlseg (h : Kept o s) {k p a v} : Kept o (s.writeRlseg k p a v) := h.rtrRej.ite (h.writeMasked.forEach fun _ _ h => h.setRoutePos)
theorem writeRlist (h : Kept o s) {k i a v} : Kept o (s.writeRlist k i a v) := h.rtrRej.ite h.writeMasked
theorem writeRed (h : Kept o s) {k e a v} : Kept o (s.writeRed k e a v) := h.rtrRej.ite h.writeMasked

theorem writeRtr (h : Kept o s) {k c a v} : Kept o (s.writeRtr k c a v) := by
  unfold State.writeRtr
  refine .ite h.writeMasked ?_
  refine .ite ?_ (h.writeRlseg.ite (h.writeRlist.ite h.writeRed))
  split
  · rename_i s1 e
    have h1 := h.writeShare e
    exact h1
  · exact h.rtrRej

theorem writeTile (h : Kept o s) {k c a v} : Kept o (s.writeTile k c a v) := by
  unfold State.writeTile
  exact (h.tileClr.ite h).ite (h.writeMasked.ite (h.ite h.tileCfgWrite))

theorem writeCore (h : Kept o s) {a v} : Kept o (s.writeCore a v) := by
  unfold State.writeCore
  extract_lets k c w
  refine .ite (h.coreRej.ite h.writeMasked) <| .ite h.writeCtx <| .ite h.writeCtx <| .ite ?_ <|
    .ite (h.coreRej.ite h.writeMasked) <| .ite (h.coreRej.ite h.writeMasked) <| .ite h.writeBuf ?_
  · exact .ite h.lthrWrite <| .ite h.lthrWrite <| .ite (h.layerClr.ite h) h.writeMasked
  · exact .ite h.writeTable <| .ite h.writeTable <| .ite h.writeTable <| .ite h.writeTable <| .ite h.writePmem <|
      .ite h.writeDrift <| .ite h.writeRtr <| .ite h.writeTile h.writeMasked

theorem lnkRej (h : Kept o s) {i} : Kept o (s.lnkRej i) := h.setF

theorem writeLnkCtl (h : Kept o s) {i v} : Kept o (s.writeLnkCtl i v) :=
  h.lnkRej.ite (h.lnkRej.ite ((h.wr.ite h.wr.portEnable).ite (h.wr.disablePort.ite h.wr)))

theorem writeBinding (h : Kept o s) {i j a v} : Kept o (s.writeBinding i j a v) := h.lnkRej.ite h.writeMasked
theorem writeWindowReg (h : Kept o s) {i j a v} : Kept o (s.writeWindowReg i j a v) := h.lnkRej.ite h.writeMasked

theorem writeLnkCommon (h : Kept o s) {a v} : Kept o (s.writeLnkCommon a v) :=
  (h.lnkRej.ite (h.wr.scArm.ite h.wr)).ite ((h.lnkRej.ite h.writeMasked).ite ((h.lnkRej.ite h.writeMasked).ite h.writeMasked))

theorem writeLnk (h : Kept o s) {a v} : Kept o (s.writeLnk a v) := by
  unfold State.writeLnk
  extract_lets i o w
  exact .ite h.writeLnkCommon <| .ite h.writeLnkCtl <| .ite (h.lnkRej.ite h.writeMasked) <| .ite (h.writeMasked.ite h.lnkRej) <|
    .ite h.writeBinding <| .ite h.writeWindowReg h.writeMasked

theorem writeHbm (h : Kept o s) {a v} : Kept o (s.writeHbm a v) := by
  unfold State.writeHbm
  extract_lets m o w
  refine .ite (h.ite h.regionWrite) ?_
  refine .ite h.hmapWrite ?_
  refine .ite (h.setF.ite h.writeMasked) ?_
  refine .ite ?_ h.writeMasked
  split
  · rename_i s1 e
    have h1 := h.writeShare e
    exact h1
  · exact h.setF

theorem writeCnet (h : Kept o s) {a v} : Kept o (s.writeCnet a v) := h.writeIf
theorem writeFls (h : Kept o s) {a v} : Kept o (s.writeFls a v) := (h.loadCmd.ite (h.loadAbort.ite (h.setF.ite h))).ite h.writeIf

theorem writeBlock (h : Kept o s) {a v} : Kept o (s.writeBlock a v) := by
  unfold State.writeBlock
  refine .ite h.writeVf <| .ite h.writeMsixPf <| .ite h <| .ite h.writeGctl <| .ite h.writeSec <| .ite h.writeLog <|
    .ite h.writeMtr <| .ite h.writeClk <| .ite h.writePwr <| .ite h.writeMadc <| .ite h.writeThm <| .ite h.writeInd ?_
  exact .ite h.writeSrv <| .ite h.writeAdp <| .ite h.writeCore <| .ite h.writeLnk <| .ite h.writeHbm <| .ite h.writeCnet <|
    .ite h.writeFls h.writeMasked

theorem writeReg (h : Kept o s) {a v} : Kept o (s.writeReg a v) := h.setF.ite h.writeBlock
theorem readLow (h : Kept o s) {a} : Kept o (s.readLow a) := h.upd.setF.ite (h.ite h.upd)

/-! #### Startup -/

theorem fitBoard (h : Kept o s) {b} : Kept o (s.fitBoard b) := h.upd

theorem powerUp (h : Kept o s) {board} : Kept o (s.powerUp board) :=
  h.ite ((h.when fun _ h => h.fitBoard).upd.upd.ite (h.when fun _ h => h.fitBoard).upd.bringUp)

theorem powerDown (h : Kept o s) : Kept o (s.powerDown) := h.ite h.supplySag.upd.losePower.keepRegs
theorem execCrystalDelayEnd (h : Kept o s) : Answers o (execCrystalDelayEnd s) := (h.upd.ite h).next
theorem execXpllLockTimeout (h : Kept o s) : Answers o (execXpllLockTimeout s) := (h.setF.ite h).next
theorem oscDone (h : Kept o s) : Kept o (s.oscDone) := h.ite (h.when fun _ h => h.setF).romStart
theorem execXpllLock (h : Kept o s) : Answers o (execXpllLock s) := h.upd.autoReturn.oscDone.next
theorem latchStraps (h : Kept o s) {mask levels} : Kept o (s.latchStraps mask levels) := h.forEach fun _ _ h => h.setF

theorem strapLatch (h : Kept o s) {pins band slow slowBand} : Kept o (s.strapLatch pins band slow slowBand) :=
  h.ite (h.when fun _ h => h.latchStraps).setF.setF.upd.oscDone

theorem strapRecheck (h : Kept o s) {pins band} : Kept o (s.strapRecheck pins band) := h.ite h.latchStraps.latchStraps.setF.upd.oscDone
theorem slowQualified (h : Kept o s) {i asserted inBand} : Kept o (s.slowQualified i asserted inBand) := h.ite (h.setF.upd.ite h.setF)
theorem copyPasses (h : Kept o s) {n img} : Kept o (s.copyPasses n img) := h.setF.setF.wr.wr.setF.upd

theorem copyRead (h : Kept o s) : Kept o (s.copyRead) := by
  unfold State.copyRead
  refine .ite h ?_
  extract_lets +onlyGivenNames n c r
  split
  · extract_lets +onlyGivenNames src boot
    have h1 : Kept o src := h.setF
    clear_value src
    exact .ite h1.upd h.bootFail
  · cases c with
    | none => exact h
    | some img => exact h.copyPasses

theorem recFail (h : Kept o s) {i j reason} : Kept o (s.recFail i j reason) := h.setF.setF.bootFail

theorem cfgWrite (h : Kept o s) {type i j w} : Kept o (s.cfgWrite type i j w) := by
  unfold State.cfgWrite
  refine .ite h ?_
  exact h.recFail.ite ((h.forEach fun _ _ h => h.setF).writeReg.recFail.ite ((h.forEach fun _ _ h => h.setF).writeReg.forEach fun _ _ h => h.setF))

theorem applyRec (h : Kept o s) {i r} : Kept o (s.applyRec i r) := by
  unfold State.applyRec
  refine .ite h ?_
  split
  · exact h.wr
  · exact h.upd
  · exact h.forEach fun _ _ h => h.cfgWrite
  · exact h.upd
  · extract_lets all
    split
    · exact h.recFail
    · exact h.upd
  · exact h.upd
  · exact h

theorem applyOrder (h : Kept o s) {op} : Kept o (s.applyOrder op) := h.ite ((h.ite h.applyTenants).ite (h.forEach fun _ _ h => h.applyRec))
theorem skipRecs (h : Kept o s) : Kept o (s.skipRecs) := h.forEach fun _ _ h => h.ite (h.recFail.ite h.inc)

theorem applyPage (h : Kept o s) {pg} : Kept o (s.applyPage pg) := by
  unfold State.applyPage
  split
  · exact h.upd.wr64
  · exact h.forEach fun _ _ h => h.upd
  · exact h.forEach fun _ _ h => h.stageSherd
  · exact h.forEach fun _ _ h => h.upd
  · exact h

theorem holdRecovery (h : Kept o s) : Kept o (s.holdRecovery) := by
  unfold State.holdRecovery
  extract_lets half notes bank hdr sq use loss result s1
  have h1 : Kept o s1 := h.forEach fun _ _ h1 => h1.applyPage
  exact (h1.setF.setF.setF.when fun _ h1 => h1.upd).upd.ite (h1.setF.setF.setF.when fun _ h1 => h1.upd).upd

theorem calibrationCheck (h : Kept o s) : Kept o (s.calibrationCheck) := h.sherd.ite (h.forEach fun _ _ h => h.sherd.ite h.fenceTile)
theorem readRecords (h : Kept o s) : Kept o (s.readRecords) := ((h.forEach fun _ _ h => h.sent).upd.forEach fun _ _ h => h.sherd).setF.upd
theorem readDirectory (h : Kept o s) : Kept o (s.readDirectory) := h.setF.setF.forEach fun _ _ h => h.when fun _ h1 => h1.setF
theorem firmwareStart (h : Kept o s) : Kept o (s.firmwareStart) := h.padRelease.holdRecovery.readDirectory.applyFences.calibrationCheck.readRecords

theorem configApply (h : Kept o s) : Kept o (s.configApply) := by
  unfold State.configApply
  refine .ite h ?_
  extract_lets +onlyGivenNames t src s1 s2
  have h0 : Kept o t := h.firmwareStart.skipRecs.applyOrder.applyOrder
  have h1 : Kept o s1 := h.ite h0.upd
  have h2 : Kept o s2 := h1.forEach fun _ _ h => h.applyOrder
  exact h1.ite (h2.ite h2.upd.setF.judgeArmed)

theorem pmbusTransaction (h : Kept o s) {ack data} : Kept o (s.pmbusTransaction ack data) := by
  unfold State.pmbusTransaction
  split
  · exact h
  · exact h.ite (h.upd.ite ((h.recFail.ite h.upd).ite ((h.recFail.ite h.upd).ite h.upd)))

theorem trainingDone (h : Kept o s) {bad repaired} : Kept o (s.trainingDone bad repaired) := by
  unfold State.trainingDone
  refine .ite h ?_
  refine .ite (h.forEach fun _ _ h => h.stackFailure).bootFail ?_
  extract_lets +onlyGivenNames src s1 s2 s3
  have h1 : Kept o s1 := h.upd
  have h2 : Kept o s2 := h1.forEach fun _ _ h => h.stackTrained
  have h3 : Kept o s3 := h2.forEach fun _ _ h => h.applyOrder
  refine .ite h3 ?_
  split
  · exact h3.setF
  · exact h3.setF.testStart.ite h3.setF.testStart.setF

theorem execTestPhaseTimeout (h : Kept o s) : Answers o (execTestPhaseTimeout s) := (h.ite h.setF.setF.upd.bootFail).next

theorem bootAct (h : Kept o s) {a r} : Kept o (s.bootAct a r) := by
  unfold State.bootAct
  split
  · exact h.restorePart
  · exact h.loadCmd
  · exact h.loadCmd
  · exact h.loadCmd
  · exact h

theorem bootActions (h : Kept o s) {reads} : Kept o (s.bootActions reads) :=
  h.ite (h.upd.ite ((h.upd.forEach fun _ _ h => h.bootAct).forEach fun _ _ h => h.restorePart))

theorem bootStart (h : Kept o s) {a} : Kept o (s.bootStart a) := h.ite h.startCommand

theorem interfacesOpen (h : Kept o s) : Kept o (s.interfacesOpen) := by
  unfold State.interfacesOpen
  refine .ite h ?_
  exact ((h.setF.forEach fun _ _ h => h.portEnable).setF.stampTime.upd.when fun _ h => h.partFail).forEach fun _ _ h => h.bootStart

theorem restart (h : Kept o s) {via} : Kept o (s.restart via) := by
  unfold State.restart
  split
  · exact h.writeReset
  · exact h.request fun ha h => (ha h).writeReset.ite (ha h)

/-! #### Every command -/

/-- Every command answers a next state, which has kept the stores with an address, the staging queue and the queue of commands. -/
theorem exec (h : Kept o s) {c : Instr} : Answers o (Machine.exec c s) := by
  cases c with
  | registerWrite => exact h.writeReg.next
  | counterLowRead => exact h.readLow.next
  | logQstatRead | pllRelock | debugLock => exact h.setF.next
  | barMisalignedAccess => exact h.execBarMisalignedAccess
  | layerClr => exact h.layerClr.next
  | lthrWrite => exact h.lthrWrite.next
  | tileReadStart => exact h.readStart.next
  | tileCheck => exact h.tileCheck.next
  | tileDeliver => exact h.tileDeliver.next
  | flagWindowEnd => exact h.flagWindowEnd.next
  | tileFlagwinWrite => exact h.tileCfgWrite.next
  | tileClr => exact h.tileClr.next
  | accumulate => exact h.accumulate.next
  | refWindowClose => exact h.refWindowClose.next
  | colWindowClose => exact h.colWindowClose.next
  | roundTimer => exact h.roundTimer.next
  | tempRoundTrigger => exact h.tempRound.next
  | build => exact h.openRound.next
  | buildComplete => exact h.buildComplete.next
  | arm => exact h.arm.next
  | discardSet => exact h.discardSet.next
  | shadowWordWrite => exact h.shadowWrite.next
  | idlePeriodFlip => exact h.idleFlip.next
  | dispatch => exact h.cmdDispatch.next
  | nop => exact h.nopCmd.next
  | copy | copyk | fillz => exact h.cmdMove.next
  | mmnt | mmnn | merge | conv | func | add | mul | reduce | bscale => exact h.cmdWheel.next
  | send | sendk => exact h.cmdSend.next
  | enqT => exact h.cmdEnqT.next
  | enqS => exact h.cmdEnqS.next
  | clr => exact h.cmdClr.next
  | jump => exact h.execJump
  | loop => exact h.cmdLoop.next
  | setl => exact h.cmdSetl.next
  | seta => exact h.cmdSeta.next
  | adda => exact h.cmdAdda.next
  | waitAbs => exact h.execWaitAbs
  | waitOut => exact h.execWaitOut
  | waitSatisfied => exact h.waitSatisfied.next
  | switch => exact h.cmdSwitch.next
  | switchComplete => exact h.switchComplete.next
  | barrier => exact h.cmdBarrier.next
  | step => exact h.execStep
  | stepDrained => exact h.stepDrained.next
  | drain => exact h.execDrain
  | drainComplete => exact h.drainComplete.next
  | event => exact h.cmdEvent.next
  | halt => exact h.execHalt
  | haltComplete => exact h.haltComplete.next
  | watchdogExpiry => exact h.watchdog.next
  | blockedAccessRetry => exact h.retry.next
  | scrubRow => exact h.scrubRow.next
  | descriptorStart => exact h.descStart.next
  | descriptorRowLand => exact h.landRow.next
  | descriptorComplete => exact h.descComplete.next
  | routerForward => exact h.forward.next
  | meshRowDeliver => exact h.meshDeliver.next
  | reduceRowArrive => exact h.reduceArrive.next
  | barArrive => exact h.barArrive.next
  | barQuery => exact h.barQuery.next
  | barCount => exact h.barCount.next
  | barRequeryTimer => exact h.requery.next
  | barRelease => exact h.barRelease.next
  | stepDone => exact h.rootStepDone.next
  | boundary => exact h.takeBoundary.next
  | boundaryAck => exact h.boundaryAck.next
  | stepStart => exact h.takeStepStart.next
  | pstop => exact h.takePstop.next
  | pstart => exact h.takePstart.next
  | forceSched => exact h.forceSched.next
  | discard => exact h.discard.next
  | creditReclaim => exact h.creditReclaim.next
  | tagReclaim => exact h.tagReclaim.next
  | reclaimDone => exact h.reclaimDone.next
  | fault => exact h.takeFault.next
  | incomplete => exact h.incomplete.next
  | cnetEvent => exact h.cnetEvent.next
  | sched => exact h.takeSched.next
  | telem => exact h.takeBulk.next
  | reclaim => exact h.startReclaim.next
  | reclaimTimeout => exact h.reclTimeout.next
  | firingImageLoad => exact h.imageLoad.next
  | routeSetLoad => exact h.routeLoad.next
  | regionWrite => exact h.writeRegion.next
  | initFillComplete => exact h.initDone.next
  | hbmRequest => exact h.hbmRequest.next
  | hbmReadData => exact h.hbmReadData.next
  | hbmWriteAck => exact h.hbmWriteAck.next
  | patrolScrub => exact h.patrol.next
  | ceWindowEnd => exact h.ceWindowEnd.next
  | kvMoveOut => exact h.kvMoveOut.next
  | kvMoveOutConfirm => exact h.kvMoveOutConfirm.next
  | kvMoveIn => exact h.kvMoveIn.next
  | kvMoveInDone => exact h.kvMoveInDone.next
  | admitStream => exact h.admitCmd.next
  | cancel => exact h.cancelCmd.next
  | stepCommit => exact h.stepCommit.next
  | stepGrant => exact h.stepGrant.next
  | replay => exact h.replayCmd.next
  | parkTimer => exact h.parkTimer.next
  | pauseExpiry => exact h.pauseExpiry.next
  | adpStop => exact h.adpStop.next
  | adpLoad => exact h.adpLoad.next
  | adpLoadDone => exact h.adpLoadDone.next
  | adpStart => exact h.adpStart.next
  | portEnable => exact h.portEnable.next
  | portDisable => exact h.disablePort.next
  | partnerDetected | lockDone => exact h.advance.next
  | equaliseDone => exact h.equaliseDone.next
  | recordsAgreed => exact h.recordsAgreed.next
  | creditsReceived => exact h.creditsReceived.next
  | trainTimeout => exact h.trainTimeout.next
  | failedRetry => exact h.failedRetry.next
  | retrainStart => exact h.retrainStart.next
  | retrainDone => exact h.retrainDone.next
  | retrainTimeout => exact h.retrainTimeout.next
  | flitTransmit => exact h.flitTransmit.next
  | rowFlit => exact h.rowFlit.next
  | pwriteFlit => exact h.pwriteFlit.next
  | preadFlit => exact h.preadFlit.next
  | prdataFlit => exact h.prdataFlit.next
  | packFlit => exact h.packFlit.next
  | xctlFlit => exact h.xctlFlit.next
  | nakFlit => exact h.nakFlit.next
  | idleFlit => exact h.receive.next
  | replayTimeout => exact h.replayTimeout.next
  | stepDeadline => exact h.stepDeadline.next
  | rackSync => exact h.rackSync.next
  | scArm => exact h.scArm.next
  | xdone => exact h.takeXdone.next
  | xcommit => exact h.takeXcommit.next
  | xgo => exact h.takeXgo.next
  | xinc => exact h.takeXinc.next
  | leadCommitReady => exact h.leadCommit.next
  | startTick => exact h.startTick.next
  | xmsgRepeat => exact h.repeatX.next
  | load | loadResume => exact h.loadCmd.next
  | loadAbort => exact h.loadAbort.next
  | programBurst => exact h.programBurst.next
  | tileProgramDone => exact h.tileDone.next
  | tileClearDone => exact h.tileClear.next
  | tileRestore => exact h.tileRestore.next
  | spillWrite => exact h.spillWrite.next
  | loadComplete => exact h.loadComplete.next
  | pwrgoodRise => exact h.powerUp.next
  | pwrgoodFall => exact h.powerDown.next
  | crystalDelayEnd => exact h.execCrystalDelayEnd
  | xpllLockTimeout => exact h.execXpllLockTimeout
  | strapLatch => exact h.strapLatch.next
  | strapRecheck => exact h.strapRecheck.next
  | slowInputQualified => exact h.slowQualified.next
  | psikusterSelftestPass => exact h.execPsikusterSelftestPass
  | configCopyRead => exact h.copyRead.next
  | configApply => exact h.configApply.next
  | pmbusTransaction => exact h.pmbusTransaction.next
  | hbmTrainingDone => exact h.trainingDone.next
  | testPhaseTimeout => exact h.execTestPhaseTimeout
  | bootActions => exact h.bootActions.next
  | interfacesOpen => exact h.interfacesOpen.next
  | restart => exact h.restart.next
  | partitionStop => exact h.stopCommand.next
  | partitionStart => exact h.startCommand.next
  | stopTimeout => exact h.stopTimeout.next
  | opRequest => exact h.opRequest.next
  | avsWriteAck => exact h.execAvsWriteAck
  | voltageReadbackOk => exact h.execVoltageReadbackOk
  | settleElapsed => exact h.execSettleElapsed
  | frequencySlewDone => exact h.slewDone.next
  | raiseTimeout => exact h.execRaiseTimeout
  | boostLimit => exact h.execBoostLimit
  | boostRestEnd => exact h.execBoostRestEnd
  | islandSwitch => exact h.islandSwitch.next
  | rackRefLost => exact h.execRackRefLost
  | refQualWindow => exact h.execRefQualWindow
  | refSwitchOrder => exact h.refOrder.next
  | srefSwitchDone => exact h.execSrefSwitchDone
  | crystalLost => exact h.execCrystalLost
  | clockGate => exact h.execClockGate
  | clockUngate | debugNonceExpiry | spdmHeartbeatExpiry | zeroisationComplete => exact h.upd.next
  | freqMeasureStart => exact h.freqStart.next
  | freqMeasureDone => exact h.execFreqMeasureDone
  | idleEntry => exact h.execIdleEntry
  | idleBias => exact h.execIdleBias
  | idleExit => exact h.idleExit.next
  | sleep | deep | off => exact h.powerRequest.next
  | run => exact h.powerRun.next
  | powerDownDrain => exact h.powerDownDrain.next
  | entryCommit => exact h.execEntryCommit
  | wake => exact h.execWake
  | linkActivityWake => exact h.execLinkActivityWake
  | stokePattern => exact h.execStokePattern
  | pcieWake => exact h.execPcieWake
  | exitComplete => exact h.execExitComplete
  | padRelease => exact h.padRelease.next
  | auxBrownout => exact h.execAuxBrownout
  | powerGovernorTick => exact h.execPowerGovernorTick
  | readCreditTick => exact h.execReadCreditTick
  | chargeComplete => exact h.execChargeComplete
  | supplySag => exact h.supplySag.next
  | bankPageDone => exact h.execBankPageDone
  | powerReturn => exact h.execPowerReturn
  | conversionDone => exact h.execConversionDone
  | shutdownRecordWritten => exact h.execShutdownRecordWritten
  | throttleStep => exact h.execThrottleStep
  | releaseStep => exact h.execReleaseStep
  | urgentConversion => exact h.urgentConversion.next
  | urgentConversionDone => exact h.execUrgentConversionDone
  | refen => exact h.writeRefen.next
  | refReady => exact h.execRefReady
  | roCount => exact h.execRoCount
  | roBackgroundCount => exact h.execRoBackgroundCount
  | roCountDone => exact h.execRoCountDone
  | fwWatchdogExpiry => exact h.execFwWatchdogExpiry
  | advisoryRepeat => exact h.arithAdvise.next
  | parityError => exact h.execParityError
  | fence => exact h.fenceOrder.next
  | fenceClear => exact h.fenceClear.next
  | testStart => exact h.testCommand.next
  | testRoundDone => exact h.execTestRoundDone
  | logWriteDone => exact h.execLogWriteDone
  | logWindowFallback => exact h.execLogWindowFallback
  | logSectorEraseDone => exact h.execLogSectorEraseDone
  | selftest => exact h.secSelftest.next
  | loadmk => exact h.loadMk.next
  | dropmk => exact h.dropMk.next
  | setlink => exact h.setLink.next
  | droplink => exact h.dropLink.next
  | svnraise => exact h.svnRaise.next
  | zeroise => exact h.zeroiseCmd.next
  | dbgchal => exact h.dbgChal.next
  | dbgresp => exact h.dbgResp.next
  | setfwk => exact h.execSetfwk
  | revoke => exact h.execRevoke
  | tamperCheck => exact h.execTamperCheck
  | periodicSelftest => exact h.execPeriodicSelftest
  | entropyTestFail => exact h.execEntropyTestFail
  | entropyRestartPass => exact h.execEntropyRestartPass
  | mgmtDatagram => exact h.execMgmtDatagram
  | getstatus => exact h.execGetstatus
  | setdasa => exact h.execSetdasa
  | entdaa => exact h.execEntdaa
  | setEndpointId => exact h.execSetEndpointId
  | getEndpointId | getEndpointUuid | getMctpVersionSupport | getMessageTypeSupport | gettid | getpldmtypes | getpdrrepositoryinfo
  | getstatesensorreadings | getfrurecordtablemetadata | getfrurecordtable | readmeter | readhistory | readlog | readstuckmap
  | readshutdownrecords | getDigests => exact h.report.next
  | settid => exact h.execSettid
  | getpldmversion => exact h.execGetpldmversion
  | getpldmcommands => exact h.execGetpldmcommands
  | getpdr => exact h.execGetpdr
  | getsensorreading => exact h.execGetsensorreading
  | seteventreceiver => exact h.execSeteventreceiver
  | pollforplatformeventmessage => exact h.execPollforplatformeventmessage
  | querydeviceidentifiers => exact h.execQuerydeviceidentifiers
  | getfirmwareparameters => exact h.execGetfirmwareparameters
  | requestupdate => exact h.execRequestupdate
  | passcomponenttable => exact h.execPasscomponenttable
  | updatecomponent => exact h.execUpdatecomponent
  | firmwareDataReceived => exact h.execFirmwareDataReceived
  | activatefirmware => exact h.execActivatefirmware
  | getstatusPldm => exact h.execGetstatusPldm
  | cancelupdatecomponent => exact h.execCancelupdatecomponent
  | cancelupdate => exact h.execCancelupdate
  | getVersion => exact h.execGetVersion
  | getCapabilities => exact h.execGetCapabilities
  | negotiateAlgorithms => exact h.execNegotiateAlgorithms
  | getCertificate => exact h.execGetCertificate
  | challenge => exact h.execChallenge
  | getMeasurements => exact h.execGetMeasurements
  | keyExchange => exact h.execKeyExchange
  | finish | heartbeat | keyUpdate | endSession => exact h.onSession.next
  | respondIfReady => exact h.execRespondIfReady
  | pmbusPoll => exact h.execPmbusPoll
  | smbalert => exact h.execSmbalert
  | secondWrap => exact h.execSecondWrap
  | timeSet => exact h.timeSet.next
  | timeRead => exact h.execTimeRead
  | meterSnapshot => exact h.meterSnapshot.next
  | meterPersist => exact h.execMeterPersist
  | indicatorDiagnosis => exact h.execIndicatorDiagnosis
  | rackstopAccept => exact h.execRackstopAccept
  | rackstopDiscrepancy => exact h.execRackstopDiscrepancy
  | gpiAccept => exact h.execGpiAccept
  | gpiStuck => exact h.execGpiStuck
  | gpiChatterWindow => exact h.execGpiChatterWindow
  | sqDoorbell => exact h.sqDoorbell.next
  | cqDoorbell => exact h.cqDoorbell.next
  | sqEntryFetch => exact h.execSqEntryFetch
  | hostNop => exact h.execHostNop
  | copyIn => exact h.execCopyIn
  | copyOut => exact h.execCopyOut
  | copyDone => exact h.execCopyDone
  | t2add => exact h.execT2add
  | t2del => exact h.execT2del
  | irqTimer => exact h.execIrqTimer
  | ringEnable => exact h.ringEnable.next
  | vfFlr => exact h.vfReset.next
  | pfReset => exact h.execPfReset
  | pcieConfigRequest => exact h.execPcieConfigRequest
  | xpllLock => exact h.execXpllLock
  | xpllLossTimeout => exact h.execXpllLossTimeout
  | islandSwitchDone => exact h.execIslandSwitchDone
  | ageMaxReached => exact h.execAgeMaxReached
  | stackSensorReading => exact h.stackReading.next
  | hbmStackFailure => exact h.stackFailure.next
  | managementRestartDone => exact h.execManagementRestartDone
  | boardReadingStale => exact h.execBoardReadingStale
  | moveDrainTimeout => exact h.moveDrain.next

end Kept

/-- A step answers a next state, which has kept the stores with an address, the staging queue and the commands behind the first. -/
theorem step_answers (s : State) : Answers { s with pending := s.pending.tail } (step s) := by
  unfold step
  cases hp : s.pending with
  | nil => exact ⟨s, rfl, id, id, id, id, id, hp⟩
  | cons c rest => exact (Kept.refl _).exec

/-- A run whose first step answers a next state goes on from there. -/
theorem core_run_succ {M : Host.Core} {s t : M.State} (h : M.step s = .next t) (n : Nat) : M.run (n + 1) s = M.run n t := by
  rw [Host.Core.run, h]

end Machine

open Machine

/-- Settles O38: a command answers the next state of `step_answers`, so a run goes on, by induction on its length. -/
theorem everyCommandAnswers : Obligations.EveryCommandAnswers := by
  constructor
  · intro c s
    obtain ⟨t, ht, -⟩ := (Kept.refl s).exec (c := c)
    exact ⟨t, ht⟩
  · intro n
    induction n with
    | zero => exact fun s => ⟨s, rfl⟩
    | succ n ih =>
      intro s
      obtain ⟨t, ht, -⟩ := step_answers s
      obtain ⟨u, hu⟩ := ih t
      exact ⟨u, (core_run_succ (M := core) ht n).trans hu⟩

/-- Settles O40: what `Kept` says of the state that a step answers, from the state without the command that it runs. -/
theorem stepsKeepTheStoresCanonical : Obligations.StepsKeepTheStoresCanonical := by
  rintro s t ⟨hregs, hshelf, hmem, hcells⟩ ht
  obtain ⟨u, hu, hk⟩ := step_answers s
  obtain rfl := Host.Outcome.next.inj (ht.symm.trans hu)
  exact ⟨hk.regsWf hregs, hk.shelfWf hshelf, hk.memWf hmem, hk.cellsWf hcells⟩

end Sys2Proof
end

section
set_option Elab.async false

/-! ### P40 rows -/

namespace Sys2Proof

@[ext] theorem P40.ext {p q : P40} (exp : p.exp = q.exp) (top : p.top = q.top) (contrib : p.contrib = q.contrib)
    (rid : p.rid = q.rid) (col0 : p.col0 = q.col0) (nblk : p.nblk = q.nblk) (flags : p.flags = q.flags) (zero : p.zero = q.zero)
    (csat : p.csat = q.csat) (cund : p.cund = q.cund) (s : p.s = q.s) : p = q := by
  cases p
  cases q
  exact P40.mk.injEq .. ▸ ⟨exp, top, contrib, rid, col0, nblk, flags, zero, csat, cund, s⟩

/-! #### Lists read by place -/

@[simp] theorem nth_map_range {α : Type} (d : α) {n j : Nat} (hj : j < n) (f : Nat → α) : nth d ((List.range n).map f) j = f j := by
  simp [nth, hj]

theorem map_range_nth {α : Type} (d : α) (l : List α) : (List.range l.length).map (nth d l) = l :=
  List.ext_getElem (by simp) fun i _ hi => by simp [nth, hi]

theorem nth_of_forall {α : Type} {P : α → Prop} {d : α} {l : List α} (hd : P d) (h : ∀ x ∈ l, P x) (i : Nat) : P (nth d l i) := by
  rw [nth, List.getD_eq_getElem?_getD]
  cases hi : l[i]? with
  | none => exact hd
  | some x => exact h x (List.mem_of_getElem? hi)

theorem nth_drop {α : Type} (d : α) (l : List α) (n i : Nat) : nth d (l.drop n) i = nth d l (n + i) := by
  simp [nth]

/-! #### Two's complement -/

theorem signed_eq_bmod {w : Nat} (hw : 0 < w) (x : Nat) : signed w x = (x : Int).bmod (2 ^ w) := by
  obtain ⟨v, rfl⟩ := Nat.exists_eq_add_of_lt hw
  have hpow : 2 ^ (0 + v + 1) = 2 * 2 ^ v := by ring
  simp only [signed, Int.bmod, ← Int.natCast_emod, Nat.add_sub_cancel, zero_add] at hpow ⊢
  rw [hpow]
  omega

/-- A field of two's complement holds a number modulo 2^w. -/
theorem signed_unsign {w : Nat} (hw : 0 < w) (x : Int) : signed w (unsign w x) = x.bmod (2 ^ w) := by
  have hpos : (0 : Int) < (2 ^ w : Nat) := by positivity
  rw [signed_eq_bmod hw, unsign, Int.toNat_of_nonneg (Int.emod_nonneg _ hpos.ne'), Int.emod_bmod]

theorem signed_mod (w x : Nat) : signed w (x % 2 ^ w) = signed w x := by simp only [signed, Nat.mod_mod]

/-- A signed field holds a number that fits it. -/
theorem signed_unsign_of_fits {w : Nat} {x : Int} (hw : 0 < w) (h : -2 ^ (w - 1) ≤ x) (h' : x < 2 ^ (w - 1)) :
    signed w (unsign w x % 2 ^ w) = x := by
  have hpow : (2 : Int) ^ w = 2 * 2 ^ (w - 1) := by rw [← pow_succ', Nat.sub_add_cancel hw]
  rw [signed_mod, signed_unsign hw]
  exact Int.bmod_eq_of_le (by push_cast; omega) (by push_cast; omega)

/-! #### The bytes of a row (R23) -/

@[simp] theorem length_bytesOf (n x : Nat) : (bytesOf n x).length = n := by
  induction n generalizing x with
  | zero => rfl
  | succ n ih => rw [bytesOf, List.length_cons, ih]

theorem two_pow_bits_succ (n : Nat) : 2 ^ (8 * (n + 1)) = 256 * 2 ^ (8 * n) := by ring

/-- Bytes written little-endian read back. -/
theorem bytesVal_bytesOf (n x : Nat) : bytesVal (bytesOf n x) = x % 2 ^ (8 * n) := by
  induction n generalizing x with
  | zero => exact (Nat.mod_one x).symm
  | succ n ih => rw [bytesOf, bytesVal, ih, Nat.mod_mod, two_pow_bits_succ, Nat.mod_mul]

theorem bytesVal_div (bs : List Nat) (i : Nat) : bytesVal bs / 2 ^ (8 * i) = bytesVal (bs.drop i) := by
  induction i generalizing bs with
  | zero => exact Nat.div_one _
  | succ i ih =>
    cases bs with
    | nil => exact Nat.zero_div _
    | cons b bs =>
      have hbyte : (b % 256 + 256 * bytesVal bs) / 256 = bytesVal bs := by omega
      rw [bytesVal, two_pow_bits_succ, ← Nat.div_div_eq_div_mul, hbyte, ih, List.drop_succ_cons]

theorem bytesVal_mod (bs : List Nat) (n : Nat) : bytesVal bs % 2 ^ (8 * n) = bytesVal (bs.take n) := by
  induction n generalizing bs with
  | zero => exact Nat.mod_one _
  | succ n ih =>
    cases bs with
    | nil => exact Nat.zero_mod _
    | cons b bs =>
      have hbyte : (b % 256 + 256 * bytesVal bs) / 256 = bytesVal bs := by omega
      rw [List.take_succ_cons, bytesVal, bytesVal, ← ih, two_pow_bits_succ, Nat.mod_mul, hbyte]
      omega

/-- A field of a word that is made of a number is that field of the number. -/
theorem toNat_ofNat_div_mod (x : Nat) {lo w n : Nat} (h : lo + w ≤ n) :
    (BitVec.ofNat n x).toNat / 2 ^ lo % 2 ^ w = x / 2 ^ lo % 2 ^ w := by
  obtain ⟨m, rfl⟩ := Nat.exists_eq_add_of_le (le_of_add_le_left h)
  rw [BitVec.toNat_ofNat, pow_add, Nat.mod_mul_right_div_self, Nat.mod_mod_of_dvd _ (pow_dvd_pow 2 (by omega))]

/-- A field of a row reads the bytes that stand in its place. -/
theorem rowBytes_rowOf (bs : List Nat) {i n : Nat} (h : i + n ≤ 544) :
    rowBytes (rowOf bs) i n = bytesVal ((bs.drop i).take n) := by
  rw [rowBytes, rowOf, toNat_ofNat_div_mod _ (by omega), bytesVal_div, bytesVal_mod]

/-- Block j of equal blocks that stand one after another. -/
theorem take_drop_flatten {w : Nat} {bss : List (List Nat)} (hw : ∀ bs ∈ bss, bs.length = w) (rest : List Nat) {j : Nat}
    (hj : j < bss.length) : ((bss.flatten ++ rest).drop (w * j)).take w = bss[j] := by
  induction bss generalizing j with
  | nil => simp at hj
  | cons bs bss ih =>
    obtain ⟨hbs, hw⟩ := List.forall_mem_cons.1 hw
    rw [List.flatten_cons, List.append_assoc]
    cases j with
    | zero => exact List.take_left' hbs
    | succ j =>
      rw [Nat.mul_succ, Nat.add_comm, ← List.drop_drop, List.drop_left' hbs]
      exact ih hw _

theorem take_drop_map_range {w n : Nat} {f : Nat → List Nat} (hf : ∀ i, (f i).length = w) (rest : List Nat) {j : Nat}
    (hj : j < n) : ((((List.range n).map f).flatten ++ rest).drop (w * j)).take w = f j := by
  rw [take_drop_flatten (by simp [hf]) rest (by simpa using hj)]
  simp

/-! #### A P40 row written and read (R24, R25) -/

/-- Value j as the part writes it: 0 at and beyond 32 x NBLK (R25). -/
def P40.written (p : P40) (j : Nat) : Int := if j < 32 * p.nblk then nth 0 p.s j else 0

/-- The bytes that the part writes for a P40 row. -/
def P40.bytes (p : P40) : List Nat :=
  bytesOf 2 (unsign 16 p.exp) ++ bytesOf 2 (unsign 16 p.top) ++ bytesOf 4 p.contrib ++ bytesOf 2 p.rid ++
    bytesOf 2 p.col0 ++ [p.nblk, p.flags] ++ [0, 0] ++ bytesOf 4 p.zero ++
    ((List.range 3).map fun i => bytesOf 2 (nth 0 p.csat i)).flatten ++
    ((List.range 3).map fun i => bytesOf 2 (nth 0 p.cund i)).flatten ++ List.replicate 32 0 ++
    ((List.range 96).map fun j => bytesOf 5 (unsign 40 (p.written j))).flatten

theorem P40.drop_bytes_csat (p : P40) :
    p.bytes.drop 20 = ((List.range 3).map fun i => bytesOf 2 (nth 0 p.csat i)).flatten ++ p.bytes.drop 26 := rfl
theorem P40.drop_bytes_cund (p : P40) :
    p.bytes.drop 26 = ((List.range 3).map fun i => bytesOf 2 (nth 0 p.cund i)).flatten ++ p.bytes.drop 32 := rfl
theorem P40.drop_bytes_s (p : P40) :
    p.bytes.drop 64 = ((List.range 96).map fun j => bytesOf 5 (unsign 40 (p.written j))).flatten ++ [] :=
  (List.append_nil _).symm

theorem P40.toRow_eq (p : P40) : p.toRow = rowOf p.bytes := rfl

/-- A field of n bytes of the row that the part writes. -/
theorem P40.rowBytes_toRow {p : P40} {i n x : Nat} (h : i + n ≤ 544) (hb : (p.bytes.drop i).take n = bytesOf n x) :
    rowBytes p.toRow i n = x % 2 ^ (8 * n) := by
  rw [toRow_eq, rowBytes_rowOf _ h, hb, bytesVal_bytesOf]

/-- The list that equal fields of n bytes from byte i on read as. -/
theorem P40.map_rowBytes_toRow {p : P40} {i n m : Nat} {f : Nat → Nat} {rest : List Nat} (h : i + n * m ≤ 544)
    (hb : p.bytes.drop i = ((List.range m).map fun j => bytesOf n (f j)).flatten ++ rest) {α : Type} (read : Nat → α) {l : List α}
    (d : α) (hlen : l.length = m) (hread : ∀ j < m, read (f j % 2 ^ (8 * n)) = nth d l j) :
    ((List.range m).map fun j => read (rowBytes p.toRow (i + n * j) n)) = l := by
  refine Eq.trans (List.map_congr_left fun j hj => ?_) (hlen ▸ map_range_nth d l)
  have hj := List.mem_range.1 hj
  have hjm : n * (j + 1) ≤ n * m := Nat.mul_le_mul_left n hj
  rw [Nat.mul_succ] at hjm
  rw [← hread j hj, P40.rowBytes_toRow (by omega)]
  rw [← List.drop_drop, hb, take_drop_map_range (fun _ => length_bytesOf n _) rest hj]

/-- Values beyond the blocks of a row that fits are 0. -/
theorem P40.written_of_fits {p : P40} (h : ∀ v ∈ p.s.drop (32 * p.nblk), v = 0) (j : Nat) :
    p.written j = nth 0 p.s j := by
  unfold P40.written
  split
  · rfl
  · rename_i hj
    obtain ⟨i, rfl⟩ := Nat.exists_eq_add_of_le (not_lt.1 hj)
    rw [← nth_drop]
    exact (nth_of_forall (P := (· = 0)) rfl h i).symm

/-- Settles O51: each field reads the bytes that stand in its place, and it fits them. -/
theorem p40RowRoundTrip : Obligations.P40RowRoundTrip := by
  intro p h
  simp only [P40.fits, Bool.and_eq_true, decide_eq_true_eq, beq_iff_eq, List.all_eq_true, and_assoc] at h
  obtain ⟨hexp, hexp', htop, htop', hcontrib, hrid, hcol, hblk, hflags, hzero, hcsatlen, hcsat, hcundlen, hcund, hslen, hs, hs0⟩ := h
  have field {i n x : Nat} (hi : i + n ≤ 544) (hb : (p.bytes.drop i).take n = bytesOf n x) (hx : x < 2 ^ (8 * n)) :
      rowBytes p.toRow i n = x := (P40.rowBytes_toRow hi hb).trans (Nat.mod_eq_of_lt hx)
  have byte {i x : Nat} (hi : i + 1 ≤ 544) (hb : (p.bytes.drop i).take 1 = [x]) (hx : x < 256) : rowByte p.toRow i = x :=
    field hi (hb.trans (by rw [bytesOf, bytesOf, Nat.mod_eq_of_lt hx])) hx
  ext1
  case exp => exact (congrArg (signed 16) (P40.rowBytes_toRow (by decide) rfl)).trans (signed_unsign_of_fits (by decide) hexp hexp')
  case top => exact (congrArg (signed 16) (P40.rowBytes_toRow (by decide) rfl)).trans (signed_unsign_of_fits (by decide) htop htop')
  case contrib => exact field (by decide) rfl hcontrib
  case rid => exact field (by decide) rfl hrid
  case col0 => exact field (by decide) rfl hcol
  case nblk => exact byte (by decide) rfl (by omega)
  case flags => exact (congrArg (· % 8) (byte (by decide) rfl (by omega))).trans (Nat.mod_eq_of_lt hflags)
  case zero => exact field (by decide) rfl hzero
  case csat =>
    exact P40.map_rowBytes_toRow (by decide) p.drop_bytes_csat id 0 hcsatlen fun j _ =>
      Nat.mod_eq_of_lt (nth_of_forall (P := (· < 2 ^ 16)) (by decide) hcsat j)
  case cund =>
    exact P40.map_rowBytes_toRow (by decide) p.drop_bytes_cund id 0 hcundlen fun j _ =>
      Nat.mod_eq_of_lt (nth_of_forall (P := (· < 2 ^ 16)) (by decide) hcund j)
  case s =>
    refine P40.map_rowBytes_toRow (by decide) p.drop_bytes_s (signed 40) 0 hslen fun j _ => ?_
    obtain ⟨hlo, hhi⟩ := nth_of_forall (P := fun v : Int => -2 ^ 39 ≤ v ∧ v < 2 ^ 39) (d := 0) (by decide) hs j
    rw [P40.written_of_fits hs0]
    exact signed_unsign_of_fits (by decide) hlo hhi

/-! #### Value words modulo 2^40 (R32) -/

theorem wrap40_eq_bmod (x : Int) : wrap40 x = x.bmod (2 ^ 40) := signed_unsign (by decide) x

theorem wrap40_congr {x y : Int} (h : x ≡ y [ZMOD 2 ^ 40]) : wrap40 x = wrap40 y := by
  have h' : x % (2 ^ 40 : Nat) = y % (2 ^ 40 : Nat) := h
  rw [wrap40_eq_bmod, wrap40_eq_bmod, ← Int.emod_bmod x, ← Int.emod_bmod y, h']

theorem wrap40_modEq (x : Int) : wrap40 x ≡ x [ZMOD 2 ^ 40] := by
  rw [wrap40_eq_bmod]
  exact Int.bmod_emod

/-- A number of 40 bits does not wrap. -/
theorem wrap40_eq_self {x : Int} (h : x.natAbs < 2 ^ 39) : wrap40 x = x := by
  rw [wrap40_eq_bmod]
  exact Int.bmod_eq_of_le (by omega) (by omega)

/-! #### Counts that saturate (R32) -/

theorem satAdd_comm (top a b : Nat) : satAdd top a b = satAdd top b a := by rw [satAdd, satAdd, Nat.add_comm]

theorem satAdd_right_comm (top a b c : Nat) : satAdd top (satAdd top a b) c = satAdd top (satAdd top a c) b := by
  unfold satAdd
  omega

/-- The three counts of a row's blocks, added block by block. -/
def addCounts (l m : List Nat) : List Nat := (List.range 3).map fun i => satAdd 0xFFFF (nth 0 l i) (nth 0 m i)

theorem addCounts_comm (l m : List Nat) : addCounts l m = addCounts m l :=
  List.map_congr_left fun _ _ => satAdd_comm ..

theorem addCounts_right_comm (l m n : List Nat) : addCounts (addCounts l m) n = addCounts (addCounts l n) m := by
  refine List.map_congr_left fun i hi => ?_
  have hi := List.mem_range.1 hi
  rw [addCounts, addCounts, nth_map_range _ hi, nth_map_range _ hi, satAdd_right_comm]

/-! #### The merge of two rows (R32, R33) -/

namespace P40

/-- Value j of a row in units of 2^e. -/
def aligned (p : P40) (e : Int) (j : Nat) : Int := nth 0 p.s j * (2 ^ (p.exp - e).toNat : Nat)

@[simp] theorem aligned_exp (p : P40) (j : Nat) : p.aligned p.exp j = nth 0 p.s j := by simp [aligned]

/-- Units of a lesser exponent: the number is larger by the power of two between them. -/
theorem aligned_of_le {p : P40} {e e' : Int} (h : e' ≤ e) (hp : e ≤ p.exp) (j : Nat) :
    p.aligned e' j = p.aligned e j * (2 ^ (e - e').toNat : Nat) := by
  have hsplit : (p.exp - e').toNat = (p.exp - e).toNat + (e - e').toNat := by omega
  rw [aligned, aligned, hsplit, pow_add, Nat.cast_mul, mul_assoc]

@[simp] theorem merge_exp (a b : P40) : (a.merge b).exp = min a.exp b.exp := rfl
@[simp] theorem merge_top (a b : P40) : (a.merge b).top = max a.top b.top := rfl
@[simp] theorem merge_contrib (a b : P40) : (a.merge b).contrib = satAdd 0xFFFFFFFF a.contrib b.contrib := rfl
@[simp] theorem merge_rid (a b : P40) : (a.merge b).rid = a.rid := rfl
@[simp] theorem merge_col0 (a b : P40) : (a.merge b).col0 = a.col0 := rfl
@[simp] theorem merge_nblk (a b : P40) : (a.merge b).nblk = a.nblk := rfl
@[simp] theorem merge_flags (a b : P40) : (a.merge b).flags = a.flags ||| b.flags := rfl
@[simp] theorem merge_zero (a b : P40) : (a.merge b).zero = satAdd 0xFFFFFFFF a.zero b.zero := rfl
@[simp] theorem merge_csat (a b : P40) : (a.merge b).csat = addCounts a.csat b.csat := rfl
@[simp] theorem merge_cund (a b : P40) : (a.merge b).cund = addCounts a.cund b.cund := rfl

theorem merge_s (a b : P40) : (a.merge b).s =
    (List.range 96).map fun j => wrap40 (a.aligned (min a.exp b.exp) j + b.aligned (min a.exp b.exp) j) := rfl

/-- A merged value word is the sum of the two values in units of the lesser exponent, modulo 2^40. -/
theorem nth_merge_s (a b : P40) {j : Nat} (hj : j < 96) :
    nth 0 (a.merge b).s j = wrap40 (a.aligned (min a.exp b.exp) j + b.aligned (min a.exp b.exp) j) := by
  rw [merge_s, nth_map_range 0 hj]

/-- In units that divide those of both rows, a merged value is the sum of the two, modulo 2^40. -/
theorem merge_aligned (a b : P40) {e : Int} (he : e ≤ min a.exp b.exp) {j : Nat} (hj : j < 96) :
    (a.merge b).aligned e j ≡ a.aligned e j + b.aligned e j [ZMOD 2 ^ 40] := by
  rw [aligned_of_le he le_rfl, ← merge_exp, aligned_exp, nth_merge_s a b hj, merge_exp,
    aligned_of_le he (min_le_left _ _), aligned_of_le (p := b) he (min_le_right _ _), ← add_mul]
  exact (wrap40_modEq _).mul_right _

theorem merge_comm {a b : P40} (h : a.sameKey b = true) : a.merge b = b.merge a := by
  simp only [sameKey, Bool.and_eq_true, beq_iff_eq] at h
  obtain ⟨⟨hrid, hcol⟩, hblk⟩ := h
  have hs : (a.merge b).s = (b.merge a).s := by
    rw [merge_s, merge_s, min_comm]
    exact List.map_congr_left fun j _ => congrArg wrap40 (add_comm _ _)
  ext1
  case s => exact hs
  all_goals simp [hrid, hcol, hblk, min_comm, max_comm, satAdd_comm, addCounts_comm, Nat.lor_comm]

/-- Three value words merged: their sum in units of the least exponent. -/
theorem merge_merge_s (a b c : P40) : ((a.merge b).merge c).s = (List.range 96).map fun j =>
    let e := min (min a.exp b.exp) c.exp
    wrap40 (a.aligned e j + b.aligned e j + c.aligned e j) :=
  List.map_congr_left fun _ hj =>
    wrap40_congr ((merge_aligned a b (min_le_left _ _) (List.mem_range.1 hj)).add_right _)

/-- Two rows merge into a third in either order, whatever their keys: the result has the key of the third. -/
theorem merge_right_comm (a b c : P40) : (a.merge b).merge c = (a.merge c).merge b := by
  have hs : ((a.merge b).merge c).s = ((a.merge c).merge b).s := by
    rw [merge_merge_s, merge_merge_s, min_right_comm]
    exact List.map_congr_left fun j _ => congrArg wrap40 (add_right_comm _ _ _)
  ext1
  case s => exact hs
  all_goals simp [min_right_comm, max_right_comm, satAdd_right_comm, addCounts_right_comm, Nat.or_right_comm]

theorem sameKey_comm (a b : P40) : a.sameKey b = b.sameKey a := by
  simp only [sameKey, Bool.beq_comm]

/-- Only the first two rows need one key: the result has it in both groupings. -/
theorem merge_assoc {a b : P40} (hb : a.sameKey b = true) (c : P40) :
    (a.merge b).merge c = a.merge (b.merge c) := by
  have hba : b.sameKey a = true := sameKey_comm a b ▸ hb
  calc (a.merge b).merge c = (b.merge a).merge c := by rw [merge_comm hb]
    _ = (b.merge c).merge a := merge_right_comm b a c
    _ = a.merge (b.merge c) := merge_comm hba

end P40

/-! #### The merge of many rows (R33, R34) -/

theorem foldl_merge_exp (a : P40) (l : List P40) : (l.foldl P40.merge a).exp = leastExp a l := by
  induction l generalizing a with
  | nil => rfl
  | cons b l ih => exact ih (a.merge b)

theorem leastExp_le (a : P40) (l : List P40) : leastExp a l ≤ a.exp := by
  induction l generalizing a with
  | nil => exact le_rfl
  | cons b l ih => exact (ih (a.merge b)).trans (min_le_left _ _)

theorem valueSum_eq_sum (p : P40) (l : List P40) (e : Int) (j : Nat) :
    valueSum p l e j = p.aligned e j + (l.map fun q => q.aligned e j).sum := by
  suffices h : ∀ x : Int, l.foldl (fun x q => x + q.aligned e j) x = x + (l.map fun q => q.aligned e j).sum from h _
  induction l with
  | nil => simp
  | cons q l ih => simp [ih, add_assoc]

/-- In units that divide those of all rows, a value of the merge is the sum of the rows' values, modulo 2^40. -/
theorem foldl_merge_aligned (a : P40) (l : List P40) {e : Int} (he : e ≤ leastExp a l) {j : Nat} (hj : j < 96) :
    (l.foldl P40.merge a).aligned e j ≡ valueSum a l e j [ZMOD 2 ^ 40] := by
  induction l generalizing a with
  | nil => rfl
  | cons b l ih =>
    have h := ih (a.merge b) he
    rw [valueSum_eq_sum] at h ⊢
    rw [List.map_cons, List.sum_cons, ← add_assoc]
    exact h.trans ((P40.merge_aligned a b (he.trans (leastExp_le (a.merge b) l)) hj).add_right _)

/-- A merge that has taken place leaves words of 40 bits. -/
theorem wrap40_nth_foldl_merge (a : P40) {l : List P40} (hl : l ≠ []) {j : Nat} (hj : j < 96) :
    wrap40 (nth 0 (l.foldl P40.merge a).s j) = nth 0 (l.foldl P40.merge a).s j := by
  rw [← List.dropLast_concat_getLast hl, List.foldl_concat, P40.nth_merge_s _ _ hj]
  exact wrap40_congr (wrap40_modEq _)

/-- A value word of a merge is the sum of the rows' values in units of the least exponent, modulo 2^40. -/
theorem nth_foldl_merge (a : P40) {l : List P40} (hl : l ≠ []) {j : Nat} (hj : j < 96) :
    nth 0 (l.foldl P40.merge a).s j = wrap40 (valueSum a l (leastExp a l) j) := by
  have h := foldl_merge_aligned a l le_rfl hj
  rw [← foldl_merge_exp, P40.aligned_exp] at h
  rw [← wrap40_nth_foldl_merge a hl hj, wrap40_congr h, foldl_merge_exp]

/-- Settles O52: commutativity and associativity of the merge, and the sum that a merge of many rows holds. -/
theorem mergeOrderDoesNotMatter : Obligations.MergeOrderDoesNotMatter := by
  refine ⟨fun a b h => P40.merge_comm h, fun a b c hb _ => P40.merge_assoc hb c, fun a l m _ hlm => ?_, fun a l _ hl => ?_⟩
  · exact hlm.foldl_eq' (fun b _ c _ x => P40.merge_right_comm x b c) a
  · intro r
    have hexp : r.exp = leastExp a l := foldl_merge_exp a l
    exact ⟨hexp, fun j hj => hexp ▸ nth_foldl_merge a hl hj⟩

/-! #### Range-verified rows (R34) -/

theorem isContribution_iff (p : P40) : isContribution p = true ↔
    p.top = p.exp ∧ p.contrib = 1 ∧ ∀ v ∈ p.s, v.natAbs ≤ 8372224 := by
  simp [isContribution, and_assoc]

theorem P40.verified_iff (p : P40) :
    p.verified = true ↔ p.top - p.exp ≤ 16 ∧ p.contrib ≤ 2 ^ (16 - (p.top - p.exp)).toNat := by
  simp [P40.verified]

theorem foldl_merge_contrib (a : P40) {l : List P40} (ha : a.contrib ≤ 0xFFFFFFFF) (hl : ∀ q ∈ l, q.contrib = 1) :
    (l.foldl P40.merge a).contrib = satAdd 0xFFFFFFFF a.contrib l.length := by
  induction l generalizing a with
  | nil => simp [satAdd, ha]
  | cons b l ih =>
    obtain ⟨hb, hl⟩ := List.forall_mem_cons.1 hl
    rw [List.foldl_cons, ih (a.merge b) (Nat.min_le_left _ _) hl, P40.merge_contrib, hb, List.length_cons]
    unfold satAdd
    omega

/-- TOP of a merge is an upper bound of the rows' TOP. -/
theorem le_foldl_merge_top (a : P40) (l : List P40) : ∀ q ∈ a :: l, q.top ≤ (l.foldl P40.merge a).top := by
  induction l generalizing a with
  | nil => simp
  | cons b l ih =>
    have h := List.forall_mem_cons.1 (ih (a.merge b))
    intro q hq
    rcases List.mem_cons.1 hq with rfl | hq
    · exact (le_max_left _ _).trans h.1
    rcases List.mem_cons.1 hq with rfl | hq
    · exact (le_max_right _ _).trans h.1
    · exact h.2 q hq

/-- A contribution aligned to an exponent stays within the bound of R30 times the power of two between them. -/
theorem natAbs_aligned_le {p : P40} (hp : isContribution p = true) {e : Int} {d : Nat} (hd : p.exp - e ≤ d) (j : Nat) :
    (p.aligned e j).natAbs ≤ 8372224 * 2 ^ d := by
  obtain ⟨-, -, hs⟩ := (isContribution_iff p).1 hp
  have hv : (nth 0 p.s j).natAbs ≤ 8372224 := nth_of_forall (P := fun v : Int => v.natAbs ≤ 8372224) (d := 0) (by decide) hs j
  rw [P40.aligned, Int.natAbs_mul, Int.natAbs_natCast]
  exact Nat.mul_le_mul hv (Nat.pow_le_pow_right two_pos (by omega))

/-- The sum of contributions, in units of 2^e, is below the bound of one of them times their number. -/
theorem natAbs_valueSum_le {a : P40} {l : List P40} {e : Int} {j B : Nat} (h : ∀ q ∈ a :: l, (q.aligned e j).natAbs ≤ B) :
    (valueSum a l e j).natAbs ≤ (l.length + 1) * B := by
  rw [valueSum_eq_sum]
  induction l with
  | nil => simpa using h
  | cons b l ih =>
    have hb : (b.aligned e j).natAbs ≤ B := h b (by simp)
    have hl := ih fun q hq => h q (by simp at hq ⊢; tauto)
    rw [List.map_cons, List.sum_cons, List.length_cons, add_one_mul (l.length + 1)]
    omega

/-- The exact sum of a range-verified row fits a value word. -/
theorem natAbs_valueSum_lt {a : P40} {l : List P40} (ha : isContribution a = true) (hl : ∀ q ∈ l, isContribution q = true)
    (hv : (l.foldl P40.merge a).verified = true) (j : Nat) : (valueSum a l (leastExp a l) j).natAbs < 2 ^ 39 := by
  obtain ⟨htop, hcontrib⟩ := (P40.verified_iff _).1 hv
  have hall : ∀ q ∈ a :: l, isContribution q = true := List.forall_mem_cons.2 ⟨ha, hl⟩
  have ha1 : a.contrib = 1 := ((isContribution_iff a).1 ha).2.1
  rw [foldl_merge_contrib a (by omega) fun q hq => ((isContribution_iff q).1 (hl q hq)).2.1, ha1, foldl_merge_exp] at hcontrib
  rw [foldl_merge_exp] at htop
  have hexp (q : P40) (hq : q ∈ a :: l) : q.exp ≤ (l.foldl P40.merge a).top :=
    ((isContribution_iff q).1 (hall q hq)).1 ▸ le_foldl_merge_top a l q hq
  have hle : leastExp a l ≤ (l.foldl P40.merge a).top := (leastExp_le a l).trans (hexp a (by simp))
  obtain ⟨d, hd⟩ : ∃ d : Nat, (l.foldl P40.merge a).top - leastExp a l = d := ⟨_, (Int.toNat_of_nonneg (by omega)).symm⟩
  have hcount : l.length + 1 ≤ 2 ^ (16 - d) := by
    have hpow : 2 ^ (16 - d) ≤ 2 ^ 16 := Nat.pow_le_pow_right two_pos (Nat.sub_le 16 d)
    rw [hd, show (16 - (d : Int)).toNat = 16 - d by omega, satAdd] at hcontrib
    omega
  calc (valueSum a l (leastExp a l) j).natAbs ≤ (l.length + 1) * (8372224 * 2 ^ d) :=
        natAbs_valueSum_le fun q hq => natAbs_aligned_le (hall q hq) (by have := hexp q hq; omega) j
    _ ≤ 2 ^ (16 - d) * (8372224 * 2 ^ d) := Nat.mul_le_mul_right _ hcount
    _ = 8372224 * 2 ^ (16 - d + d) := by rw [pow_add]; ring
    _ < 2 ^ 39 := by rw [show 16 - d + d = 16 by omega]; norm_num

/-- Settles O53: the bound of a contribution and the bounds on the row's binades and count keep the exact sum within 39 bits, so that the
sum modulo 2^40 of `nth_foldl_merge` is the sum. -/
theorem rangeVerifiedRowsAreExact : Obligations.RangeVerifiedRowsAreExact := by
  intro a l ha hl _ r
  refine ⟨r.verified_iff, fun hv j hj => ?_⟩
  rcases eq_or_ne l [] with rfl | hne
  · exact (a.aligned_exp j).symm
  · have hlt := natAbs_valueSum_lt ha (List.all_eq_true.1 hl) hv j
    rw [nth_foldl_merge a hne hj, wrap40_eq_self hlt, foldl_merge_exp]

end Sys2Proof
end

section
set_option Elab.async false

/-! ### Rounding to the float formats -/

namespace Sys2Proof

/-! #### The one rounding of the part (R19) -/

/-- The integer `q` is nearest to `v`, the even one on a tie. -/
def IsRne (q : Int) (v : Rat) : Prop := |q - v| ≤ 1 / 2 ∧ (|q - v| = 1 / 2 → q % 2 = 0)

theorem IsRne.neg {q : Int} {v : Rat} (h : IsRne q v) : IsRne (-q) (-v) := by
  have habs : |((-q : Int) : Rat) - -v| = |q - v| := by rw [Int.cast_neg, ← neg_sub', abs_neg]
  rw [IsRne, habs]
  exact ⟨h.1, fun ht => by have := h.2 ht; omega⟩

theorem one_le_abs_sub_of_ne {z q : Int} (h : z ≠ q) : (1 : Rat) ≤ |(z : Rat) - q| := by
  exact_mod_cast Int.one_le_abs (sub_ne_zero.2 h)

/-- No integer is nearer. -/
theorem IsRne.le {q : Int} {v : Rat} (h : IsRne q v) (z : Int) : |q - v| ≤ |z - v| := by
  rcases eq_or_ne z q with rfl | hz
  · exact le_rfl
  have hone : (1 : Rat) ≤ |(z : Rat) - q| := one_le_abs_sub_of_ne hz
  have htri := abs_sub_le (z : Rat) v q
  rw [abs_sub_comm v] at htri
  linarith [h.1]

/-- Another integer as near as the rounded one: a tie. -/
theorem IsRne.even {q : Int} {v : Rat} (h : IsRne q v) {z : Int} (hz : z ≠ q) (heq : |q - v| = |z - v|) : q % 2 = 0 := by
  have hone : (1 : Rat) ≤ |(z : Rat) - q| := one_le_abs_sub_of_ne hz
  have htri := abs_sub_le (z : Rat) v q
  rw [abs_sub_comm v] at htri
  exact h.2 (le_antisymm h.1 (by linarith))

theorem isRne_intCast (q : Int) : IsRne q q := by norm_num [IsRne]

theorem IsRne.nonneg {q : Int} {v : Rat} (h : IsRne q v) (hv : 0 ≤ v) : 0 ≤ q := by
  have hlt : ((-1 : Int) : Rat) < q := by push_cast; linarith [(abs_sub_le_iff.1 h.1).2]
  exact Int.add_one_le_of_lt (by exact_mod_cast hlt)

theorem IsRne.abs_le {q B : Int} {v : Rat} (h : IsRne q v) (hv : |v| ≤ B) : |q| ≤ B := by
  have htri := abs_sub_abs_le_abs_sub (q : Rat) v
  have hlt : ((|q| : Int) : Rat) < ((B + 1 : Int) : Rat) := by push_cast; linarith [h.1]
  exact Int.lt_add_one_iff.1 (by exact_mod_cast hlt)

theorem IsRne.le_abs {q B : Int} {v : Rat} (h : IsRne q v) (hv : B ≤ |v|) : B ≤ |q| := by
  have htri := abs_sub_abs_le_abs_sub v (q : Rat)
  rw [abs_sub_comm] at htri
  have hlt : (B : Rat) < ((|q| + 1 : Int) : Rat) := by push_cast; linarith [h.1]
  exact Int.lt_add_one_iff.1 (by exact_mod_cast hlt)

/-- A number below an integer that `v` reaches is farther from `v` than the rounded integer. -/
theorem IsRne.lt_of_abs_lt {q B : Int} {v y : Rat} (h : IsRne q v) (hB : B ≤ |v|) (hy : |y| < B) : |q - v| < |y - v| := by
  have hyv := abs_sub_abs_le_abs_sub v y
  rw [abs_sub_comm v] at hyv
  have hqv : |q - v| ≤ |v| - B := by
    rcases abs_cases v with ⟨hv, _⟩ | ⟨hv, _⟩
    · have hnear := h.le B
      rw [abs_sub_comm (B : Rat) v, abs_of_nonneg (a := v - B) (by linarith)] at hnear
      linarith
    · have hnear := h.le (-B)
      rw [abs_of_nonneg (a := ((-B : Int) : Rat) - v) (by push_cast; linarith)] at hnear
      push_cast at hnear
      linarith
  linarith

/-- A value rounds above an odd integer from the midpoint on. -/
theorem IsRne.lt_iff_of_odd {q B : Int} {v : Rat} (h : IsRne q v) (hB : B % 2 = 1) : B < q ↔ B + 1 / 2 ≤ v := by
  constructor
  · intro hq
    have : ((B + 1 : Int) : Rat) ≤ q := by exact_mod_cast hq
    push_cast at this
    linarith [(abs_sub_le_iff.1 h.1).1]
  · intro hv
    by_contra hq
    have hq : (q : Rat) ≤ B := by exact_mod_cast not_lt.1 hq
    have hdiff := (abs_sub_le_iff.1 h.1).2
    obtain rfl : q = B := by exact_mod_cast le_antisymm hq (by linarith)
    have := h.2 (by rw [abs_sub_comm, abs_of_nonneg (by linarith)]; linarith)
    omega

/-- Twice the error of the division, in units of 1 / d: at most d, and d only at an even quotient. -/
theorem rneDiv_error (n : Int) {d : Nat} (hd : 0 < d) :
    2 * |rneDiv n d * d - n| ≤ d ∧ (2 * |rneDiv n d * d - n| = d → rneDiv n d % 2 = 0) := by
  have hr0 := Int.emod_nonneg n (b := d) (by omega)
  have hrd := Int.emod_lt_of_pos n (b := d) (by omega)
  have hlow : |n / d * d - n| = n % d := by
    rw [show n / d * d - n = -(n % d) by linarith [Int.mul_ediv_add_emod n d], abs_neg, abs_of_nonneg hr0]
  have hhigh : |(n / d + 1) * d - n| = d - n % d := by
    rw [show (n / d + 1) * d - n = d - n % d by linarith [Int.mul_ediv_add_emod n d], abs_of_nonneg (by omega)]
  unfold rneDiv
  dsimp only
  split_ifs with hbelow habove heven
  · rw [hlow]
    omega
  · rw [hhigh]
    omega
  · rw [hlow]
    omega
  · rw [hhigh]
    omega

theorem rneDiv_isRne (n : Int) {d : Nat} (hd : 0 < d) : IsRne (rneDiv n d) (n / d) := by
  obtain ⟨hle, heven⟩ := rneDiv_error n hd
  have hd' : (0 : Rat) < d := by exact_mod_cast hd
  have herr : |(rneDiv n d : Rat) - n / d| = ((|rneDiv n d * d - n| : Int) : Rat) / d := by
    rw [Int.cast_abs, ← abs_of_pos hd', ← abs_div, abs_of_pos hd']
    push_cast
    rw [sub_div, mul_div_cancel_right₀ _ hd'.ne']
  have hle' : 2 * ((|rneDiv n d * d - n| : Int) : Rat) ≤ d := by exact_mod_cast hle
  rw [IsRne, herr]
  refine ⟨by rw [div_le_iff₀ hd']; linarith, fun ht => heven ?_⟩
  rw [div_eq_iff hd'.ne'] at ht
  have : 2 * ((|rneDiv n d * d - n| : Int) : Rat) = d := by linarith
  exact_mod_cast this

theorem rneScale_isRne (x e : Int) : IsRne (rneScale x e) (x * (2 : Rat) ^ e) := by
  unfold rneScale
  split
  · rename_i h
    obtain ⟨k, rfl⟩ := Int.eq_ofNat_of_zero_le h
    simpa using isRne_intCast (x * (2 ^ k : Nat))
  · rename_i h
    obtain ⟨k, hk⟩ := Int.eq_ofNat_of_zero_le (show 0 ≤ -e by omega)
    obtain rfl : e = -k := by omega
    simpa [div_eq_mul_inv] using rneDiv_isRne x (d := 2 ^ k) (by positivity)

/-! #### Rounding into a format (R37, R39) -/

namespace FloatFmt

/-- The exponent of the binade in which a value is rounded: its own, or the least normal one. -/
def binade (f : FloatFmt) (m t : Int) : Int := max f.emin ((m.natAbs.log2 : Int) + t)
/-- The exponent of the unit in which a value's significand counts. -/
def unit (f : FloatFmt) (m t : Int) : Int := f.binade m t - f.mbits
/-- The significand of a rounded value, in that unit. -/
def sig (f : FloatFmt) (m t : Int) : Nat := (rneScale m.natAbs (t - f.unit m t)).toNat
/-- The code of a rounded value without its sign, when it is finite. -/
def raw (f : FloatFmt) (m t : Int) : Nat := (f.binade m t - f.emin).toNat * 2 ^ f.mbits + f.sig m t
/-- The sign bit of a value's code. -/
def sgn (f : FloatFmt) (m : Int) : Nat := if m < 0 then 2 ^ f.sign else 0

end FloatFmt

@[simp] theorem roundTo_zero (f : FloatFmt) (t : Int) : roundTo f 0 t = ⟨0, false, false⟩ := rfl

theorem roundTo_eq {m : Int} (hm : m ≠ 0) (f : FloatFmt) (t : Int) : roundTo f m t =
    if f.sig m t = 0 then ⟨0, false, true⟩
    else if f.maxCode < f.raw m t then ⟨f.maxCode + f.sgn m, true, false⟩
    else ⟨f.raw m t + f.sgn m, false, false⟩ := by
  have hb : (if (m.natAbs.log2 : Int) + t < f.emin then f.emin else (m.natAbs.log2 : Int) + t) = f.binade m t := by
    unfold FloatFmt.binade
    omega
  unfold roundTo
  rw [if_neg hm]
  simp only [hb, sub_add_cancel]
  rfl

/-- A value whose significand is not 0 has a code other than 0. -/
theorem FloatFmt.raw_pos {f : FloatFmt} {m t : Int} (h : f.sig m t ≠ 0) : 0 < f.raw m t :=
  Nat.add_pos_right _ (Nat.pos_of_ne_zero h)

/-- A code that a value is rounded to is never the sign bit alone. -/
theorem roundTo_code_ne {f : FloatFmt} (hpos : 0 < f.maxCode) (hlt : f.maxCode < 2 ^ f.sign) (m t : Int) :
    (roundTo f m t).code ≠ 2 ^ f.sign := by
  rcases eq_or_ne m 0 with rfl | hm
  · exact (Nat.two_pow_pos _).ne
  have hsgn : f.sgn m = 0 ∨ f.sgn m = 2 ^ f.sign := by
    unfold FloatFmt.sgn
    split <;> simp
  rw [roundTo_eq hm]
  split_ifs with h0 hsat
  · exact (Nat.two_pow_pos _).ne
  · show f.maxCode + f.sgn m ≠ _
    omega
  · have hraw := FloatFmt.raw_pos h0
    show f.raw m t + f.sgn m ≠ _
    omega

namespace FloatFmt

/-- A value in the unit of its significand. -/
def inUnits (f : FloatFmt) (m t : Int) : Rat := m * (2 : Rat) ^ (t - f.unit m t)

theorem scaled_eq (f : FloatFmt) (m t : Int) : scaled m t = f.inUnits m t * (2 : Rat) ^ f.unit m t := by
  rw [scaled, inUnits, mul_assoc, ← zpow_add₀ two_ne_zero, sub_add_cancel]

theorem abs_inUnits (f : FloatFmt) (m t : Int) : |f.inUnits m t| = m.natAbs * (2 : Rat) ^ (t - f.unit m t) := by
  rw [inUnits, abs_mul, abs_of_pos (zpow_pos (two_pos : (0 : Rat) < 2) _), Nat.cast_natAbs, Int.cast_abs]

theorem sig_isRne_abs (f : FloatFmt) (m t : Int) : IsRne (f.sig m t) |f.inUnits m t| := by
  have h := rneScale_isRne m.natAbs (t - f.unit m t)
  rw [Int.cast_natCast, ← abs_inUnits] at h
  rwa [sig, Int.toNat_of_nonneg (h.nonneg (abs_nonneg _))]

/-- The significand with the value's sign is the value in its unit, rounded. -/
theorem sig_isRne (f : FloatFmt) (m t : Int) : IsRne (if m < 0 then -f.sig m t else f.sig m t) (f.inUnits m t) := by
  have h := f.sig_isRne_abs m t
  have hpow : (0 : Rat) ≤ 2 ^ (t - f.unit m t) := (zpow_pos two_pos _).le
  split
  · rename_i hneg
    have hv : f.inUnits m t ≤ 0 := mul_nonpos_of_nonpos_of_nonneg (by exact_mod_cast hneg.le) hpow
    simpa [abs_of_nonpos hv] using h.neg
  · rename_i hnonneg
    have hv : 0 ≤ f.inUnits m t := mul_nonneg (by exact_mod_cast not_lt.1 hnonneg) hpow
    rwa [abs_of_nonneg hv] at h

/-- A value lies below the end of its binade. -/
theorem abs_inUnits_lt (f : FloatFmt) (m t : Int) : |f.inUnits m t| < 2 ^ (f.mbits + 1) := by
  have hm : (m.natAbs : Rat) < (2 : Rat) ^ ((m.natAbs.log2 : Int) + 1) := by exact_mod_cast Nat.lt_log2_self
  have hexp : (m.natAbs.log2 : Int) + 1 + (t - f.unit m t) ≤ ((f.mbits + 1 : Nat) : Int) := by
    unfold unit binade
    omega
  rw [abs_inUnits, ← zpow_natCast]
  calc (m.natAbs : Rat) * 2 ^ (t - f.unit m t) < 2 ^ ((m.natAbs.log2 : Int) + 1) * 2 ^ (t - f.unit m t) :=
        mul_lt_mul_of_pos_right hm (zpow_pos two_pos _)
    _ = 2 ^ ((m.natAbs.log2 : Int) + 1 + (t - f.unit m t)) := (zpow_add₀ two_ne_zero _ _).symm
    _ ≤ 2 ^ ((f.mbits + 1 : Nat) : Int) := zpow_le_zpow_right₀ one_le_two hexp

/-- Above the least normal binade a value lies in its own. -/
theorem le_abs_inUnits {f : FloatFmt} {m t : Int} (hm : m ≠ 0) (h : f.emin < f.binade m t) : 2 ^ f.mbits ≤ |f.inUnits m t| := by
  have hm : (2 : Rat) ^ (m.natAbs.log2 : Int) ≤ m.natAbs := by exact_mod_cast Nat.log2_self_le (Int.natAbs_ne_zero.2 hm)
  have hexp : (f.mbits : Int) = (m.natAbs.log2 : Int) + (t - f.unit m t) := by
    unfold unit
    unfold binade at h ⊢
    omega
  rw [abs_inUnits, ← zpow_natCast, hexp, zpow_add₀ two_ne_zero]
  exact mul_le_mul_of_nonneg_right hm (zpow_pos two_pos _).le

theorem sig_le (f : FloatFmt) (m t : Int) : f.sig m t ≤ 2 ^ (f.mbits + 1) := by
  have h := (f.sig_isRne_abs m t).abs_le (B := 2 ^ (f.mbits + 1)) (by rw [abs_abs]; exact_mod_cast (f.abs_inUnits_lt m t).le)
  rw [Nat.abs_cast] at h
  exact_mod_cast h

theorem le_sig {f : FloatFmt} {m t : Int} (hm : m ≠ 0) (h : f.emin < f.binade m t) : 2 ^ f.mbits ≤ f.sig m t := by
  have h := (f.sig_isRne_abs m t).le_abs (B := 2 ^ f.mbits) (by rw [abs_abs]; exact_mod_cast le_abs_inUnits hm h)
  rw [Nat.abs_cast] at h
  exact_mod_cast h

end FloatFmt

/-! #### The values of BF16 codes (R20) -/

theorem bf16_of_fields {e m : Nat} (he : e < 255) (hm : m < 128) (neg : Prop) [Decidable neg] :
    bf16 (e * 128 + m + if neg then 2 ^ 15 else 0) =
      let v : Int := if e = 0 then m else 128 + m
      some (if neg then -v else v, if e = 0 then -133 else (e : Int) - 134) := by
  have hexp : bits (e * 128 + m + if neg then 2 ^ 15 else 0) 7 8 = e := by
    unfold bits
    split <;> omega
  have hman : bits (e * 128 + m + if neg then 2 ^ 15 else 0) 0 7 = m := by
    unfold bits
    split <;> omega
  have hsgn : bitAt (e * 128 + m + if neg then 2 ^ 15 else 0) 15 = decide neg := by
    rw [bitAt, beq_eq_decide]
    congr 1
    split
    · simp [*]
      omega
    · simp [*]
      omega
  unfold bf16
  rw [hexp, hman, hsgn, if_neg he.ne]
  by_cases hneg : neg
  · simp [hneg]
  · simp [hneg]

theorem bf16Rat_eq_map (c : Nat) : Machine.bf16Rat c = (bf16 c).map fun v => (v.1 : Rat) * 2 ^ v.2 := by
  unfold Machine.bf16Rat
  congr 1
  funext v
  split
  · rename_i h
    obtain ⟨k, hk⟩ := Int.eq_ofNat_of_zero_le h
    simp [hk]
  · rename_i h
    obtain ⟨k, hk⟩ := Int.eq_ofNat_of_zero_le (show 0 ≤ -v.2 by omega)
    obtain hv : v.2 = -k := by omega
    simp [hv, div_eq_mul_inv]

/-- The code of n binades above the least and a significand `q` stands for q x 2^(n - 133): of the least binade the subnormal codes,
and of a significand rounded up to 256 the next binade. -/
theorem bf16Rat_of_sig {n q : Nat} (hraw : n * 128 + q ≤ 0x7F7F) (hq : q ≤ 256) (hnorm : 0 < n → 128 ≤ q) (neg : Prop) [Decidable neg] :
    Machine.bf16Rat (n * 128 + q + if neg then 2 ^ 15 else 0) = some (((if neg then -q else q : Int) : Rat) * 2 ^ ((n : Int) - 133)) := by
  rw [bf16Rat_eq_map]
  rcases lt_or_ge q 128 with hsub | hnormal
  · obtain rfl : n = 0 := by omega
    rw [bf16_of_fields (by decide) hsub]
    simp
  rcases hq.lt_or_eq with hlt | rfl
  · obtain ⟨k, rfl⟩ := Nat.exists_eq_add_of_le hnormal
    rw [show n * 128 + (128 + k) = (n + 1) * 128 + k by ring, bf16_of_fields (by omega) (by omega)]
    have hexp : (n : Int) + 1 - 134 = n - 133 := by ring
    simp [hexp]
  · rw [show n * 128 + 256 = (n + 2) * 128 + 0 by ring, bf16_of_fields (by omega) (by omega)]
    have hexp : (2 : Rat) ^ ((n : Int) + 2 - 134) = 2 * 2 ^ ((n : Int) - 133) := by
      rw [← zpow_one_add₀ two_ne_zero]
      congr 1
      ring
    have hcarry : (128 : Rat) * (2 * 2 ^ ((n : Int) - 133)) = 256 * 2 ^ ((n : Int) - 133) := by ring
    simp [hexp, hcarry]

theorem bf16_eq_some {c : Nat} {k x : Int} (h : bf16 c = some (k, x)) :
    k.natAbs ≤ 255 ∧ ∃ n : Nat, n ≤ 253 ∧ x = (n : Int) - 133 := by
  have he := bits_lt c 7 8
  have hm := bits_lt c 0 7
  unfold bf16 at h
  dsimp only at h
  split at h
  · cases h
  split at h
  · obtain ⟨rfl, rfl⟩ := Prod.mk.inj (Option.some.inj h)
    exact ⟨by omega, bits c 7 8 - 1, by omega, by omega⟩
  · obtain ⟨rfl, rfl⟩ := Prod.mk.inj (Option.some.inj h)
    exact ⟨by omega, bits c 7 8 - 1, by omega, by omega⟩

/-- Every finite value: at most 255 units of one of the 254 binades. -/
theorem eq_of_bf16Rat {c : Nat} {y : Rat} (h : Machine.bf16Rat c = some y) :
    ∃ n : Nat, n ≤ 253 ∧ ∃ k : Int, |k| ≤ 255 ∧ y = k * 2 ^ ((n : Int) - 133) := by
  rw [bf16Rat_eq_map] at h
  obtain ⟨⟨k, x⟩, hv, rfl⟩ := Option.map_eq_some_iff.1 h
  obtain ⟨hk, n, hn, rfl⟩ := bf16_eq_some hv
  exact ⟨n, hn, k, by rw [Int.abs_eq_natAbs]; omega, rfl⟩

/-! #### The conversion to BF16 (R39) -/

theorem fmtBF16_raw (m t : Int) : fmtBF16.raw m t = (fmtBF16.binade m t + 126).toNat * 128 + fmtBF16.sig m t := by
  rw [FloatFmt.raw]
  rfl

theorem fmtBF16_le_binade (m t : Int) : -126 ≤ fmtBF16.binade m t := le_max_left _ _

/-- A code that is not beyond the largest stands for the rounded significand. -/
theorem bf16Rat_raw {m t : Int} (hm : m ≠ 0) (hraw : fmtBF16.raw m t ≤ 0x7F7F) :
    Machine.bf16Rat (fmtBF16.raw m t + fmtBF16.sgn m) =
      some (((if m < 0 then -fmtBF16.sig m t else fmtBF16.sig m t : Int) : Rat) * 2 ^ fmtBF16.unit m t) := by
  have hE := fmtBF16_le_binade m t
  have hunit : fmtBF16.unit m t = ((fmtBF16.binade m t + 126).toNat : Int) - 133 := by
    rw [FloatFmt.unit, show (fmtBF16.mbits : Int) = 7 from rfl]
    omega
  rw [fmtBF16_raw] at hraw ⊢
  rw [hunit]
  exact bf16Rat_of_sig hraw (fmtBF16.sig_le m t) (fun hn => FloatFmt.le_sig (f := fmtBF16) hm (by change -126 < _; omega)) (m < 0)

/-- A finite value in the unit of another value is an integer, or it lies below that value's binade. -/
theorem inUnits_of_bf16Rat {c : Nat} {y : Rat} (h : Machine.bf16Rat c = some y) (m t : Int) :
    ∃ Y : Rat, y = Y * 2 ^ fmtBF16.unit m t ∧ ((∃ z : Int, Y = z) ∨ (fmtBF16.emin < fmtBF16.binade m t ∧ |Y| < 128)) := by
  obtain ⟨n, -, k, hk, rfl⟩ := eq_of_bf16Rat h
  have hunit : fmtBF16.unit m t = fmtBF16.binade m t - 7 := rfl
  refine ⟨k * 2 ^ ((n : Int) - 133 - fmtBF16.unit m t), ?_, ?_⟩
  · rw [mul_assoc, ← zpow_add₀ two_ne_zero, sub_add_cancel]
  rcases le_or_gt (fmtBF16.unit m t) ((n : Int) - 133) with hle | hlt
  · obtain ⟨d, hd⟩ := Int.eq_ofNat_of_zero_le (sub_nonneg.2 hle)
    exact .inl ⟨k * 2 ^ d, by rw [hd]; simp⟩
  · refine .inr ⟨show (-126 : Int) < _ by omega, ?_⟩
    have hk : (|k| : Rat) ≤ 255 := by exact_mod_cast hk
    have hpow : (2 : Rat) ^ ((n : Int) - 133 - fmtBF16.unit m t) ≤ 2 ^ (-1 : Int) := zpow_le_zpow_right₀ one_le_two (by omega)
    rw [abs_mul, abs_of_pos (zpow_pos (two_pos : (0 : Rat) < 2) _)]
    calc (|k| : Rat) * 2 ^ ((n : Int) - 133 - fmtBF16.unit m t) ≤ 255 * 2 ^ (-1 : Int) := by gcongr
      _ < 128 := by norm_num

/-- A code that is not beyond the largest is nearest to the value, and its significand is even on a tie. -/
theorem bf16_sig_nearest {m t : Int} (hm : m ≠ 0) {c : Nat} {y : Rat} (h : Machine.bf16Rat c = some y) {x : Rat}
    (hx : x = ((if m < 0 then -fmtBF16.sig m t else fmtBF16.sig m t : Int) : Rat) * 2 ^ fmtBF16.unit m t) :
    |x - scaled m t| ≤ |y - scaled m t| ∧
      (|x - scaled m t| = |y - scaled m t| → y ≠ x → fmtBF16.sig m t % 2 = 0) := by
  have hpow : (0 : Rat) < 2 ^ fmtBF16.unit m t := zpow_pos two_pos _
  obtain ⟨Y, rfl, hY⟩ := inUnits_of_bf16Rat h m t
  have hround := fmtBF16.sig_isRne m t
  generalize hq : (if m < 0 then -fmtBF16.sig m t else fmtBF16.sig m t : Int) = q at hround hx
  have hparity : q % 2 = 0 → fmtBF16.sig m t % 2 = 0 := by
    rw [← hq]
    split <;> omega
  rw [hx, fmtBF16.scaled_eq, ← sub_mul, ← sub_mul, abs_mul, abs_mul, abs_of_pos hpow, mul_le_mul_iff_left₀ hpow,
    mul_left_inj' hpow.ne', Ne, mul_left_inj' hpow.ne']
  rcases hY with ⟨z, rfl⟩ | ⟨hnormal, hlt⟩
  · exact ⟨hround.le z, fun heq hne => hparity (hround.even (by exact_mod_cast hne) heq)⟩
  · have hbinade : ((128 : Int) : Rat) ≤ |fmtBF16.inUnits m t| := by
      have := FloatFmt.le_abs_inUnits hm hnormal
      exact_mod_cast this
    have hfar := hround.lt_of_abs_lt hbinade (by exact_mod_cast hlt)
    exact ⟨hfar.le, fun heq => absurd heq hfar.ne⟩

/-- The rounded code is beyond the largest exactly from the midpoint between the largest value and 2^128 on. -/
theorem bf16_raw_gt_iff {m : Int} (hm : m ≠ 0) (t : Int) : 0x7F7F < fmtBF16.raw m t ↔ scaled 511 119 ≤ |scaled m t| := by
  have hE := fmtBF16_le_binade m t
  have hunit : fmtBF16.unit m t = fmtBF16.binade m t - 7 := rfl
  have hsig : fmtBF16.sig m t ≤ 256 := fmtBF16.sig_le m t
  have hlt : |fmtBF16.inUnits m t| < 256 := lt_of_lt_of_eq (fmtBF16.abs_inUnits_lt m t) (by norm_num [fmtBF16])
  have hnormal (h : -126 < fmtBF16.binade m t) : 128 ≤ fmtBF16.sig m t ∧ 128 ≤ |fmtBF16.inUnits m t| :=
    ⟨FloatFmt.le_sig (f := fmtBF16) hm h, le_of_eq_of_le (by norm_num [fmtBF16]) (FloatFmt.le_abs_inUnits (f := fmtBF16) hm h)⟩
  have hpow : (0 : Rat) < 2 ^ fmtBF16.unit m t := zpow_pos two_pos _
  have hmid : scaled 511 119 = 255.5 * 2 ^ (120 : Int) := by norm_num [scaled]
  rw [fmtBF16_raw, hmid, fmtBF16.scaled_eq, abs_mul, abs_of_pos hpow]
  rcases lt_trichotomy (fmtBF16.binade m t) 127 with hbelow | htop | habove
  · have hle : (2 : Rat) ^ fmtBF16.unit m t ≤ 2 ^ (119 : Int) := zpow_le_zpow_right₀ one_le_two (by omega)
    refine iff_of_false (by omega) (not_le.2 ?_)
    calc |fmtBF16.inUnits m t| * 2 ^ fmtBF16.unit m t ≤ 256 * 2 ^ (119 : Int) := by gcongr
      _ < 255.5 * 2 ^ (120 : Int) := by norm_num
  · rw [show fmtBF16.unit m t = 120 by omega, mul_le_mul_iff_left₀ (by norm_num), htop]
    have hround := (fmtBF16.sig_isRne_abs m t).lt_iff_of_odd (B := 255) (by decide)
    norm_num at hround ⊢
    rw [← hround]
    omega
  · obtain ⟨hsig', hval⟩ := hnormal (by omega)
    have hle : (2 : Rat) ^ (121 : Int) ≤ 2 ^ fmtBF16.unit m t := zpow_le_zpow_right₀ one_le_two (by omega)
    refine iff_of_true (by omega) ?_
    calc (255.5 : Rat) * 2 ^ (120 : Int) ≤ 128 * 2 ^ (121 : Int) := by norm_num
      _ ≤ |fmtBF16.inUnits m t| * 2 ^ fmtBF16.unit m t := by gcongr

/-- The largest finite value. -/
def bf16Max : Rat := 255 * 2 ^ (120 : Int)

theorem abs_le_bf16Max {c : Nat} {y : Rat} (h : Machine.bf16Rat c = some y) : |y| ≤ bf16Max := by
  obtain ⟨n, hn, k, hk, rfl⟩ := eq_of_bf16Rat h
  have hk : (|k| : Rat) ≤ 255 := by exact_mod_cast hk
  have hpow : (2 : Rat) ^ ((n : Int) - 133) ≤ 2 ^ (120 : Int) := zpow_le_zpow_right₀ one_le_two (by omega)
  rw [abs_mul, abs_of_pos (zpow_pos (two_pos : (0 : Rat) < 2) _), bf16Max]
  gcongr

theorem bf16Rat_max (m : Int) :
    Machine.bf16Rat (fmtBF16.maxCode + fmtBF16.sgn m) = some (if m < 0 then -bf16Max else bf16Max) := by
  have h := bf16Rat_of_sig (n := 253) (q := 255) (by decide) (by decide) (by decide) (m < 0)
  rw [show fmtBF16.maxCode + fmtBF16.sgn m = 253 * 128 + 255 + if m < 0 then 2 ^ 15 else 0 from rfl, h]
  split
  · norm_num [bf16Max]
  · norm_num [bf16Max]

/-- Beyond the largest finite value, that value with the sign is the nearest. -/
theorem bf16Max_nearest {m t : Int} (h : bf16Max ≤ |scaled m t|) {c : Nat} {y : Rat} (hy : Machine.bf16Rat c = some y) :
    |(if m < 0 then -bf16Max else bf16Max) - scaled m t| ≤ |y - scaled m t| := by
  have hfar := abs_sub_abs_le_abs_sub (scaled m t) y
  rw [abs_sub_comm _ y] at hfar
  have hpow : (0 : Rat) < 2 ^ t := zpow_pos two_pos _
  have hdist : |(if m < 0 then -bf16Max else bf16Max) - scaled m t| = |scaled m t| - bf16Max := by
    split
    · rename_i hneg
      have hv : scaled m t < 0 := mul_neg_of_neg_of_pos (by exact_mod_cast hneg) hpow
      rw [abs_of_neg hv] at h ⊢
      rw [abs_of_nonneg (by linarith)]
      ring
    · rename_i hnonneg
      have hv : 0 ≤ scaled m t := mul_nonneg (by exact_mod_cast not_lt.1 hnonneg) hpow.le
      rw [abs_of_nonneg hv] at h ⊢
      rw [abs_sub_comm, abs_of_nonneg (by linarith)]
  linarith [abs_le_bf16Max hy]

theorem bf16Rat_zero : Machine.bf16Rat 0 = some 0 := by
  simpa using bf16Rat_of_sig (n := 0) (q := 0) (by decide) (by decide) (by decide) False

theorem scaled_zero (t : Int) : scaled 0 t = 0 := by simp [scaled]

/-- A significand of 0 occurs in the least binade alone. -/
theorem bf16_raw_of_sig_zero {m t : Int} (hm : m ≠ 0) (h : fmtBF16.sig m t = 0) : fmtBF16.raw m t = 0 := by
  have hE := fmtBF16_le_binade m t
  have hnormal : -126 < fmtBF16.binade m t → 128 ≤ fmtBF16.sig m t := FloatFmt.le_sig (f := fmtBF16) hm
  rw [fmtBF16_raw]
  omega

/-- Settles O54: a value of 0; a significand of 0; a code beyond the largest; and a code that stands for the rounded significand. -/
theorem bf16Conversion : Obligations.Bf16Conversion := by
  intro m t
  rcases eq_or_ne m 0 with rfl | hm
  · have hfar : ¬ scaled 511 119 ≤ |scaled 0 t| := by norm_num [scaled]
    rw [roundTo_zero]
    exact ⟨0, bf16Rat_zero, by simp [scaled_zero], by simp, iff_of_false (by simp) hfar, by simp, by simp⟩
  have hgt := bf16_raw_gt_iff hm t
  rw [roundTo_eq hm]
  by_cases h0 : fmtBF16.sig m t = 0
  · rw [if_pos h0]
    have hraw := bf16_raw_of_sig_zero hm h0
    have hx : (0 : Rat) = ((if m < 0 then -fmtBF16.sig m t else fmtBF16.sig m t : Int) : Rat) * 2 ^ fmtBF16.unit m t := by simp [h0]
    refine ⟨0, bf16Rat_zero, fun c y hy => (bf16_sig_nearest hm hy hx).1, by simp, iff_of_false (by simp) ?_, by simp, by simp [hm]⟩
    rw [← hgt, hraw]
    decide
  rw [if_neg h0]
  by_cases hsat : fmtBF16.maxCode < fmtBF16.raw m t
  · rw [if_pos hsat]
    have hmax : bf16Max ≤ |scaled m t| := le_trans (by norm_num [bf16Max, scaled]) (hgt.1 hsat)
    have hcode : fmtBF16.maxCode + fmtBF16.sgn m = if m < 0 then 0xFF7F else 0x7F7F := by
      unfold FloatFmt.sgn
      split <;> rfl
    refine ⟨_, bf16Rat_max m, fun c y hy => bf16Max_nearest hmax hy, by simp, iff_of_true rfl (hgt.1 hsat), fun _ => hcode, ?_⟩
    exact iff_of_false (by simp) fun h => absurd h.2 (Nat.add_pos_left (by decide) _).ne'
  · rw [if_neg hsat]
    have hpar (h : fmtBF16.sig m t % 2 = 0) : (fmtBF16.raw m t + fmtBF16.sgn m) % 2 = 0 := by
      have hsgn : fmtBF16.sgn m % 2 = 0 := by
        unfold FloatFmt.sgn
        split <;> rfl
      rw [fmtBF16_raw]
      omega
    refine ⟨_, bf16Rat_raw hm (not_lt.1 hsat), fun c y hy => (bf16_sig_nearest hm hy rfl).1,
      fun c y _ hy heq hne _ => hpar ((bf16_sig_nearest hm hy rfl).2 heq hne), iff_of_false (by simp) (hgt.not.1 hsat), by simp, ?_⟩
    exact iff_of_false (by simp) fun h => absurd h.2 (Nat.add_pos_left (FloatFmt.raw_pos h0) _).ne'

/-- Settles O55: a code beside the sign bit is above 0 unless the value is written as the code 0 (`roundTo_code_ne`). -/
theorem negativeZero : Obligations.NegativeZero := by
  have hbf16 : Machine.bf16Rat 0x8000 = some 0 := by
    simpa using bf16Rat_of_sig (n := 0) (q := 0) (by decide) (by decide) (by decide) True
  refine ⟨by decide, by decide, hbf16, fun f hf m t => ⟨?_, ?_⟩⟩
  · have hfmt : ∀ f ∈ [fmtE2M1, fmtE4M3, fmtBF16], 0 < f.maxCode ∧ f.maxCode < 2 ^ f.sign := by decide
    exact roundTo_code_ne (hfmt f hf).1 (hfmt f hf).2 m t
  · rintro rfl
    rw [roundTo_zero]

end Sys2Proof
end

section
set_option Elab.async false

/-! ### Requests of the management controller that are served -/

namespace Sys2Proof

namespace Machine

/-- A served request is taken from the requests in work, with the SEQ that its answer echoes (R509). -/
theorem State.popReq_of_waiting {s : State} {c : Channel} (h : (c == .i3c || s.mgmt.ethReqs != []) = true) :
    s.popReq c = some (reqSeq s c, taken s c) := by
  cases c with
  | i3c => rfl
  | eth =>
    cases hq : s.mgmt.ethReqs with
    | nil => rw [hq] at h; exact absurd h (by decide)
    | cons q rest => simp [State.popReq, reqSeq, taken, hq, nth]

/-- The state in which a served request is worked on differs in the requests in work alone. -/
theorem taken_eq (s : State) (c : Channel) : ∃ q, taken s c = { s with mgmt := { s.mgmt with ethReqs := q } } := by
  cases c with
  | i3c => exact ⟨s.mgmt.ethReqs, rfl⟩
  | eth => exact ⟨s.mgmt.ethReqs.drop 1, rfl⟩

theorem taken_mgmtReady (s : State) (c : Channel) : (taken s c).mgmtReady = s.mgmtReady := by
  obtain ⟨q, hq⟩ := taken_eq s c
  rw [hq]
  rfl

theorem taken_authorised (s : State) (c : Channel) (a : Access) (n : Option Nat) :
    (taken s c).authorised a c n = s.authorised a c n := by
  obtain ⟨q, hq⟩ := taken_eq s c
  rw [hq]
  rfl

/-- A request that the part serves reaches its own work (R510, R511). -/
theorem State.request_of_canServe {s : State} {c : Channel} {n : Option Nat} {a : Access} {early : Bool}
    (h : canServe s c n a early = true) (name : String) (f : State → (Completion → List Nat → State → State) → State) :
    s.request c n name a early f =
      f (taken s c) fun code d t => t.reply { chan := c, seq := reqSeq s c, name := name, code := code, data := d } := by
  simp only [canServe, Bool.and_eq_true] at h
  obtain ⟨⟨⟨hon, hwaits⟩, hready⟩, hauth⟩ := h
  have hready' : (!s.mgmtReady && !early) = false := by
    rw [← Bool.not_or, hready]
    rfl
  simp [State.request, hon, State.popReq_of_waiting hwaits, taken_mgmtReady, taken_authorised, hready', hauth]

/-- A report that the part serves is an answer with the words it names, which do not depend on the requests in work. -/
theorem State.report_of_canServe {s : State} {c : Channel} {n : Option Nat} {a : Access} (h : canServe s c n a false = true)
    (name : String) {d : State → List Nat} (hd : ∀ q, d { s with mgmt := { s.mgmt with ethReqs := q } } = d s) :
    s.report c n name a d = answerOf s c name .success (d s) id := by
  obtain ⟨q, hq⟩ := taken_eq s c
  rw [State.report, State.request_of_canServe h, ← hd q, ← hq]
  rfl

end Machine

open Machine

/-- Settles O33: each read is a served report, and no word that it names depends on the requests in work. -/
theorem oemReadCommandsComplete : Obligations.OemReadCommandsComplete :=
  ⟨fun _ _ _ _ h => ⟨_, rfl, State.report_of_canServe h _ fun _ => rfl⟩,
    fun _ _ _ _ h => ⟨_, rfl, State.report_of_canServe h _ fun _ => rfl⟩,
    fun _ _ _ _ _ h => ⟨_, rfl, State.report_of_canServe h _ fun _ => rfl⟩,
    fun _ _ _ h => ⟨_, rfl, State.report_of_canServe h _ fun _ => rfl⟩,
    fun _ _ _ h => ⟨_, rfl, State.report_of_canServe h _ fun _ => rfl⟩⟩

end Sys2Proof
end

section
set_option Elab.async false

/-! ### What the operations of tiles and drift leave alone -/

namespace Sys2Proof

open Machine

/-! #### Registers outside a list -/

theorem RegsExcept.refl (l : List Nat) (s : State) : RegsExcept l s s := fun _ _ => rfl

theorem RegsExcept.trans {l : List Nat} {s t u : State} (h : RegsExcept l s t) (g : RegsExcept l t u) : RegsExcept l s u :=
  fun a ha => (g a ha).trans (h a ha)

theorem RegsExcept.mono {l m : List Nat} {s t : State} (h : RegsExcept l s t) (hl : l ⊆ m) : RegsExcept m s t :=
  fun a ha => h a fun hm => ha (hl hm)

theorem RegsExcept.of_regs (l : List Nat) {s t : State} (h : t.regs = s.regs) : RegsExcept l s t := fun a _ => State.rd_congr h a

theorem RegsExcept.fld {l : List Nat} {s t : State} (h : RegsExcept l s t) {a : Nat} (ha : a ∉ l) (f : Fld) : t.fld a f = s.fld a f := by
  rw [State.fld, h a ha]
  rfl

theorem Machine.State.wr_regsExcept (s : State) {l : List Nat} {a : Nat} (h : a ∈ l) (v : Nat) : RegsExcept l s (s.wr a v) :=
  fun b hb => State.rd_wr_ne (fun e : a = b => hb (e ▸ h)) s v

theorem Machine.State.setF_regsExcept (s : State) {l : List Nat} {a : Nat} (h : a ∈ l) (f : Fld) (v : Nat) : RegsExcept l s (s.setF a f v) :=
  s.wr_regsExcept h _

namespace Machine

/-! #### State outside the registers, the drift estimators and the log -/

/-- `s` has kept of `o` the mesh, the memory, the serving engine and the weight store, of the cores the read engines, the delivered reads,
the operations of units and the cells, and every register but those of a list. -/
structure Leaves (R : List Nat) (o s : State) : Prop where
  mesh : s.mesh = o.mesh
  hbm : s.hbm = o.hbm
  srv : s.srv = o.srv
  wts : s.wts = o.wts
  eng : s.core.eng = o.core.eng
  groups : s.core.groups = o.core.groups
  ops : s.core.ops = o.core.ops
  cells : s.core.cells = o.core.cells
  regs : RegsExcept R o s

namespace Leaves

variable {R : List Nat} {o s t : State} {k : Nat}

theorem refl (R : List Nat) (s : State) : Leaves R s s := ⟨rfl, rfl, rfl, rfl, rfl, rfl, rfl, rfl, RegsExcept.refl R s⟩

theorem trans (h : Leaves R o s) (g : Leaves R s t) : Leaves R o t :=
  ⟨g.mesh.trans h.mesh, g.hbm.trans h.hbm, g.srv.trans h.srv, g.wts.trans h.wts, g.eng.trans h.eng, g.groups.trans h.groups,
    g.ops.trans h.ops, g.cells.trans h.cells, h.regs.trans g.regs⟩

theorem mono {R' : List Nat} (h : Leaves R o s) (hR : R ⊆ R') : Leaves R' o s :=
  ⟨h.mesh, h.hbm, h.srv, h.wts, h.eng, h.groups, h.ops, h.cells, h.regs.mono hR⟩

/-- An update of the cores that leaves what `Leaves` names. -/
theorem core (h : Leaves R o s) {c : CoreBlk}
    (e : (c.eng, c.groups, c.ops, c.cells) = (s.core.eng, s.core.groups, s.core.ops, s.core.cells) := by rfl) :
    Leaves R o { s with core := c } := by
  simp only [Prod.mk.injEq] at e
  obtain ⟨e1, e2, e3, e4⟩ := e
  exact ⟨h.mesh, h.hbm, h.srv, h.wts, e1.trans h.eng, e2.trans h.groups, e3.trans h.ops, e4.trans h.cells, h.regs⟩

theorem wr (h : Leaves R o s) {a v : Nat} (ha : a ∈ R) : Leaves R o (s.wr a v) :=
  ⟨h.mesh, h.hbm, h.srv, h.wts, h.eng, h.groups, h.ops, h.cells, h.regs.trans (s.wr_regsExcept ha v)⟩
theorem setF (h : Leaves R o s) {a : Nat} {f : Fld} {v : Nat} (ha : a ∈ R) : Leaves R o (s.setF a f v) := h.wr ha
theorem inc (h : Leaves R o s) {a n : Nat} (ha : a ∈ R) : Leaves R o (s.inc a n) := h.wr ha

theorem ite {c : Prop} [Decidable c] (h : Leaves R o s) (g : Leaves R o t) : Leaves R o (if c then s else t) := by
  split
  · exact h
  · exact g
theorem when (h : Leaves R o s) {c : Bool} {f : State → State} (hf : ∀ s, Leaves R o s → Leaves R o (f s)) : Leaves R o (s.when c f) := by
  cases c
  · exact h
  · exact hf s h
theorem forEach (h : Leaves R o s) {α : Type} {l : List α} {f : State → α → State}
    (hf : ∀ s x, Leaves R o s → Leaves R o (f s x)) : Leaves R o (s.forEach l f) := State.forEach_inv _ f hf l s h

/-- An advisory event reaches the log, the management controller and the host alone. -/
theorem advise (h : Leaves R o s) (hR : logRegs ⊆ R) {e : Event} : Leaves R o (s.advise e) :=
  h.trans ⟨by simp, by simp, by simp, by simp, by simp, by simp, by simp, by simp, fun _ ha => State.advise_rd s e fun hl => ha (hR hl)⟩

end Leaves

/-! #### Layer counters (R42, R43) -/

/-- The registers that a count of a layer may change: the counters and the status of the layer, and those of the log. -/
def layerRegs (k l : Nat) : List Nat :=
  [Reg.CORE_LZERO_LO k l, Reg.CORE_LZERO_HI k l, Reg.CORE_LCSAT k l, Reg.CORE_LOSAT k l, Reg.CORE_LOZERO k l, Reg.CORE_LFLAG k l,
    Reg.CORE_LRANGE k l, Reg.CORE_LINVAL k l, Reg.CORE_LSTAT k l] ++ logRegs

theorem logRegs_subset_layerRegs (k l : Nat) : logRegs ⊆ layerRegs k l := List.subset_append_right _ _

namespace Leaves

variable {R : List Nat} {o s t : State} {k l : Nat}

theorem lput (h : Leaves (layerRegs k l) o s) {c : LCnt} {v : Nat} : Leaves (layerRegs k l) o (s.lput k l c v) := by
  cases c with
  | zero => exact (h.wr (by simp [layerRegs])).wr (by simp [layerRegs, Reg.CORE_LZERO_LO, Reg.CORE_LZERO_HI]; omega)
  | csat | osat | ozero | flag | range | inval => exact h.wr (by simp [layerRegs, LCnt.reg])

theorem arithAdvise (h : Leaves (layerRegs k l) o s) {j : Nat} : Leaves (layerRegs k l) o (s.arithAdvise j) :=
  (h.advise (logRegs_subset_layerRegs k l)).ite h

theorem lraise (h : Leaves (layerRegs k l) o s) {c : LCnt} : Leaves (layerRegs k l) o (s.lraise k l c) := by
  unfold State.lraise
  exact (h.setF (by simp [layerRegs])).when fun _ h => h.arithAdvise

theorem lcount (h : Leaves (layerRegs k l) o s) {c : LCnt} {n : Nat} : Leaves (layerRegs k l) o (s.lcount k l c n) :=
  h.lput.when fun _ h => h.lraise

theorem countLayer (s : State) (k : Nat) (d : TileDrain) (clipped : Nat) :
    Leaves (layerRegs k d.job.tmpl.layer) s (s.countLayer k d clipped) := (Leaves.refl _ s).lcount.lcount.lcount.lcount

end Leaves

/-! #### Drift (R94 to R105) -/

/-- The registers that the estimators, the rounds and the commits of a core may change: status and counters of its drift block, and the
registers of the log. -/
def driftRegs (k : Nat) : List Nat :=
  [Reg.CORE_DSTAT k, Reg.CORE_DTHINCNT k, Reg.CORE_DOUTLCNT k, Reg.CORE_DCLAMPCNT k] ++ logRegs

theorem logRegs_subset_driftRegs (k : Nat) : logRegs ⊆ driftRegs k := List.subset_append_right _ _

namespace Leaves

variable {o s t : State} {k : Nat}

theorem driftChange (h : Leaves (driftRegs k) o s) {j x : Nat} {f : State → State}
    (hf : ∀ s, Leaves (driftRegs k) o s → Leaves (driftRegs k) o (f s)) : Leaves (driftRegs k) o (s.driftChange j x f) :=
  ((hf s h).advise (logRegs_subset_driftRegs k)).ite (hf s h)

theorem setDrift {R : List Nat} (h : Leaves R o s) {j x : Nat} {d : DriftTile} : Leaves R o (s.setDrift j x d) := h.core
theorem setActs {R : List Nat} (h : Leaves R o s) {j x : Nat} {f : Nat → Word} : Leaves R o (s.setActs j x f) := h.core
theorem setShds {R : List Nat} (h : Leaves R o s) {j x : Nat} {f : Nat → Word} : Leaves R o (s.setShds j x f) := h.core
theorem setColWin {R : List Nat} (h : Leaves R o s) {j x c : Nat} {w : ColWin} : Leaves R o (s.setColWin j x c w) := h.core

theorem countClamps (h : Leaves (driftRegs k) o s) {n : Nat} : Leaves (driftRegs k) o (s.countClamps k n) :=
  h.when fun _ h => (h.setF (by simp [driftRegs])).inc (by simp [driftRegs])

theorem commitDone (h : Leaves (driftRegs k) o s) : Leaves (driftRegs k) o (s.commitDone k) :=
  ((h.setF (by simp [driftRegs])).setF (by simp [driftRegs])).ite h

theorem dropArmed (h : Leaves (driftRegs k) o s) {x : Nat} : Leaves (driftRegs k) o (s.dropArmed k x) := h.setDrift.commitDone.ite h

theorem buildTile (h : Leaves (driftRegs k) o s) {x : Nat} : Leaves (driftRegs k) o (s.buildTile k x) := by
  unfold State.buildTile
  extract_lets +onlyGivenNames d co en ts tc ws n s1 cols src s2
  have h1 : Leaves (driftRegs k) o s1 := h.setShds
  clear_value s1
  have h2 : Leaves (driftRegs k) o s2 := h1.core
  exact h2.setDrift.countClamps

theorem openRound (h : Leaves (driftRegs k) o s) : Leaves (driftRegs k) o (s.openRound k) := by
  unfold State.openRound
  extract_lets s1 src s2
  have h1 : Leaves (driftRegs k) o s1 := h.setF (by simp [driftRegs])
  have h2 : Leaves (driftRegs k) o s2 := h1.core
  exact h.ite (h2.forEach fun _ _ h => h.buildTile)

theorem closeRef (h : Leaves (driftRegs k) o s) {x : Nat} : Leaves (driftRegs k) o (s.closeRef k x) := by
  unfold State.closeRef
  extract_lets +onlyGivenNames d e q cleared s1
  have h1 : Leaves (driftRegs k) o s1 := (h.driftChange fun _ h => h.setDrift).ite (h.setDrift.inc (by simp [driftRegs]))
  exact h1.openRound.ite h1

theorem refWindowClose (h : Leaves (driftRegs k) o s) {x : Nat} : Leaves (driftRegs k) o (s.refWindowClose k x) := h.closeRef.ite h

theorem refSample (h : Leaves (driftRegs k) o s) {x use sigma xy} : Leaves (driftRegs k) o (s.refSample k x use sigma xy) :=
  h.refWindowClose.setDrift.inc (by simp [driftRegs])

theorem colSample (h : Leaves (driftRegs k) o s) {x use codes clips} : Leaves (driftRegs k) o (s.colSample k x use codes clips) := by
  unfold State.colSample
  extract_lets d s1
  have h1 : Leaves (driftRegs k) o s1 := h.setDrift
  exact h1.ite (h1.forEach fun _ _ h => h.ite h.setColWin)

theorem sampleRead (s : State) (k x : Nat) (d : TileDrain) : Leaves (driftRegs k) s (s.sampleRead k x d) :=
  have h := (refl (driftRegs k) s).refSample
  h.colSample.ite h

end Leaves

end Machine

end Sys2Proof
end

section
set_option Elab.async false

/-! ### The tile commands -/

namespace Sys2Proof

namespace Machine

/-! #### Counters of two registers (R18) -/

theorem State.inc64_regsExcept (s : State) {l : List Nat} {a : Nat} (h : a ∈ l) (h' : a + 4 ∈ l) (n : Nat) :
    RegsExcept l s (s.inc64 a n) := (s.wr_regsExcept h _).trans (State.wr_regsExcept _ h' _)

theorem State.rd64_inc64_same (s : State) (a n : Nat) : (s.inc64 a n).rd64 a = (s.rd64 a + n) % 2 ^ 64 := by
  rw [State.inc64, State.rd64, State.wr64, State.rd_wr_ne (by omega), State.rd_wr_mod, State.rd_wr_mod]
  omega

theorem State.rd64_congr {s t : State} (h : s.regs = t.regs) (a : Nat) : s.rd64 a = t.rd64 a := by
  rw [State.rd64, State.rd64, State.rd_congr h, State.rd_congr h]

/-! #### Read engines, delivered reads and operations of units -/

@[simp] theorem State.eng_setEng_same (s : State) (k t : Nat) (e : TileEng) : (s.setEng k t e).eng k t = e := SMap.get_set_same ..

@[simp] theorem State.group_setGroup_same (s : State) (k g : Nat) (l : List Delivered) : (s.setGroup k g l).group k g = l :=
  SMap.get_set_same ..

theorem State.eng_congr {s t : State} (h : s.core.eng = t.core.eng) (k x : Nat) : s.eng k x = t.eng k x := by rw [State.eng, h]; rfl
theorem State.group_congr {s t : State} (h : s.core.groups = t.core.groups) (k g : Nat) : s.group k g = t.group k g := by
  rw [State.group, h]
  rfl

theorem State.op_congr {s t : State} (h : s.core.ops = t.core.ops) (k u : Nat) : s.op k u = t.op k u := by
  rw [State.op, h]
  rfl

/-- A unit without an operation does nothing. -/
theorem State.runUnit_of_none {s : State} {k u : Nat} (h : s.op k u = none) : s.runUnit k u = s := by rw [State.runUnit, h]

/-! #### Physical reads (R57 to R59) -/

/-- The governor gives a credit out of what it counts, and counts it as used (R59). -/
theorem State.takeCredit_of_credit {s : State} {k : Nat} (hstep : s.thm.step = 0)
    (h : SMap.get (fun _ => 0) s.pwr.credits k ≠ 0 ∨ s.pwr.pool ≠ 0) :
    ∃ p : PwrBlk, s.takeCredit k = some { s with pwr := p } ∧ p.used = s.pwr.used + 1 := by
  by_cases hown : SMap.get (fun _ => 0) s.pwr.credits k = 0
  · exact ⟨{ s.pwr with pool := s.pwr.pool - 1, used := s.pwr.used + 1 },
      by simp [State.takeCredit, hstep, hown, h.resolve_left (not_not_intro hown)], rfl⟩
  · exact ⟨{ s.pwr with credits := SMap.set (fun _ => 0) s.pwr.credits k (SMap.get (fun _ => 0) s.pwr.credits k - 1), used := s.pwr.used + 1 },
      by simp [State.takeCredit, hstep, hown], rfl⟩

/-- The conversions take free values and leave everything else. -/
theorem State.convertAll_state (s : State) (k t : Nat) (a : List Int) (ws : List Word) (c : Nat) :
    ∃ n, (s.convertAll k t a ws c).2 = { s with free := n } := by
  induction ws generalizing s c with
  | nil => exact ⟨s.free, rfl⟩
  | cons w ws ih =>
    obtain ⟨n, hn⟩ := ih (s.convert k t c a w).2 (c + 1)
    exact ⟨n, hn⟩

/-- A physical read counts, converts and waits for its check. -/
theorem State.physicalRead_state (s : State) (k t : Nat) (e : TileEng) (job : TileJob) :
    ∃ n q c, s.physicalRead k t e job =
      State.setEng { (s.inc64 (Reg.TILE_RDCNT_LO k t) 1).addUsage (s.ctxPart k job.ctx) 1 0 0 with free := n } k t
        { e with phase := .check, qsum := q, clip := c } := by
  obtain ⟨n, hn⟩ := State.convertAll_state ((s.inc64 (Reg.TILE_RDCNT_LO k t) 1).addUsage (s.ctxPart k job.ctx) 1 0 0) k t job.seg.a e.corr 0
  exact ⟨n, _, _, congrArg (fun u : State => u.setEng k t _) hn⟩

theorem Reg.TILE_RDCNT_HI_eq (k t : Nat) : Reg.TILE_RDCNT_HI k t = Reg.TILE_RDCNT_LO k t + 4 := by
  simp only [Reg.TILE_RDCNT_HI, Reg.TILE_RDCNT_LO]
  omega

/-- The usage of a read, its free values and its engine leave the registers and the other blocks. -/
theorem State.usedRead_blocks (v : State) (p n k t : Nat) (e : TileEng) : ∀ u, u = State.setEng { v.addUsage p 1 0 0 with free := n } k t e →
    u.regs = v.regs ∧ u.pwr = v.pwr ∧ u.mesh = v.mesh ∧ u.hbm = v.hbm ∧ u.srv = v.srv ∧ u.log = v.log := by
  rintro u rfl
  exact ⟨rfl, rfl, rfl, rfl, rfl, rfl⟩

/-- A physical read is counted and waits for its check; its conversions leave the other blocks. -/
theorem State.physicalRead_effect (s : State) (k t : Nat) (e : TileEng) (job : TileJob) : ∃ u, s.physicalRead k t e job = u ∧
    u.regs = (s.inc64 (Reg.TILE_RDCNT_LO k t) 1).regs ∧ (u.eng k t).phase = .check ∧ u.pwr = s.pwr ∧ u.mesh = s.mesh ∧ u.hbm = s.hbm ∧
    u.srv = s.srv ∧ u.log = s.log := by
  obtain ⟨n, q, c, h⟩ := s.physicalRead_state k t e job
  obtain ⟨hregs, hpwr, hmesh, hhbm, hsrv, hlog⟩ := State.usedRead_blocks (s.inc64 (Reg.TILE_RDCNT_LO k t) 1) (s.ctxPart k job.ctx) n k t
    { e with phase := .check, qsum := q, clip := c } _ h
  exact ⟨_, rfl, hregs, by rw [h, State.eng_setEng_same], hpwr.trans (State.inc64_pwr ..), hmesh.trans (State.inc64_mesh ..),
    hhbm.trans (State.inc64_hbm ..), hsrv.trans (State.inc64_srv ..), hlog.trans (State.inc64_log ..)⟩

/-- A waiting segment and a credit start a physical read (R57), which counts in TILE_RDCNT (R58). -/
theorem State.readStart_effect {s : State} {k t : Nat} {job : TileJob} (hjob : (s.eng k t).bufs[(s.eng k t).drains.length]? = some job)
    (hphase : (s.eng k t).phase ≠ .check) (hstep : s.thm.step = 0)
    (hcredit : SMap.get (fun _ => 0) s.pwr.credits k ≠ 0 ∨ s.pwr.pool ≠ 0) : ∃ u, s.readStart k t = u ∧ (u.eng k t).phase = .check ∧
    u.rdcnt k t = (s.rdcnt k t + 1) % 2 ^ 64 ∧ u.pwr.used = s.pwr.used + 1 ∧
    RegsExcept [Reg.TILE_RDCNT_LO k t, Reg.TILE_RDCNT_HI k t] s u ∧ u.mesh = s.mesh ∧ u.hbm = s.hbm ∧ u.srv = s.srv ∧ u.log = s.log := by
  obtain ⟨p, hp, hused⟩ := State.takeCredit_of_credit hstep hcredit
  have hstart : ∃ e, s.readStart k t = State.physicalRead { s with pwr := p } k t e job := by
    refine ⟨if (s.eng k t).phase = .idle then State.openRead { s with pwr := p } k t (s.eng k t) else s.eng k t, ?_⟩
    simp only [State.readStart, hjob, hphase, hp, if_false]
  obtain ⟨e, he⟩ := hstart
  obtain ⟨u, hu, hregs, hcheck, hpwr, hmesh, hhbm, hsrv, hlog⟩ := State.physicalRead_effect { s with pwr := p } k t e job
  have hregs' : u.regs = (s.inc64 (Reg.TILE_RDCNT_LO k t) 1).regs := hregs
  refine ⟨u, he.trans hu, hcheck, ?_, (congrArg PwrBlk.used hpwr).trans hused, ?_, hmesh, hhbm, hsrv, hlog⟩
  · rw [State.rdcnt, State.rd64_congr hregs', State.rd64_inc64_same, State.rdcnt]
  · exact (s.inc64_regsExcept (by simp) (by simp [Reg.TILE_RDCNT_HI_eq]) 1).trans (RegsExcept.of_regs _ hregs')

/-! #### The check (R61 to R66) -/

/-- A sequence with reads to come goes on to the next one. -/
theorem State.tileCheck_of_lt_target {s : State} {k t : Nat} {job : TileJob}
    (hjob : (s.eng k t).bufs[(s.eng k t).drains.length]? = some job) (hphase : (s.eng k t).phase = .check)
    (hn : (s.eng k t).n + 1 < (s.eng k t).target) :
    s.tileCheck k t = s.setEng k t { s.eng k t with n := (s.eng k t).n + 1, phase := .read } := by
  simp [State.tileCheck, hjob, hphase, hn]

/-- A sequence at the cap of R65 is accepted, whatever its check gives. -/
theorem State.tileCheck_of_cap {s : State} {k t : Nat} {job : TileJob}
    (hjob : (s.eng k t).bufs[(s.eng k t).drains.length]? = some job) (hphase : (s.eng k t).phase = .check)
    (hn : (s.eng k t).target ≤ (s.eng k t).n + 1) (hcap : s.readCap k t ≤ (s.eng k t).target) :
    ∃ d, s.tileCheck k t =
      s.setEng k t { s.eng k t with n := (s.eng k t).n + 1, phase := .idle, drains := (s.eng k t).drains ++ [d] } :=
  ⟨_, by simp [State.tileCheck, hjob, hphase, not_lt.2 hn, hcap]; rfl⟩

/-! #### Flag windows (R70, R76) -/

theorem State.closeWindow_regsExcept (s : State) (k t last : Nat) : RegsExcept [Reg.TILE_WINFLAG k t] s (s.closeWindow k t last) :=
  State.setF_regsExcept _ (by simp) _ _

theorem State.flagWindowEnd_of_reached {s : State} {k t : Nat} (h : s.windowEnd k t ≤ s.rdcnt k t) :
    s.flagWindowEnd k t = s.closeWindow k t (s.windowEnd k t - 1) := if_pos h

theorem State.eng_closeWindow (s : State) (k t last : Nat) :
    (s.closeWindow k t last).eng k t = { s.eng k t with
      winStart := last
      evInWin := false
      evRun := if (s.eng k t).evInWin then (s.eng k t).evRun + 1 else 0
      prevFlags := s.fld (Reg.TILE_WINFLAG k t) Fld.TILE_WINFLAG_COUNT
      prevEv := (s.eng k t).evInWin
      prevRun := (s.eng k t).evRun } :=
  (State.eng_congr (congrArg CoreBlk.eng (State.setF_core ..)) k t).trans (State.eng_setEng_same ..)

theorem State.winflag_closeWindow (s : State) (k t last : Nat) :
    (s.closeWindow k t last).fld (Reg.TILE_WINFLAG k t) Fld.TILE_WINFLAG_COUNT = 0 := State.fld_setF_same _ _ _ _ (by decide)

/-- The flag window ends or it goes on: what holds in both cases holds after FLAG_WINDOW_END. -/
theorem State.flagWindowEnd_inv (s : State) (k t : Nat) (P : State → Prop) (h : P s) (hc : ∀ m, P (s.closeWindow k t m)) :
    P (s.flagWindowEnd k t) := by
  unfold State.flagWindowEnd
  extract_lets m
  split
  · exact hc _
  · exact h

theorem State.flagWindowEnd_regsExcept (s : State) (k t : Nat) : RegsExcept [Reg.TILE_WINFLAG k t] s (s.flagWindowEnd k t) :=
  s.flagWindowEnd_inv k t _ (RegsExcept.refl _ s) (s.closeWindow_regsExcept k t)

theorem State.closeWindow_blocks (s : State) (k t last : Nat) : (s.closeWindow k t last).mesh = s.mesh ∧
    (s.closeWindow k t last).hbm = s.hbm ∧ (s.closeWindow k t last).srv = s.srv ∧ (s.closeWindow k t last).log = s.log ∧
    (s.closeWindow k t last).core.groups = s.core.groups ∧ (s.closeWindow k t last).core.ops = s.core.ops :=
  ⟨State.setF_mesh .., State.setF_hbm .., State.setF_srv .., State.setF_log .., (congrArg CoreBlk.groups (State.setF_core ..)).trans rfl,
    (congrArg CoreBlk.ops (State.setF_core ..)).trans rfl⟩

theorem State.flagWindowEnd_blocks (s : State) (k t : Nat) : (s.flagWindowEnd k t).mesh = s.mesh ∧ (s.flagWindowEnd k t).hbm = s.hbm ∧
    (s.flagWindowEnd k t).srv = s.srv ∧ (s.flagWindowEnd k t).log = s.log ∧ (s.flagWindowEnd k t).core.groups = s.core.groups ∧
    (s.flagWindowEnd k t).core.ops = s.core.ops :=
  s.flagWindowEnd_inv k t (fun u => u.mesh = s.mesh ∧ u.hbm = s.hbm ∧ u.srv = s.srv ∧ u.log = s.log ∧ u.core.groups = s.core.groups ∧
    u.core.ops = s.core.ops) ⟨rfl, rfl, rfl, rfl, rfl, rfl⟩ (s.closeWindow_blocks k t)

/-- The end of a flag window leaves the reads in work. -/
theorem State.flagWindowEnd_reads (s : State) (k t : Nat) : ((s.flagWindowEnd k t).eng k t).drains = (s.eng k t).drains ∧
    ((s.flagWindowEnd k t).eng k t).bufs = (s.eng k t).bufs :=
  s.flagWindowEnd_inv k t (fun u => (u.eng k t).drains = (s.eng k t).drains ∧ (u.eng k t).bufs = (s.eng k t).bufs) ⟨rfl, rfl⟩
    fun m => by rw [State.eng_closeWindow]; exact ⟨rfl, rfl⟩

theorem Reg.TILE_FLAGWIN_eq (k t : Nat) : Reg.TILE_CTL k t + 0x18 = Reg.TILE_FLAGWIN k t := by
  simp only [Reg.TILE_CTL, Reg.TILE_FLAGWIN]
  omega

/-- The word that a write of TILE_FLAGWIN gives: the writable bits of the value, the others as they are (R15, R86). -/
def State.flagwinWord (s : State) (k t v : Nat) : Nat := (s.rd (Reg.TILE_FLAGWIN k t) &&& 0xFFFF00E0) ||| (v &&& 0xFF1F)

theorem State.flagwinWord_lt (s : State) (k t v : Nat) : s.flagwinWord k t v < 2 ^ 32 :=
  Nat.or_lt_two_pow (Nat.and_lt_two_pow _ (by decide)) (Nat.and_lt_two_pow _ (by decide))

/-- A write of TILE_FLAGWIN that R75 and R86 allow takes effect; a new WIN_EXP ends the flag window (R76). -/
theorem State.flagwinWrite_of_legal {s : State} {k t v : Nat} (hown : s.tileCfgRefused k t = false)
    (hlegal : tileLegal 0x18 (s.flagwinWord k t v) = true) :
    s.tileCfgWrite k t 0x18 0xFF1F v = s.wr (Reg.TILE_FLAGWIN k t) (s.flagwinWord k t v) ∨
      s.tileCfgWrite k t 0x18 0xFF1F v =
        ((s.flagWindowEnd k t).wr (Reg.TILE_FLAGWIN k t) (s.flagwinWord k t v)).closeWindow k t (s.rdcnt k t) := by
  have hw : (s.rd (Reg.TILE_FLAGWIN k t) &&& (0xFFFFFFFF - 0xFF1F)) ||| (v &&& 0xFF1F) = s.flagwinWord k t v := rfl
  rw [State.tileCfgWrite]
  dsimp only
  rw [Reg.TILE_FLAGWIN_eq, hw, if_neg (by simp [hown, hlegal]), if_neg (by decide)]
  split
  · exact .inr rfl
  · exact .inl rfl

/-- What a write of TILE_FLAGWIN shows and leaves. -/
theorem State.flagwinWrite_effect {s : State} {k t v : Nat} (hown : s.tileCfgRefused k t = false)
    (hlegal : tileLegal 0x18 (s.flagwinWord k t v) = true) : ∃ u, s.tileCfgWrite k t 0x18 0xFF1F v = u ∧
    u.rd (Reg.TILE_FLAGWIN k t) = s.flagwinWord k t v ∧ RegsExcept [Reg.TILE_FLAGWIN k t, Reg.TILE_WINFLAG k t] s u ∧
    u.log = s.log ∧ u.mesh = s.mesh := by
  have hne : Reg.TILE_WINFLAG k t ≠ Reg.TILE_FLAGWIN k t := by simp only [Reg.TILE_WINFLAG, Reg.TILE_FLAGWIN]; omega
  rcases State.flagwinWrite_of_legal hown hlegal with h | h
  · exact ⟨_, h, State.rd_wr_same _ _ _ (s.flagwinWord_lt k t v), s.wr_regsExcept (by simp) _, State.wr_log .., State.wr_mesh ..⟩
  · obtain ⟨hmesh, -, -, hlog, -⟩ := s.flagWindowEnd_blocks k t
    obtain ⟨hmesh', -, -, hlog', -⟩ :=
      ((s.flagWindowEnd k t).wr (Reg.TILE_FLAGWIN k t) (s.flagwinWord k t v)).closeWindow_blocks k t (s.rdcnt k t)
    refine ⟨_, h, ?_, ?_, hlog'.trans ((State.wr_log ..).trans hlog), hmesh'.trans ((State.wr_mesh ..).trans hmesh)⟩
    · rw [State.closeWindow_regsExcept _ k t _ _ (by simpa using hne.symm), State.rd_wr_same _ _ _ (s.flagwinWord_lt k t v)]
    · exact (((s.flagWindowEnd_regsExcept k t).mono (by simp)).trans (State.wr_regsExcept _ (by simp) _)).trans
        ((State.closeWindow_regsExcept _ k t _).mono (by simp))

/-- TILE_CLR zeroes the four counters of a tile and leaves the other registers (R86). -/
theorem State.tileClr_effect (s : State) (k t : Nat) : (s.tileClr k t).rd (Reg.TILE_REFIRECNT k t) = 0 ∧
    (s.tileClr k t).rd (Reg.TILE_FLAGCNT k t) = 0 ∧ (s.tileClr k t).rd (Reg.TILE_UNCHKCNT k t) = 0 ∧
    (s.tileClr k t).rd (Reg.TILE_CLIPCNT k t) = 0 ∧
    RegsExcept [Reg.TILE_REFIRECNT k t, Reg.TILE_FLAGCNT k t, Reg.TILE_UNCHKCNT k t, Reg.TILE_CLIPCNT k t] s (s.tileClr k t) ∧
    (s.tileClr k t).core = s.core := by
  have h12 : Reg.TILE_FLAGCNT k t ≠ Reg.TILE_REFIRECNT k t := by simp only [Reg.TILE_FLAGCNT, Reg.TILE_REFIRECNT]; omega
  have h13 : Reg.TILE_UNCHKCNT k t ≠ Reg.TILE_REFIRECNT k t := by simp only [Reg.TILE_UNCHKCNT, Reg.TILE_REFIRECNT]; omega
  have h14 : Reg.TILE_CLIPCNT k t ≠ Reg.TILE_REFIRECNT k t := by simp only [Reg.TILE_CLIPCNT, Reg.TILE_REFIRECNT]; omega
  have h23 : Reg.TILE_UNCHKCNT k t ≠ Reg.TILE_FLAGCNT k t := by simp only [Reg.TILE_UNCHKCNT, Reg.TILE_FLAGCNT]; omega
  have h24 : Reg.TILE_CLIPCNT k t ≠ Reg.TILE_FLAGCNT k t := by simp only [Reg.TILE_CLIPCNT, Reg.TILE_FLAGCNT]; omega
  have h34 : Reg.TILE_CLIPCNT k t ≠ Reg.TILE_UNCHKCNT k t := by simp only [Reg.TILE_CLIPCNT, Reg.TILE_UNCHKCNT]; omega
  have hz : (0 : Nat) < 2 ^ 32 := by decide
  refine ⟨?_, ?_, ?_, State.rd_wr_same _ _ _ hz, ?_, ?_⟩
  · rw [State.tileClr, State.rd_wr_ne h14, State.rd_wr_ne h13, State.rd_wr_ne h12, State.rd_wr_same _ _ _ hz]
  · rw [State.tileClr, State.rd_wr_ne h24, State.rd_wr_ne h23, State.rd_wr_same _ _ _ hz]
  · rw [State.tileClr, State.rd_wr_ne h34, State.rd_wr_same _ _ _ hz]
  · exact (((s.wr_regsExcept (by simp) _).trans (State.wr_regsExcept _ (by simp) _)).trans (State.wr_regsExcept _ (by simp) _)).trans
      (State.wr_regsExcept _ (by simp) _)
  · rw [State.tileClr, State.wr_core, State.wr_core, State.wr_core, State.wr_core]

/-! #### Delivery (R66, R72) -/

/-- The oldest accepted read leaves its tile: its input buffer is free. -/
def State.freeBuffer (s : State) (k t : Nat) (rest : List TileDrain) : State :=
  s.setEng k t { s.eng k t with bufs := (s.eng k t).bufs.drop 1, drains := rest }

/-- Its sums and status then wait for the group accumulator. -/
def State.handOver (s : State) (k t : Nat) (d : TileDrain) (rest : List TileDrain) : State :=
  (s.freeBuffer k t rest).setGroup k (t / 64) (s.group k (t / 64) ++ [s.delivered k t d])

/-- The delivery of a read that is not flagged, of a context that is not being reclaimed. -/
theorem State.tileDeliver_of_unflagged {s : State} {k t : Nat} {d : TileDrain} {rest : List TileDrain} (hd : (s.eng k t).drains = d :: rest)
    (hdrop : ctxKey k d.job.ctx ∉ s.mesh.dropSums) (hflag : d.flagged = false) :
    ∃ n, s.tileDeliver k t = ((((((s.handOver k t d rest).countLayer k d n).lastRead k t d n).countRead k t d n).flagWindowEnd k t).sampleRead
      k t d).runUnit k 0 := by
  refine ⟨(s.clipBlocks k t d.clip).foldl (· + ·) 0, ?_⟩
  have hgroup : (s.freeBuffer k t rest).group k (t / 64) = s.group k (t / 64) := State.group_congr rfl k _
  have hdrop' : s.mesh.dropSums.contains (ctxKey k d.job.ctx) = false := by simpa using hdrop
  have hflags : ∀ (u : State) (f : State → State), u.when d.flagged f = u := fun u f => by rw [hflag]; rfl
  rw [State.handOver, ← hgroup]
  simp only [State.tileDeliver, hd, hflags, hdrop', Bool.false_eq_true, if_false]
  rfl

/-- An invariant of the rounds of a loop over a list's elements holds after it. -/
theorem State.forEach_mem {α : Type} (P : State → Prop) (f : State → α → State) {l : List α} (h : ∀ s, ∀ x ∈ l, P s → P (f s x))
    (s : State) (hs : P s) : P (s.forEach l f) := by
  induction l generalizing s with
  | nil => exact hs
  | cons x l ih => exact ih (fun u y hy => h u y (List.mem_cons_of_mem x hy)) _ (h s x List.mem_cons_self hs)

/-- The registers that show the last accepted read of a tile (R87). -/
def lastReadRegs (k t : Nat) : List Nat :=
  [Reg.TILE_LAST0 k t, Reg.TILE_LAST1 k t, Reg.TILE_LAST2 k t, Reg.TILE_STAT k t] ++ (List.range 32).map (Reg.TILE_LASTBLK k t)

/-- The event counters of a tile (R86). -/
def countReadRegs (k t : Nat) : List Nat :=
  [Reg.TILE_REFIRECNT k t, Reg.TILE_FLAGCNT k t, Reg.TILE_UNCHKCNT k t, Reg.TILE_CLIPCNT k t]

namespace Leaves

theorem lastRead (s : State) (k t : Nat) (d : TileDrain) (n : Nat) : Leaves (lastReadRegs k t) s (s.lastRead k t d n) := by
  unfold State.lastRead
  extract_lets +onlyGivenNames g zeroed s1 s2 s3
  have h1 : Leaves (lastReadRegs k t) s s1 := (refl _ s).wr (by simp [lastReadRegs])
  have h2 : Leaves (lastReadRegs k t) s s2 := (h1.wr (by simp [lastReadRegs])).wr (by simp [lastReadRegs])
  have h3 : Leaves (lastReadRegs k t) s s3 := State.forEach_mem _ _ (fun u b hb hu => hu.wr (List.mem_append_right _ (List.mem_map_of_mem hb))) _ h2
  exact h3.setF (by simp [lastReadRegs])

theorem countRead (s : State) (k t : Nat) (d : TileDrain) (n : Nat) : Leaves (countReadRegs k t) s (s.countRead k t d n) :=
  ((((refl _ s).inc (by simp [countReadRegs])).inc (by simp [countReadRegs])).inc (by simp [countReadRegs])).inc (by simp [countReadRegs])

end Leaves

/-- TILE_LAST2 shows the invalid blocks of the last accepted read. -/
theorem State.rd_lastRead (s : State) (k t : Nat) (d : TileDrain) (n : Nat) :
    (s.lastRead k t d n).rd (Reg.TILE_LAST2 k t) = d.job.seg.iblk % 2 ^ 32 := by
  have hblk : ∀ b, Reg.TILE_LASTBLK k t b ≠ Reg.TILE_LAST2 k t := fun b => by simp only [Reg.TILE_LASTBLK, Reg.TILE_LAST2]; omega
  have hstat : Reg.TILE_STAT k t ≠ Reg.TILE_LAST2 k t := by simp only [Reg.TILE_STAT, Reg.TILE_LAST2]; omega
  unfold State.lastRead
  extract_lets +onlyGivenNames g zeroed s1 s2 s3
  have h3 : s3.rd (Reg.TILE_LAST2 k t) = s2.rd (Reg.TILE_LAST2 k t) :=
    State.forEach_keeps (fun u => u.rd (Reg.TILE_LAST2 k t)) _ (fun u b => State.rd_wr_ne (hblk b) u _) _ _
  rw [State.rd_setF_ne hstat, h3, State.rd_wr_mod]

/-- TILE_REFIRECNT counts the accepted reads of two physical reads or more. -/
theorem State.rd_countRead (s : State) (k t : Nat) (d : TileDrain) (n : Nat) :
    (s.countRead k t d n).rd (Reg.TILE_REFIRECNT k t) = satAdd 0xFFFFFFFF (s.rd (Reg.TILE_REFIRECNT k t)) (b2n (decide (2 ≤ d.n))) := by
  have hflag : Reg.TILE_FLAGCNT k t ≠ Reg.TILE_REFIRECNT k t := by simp only [Reg.TILE_FLAGCNT, Reg.TILE_REFIRECNT]; omega
  have hunchk : Reg.TILE_UNCHKCNT k t ≠ Reg.TILE_REFIRECNT k t := by simp only [Reg.TILE_UNCHKCNT, Reg.TILE_REFIRECNT]; omega
  have hclip : Reg.TILE_CLIPCNT k t ≠ Reg.TILE_REFIRECNT k t := by simp only [Reg.TILE_CLIPCNT, Reg.TILE_REFIRECNT]; omega
  rw [State.countRead, State.rd_inc_ne hclip, State.rd_inc_ne hunchk, State.rd_inc_ne hflag, State.rd_inc_same]

theorem refirecnt_not_mem_layerRegs (k x l : Nat) : Reg.TILE_REFIRECNT k x ∉ layerRegs k l := by
  simp [layerRegs, logRegs, Reg.TILE_REFIRECNT, Reg.CORE_LZERO_LO, Reg.CORE_LZERO_HI, Reg.CORE_LCSAT, Reg.CORE_LOSAT, Reg.CORE_LOZERO,
    Reg.CORE_LFLAG, Reg.CORE_LRANGE, Reg.CORE_LINVAL, Reg.CORE_LSTAT, Reg.LOG_SEQ_LO, Reg.LOG_SEQ_HI, Reg.LOG_QSTAT, Reg.LOG_SUPCNT,
    Reg.LOG_STAT]
  omega

theorem refirecnt_not_mem_lastReadRegs (k x : Nat) : Reg.TILE_REFIRECNT k x ∉ lastReadRegs k x := by
  simp [lastReadRegs, Reg.TILE_REFIRECNT, Reg.TILE_LAST0, Reg.TILE_LAST1, Reg.TILE_LAST2, Reg.TILE_STAT, Reg.TILE_LASTBLK]
  omega

theorem refirecnt_not_mem_driftRegs (k x : Nat) : Reg.TILE_REFIRECNT k x ∉ driftRegs k := by
  simp [driftRegs, logRegs, Reg.TILE_REFIRECNT, Reg.CORE_DSTAT, Reg.CORE_DTHINCNT, Reg.CORE_DOUTLCNT, Reg.CORE_DCLAMPCNT, Reg.LOG_SEQ_LO,
    Reg.LOG_SEQ_HI, Reg.LOG_QSTAT, Reg.LOG_SUPCNT, Reg.LOG_STAT]
  omega

theorem last2_not_mem_countReadRegs (k x : Nat) : Reg.TILE_LAST2 k x ∉ countReadRegs k x := by
  simp [countReadRegs, Reg.TILE_LAST2, Reg.TILE_REFIRECNT, Reg.TILE_FLAGCNT, Reg.TILE_UNCHKCNT, Reg.TILE_CLIPCNT]

theorem last2_not_mem_driftRegs (k x : Nat) : Reg.TILE_LAST2 k x ∉ driftRegs k := by
  simp [driftRegs, logRegs, Reg.TILE_LAST2, Reg.CORE_DSTAT, Reg.CORE_DTHINCNT, Reg.CORE_DOUTLCNT, Reg.CORE_DCLAMPCNT, Reg.LOG_SEQ_LO,
    Reg.LOG_SEQ_HI, Reg.LOG_QSTAT, Reg.LOG_SUPCNT, Reg.LOG_STAT]
  omega

/-- A read's counts and its registers of the last read: what they show, and what they leave. -/
theorem State.showRead_effect (s : State) (k t : Nat) (d : TileDrain) (n : Nat) : ∃ u,
    ((s.countLayer k d n).lastRead k t d n).countRead k t d n = u ∧
    Leaves (layerRegs k d.job.tmpl.layer ++ lastReadRegs k t ++ countReadRegs k t) s u ∧
    u.rd (Reg.TILE_LAST2 k t) = d.job.seg.iblk % 2 ^ 32 ∧
    u.rd (Reg.TILE_REFIRECNT k t) = satAdd 0xFFFFFFFF (s.rd (Reg.TILE_REFIRECNT k t)) (b2n (decide (2 ≤ d.n))) := by
  have hlayer := Leaves.countLayer s k d n
  have hlast := Leaves.lastRead (s.countLayer k d n) k t d n
  have hcount := Leaves.countRead ((s.countLayer k d n).lastRead k t d n) k t d n
  refine ⟨_, rfl, ((hlayer.mono ?_).trans (hlast.mono ?_)).trans (hcount.mono ?_), ?_, ?_⟩
  · exact List.subset_append_of_subset_left _ (List.subset_append_left _ _)
  · exact List.subset_append_of_subset_left _ (List.subset_append_right _ _)
  · exact List.subset_append_right _ _
  · rw [hcount.regs _ (last2_not_mem_countReadRegs k t), State.rd_lastRead]
  · rw [State.rd_countRead, hlast.regs _ (refirecnt_not_mem_lastReadRegs k t), hlayer.regs _ (refirecnt_not_mem_layerRegs k t _)]

/-- What the delivery of a read that is not flagged leaves when the dispatch unit of the core has no operation. -/
theorem State.tileDeliver_effect {s : State} {k t : Nat} {d : TileDrain} {rest : List TileDrain} (hd : (s.eng k t).drains = d :: rest)
    (hdrop : ctxKey k d.job.ctx ∉ s.mesh.dropSums) (hflag : d.flagged = false) (hop : s.op k 0 = none) : ∃ u, s.tileDeliver k t = u ∧
    u.group k (t / 64) = s.group k (t / 64) ++ [s.delivered k t d] ∧ (u.eng k t).drains = rest ∧
    (u.eng k t).bufs = (s.eng k t).bufs.drop 1 ∧ u.rd (Reg.TILE_LAST2 k t) = d.job.seg.iblk % 2 ^ 32 ∧
    u.rd (Reg.TILE_REFIRECNT k t) = satAdd 0xFFFFFFFF (s.rd (Reg.TILE_REFIRECNT k t)) (b2n (decide (2 ≤ d.n))) ∧
    u.mesh = s.mesh ∧ u.hbm = s.hbm ∧ u.srv = s.srv := by
  obtain ⟨n, h⟩ := State.tileDeliver_of_unflagged hd hdrop hflag
  obtain ⟨u, hu, hshow, hlast, hcount⟩ := (s.handOver k t d rest).showRead_effect k t d n
  rw [hu] at h
  obtain ⟨hmesh, hhbm, hsrv, -, hgroups, hops⟩ := u.flagWindowEnd_blocks k t
  obtain ⟨hdrains, hbufs⟩ := u.flagWindowEnd_reads k t
  have hwin := u.flagWindowEnd_regsExcept k t
  have hsample := Leaves.sampleRead (u.flagWindowEnd k t) k t d
  have hidle : ((u.flagWindowEnd k t).sampleRead k t d).op k 0 = none :=
    (State.op_congr (hsample.ops.trans (hops.trans hshow.ops)) k 0).trans hop
  rw [State.runUnit_of_none hidle] at h
  have heng : (s.handOver k t d rest).eng k t = { s.eng k t with bufs := (s.eng k t).bufs.drop 1, drains := rest } :=
    (State.eng_congr rfl k t).trans (s.eng_setEng_same k t _)
  refine ⟨_, h, ?_, ?_, ?_, ?_, ?_, ?_, ?_, ?_⟩
  · rw [State.group_congr (hsample.groups.trans (hgroups.trans hshow.groups)), State.handOver, State.group_setGroup_same]
  · rw [State.eng_congr hsample.eng, hdrains, State.eng_congr hshow.eng, heng]
  · rw [State.eng_congr hsample.eng, hbufs, State.eng_congr hshow.eng, heng]
  · rw [hsample.regs _ (last2_not_mem_driftRegs k t), hwin _ (by simp [Reg.TILE_LAST2, Reg.TILE_WINFLAG]), hlast]
  · rw [hsample.regs _ (refirecnt_not_mem_driftRegs k t), hwin _ (by simp [Reg.TILE_REFIRECNT, Reg.TILE_WINFLAG]), hcount]
    rfl
  · exact hsample.mesh.trans (hmesh.trans hshow.mesh)
  · exact hsample.hbm.trans (hhbm.trans hshow.hbm)
  · exact hsample.srv.trans (hsrv.trans hshow.srv)

end Machine

open Machine

/-- Settles O2, by the effect of each command: a physical read, its check, its delivery, and the writes of a tile's registers. -/
theorem tileCommandsComplete : Obligations.TileCommandsComplete := by
  refine ⟨fun s k x job hjob hphase hstep hcredit => ?_,
    fun s k x job hjob hphase hn => ⟨_, rfl, State.tileCheck_of_lt_target hjob hphase hn⟩, fun s k x job hjob hphase hn hcap => ?_,
    fun s k x d rest hd hdrop hflag hop => ?_, fun s k x hend => ?_, fun s k x v hown hlegal => ?_,
    fun s k x => ⟨_, rfl, s.tileClr_effect k x⟩⟩
  · obtain ⟨u, h, heffect⟩ := State.readStart_effect hjob hphase hstep hcredit
    exact ⟨u, congrArg Host.Outcome.next h, heffect⟩
  · obtain ⟨d, h⟩ := State.tileCheck_of_cap hjob hphase hn hcap
    refine ⟨_, congrArg Host.Outcome.next h, ?_, ?_, ?_, RegsExcept.of_regs _ rfl, rfl, rfl⟩
    · rw [State.eng_setEng_same]
    · rw [State.eng_setEng_same, List.length_append, List.length_singleton]
    · rw [State.eng_setEng_same]
  · obtain ⟨u, h, heffect⟩ := State.tileDeliver_effect hd hdrop hflag hop
    exact ⟨u, congrArg Host.Outcome.next h, heffect⟩
  · obtain ⟨hmesh, -, -, hlog, -⟩ := s.closeWindow_blocks k x (s.windowEnd k x - 1)
    refine ⟨_, congrArg Host.Outcome.next (State.flagWindowEnd_of_reached hend), s.winflag_closeWindow k x _, ?_, ?_,
      s.closeWindow_regsExcept k x _, hlog, hmesh⟩
    · rw [State.eng_closeWindow]
    · rw [State.eng_closeWindow]
  · obtain ⟨u, h, heffect⟩ := State.flagwinWrite_effect hown hlegal
    exact ⟨u, congrArg Host.Outcome.next h, heffect⟩

end Sys2Proof
end

section
set_option Elab.async false

/-! ### What the work of a load leaves alone -/

namespace Sys2Proof

namespace Machine

/-! #### Registers of the loads (R362, R364) -/

theorem Reg.FLS_PLOAD_not_mem_logRegs {p : Nat} : Reg.FLS_PLOAD p ∉ logRegs := by
  simp [logRegs, Reg.FLS_PLOAD, Reg.LOG_SEQ_LO, Reg.LOG_SEQ_HI, Reg.LOG_QSTAT, Reg.LOG_SUPCNT, Reg.LOG_STAT]
  omega

/-- A change of FLS_PLOAD.STATE, which may raise a vector (R362, R552). -/
theorem State.setPload_cases (s : State) (p v : Nat) : s.setPload p v = s.setF (Reg.FLS_PLOAD p) Fld.FLS_PLOAD_STATE v ∨
    s.setPload p v = (s.setF (Reg.FLS_PLOAD p) Fld.FLS_PLOAD_STATE v).raisePf 1 := by
  unfold State.setPload
  extract_lets was
  cases was != v
  · exact .inl (State.when_false ..)
  · exact .inr (State.when_true ..)

theorem State.rd_setPload (s : State) (p v a : Nat) :
    (s.setPload p v).rd a = (s.setF (Reg.FLS_PLOAD p) Fld.FLS_PLOAD_STATE v).rd a := by
  rcases s.setPload_cases p v with h | h
  · rw [h]
  · rw [h, State.raisePf_rd]

theorem State.setPload_regsExcept (s : State) (p v : Nat) : RegsExcept [Reg.FLS_PLOAD p] s (s.setPload p v) := fun a ha =>
  (s.rd_setPload p v a).trans (State.setF_regsExcept s (by simp) _ v a ha)

theorem State.fld_setPload_state (s : State) (p v : Nat) :
    (s.setPload p v).fld (Reg.FLS_PLOAD p) Fld.FLS_PLOAD_STATE = v % 4 := by
  rw [State.fld, State.rd_setPload]
  exact State.fld_setF_same s _ _ v (by decide)

theorem State.fld_setPload_low (s : State) (p v : Nat) {g : Fld} (h : g.lo + g.width ≤ 30) :
    (s.setPload p v).fld (Reg.FLS_PLOAD p) g = s.fld (Reg.FLS_PLOAD p) g := by
  rw [State.fld, State.rd_setPload]
  exact State.fld_setF_other s _ _ g v (by decide) (.inl h)

/-- A change of FLS_PLOAD.STATE reaches the registers and the host interface alone. -/
theorem State.setPload_same (s : State) (p v : Nat) : SameBlocks s (s.setPload p v) := by
  have hset := s.setF_same (Reg.FLS_PLOAD p) Fld.FLS_PLOAD_STATE v
  rcases s.setPload_cases p v with h | h
  · rwa [h]
  · rw [h]
    exact hset.trans (State.raisePf_same _ 1)

theorem State.raisePf_log (s : State) (v : Nat) : (s.raisePf v).log = s.log := by
  unfold State.raisePf
  split_ifs <;> rfl

theorem State.setPload_log (s : State) (p v : Nat) : (s.setPload p v).log = s.log := by
  rcases s.setPload_cases p v with h | h
  · rw [h, State.setF_log]
  · rw [h, State.raisePf_log, State.setF_log]

/-! #### Tiles at work -/

/-- On the way of a load, `s` has kept of `o` cells, memory, mesh, the partition records, the tile records, which partitions load, and
the load registers of every partition. -/
structure TileWork (o s : State) : Prop where
  cells : s.core.cells = o.core.cells
  hbm : s.hbm = o.hbm
  mesh : s.mesh = o.mesh
  jparts : s.wts.jparts = o.wts.jparts
  recs : s.wts.recs = o.wts.recs
  parts : s.wts.loads.map LoadRun.part = o.wts.loads.map LoadRun.part
  pload : ∀ p, s.rd (Reg.FLS_PLOAD p) = o.rd (Reg.FLS_PLOAD p)

namespace TileWork

variable {o s t : State}

theorem refl (s : State) : TileWork s s := ⟨rfl, rfl, rfl, rfl, rfl, rfl, fun _ => rfl⟩

theorem trans (h : TileWork o s) (g : TileWork s t) : TileWork o t :=
  ⟨g.cells.trans h.cells, g.hbm.trans h.hbm, g.mesh.trans h.mesh, g.jparts.trans h.jparts, g.recs.trans h.recs, g.parts.trans h.parts,
    fun p => (g.pload p).trans (h.pload p)⟩

theorem of_leaves {R : List Nat} (h : Leaves R s t) (hR : ∀ a ∈ R, a < 0x3800100) : TileWork s t :=
  ⟨h.cells, h.hbm, h.mesh, congrArg WtsBlk.jparts h.wts, congrArg WtsBlk.recs h.wts, congrArg (fun w : WtsBlk => w.loads.map LoadRun.part) h.wts,
    fun p => h.regs _ fun hp => absurd (hR _ hp) (by rw [Reg.FLS_PLOAD]; omega)⟩

/-- An update of the weight store that leaves what `TileWork` names. -/
theorem wts (h : TileWork o s) {w : WtsBlk}
    (e : (w.jparts, w.recs, w.loads.map LoadRun.part) = (s.wts.jparts, s.wts.recs, s.wts.loads.map LoadRun.part)) :
    TileWork o { s with wts := w } := by
  simp only [Prod.mk.injEq] at e
  obtain ⟨e1, e2, e3⟩ := e
  exact ⟨h.cells, h.hbm, h.mesh, e1.trans h.jparts, e2.trans h.recs, e3.trans h.parts, h.pload⟩

theorem core (h : TileWork o s) {c : CoreBlk} (e : c.cells = s.core.cells := by rfl) : TileWork o { s with core := c } :=
  ⟨e.trans h.cells, h.hbm, h.mesh, h.jparts, h.recs, h.parts, h.pload⟩

theorem wr (h : TileWork o s) {a v : Nat} (ha : a < 0x3800100) : TileWork o (s.wr a v) :=
  ⟨h.cells, h.hbm, h.mesh, h.jparts, h.recs, h.parts, fun p => (State.rd_wr_ne (by rw [Reg.FLS_PLOAD]; omega) s v).trans (h.pload p)⟩
theorem setF (h : TileWork o s) {a : Nat} {f : Fld} {v : Nat} (ha : a < 0x3800100) : TileWork o (s.setF a f v) := h.wr ha
theorem inc (h : TileWork o s) {a n : Nat} (ha : a < 0x3800100) : TileWork o (s.inc a n) := h.wr ha

theorem ite {c : Prop} [Decidable c] (h : TileWork o s) (g : TileWork o t) : TileWork o (if c then s else t) := by
  split
  · exact h
  · exact g
theorem when (h : TileWork o s) {c : Bool} {f : State → State} (hf : ∀ s, TileWork o s → TileWork o (f s)) : TileWork o (s.when c f) := by
  cases c
  · exact h
  · exact hf s h
theorem forEach (h : TileWork o s) {α : Type} {l : List α} {f : State → α → State}
    (hf : ∀ s, ∀ x ∈ l, TileWork o s → TileWork o (f s x)) : TileWork o (s.forEach l f) := State.forEach_mem _ f hf s h

theorem flashRead (h : TileWork o s) {r : FlashRead} : TileWork o (s.flashRead r) :=
  (((h.inc (by decide)).inc (by decide)).inc (by decide) |>.when fun _ h => h.setF (by decide)).when fun _ h => h.setF (by decide)

theorem setJtile (h : TileWork o s) {key p v : Nat} : TileWork o (s.setJtile key p v) := h.wts rfl

/-- A tile of the part, by its key. -/
theorem stat_lt {key : Nat} (h : key < 16384) : Reg.TILE_STAT (key / 1024) (key % 1024) < 0x3800100 := by
  rw [Reg.TILE_STAT]
  omega

theorem setTileState (h : TileWork o s) {key v : Nat} (hk : key < 16384) : TileWork o (s.setTileState (key / 1024) (key % 1024) v) :=
  h.setF (stat_lt hk)

theorem driftRegs_lt {k : Nat} (hk : k < 16) : ∀ a ∈ driftRegs k, a < 0x3800100 := by
  simp [driftRegs, logRegs, Reg.CORE_DSTAT, Reg.CORE_DTHINCNT, Reg.CORE_DOUTLCNT, Reg.CORE_DCLAMPCNT, Reg.LOG_SEQ_LO, Reg.LOG_SEQ_HI,
    Reg.LOG_QSTAT, Reg.LOG_SUPCNT, Reg.LOG_STAT]
  omega

theorem dropArmed (h : TileWork o s) {k x : Nat} (hk : k < 16) : TileWork o (s.dropArmed k x) :=
  h.trans (of_leaves (Leaves.refl (driftRegs k) s).dropArmed (driftRegs_lt hk))

theorem tileLoading (h : TileWork o s) {key : Nat} (hk : key < 16384) : TileWork o (s.tileLoading key) :=
  (h.setTileState hk).dropArmed (by omega)

theorem loadTileFailed (h : TileWork o s) {key reason : Nat} : TileWork o (s.loadTileFailed key reason) := by
  unfold State.loadTileFailed
  extract_lets w inLoad
  split
  · exact h
  · refine h.wts (Prod.ext rfl (Prod.ext rfl ?_))
    rw [List.map_map]
    refine List.map_congr_left fun r _ => ?_
    rw [Function.comp_apply]
    split
    · rfl
    · rfl

theorem tileFails (h : TileWork o s) {key reason : Nat} (hk : key < 16384) : TileWork o (s.tileFails key reason) :=
  h.loadTileFailed.when fun _ h => h.setTileState hk

theorem dropTile (h : TileWork o s) {key : Nat} : TileWork o (s.dropTile key) :=
  h.wts (Prod.ext rfl (Prod.ext rfl ((List.map_map ..).trans rfl)))

theorem replaceStuck (h : TileWork o s) {key : Nat} {l : List StuckRec} : TileWork o (s.replaceStuck key l) := h.wts rfl

theorem writeTileCfg (h : TileWork o s) {key : Nat} {w : WTile} {spares : List Nat} (hk : key < 16384) :
    TileWork o (s.writeTileCfg key w spares) := by
  unfold State.writeTileCfg
  extract_lets k x s1 src s2
  have h1 : TileWork o s1 := h.setF (by rw [Reg.TILE_RANGE]; omega)
  have h2 : TileWork o s2 := h1.core
  exact h2.forEach fun u i hi hu => hu.wr (by have := List.mem_range.1 hi; rw [Reg.TILE_SPARE]; omega)

end TileWork

/-! #### The state of a tile that a load ends -/

/-- What the initial corrections of a tile leave (R93). -/
theorem Leaves.initTile (s : State) (k x : Nat) : Leaves (Reg.TILE_REFCFG k x :: driftRegs k) s (s.initTile k x) := by
  unfold State.initTile
  extract_lets +onlyGivenNames cal dt g c ws n s1 src s2 s3 s4
  have h1 : Leaves (driftRegs k) s s1 := (refl _ s).setActs.setShds
  clear_value s1
  have h2 : Leaves (driftRegs k) s s2 := h1.core
  have h4 : Leaves (driftRegs k) s s4 := h2.setDrift.countClamps
  exact (h4.mono (List.subset_cons_self _ _)).setF List.mem_cons_self

theorem TileWork.tileReady {o s : State} (h : TileWork o s) {key : Nat} {r : TileRec} (hk : key < 16384) : TileWork o (s.tileReady key r) := by
  unfold State.tileReady
  extract_lets k x src s1 s2
  have h1 : TileWork o s1 := h.core
  have h2 : TileWork o s2 := (h1.setF (by rw [Reg.TILE_DEGR]; omega)).setF (by rw [Reg.TILE_DEGR]; omega)
  refine (h2.setTileState hk).trans (of_leaves (Leaves.initTile _ k x) fun a ha => ?_)
  rcases List.mem_cons.1 ha with rfl | ha
  · rw [Reg.TILE_REFCFG]
    omega
  · exact driftRegs_lt (by omega) a ha

theorem State.tileState_setTileState (s : State) (k x v : Nat) : (s.setTileState k x v).tileState k x = v % 8 :=
  State.fld_setF_same s _ _ v (by decide)

theorem State.tileState_congr {s t : State} {R : List Nat} (h : RegsExcept R s t) {k x : Nat} (ha : Reg.TILE_STAT k x ∉ R) :
    t.tileState k x = s.tileState k x := h.fld ha _

/-- A tile whose record is good is ready, or degraded (R355, R361). -/
theorem State.tileState_tileReady (s : State) (key : Nat) (r : TileRec) :
    (s.tileReady key r).tileState (key / 1024) (key % 1024) = if r.degraded then 3 else 2 := by
  unfold State.tileReady
  extract_lets k x src s1 s2
  have hstat : Reg.TILE_STAT k x ∉ Reg.TILE_REFCFG k x :: driftRegs k := by
    simp [driftRegs, logRegs, Reg.TILE_STAT, Reg.TILE_REFCFG, Reg.CORE_DSTAT, Reg.CORE_DTHINCNT, Reg.CORE_DOUTLCNT, Reg.CORE_DCLAMPCNT,
      Reg.LOG_SEQ_LO, Reg.LOG_SEQ_HI, Reg.LOG_QSTAT, Reg.LOG_SUPCNT, Reg.LOG_STAT]
    omega
  rw [State.tileState_congr (Leaves.initTile _ k x).regs hstat, State.tileState_setTileState]
  split
  · rfl
  · rfl

end Machine

end Sys2Proof
end

section
set_option Elab.async false

/-! ### The commands of a weight load -/

namespace Sys2Proof

namespace Machine

/-! #### The start of a load (R350, R360) -/

theorem State.lt_of_mem_ownedTiles {s : State} {p key : Nat} (h : key ∈ s.ownedTiles p) : key < 16384 := by
  simp only [State.ownedTiles, List.mem_flatMap, List.mem_filter, List.mem_map, List.mem_range] at h
  obtain ⟨k, hk, g, ⟨hg, -⟩, t, ht, rfl⟩ := h
  rw [tileKey]
  omega

/-- The tiles that a load places belong to the partition (step 6 of R350). -/
theorem State.mem_ownedTiles_of_loadCheck {s : State} {p slot : Nat} {img : WImage} {named : List (Nat × WTile)}
    (h : s.loadCheck p slot = .inr (img, named)) : ∀ e ∈ named, e.1 ∈ s.ownedTiles p := by
  unfold State.loadCheck at h
  split at h
  · exact absurd h (by simp)
  · extract_lets at_ at h
    split_ifs at h with h1 h2 h3 h4 h5 h6 h7 h8 h9
    obtain ⟨-, rfl⟩ := Prod.mk.inj (Sum.inr.inj h)
    simp only [not_or, Bool.not_eq_true', Bool.not_eq_false, List.all_eq_true, List.contains_iff_mem] at h6
    exact fun e he => h6.2 e (List.mem_mergeSort.1 he)

/-- Whether a partition loads, by the partitions of the loads in progress. -/
theorem State.loading_eq_any_parts (s : State) (p : Nat) : s.loading p = (s.wts.loads.map LoadRun.part).any (· == p) := by
  rw [State.loading, List.any_map]
  rfl

namespace TileWork

variable {o s : State}

theorem jpart (h : TileWork o s) (p : Nat) : s.jpart p = o.jpart p := by
  rw [State.jpart, h.jparts]
  rfl

theorem loading (h : TileWork o s) (p : Nat) : s.loading p = o.loading p := by
  rw [State.loading_eq_any_parts, h.parts, ← State.loading_eq_any_parts]

theorem pload_fld (h : TileWork o s) (p : Nat) (f : Fld) : s.fld (Reg.FLS_PLOAD p) f = o.fld (Reg.FLS_PLOAD p) f := by
  rw [State.fld, h.pload]
  rfl

end TileWork

@[simp] theorem State.jpart_setJpart_same (s : State) (p : Nat) (j : JPart) : (s.setJpart p j).jpart p = j := SMap.get_set_same ..

theorem State.jpart_congr {s t : State} (h : s.wts.jparts = t.wts.jparts) (p : Nat) : s.jpart p = t.jpart p := by
  rw [State.jpart, h]
  rfl

/-- A load in progress: what FLS_PLOAD and the journal show of it, and what its start leaves. -/
structure LoadStarted (s t : State) (p slot : Nat) (img : WImage) : Prop where
  shownState : t.fld (Reg.FLS_PLOAD p) Fld.FLS_PLOAD_STATE = 1
  shownTdone : t.fld (Reg.FLS_PLOAD p) Fld.FLS_PLOAD_TDONE = 0
  shownSlot : t.fld (Reg.FLS_PLOAD p) Fld.FLS_PLOAD_SLOT = s.fld (Reg.FLS_PLOAD p) Fld.FLS_PLOAD_SLOT
  jstate : (t.jpart p).state = 1
  jslot : (t.jpart p).slot = slot
  jimage : (t.jpart p).imageId = img.imageId
  loading : t.loading p = true
  cells : t.core.cells = s.core.cells
  hbm : t.hbm = s.hbm
  mesh : t.mesh = s.mesh

/-- FLS_PLOAD of a load that starts. -/
theorem State.startPload_effect (s : State) (p : Nat) : ∀ u, u =
      State.setPload ((s.setF (Reg.FLS_PLOAD p) Fld.FLS_PLOAD_REASON 0).setF (Reg.FLS_PLOAD p) Fld.FLS_PLOAD_TDONE 0) p 1 →
    SameBlocks s u ∧ u.fld (Reg.FLS_PLOAD p) Fld.FLS_PLOAD_STATE = 1 ∧ u.fld (Reg.FLS_PLOAD p) Fld.FLS_PLOAD_TDONE = 0 ∧
    u.fld (Reg.FLS_PLOAD p) Fld.FLS_PLOAD_SLOT = s.fld (Reg.FLS_PLOAD p) Fld.FLS_PLOAD_SLOT := by
  rintro u rfl
  refine ⟨((s.setF_same _ _ _).trans (State.setF_same _ _ _ _)).trans (State.setPload_same _ _ _), State.fld_setPload_state .., ?_, ?_⟩
  · rw [State.fld_setPload_low _ _ _ (by decide), State.fld_setF_same _ _ _ _ (by decide)]
    rfl
  · rw [State.fld_setPload_low _ _ _ (by decide), State.fld_setF_other _ _ _ _ _ (by decide) (by decide),
      State.fld_setF_other _ _ _ _ _ (by decide) (by decide)]

/-- The start of a load whose named tiles belong to the partition (steps 9 on of R350). -/
theorem State.loadStart_started {s : State} {p slot : Nat} {keep : Bool} {img : WImage} {named : List (Nat × WTile)}
    (hnamed : ∀ e ∈ named, e.1 ∈ s.ownedTiles p) : LoadStarted s (s.loadStart p slot keep img named) p slot img := by
  have hkey : ∀ key ∈ named.map (·.1), key < 16384 := fun key hk => by
    obtain ⟨e, he, rfl⟩ := List.mem_map.1 hk
    exact State.lt_of_mem_ownedTiles (hnamed e he)
  unfold State.loadStart
  extract_lets +onlyGivenNames owned others jstate done clear run s1 s2 s3 s4 src s5 s6
  have hclear : ∀ key ∈ clear, key < 16384 := fun key hk =>
    State.lt_of_mem_ownedTiles (List.mem_of_mem_filter (List.mem_of_mem_filter hk))
  have h1 : TileWork s s1 := (TileWork.refl s).when fun _ h => h.forEach fun _ _ _ h => h.setJtile
  have h24 : TileWork s2 s4 := ((TileWork.refl s2).forEach fun _ key hk h => h.tileLoading (hkey key (List.mem_of_mem_filter hk))).forEach
    fun _ key hk h => h.tileLoading (hclear key hk)
  have h2 : s2.jpart p = { state := 1, slot := slot, imageId := img.imageId, serial := Config.serial.toNat, place := run.place, gmask := run.gmask } :=
    State.jpart_setJpart_same ..
  have h12 : s2.core.cells = s1.core.cells ∧ s2.hbm = s1.hbm ∧ s2.mesh = s1.mesh ∧ s2.regs = s1.regs := ⟨rfl, rfl, rfl, rfl⟩
  clear_value s1 s2 s4
  have h45 : s5.core.cells = s4.core.cells ∧ s5.hbm = s4.hbm ∧ s5.mesh = s4.mesh ∧ s5.regs = s4.regs ∧ s5.wts.jparts = s4.wts.jparts :=
    ⟨rfl, rfl, rfl, rfl, rfl⟩
  have h5 : s5.loading p = true := by
    have hp : run.part = p := rfl
    simp [State.loading, s5, hp]
  clear_value s5
  obtain ⟨⟨-, hcore, hmesh, hhbm, -, -, hwts, -⟩, hstate, htdone, hslot⟩ := s5.startPload_effect p s6 rfl
  replace hslot : s6.fld (Reg.FLS_PLOAD p) Fld.FLS_PLOAD_SLOT = s.fld (Reg.FLS_PLOAD p) Fld.FLS_PLOAD_SLOT := by
    rw [hslot, RegsExcept.fld (RegsExcept.of_regs [] h45.2.2.2.1) (by simp), h24.pload_fld, RegsExcept.fld (RegsExcept.of_regs [] h12.2.2.2) (by simp),
      h1.pload_fld]
  clear_value s6
  obtain ⟨hcells12, hhbm12, hmesh12, -⟩ := h12
  obtain ⟨hcells45, hhbm45, hmesh45, -, hjparts45⟩ := h45
  have hfails (l : List Nat) (hl : ∀ key ∈ l, key < 16384) : TileWork s6 (s6.forEach l fun s key => s.tileFails key 11) :=
    (TileWork.refl s6).forEach fun _ key hk h => h.tileFails (hl key hk)
  specialize hfails ((named.map (·.1)).filter fun key => s6.tileFence (key / 1024) (key % 1024) != 0)
    fun key hk => hkey key (List.mem_of_mem_filter hk)
  have hjpart : s6.jpart p = s2.jpart p :=
    (State.jpart_congr ((congrArg WtsBlk.jparts hwts).trans hjparts45) p).trans (h24.jpart p)
  refine ⟨?_, ?_, ?_, ?_, ?_, ?_, ?_, ?_, ?_, ?_⟩
  · rw [hfails.pload_fld, hstate]
  · rw [hfails.pload_fld, htdone]
  · rw [hfails.pload_fld, hslot]
  · rw [hfails.jpart, hjpart, h2]
  · rw [hfails.jpart, hjpart, h2]
  · rw [hfails.jpart, hjpart, h2]
  · rw [hfails.loading, State.loading, hwts]
    exact h5
  · rw [hfails.cells, hcore, hcells45, h24.cells, hcells12, h1.cells]
  · rw [hfails.hbm, hhbm, hhbm45, h24.hbm, hhbm12, h1.hbm]
  · rw [hfails.mesh, hmesh, hmesh45, h24.mesh, hmesh12, h1.mesh]

/-- A load command outside of a run, a load and a rack stop, whose image passes steps 2 to 8 of R350, starts its load. -/
theorem State.loadCmd_of_passes {s u : State} {p slot : Nat} {resume : Bool} {r : FlashRead} {img : WImage} {named : List (Nat × WTile)}
    (hfree : s.run p = 0 ∧ s.loading p = false ∧ s.fld Reg.IND_RSSTAT Fld.IND_RSSTAT_STOP ≠ 1) {sl : Nat}
    (hsl : (if (resume && s.mayResume p) = true then (s.jpart p).slot else slot) = sl)
    (hu : u = (s.setF (Reg.FLS_PLOAD p) Fld.FLS_PLOAD_SLOT sl).flashRead r) (hcheck : u.loadCheck p sl = .inr (img, named)) :
    s.loadCmd p slot resume r = u.loadStart p sl (resume && s.mayResume p) img named := by
  obtain ⟨hrun, hloading, hstop⟩ := hfree
  have hgo : ¬(s.run p ≠ 0 ∨ s.loading p = true ∨ s.fld Reg.IND_RSSTAT Fld.IND_RSSTAT_STOP = 1) := by
    rw [hrun, hloading]
    simpa using hstop
  rw [State.loadCmd, if_neg hgo]
  dsimp only
  rw [hsl, ← hu, hcheck]

/-- A load command that passes its checks leaves its load in progress, and the cells, the memory and the mesh as they were. -/
theorem State.loadCmd_started {s u : State} {p slot : Nat} {resume : Bool} {r : FlashRead} {img : WImage} {named : List (Nat × WTile)}
    (hfree : s.run p = 0 ∧ s.loading p = false ∧ s.fld Reg.IND_RSSTAT Fld.IND_RSSTAT_STOP ≠ 1) {sl : Nat}
    (hsl : (if (resume && s.mayResume p) = true then (s.jpart p).slot else slot) = sl)
    (hu : u = (s.setF (Reg.FLS_PLOAD p) Fld.FLS_PLOAD_SLOT sl).flashRead r) (hcheck : u.loadCheck p sl = .inr (img, named)) :
    ∃ t, s.loadCmd p slot resume r = t ∧ LoadStarted u t p sl img ∧ u.fld (Reg.FLS_PLOAD p) Fld.FLS_PLOAD_SLOT = sl % 2 ∧
      t.core.cells = s.core.cells ∧ t.hbm = s.hbm ∧ t.mesh = s.mesh := by
  have hstart := State.loadStart_started (slot := sl) (keep := resume && s.mayResume p) (img := img) (State.mem_ownedTiles_of_loadCheck hcheck)
  have hread : TileWork (s.setF (Reg.FLS_PLOAD p) Fld.FLS_PLOAD_SLOT sl) u := hu ▸ (TileWork.refl _).flashRead
  refine ⟨_, State.loadCmd_of_passes hfree hsl hu hcheck, hstart, ?_, ?_, ?_, ?_⟩
  · rw [hread.pload_fld, State.fld_setF_same _ _ _ _ (by decide)]
    rfl
  · rw [hstart.cells, hread.cells, State.setF_core]
  · rw [hstart.hbm, hread.hbm, State.setF_hbm]
  · rw [hstart.mesh, hread.mesh, State.setF_mesh]

end Machine

open Machine

/-- A load that passes its checks is in progress. -/
theorem load_completes (s u : State) (p : PartNo) (slot : Fin 2) (r : FlashRead) (img : WImage) (named : List (Nat × WTile))
    (hfree : s.run p = 0 ∧ s.loading p = false ∧ s.fld Reg.IND_RSSTAT Fld.IND_RSSTAT_STOP ≠ 1)
    (hu : u = (s.setF (Reg.FLS_PLOAD p) Fld.FLS_PLOAD_SLOT slot).flashRead r) (hcheck : u.loadCheck p slot = .inr (img, named)) :
    Completes (.load p slot r) s fun t => t.fld (Reg.FLS_PLOAD p) Fld.FLS_PLOAD_STATE = 1 ∧
      t.fld (Reg.FLS_PLOAD p) Fld.FLS_PLOAD_TDONE = 0 ∧ t.fld (Reg.FLS_PLOAD p) Fld.FLS_PLOAD_SLOT = slot ∧ (t.jpart p).state = 1 ∧
      (t.jpart p).imageId = img.imageId ∧ t.loading p = true ∧ t.core.cells = s.core.cells ∧ t.hbm = s.hbm ∧ t.mesh = s.mesh := by
  obtain ⟨t, ht, hstart, hslot, hcells, hhbm, hmesh⟩ := State.loadCmd_started (slot := slot) (resume := false) hfree rfl hu hcheck
  refine ⟨t, congrArg Host.Outcome.next ht, hstart.shownState, hstart.shownTdone, ?_, hstart.jstate, hstart.jimage, hstart.loading, hcells, hhbm, hmesh⟩
  rw [hstart.shownSlot, hslot]
  exact Nat.mod_eq_of_lt slot.isLt

/-- A resume of a load that passes its checks is in progress. -/
theorem loadResume_completes (s u : State) (p : PartNo) (slot : Fin 2) (r : FlashRead) (img : WImage) (named : List (Nat × WTile))
    (hfree : s.run p = 0 ∧ s.loading p = false ∧ s.fld Reg.IND_RSSTAT Fld.IND_RSSTAT_STOP ≠ 1) (hmay : s.mayResume p = true)
    (hu : u = (s.setF (Reg.FLS_PLOAD p) Fld.FLS_PLOAD_SLOT (s.jpart p).slot).flashRead r)
    (hcheck : u.loadCheck p (s.jpart p).slot = .inr (img, named)) :
    Completes (.loadResume p slot r) s fun t => t.fld (Reg.FLS_PLOAD p) Fld.FLS_PLOAD_STATE = 1 ∧ (t.jpart p).state = 1 ∧
      (t.jpart p).slot = (s.jpart p).slot ∧ t.loading p = true ∧ t.core.cells = s.core.cells ∧ t.hbm = s.hbm ∧ t.mesh = s.mesh := by
  obtain ⟨t, ht, hstart, -, hcells, hhbm, hmesh⟩ :=
    State.loadCmd_started (slot := slot) (resume := true) hfree (if_pos (by rw [hmay]; rfl)) hu hcheck
  exact ⟨t, congrArg Host.Outcome.next ht, hstart.shownState, hstart.jstate, hstart.jslot, hstart.loading, hcells, hhbm, hmesh⟩

end Sys2Proof
end

section
set_option Elab.async false

/-! ### The end of a weight load -/

namespace Sys2Proof

namespace Machine

/-! #### LOAD_COMPLETE (R350 step 12) -/

/-- The only load in progress is the one of its partition. -/
theorem find_part_singleton {run : LoadRun} {p : Nat} (h : run.part = p) : [run].find? (fun x => x.part == p) = some run := by simp [h]

theorem filter_part_singleton {run : LoadRun} {p : Nat} (h : run.part = p) : [run].filter (fun x => x.part != p) = [] := by simp [h]

theorem State.loading_of_no_loads {s : State} (h : s.wts.loads = []) (p : Nat) : s.loading p = false := by simp [State.loading, h]

/-- The end of a load with nothing left to do and no failure: its partition record is loaded, and FLS_PLOAD shows it. -/
theorem State.loadComplete_of_done {s : State} {p : Nat} {run : LoadRun} (hloads : s.wts.loads = [run]) (hpart : run.part = p)
    (hkeys : run.keys = []) (hspills : run.spills = []) (hreason : run.reason = 0) : ∃ u : State, s.loadComplete p = u.setPload p 2 ∧
    u.regs = s.regs ∧ u.jpart p = { s.jpart p with state := 2 } ∧ u.wts.loads = [] ∧ u.wts.lastImage = run.image.imageId ∧
    u.core = s.core ∧ u.hbm = s.hbm ∧ u.log = s.log := by
  refine ⟨State.setJpart { s with wts := { s.wts with loads := [], lastImage := run.image.imageId } } p { s.jpart p with state := 2 }, ?_,
    rfl, State.jpart_setJpart_same .., rfl, rfl, rfl, rfl, rfl⟩
  rw [State.loadComplete, hloads, find_part_singleton hpart]
  dsimp only
  rw [if_neg (by simp [hkeys, hspills]), if_neg (by simp [hreason]), hloads, filter_part_singleton hpart]
  rfl

/-! #### LOAD_ABORT (R359) -/

/-- What one round of a loop brings about, and no other round of it undoes, holds after the loop. -/
theorem State.forEach_reaches {α : Type} (P : State → Prop) {f : State → α → State} {l : List α} (hkeep : ∀ s, ∀ x ∈ l, P s → P (f s x))
    {x : α} (hx : x ∈ l) (hreach : ∀ s, P (f s x)) (s : State) : P (s.forEach l f) := by
  induction l generalizing s with
  | nil => exact absurd hx List.not_mem_nil
  | cons y l ih =>
    have hrest : ∀ s, ∀ x ∈ l, P s → P (f s x) := fun s x hx => hkeep s x (List.mem_cons_of_mem y hx)
    rcases List.mem_cons.1 hx with rfl | hx
    · exact State.forEach_mem P f hrest _ (hreach s)
    · exact ih hrest hx _

theorem State.when_inv (P : State → Prop) (c : Bool) (f : State → State) {s : State} (h : P s) (hf : P (f s)) : P (s.when c f) := by
  cases c
  · exact h
  · exact hf

/-- What an abort does to one tile of its load: a tile in state 1 enters state 0, and an entry in progress reads not started. -/
def State.abortTile (s : State) (p key : Nat) : State :=
  let s := s.when (s.tileState (key / 1024) (key % 1024) == 1) fun s => s.setTileState (key / 1024) (key % 1024) 0
  s.when (SMap.get (fun _ => 0) s.wts.jtiles key % 4 == 1) fun s => s.setJtile key p 0

theorem State.abortLoad_eq (s : State) (r : LoadRun) : s.abortLoad r =
    (let u := s.forEach (r.program.map (·.1) ++ r.clear ++ r.restore.map (·.1)) fun s key => s.abortTile r.part key
     State.failLoad { u with wts := { u.wts with bursts := u.wts.bursts.filter fun e => !(r.program.map (·.1) ++ r.clear ++ r.restore.map (·.1)).contains e.1 } }
       r.part (if r.reason = 0 then 12 else r.reason)) := rfl

/-- A tile state after the write of another one, or of the same one. -/
theorem State.tileState_setTileState_cases (s : State) (j x k t v : Nat) :
    (s.setTileState j x v).tileState k t = v % 8 ∨ (s.setTileState j x v).tileState k t = s.tileState k t := by
  by_cases h : Reg.TILE_STAT j x = Reg.TILE_STAT k t
  · refine .inl ?_
    rw [State.tileState, State.setTileState, h]
    exact State.fld_setF_same s _ _ v (by decide)
  · exact .inr (State.fld_setF_ne h s _ _ v)

/-- The abort of one tile reaches its state and its journal entry alone. -/
theorem State.abortTile_blocks (s : State) (p key : Nat) : (s.abortTile p key).core = s.core ∧ (s.abortTile p key).hbm = s.hbm ∧
    (s.abortTile p key).mesh = s.mesh ∧ (s.abortTile p key).wts.loads = s.wts.loads := by
  unfold State.abortTile
  extract_lets u
  have hu : u.core = s.core ∧ u.hbm = s.hbm ∧ u.mesh = s.mesh ∧ u.wts.loads = s.wts.loads := by
    refine ⟨State.when_keeps State.core _ _ _ (State.setF_core ..), State.when_keeps State.hbm _ _ _ (State.setF_hbm ..),
      State.when_keeps State.mesh _ _ _ (State.setF_mesh ..), State.when_keeps (fun s => s.wts.loads) _ _ _ ?_⟩
    exact congrArg WtsBlk.loads (State.setF_wts ..)
  clear_value u
  obtain ⟨hcore, hhbm, hmesh, hloads⟩ := hu
  refine ⟨(State.when_keeps State.core _ _ _ rfl).trans hcore, (State.when_keeps State.hbm _ _ _ rfl).trans hhbm,
    (State.when_keeps State.mesh _ _ _ rfl).trans hmesh, (State.when_keeps (fun s => s.wts.loads) _ _ _ rfl).trans hloads⟩

theorem State.tileState_when_setJtile (s : State) (c : Bool) (key p k t : Nat) :
    (s.when c fun s => s.setJtile key p 0).tileState k t = s.tileState k t :=
  State.when_keeps (fun u => u.tileState k t) _ _ _ (State.setJtile_fld ..)

/-- No abort of a tile brings a tile into state 1. -/
theorem State.abortTile_keeps_ne_one (s : State) (p key k t : Nat) (h : s.tileState k t ≠ 1) : (s.abortTile p key).tileState k t ≠ 1 := by
  unfold State.abortTile
  extract_lets u
  rw [State.tileState_when_setJtile]
  refine State.when_inv (fun u => u.tileState k t ≠ 1) _ _ h ?_
  rcases s.tileState_setTileState_cases (key / 1024) (key % 1024) k t 0 with h' | h'
  · rw [h']
    decide
  · rwa [h']

/-- An aborted tile is not in state 1. -/
theorem State.abortTile_ne_one (s : State) (p key : Nat) : (s.abortTile p key).tileState (key / 1024) (key % 1024) ≠ 1 := by
  unfold State.abortTile
  extract_lets u
  rw [State.tileState_when_setJtile]
  by_cases h : s.tileState (key / 1024) (key % 1024) = 1
  · have hu : u = s.setTileState (key / 1024) (key % 1024) 0 := by
      unfold u
      rw [h]
      exact State.when_true ..
    rw [hu, State.tileState_setTileState]
    decide
  · have hu : u = s := by
      unfold u
      rw [beq_eq_false_iff_ne.2 h]
      exact State.when_false ..
    rwa [hu]

/-- A load that fails: FLS_PLOAD and the partition record show it, and the record 0x0062 is made (R359). -/
theorem State.failLoad_effect (s : State) (p reason : Nat) : ∃ u, s.failLoad p reason = u ∧
    u.fld (Reg.FLS_PLOAD p) Fld.FLS_PLOAD_STATE = 3 ∧ u.fld (Reg.FLS_PLOAD p) Fld.FLS_PLOAD_REASON = reason % 32 ∧
    (u.jpart p).state = 3 ∧ u.wts.loads = (s.wts.loads.filter fun r => r.part != p) ∧ RegsExcept (Reg.FLS_PLOAD p :: logRegs) s u ∧
    u.core = s.core ∧ u.hbm = s.hbm ∧ u.mesh = s.mesh := by
  refine ⟨_, rfl, ?_⟩
  unfold State.failLoad
  extract_lets src s1 src2 s2 s3
  have h2 : (s2.jpart p).state = 3 := congrArg JPart.state (State.jpart_setJpart_same ..)
  have h02 : s2.regs = s.regs ∧ s2.core = s.core ∧ s2.hbm = s.hbm ∧ s2.mesh = s.mesh ∧
      s2.wts.loads = s.wts.loads.filter fun r => r.part != p := ⟨rfl, rfl, rfl, rfl, rfl⟩
  clear_value s2
  obtain ⟨hregs, hcore, hhbm, hmesh, hloads⟩ := h02
  have hstate : s3.fld (Reg.FLS_PLOAD p) Fld.FLS_PLOAD_STATE = 3 := State.fld_setPload_state ..
  have hreason : s3.fld (Reg.FLS_PLOAD p) Fld.FLS_PLOAD_REASON = reason % 32 :=
    (State.fld_setPload_low _ _ _ (by decide)).trans (State.fld_setF_same _ _ _ _ (by decide))
  obtain ⟨-, hcore3, hmesh3, hhbm3, -, -, hwts3, -⟩ : SameBlocks s2 s3 := (s2.setF_same _ _ _).trans (State.setPload_same _ _ _)
  have hregs3 : RegsExcept [Reg.FLS_PLOAD p] s2 s3 :=
    (s2.setF_regsExcept (by simp) _ _).trans (State.setPload_regsExcept _ _ _)
  clear_value s3
  have hpload := Reg.FLS_PLOAD_not_mem_logRegs (p := p)
  refine ⟨?_, ?_, ?_, ?_, fun a ha => ?_, ?_, ?_, ?_⟩
  · rw [State.sherd_fld _ _ hpload, hstate]
  · rw [State.sherd_fld _ _ hpload, hreason]
  · rw [State.jpart_congr (congrArg WtsBlk.jparts ((State.sherd_wts ..).trans hwts3)), h2]
  · rw [State.sherd_wts, hwts3, hloads]
  · simp only [List.mem_cons, not_or] at ha
    rw [State.sherd_rd _ _ ha.2, hregs3 a (by simpa using ha.1), State.rd_congr hregs]
  · rw [State.sherd_core, hcore3, hcore]
  · rw [State.sherd_hbm, hhbm3, hhbm]
  · rw [State.sherd_mesh, hmesh3, hmesh]

/-- The keys of a load are those of its tiles to program, to clear and to restore. -/
theorem LoadRun.mem_keys {r : LoadRun} {key : Nat} :
    key ∈ r.keys ↔ key ∈ r.program.map (·.1) ++ r.clear ++ r.restore.map (·.1) := by rw [LoadRun.keys, List.mem_mergeSort]

/-- No place of a tile's registers is one of FLS_PLOAD or of the log. -/
theorem stat_not_mem_ploadRegs {p : Nat} (hp : p < 64) (k x : Nat) : Reg.TILE_STAT k x ∉ Reg.FLS_PLOAD p :: logRegs := by
  simp [logRegs, Reg.FLS_PLOAD, Reg.TILE_STAT, Reg.LOG_SEQ_LO, Reg.LOG_SEQ_HI, Reg.LOG_QSTAT, Reg.LOG_SUPCNT, Reg.LOG_STAT]
  omega

/-- An abort of a load: it fails, and none of its tiles is left in state 1. -/
theorem State.abortLoad_effect (s : State) {r : LoadRun} (hpart : r.part < 64) : ∃ u, s.abortLoad r = u ∧
    u.fld (Reg.FLS_PLOAD r.part) Fld.FLS_PLOAD_STATE = 3 ∧
    u.fld (Reg.FLS_PLOAD r.part) Fld.FLS_PLOAD_REASON = (if r.reason = 0 then 12 else r.reason) % 32 ∧ (u.jpart r.part).state = 3 ∧
    u.wts.loads = (s.wts.loads.filter fun x => x.part != r.part) ∧
    (∀ key ∈ r.keys, u.tileState (key / 1024) (key % 1024) ≠ 1) ∧ u.core = s.core ∧ u.hbm = s.hbm ∧ u.mesh = s.mesh := by
  rw [State.abortLoad_eq]
  extract_lets u
  have hu : u.core = s.core ∧ u.hbm = s.hbm ∧ u.mesh = s.mesh ∧ u.wts.loads = s.wts.loads :=
    State.forEach_inv (fun u => u.core = s.core ∧ u.hbm = s.hbm ∧ u.mesh = s.mesh ∧ u.wts.loads = s.wts.loads) _ (fun v key h => by
      obtain ⟨hcore, hhbm, hmesh, hloads⟩ := v.abortTile_blocks r.part key
      rwa [hcore, hhbm, hmesh, hloads]) _ s ⟨rfl, rfl, rfl, rfl⟩
  have hdone : ∀ key ∈ r.keys, u.tileState (key / 1024) (key % 1024) ≠ 1 := fun key hk =>
    State.forEach_reaches (fun u => u.tileState (key / 1024) (key % 1024) ≠ 1)
      (fun v x _ h => v.abortTile_keeps_ne_one r.part x _ _ h) (LoadRun.mem_keys.1 hk) (fun v => v.abortTile_ne_one r.part key) s
  clear_value u
  obtain ⟨hcore, hhbm, hmesh, hloads⟩ := hu
  obtain ⟨t, ht, hstate, hreason, hjpart, htloads, htregs, htcore, hthbm, htmesh⟩ := State.failLoad_effect
    { u with wts := { u.wts with bursts := u.wts.bursts.filter fun e => !(r.program.map (·.1) ++ r.clear ++ r.restore.map (·.1)).contains e.1 } }
    r.part (if r.reason = 0 then 12 else r.reason)
  refine ⟨t, ht, hstate, hreason, hjpart, ?_, fun key hk => ?_, htcore.trans hcore, hthbm.trans hhbm, htmesh.trans hmesh⟩
  · rw [htloads, ← hloads]
  · rw [State.tileState_congr htregs (stat_not_mem_ploadRegs hpart _ _)]
    exact hdone key hk

end Machine

open Machine

/-- An abort fails the load with reason 12 and leaves none of its tiles in state 1. -/
theorem loadAbort_completes (s : State) (p : PartNo) (r : LoadRun) (key : Nat) (hloads : s.wts.loads = [r])
    (hrun : r.part = p.val ∧ r.reason = 0) (hkey : key ∈ r.keys) :
    Completes (.loadAbort p) s fun t => t.loading p = false ∧ t.fld (Reg.FLS_PLOAD p) Fld.FLS_PLOAD_STATE = 3 ∧
      t.fld (Reg.FLS_PLOAD p) Fld.FLS_PLOAD_REASON = 12 ∧ (t.jpart p).state = 3 ∧ t.tileState (key / 1024) (key % 1024) ≠ 1 ∧
      t.core = s.core ∧ t.hbm = s.hbm ∧ t.mesh = s.mesh := by
  obtain ⟨hpart, hreason⟩ := hrun
  have habort : s.loadAbort p = s.abortLoad { r with reason := 12 } := by
    rw [State.loadAbort, hloads, find_part_singleton hpart]
    dsimp only
    rw [hreason, if_pos rfl]
  obtain ⟨t, ht, hstate, hwhy, hjpart, htloads, htiles, hcore, hhbm, hmesh⟩ :=
    s.abortLoad_effect (r := { r with reason := 12 }) (hpart ▸ p.isLt)
  dsimp only at hstate hwhy hjpart htloads
  rw [hpart] at hstate hwhy hjpart htloads
  refine ⟨t, congrArg Host.Outcome.next (habort.trans ht), State.loading_of_no_loads ?_ _, hstate, hwhy, hjpart, htiles key hkey,
    hcore, hhbm, hmesh⟩
  rw [htloads, hloads, filter_part_singleton hpart]

/-- A load with nothing left to do is loaded. -/
theorem loadComplete_completes (s : State) (p : PartNo) (run : LoadRun) (hloads : s.wts.loads = [run])
    (hrun : run.part = p.val ∧ run.keys = [] ∧ run.spills = [] ∧ run.reason = 0) :
    Completes (.loadComplete p) s fun t => t.fld (Reg.FLS_PLOAD p) Fld.FLS_PLOAD_STATE = 2 ∧ t.jpart p = { s.jpart p with state := 2 } ∧
      t.wts.loads = [] ∧ t.wts.lastImage = run.image.imageId ∧ RegsExcept [Reg.FLS_PLOAD p] s t ∧ t.core = s.core ∧ t.hbm = s.hbm ∧
      t.log = s.log := by
  obtain ⟨hpart, hkeys, hspills, hreason⟩ := hrun
  obtain ⟨u, h, hregs, hjpart, hnone, hlast, hcore, hhbm, hlog⟩ := State.loadComplete_of_done hloads hpart hkeys hspills hreason
  obtain ⟨-, hcore', -, hhbm', -, -, hwts', -⟩ := u.setPload_same p 2
  refine ⟨u.setPload p 2, congrArg Host.Outcome.next h, State.fld_setPload_state .., ?_, ?_, ?_, ?_, ?_, ?_, ?_⟩
  · rw [State.jpart_congr (congrArg WtsBlk.jparts hwts'), hjpart]
  · rw [hwts', hnone]
  · rw [hwts', hlast]
  · exact (RegsExcept.of_regs _ hregs).trans (u.setPload_regsExcept p 2)
  · rw [hcore', hcore]
  · rw [hhbm', hhbm]
  · rw [State.setPload_log, hlog]

end Sys2Proof
end

section
set_option Elab.async false

/-! ### The program engines -/

namespace Sys2Proof

namespace Machine

/-! #### Weight columns (R52) -/

/-- The places of the weight columns in each 64 physical columns below 1,024. -/
def weightOffsets : List Nat := (List.range 64).filter fun c => !(isRefPcol c) && !(isSparePcol c)

theorem weightPcol_low {w : Nat} (h : w < 944) : weightPcol w = 64 * (w / 59) + nth 0 weightOffsets (w % 59) := if_pos h
theorem weightPcol_high {w : Nat} (h : ¬w < 944) : weightPcol w = 1024 + (w - 944) := if_neg h

theorem weightOffset_lt (o : Nat) : nth 0 weightOffsets o < 64 := by
  have hall : ∀ x ∈ weightOffsets, x < 64 := fun x hx => List.mem_range.1 (List.mem_of_mem_filter hx)
  rw [nth, List.getD_eq_getElem?_getD]
  cases h : weightOffsets[o]? with
  | none => decide
  | some x => exact hall x (List.mem_of_getElem? h)

theorem weightOffset_injective {o o' : Nat} (ho : o < 59) (ho' : o' < 59) (h : nth 0 weightOffsets o = nth 0 weightOffsets o') : o = o' := by
  have hlen : weightOffsets.length = 59 := by decide
  rw [nth, nth, List.getD_eq_getElem _ _ (hlen ▸ ho), List.getD_eq_getElem _ _ (hlen ▸ ho')] at h
  exact (List.Nodup.getElem_inj_iff (List.nodup_range.filter _)).1 h

/-- Two logical columns have two physical columns. -/
theorem weightPcol_injective {v w : Nat} (h : weightPcol v = weightPcol w) : v = w := by
  by_cases hv : v < 944
  · by_cases hw : w < 944
    · rw [weightPcol_low hv, weightPcol_low hw] at h
      have hlv := weightOffset_lt (v % 59)
      have hlw := weightOffset_lt (w % 59)
      have ho : v % 59 = w % 59 := weightOffset_injective (Nat.mod_lt _ (by decide)) (Nat.mod_lt _ (by decide)) (by omega)
      omega
    · rw [weightPcol_low hv, weightPcol_high hw] at h
      have := weightOffset_lt (v % 59)
      omega
  · by_cases hw : w < 944
    · rw [weightPcol_high hv, weightPcol_low hw] at h
      have := weightOffset_lt (w % 59)
      omega
    · rw [weightPcol_high hv, weightPcol_high hw] at h
      omega

/-! #### PROGRAM_BURST on a tile without stuck cells (R353) -/

theorem findIdx1_eq_none {α : Type} {p : α → Bool} {l : List α} (h : ∀ x ∈ l, p x = false) : findIdx1 p l = none := by
  rw [findIdx1, Option.map_eq_none_iff, List.find?_eq_none]
  exact fun e he => by simp [h e.1 (List.fst_mem_of_mem_zipIdx he)]

/-- With no cell found stuck nothing is learnt. -/
theorem Burst.learn_nil (b : Burst) : b.learn [] = b := by
  have hbad (q : Nat → Bool) (l : List Nat) : (l.filter fun i => q i && ([] : List FoundCell).any fun f => f.pcol.val == sparePcol i) = [] := by
    simp
  rw [Burst.learn, List.filter_nil, hbad, List.append_nil, List.append_nil]

theorem Burst.spareFor_fresh (n c : Nat) : ({ next := n } : Burst).spareFor c = none := by
  rw [Burst.spareFor, findIdx1_eq_none fun x hx => ?_]
  · rfl
  · rw [List.eq_of_mem_replicate hx]
    rfl

/-- A tile without stuck cells has each pair programmed to the levels of its weight, in the column's own place. -/
theorem State.programPair_fresh (s : State) (key r c : Nat) (w : WTile) (n : Nat) :
    s.programPair key r c w { next := n } = (s.setPair key (weightPcol c) r (nominalLevels (w.m r c)), { next := n }) := by
  have hcell (pc : Nat) (minus : Bool) : ({ next := n } : Burst).cell r pc minus = none := rfl
  unfold State.programPair
  extract_lets +onlyGivenNames home
  rw [if_neg (by simp), Burst.spareFor_fresh]
  dsimp only
  rw [hcell, hcell]
  rfl

/-- The pairs of a row of a tile without stuck cells, column by column. -/
theorem State.foldl_programPair_fresh (key r : Nat) (w : WTile) (n : Nat) (l : List Nat) (s : State) :
    l.foldl (fun (a : State × Burst) c => a.1.programPair key r c w a.2) (s, { next := n }) =
      (s.forEach l fun s c => s.setPair key (weightPcol c) r (nominalLevels (w.m r c)), { next := n }) := by
  induction l generalizing s with
  | nil => rfl
  | cons c l ih => rw [List.foldl_cons, State.programPair_fresh, ih, State.forEach_cons]

theorem State.programRow_fresh {s : State} {key n : Nat} (hb : s.burst key = { next := n }) (w : WTile) :
    s.programRow key w [] = (s.forEach (List.range 1024) fun s c => s.setPair key (weightPcol c) n (nominalLevels (w.m n c))).setBurst key
      { next := n + 1 } := by
  rw [State.programRow]
  generalize List.range 1024 = l
  split
  next u b he =>
    rw [hb, Burst.learn_nil, State.foldl_programPair_fresh] at he
    obtain ⟨rfl, rfl⟩ := Prod.mk.inj he
    rw [hb, Burst.learn_nil]

/-- A pair just programmed holds its levels; the other pairs hold what they held. -/
theorem State.cells_setPair (s : State) (key pc r : Nat) (lv : Nat × Nat) (i : Nat) :
    SMap.get cellDefault (s.setPair key pc r lv).core.cells i =
      if (key * 2048 + pc) * 1024 + r = i then lv.1 * 16 + lv.2 else SMap.get cellDefault s.core.cells i := SMap.get_set ..

/-- Each pair of a row programmed column by column holds the levels of its weight. -/
theorem State.cells_programmed (s : State) {key r col : Nat} {l : List Nat} (lv : Nat → Nat × Nat) (hcol : col ∈ l) :
    SMap.get cellDefault (s.forEach l fun s c => s.setPair key (weightPcol c) r (lv c)).core.cells ((key * 2048 + weightPcol col) * 1024 + r) =
      (lv col).1 * 16 + (lv col).2 := by
  refine State.forEach_reaches (fun u => SMap.get cellDefault u.core.cells ((key * 2048 + weightPcol col) * 1024 + r) = (lv col).1 * 16 + (lv col).2)
    (fun u c _ h => ?_) hcol (fun u => ?_) s
  · rw [State.cells_setPair]
    split
    · next he =>
      obtain rfl : c = col := weightPcol_injective (by omega)
      rfl
    · exact h
  · rw [State.cells_setPair, if_pos rfl]

@[simp] theorem State.burst_setBurst_same (s : State) (key : Nat) (b : Burst) : (s.setBurst key b).burst key = b := SMap.get_set_same ..

theorem State.setBurst_jtiles (s : State) (key : Nat) (b : Burst) : (s.setBurst key b).wts.jtiles = s.wts.jtiles := rfl

/-- What no pair of a row changes, the row does not change. -/
theorem State.forEach_setPair_keeps {β : Type} (g : State → β) (hg : ∀ u key pc r lv, g (State.setPair u key pc r lv) = g u) (s : State)
    (key r : Nat) (pc : Nat → Nat) (lv : Nat → Nat × Nat) (l : List Nat) : g (s.forEach l fun s c => s.setPair key (pc c) r (lv c)) = g s :=
  State.forEach_keeps g _ (fun u c => hg u key (pc c) r (lv c)) l s

/-- A row of a tile without stuck cells: its pairs hold the levels of their weights, and the tile's next row is the one above. -/
theorem State.programRow_effect {s : State} {key n col : Nat} (hb : s.burst key = { next := n }) (w : WTile) (hcol : col < 1024) :
    ∃ t, s.programRow key w [] = t ∧ t.burst key = { next := n + 1 } ∧
      SMap.get cellDefault t.core.cells ((key * 2048 + weightPcol col) * 1024 + n) =
        (nominalLevels (w.m n col)).1 * 16 + (nominalLevels (w.m n col)).2 ∧
      t.regs = s.regs ∧ t.wts.jtiles = s.wts.jtiles ∧ t.hbm = s.hbm ∧ t.log = s.log := by
  refine ⟨_, State.programRow_fresh hb w, State.burst_setBurst_same .., ?_, ?_, ?_, ?_, ?_⟩
  · rw [State.setBurst_core]
    exact s.cells_programmed (fun c => nominalLevels (w.m n c)) (List.mem_range.2 hcol)
  · rw [State.setBurst_regs]
    exact State.forEach_setPair_keeps State.regs (fun _ _ _ _ _ => rfl) s key n _ _ _
  · rw [State.setBurst_jtiles]
    exact State.forEach_setPair_keeps (fun u => u.wts.jtiles) (fun _ _ _ _ _ => rfl) s key n _ _ _
  · rw [State.setBurst_hbm]
    exact State.forEach_setPair_keeps State.hbm (fun _ _ _ _ _ => rfl) s key n _ _ _
  · rw [State.setBurst_log]
    exact State.forEach_setPair_keeps State.log (fun _ _ _ _ _ => rfl) s key n _ _ _

/-- The next row of a tile whose chunk can be read, inside both windows (R353, R354, R359). -/
theorem State.programBurst_of_row {s : State} {key n : Nat} {run : LoadRun} {w c : WTile} {r : FlashRead}
    (hprogram : s.programOf key = some (run, w)) (hengine : s.engineTile key = some key) (hb : s.burst key = { next := n })
    (hn : 0 < n ∧ n < 1024) (hwindow : s.writeWindow = true) (htemp : 60 ≤ s.roOf (key / 1024) ∧ s.roOf (key / 1024) < 300)
    (hchunk : s.chunkOf run w = some c) (hpath : c.pathOk = true) : s.programBurst key [] r = s.programRow key c [] := by
  obtain ⟨hpos, hlt⟩ := hn
  obtain ⟨hcold, hhot⟩ := htemp
  have hnext : (s.burst key).next = n := by rw [hb]
  unfold State.programBurst
  rw [hprogram]
  dsimp only
  rw [hnext, if_neg (by simp [hengine, hwindow]; omega), if_neg (by omega), if_neg (by omega), hchunk]
  dsimp only
  rw [if_neg (by simp [hpath]), beq_eq_false_iff_ne.2 (by omega), State.when_false]

end Machine

open Machine

theorem tileKey_div (k : CoreNo) (x : TileNo) : tileKey k x / 1024 = k.val := by
  rw [tileKey]
  omega
theorem tileKey_mod (k : CoreNo) (x : TileNo) : tileKey k x % 1024 = x.val := by
  rw [tileKey]
  omega
theorem tileKey_lt (k : CoreNo) (x : TileNo) : tileKey k x < 16384 := by
  rw [tileKey]
  omega

/-- A burst inside the window programs the next row of its tile to the levels of its weights. -/
theorem programBurst_completes (s : State) (k : CoreNo) (x : TileNo) (r : FlashRead) (run : LoadRun) (w c : WTile) (n col : Nat)
    (hprogram : s.programOf (tileKey k x) = some (run, w)) (hengine : s.engineTile (tileKey k x) = some (tileKey k x))
    (hb : s.burst (tileKey k x) = { next := n }) (hn : 0 < n ∧ n < 1024 ∧ col < 1024)
    (hwindow : s.writeWindow = true ∧ 60 ≤ s.roOf k ∧ s.roOf k < 300) (hchunk : s.chunkOf run w = some c ∧ c.pathOk = true) :
    Completes (.programBurst k x [] r) s fun t => let lv := nominalLevels (c.m n col); (t.burst (tileKey k x)).next = n + 1 ∧
      SMap.get cellDefault t.core.cells (cellKey k x (weightPcol col) n) = lv.1 * 16 + lv.2 ∧ RegsExcept [] s t ∧
      t.wts.jtiles = s.wts.jtiles ∧ t.hbm = s.hbm ∧ t.log = s.log := by
  obtain ⟨hpos, hlt, hcol⟩ := hn
  obtain ⟨hopen, htemp⟩ := hwindow
  rw [← tileKey_div k x] at htemp
  have hrow := State.programBurst_of_row (r := r) hprogram hengine hb ⟨hpos, hlt⟩ hopen htemp hchunk.1 hchunk.2
  obtain ⟨t, ht, hburst, hcells, hregs, hjtiles, hhbm, hlog⟩ := State.programRow_effect hb c hcol
  exact ⟨t, congrArg Host.Outcome.next (hrow.trans ht), congrArg Burst.next hburst, hcells, RegsExcept.of_regs _ hregs, hjtiles, hhbm, hlog⟩

end Sys2Proof
end

section
set_option Elab.async false

/-! ### Tiles that a load has done, and spill contents -/

namespace Sys2Proof

/-- A key whose entries are all left out of a store reads as an unlisted one. -/
theorem SMap.get_filter_none {α : Type} (d : Nat → α) {q : Nat × α → Bool} {k : Nat} (h : ∀ v, q (k, v) = false) (m : SMap α) :
    SMap.get d (m.filter q) k = d k := by
  induction m with
  | nil => rfl
  | cons e m ih =>
    obtain ⟨j, v⟩ := e
    by_cases hq : q (j, v) = true
    · have hj : j ≠ k := fun hj => by rw [hj, h] at hq; exact absurd hq (by decide)
      rw [List.filter_cons_of_pos hq, SMap.get_cons, if_neg hj, ih]
    · rw [List.filter_cons_of_neg hq, ih]

namespace Machine

/-! #### A tile whose work is over -/

/-- No load has a tile in work that was dropped. -/
theorem State.clear_dropTile (s : State) (key : Nat) : ((s.dropTile key).wts.loads.any fun r => r.clear.contains key) = false := by
  rw [State.dropTile, List.any_map, List.any_eq_false]
  intro r _
  simp

theorem State.programOf_congr {s t : State} (h : s.wts = t.wts) (key : Nat) : s.programOf key = t.programOf key := by
  rw [State.programOf, h]
  rfl

theorem State.programOf_dropTile (s : State) (key : Nat) : (s.dropTile key).programOf key = none := by
  rw [State.programOf, State.dropTile, List.findSome?_eq_none_iff]
  intro r hr
  obtain ⟨r', -, rfl⟩ := List.mem_map.1 hr
  simp

theorem State.dropTile_core (s : State) (key : Nat) : (s.dropTile key).core = s.core := rfl
theorem State.dropTile_regs (s : State) (key : Nat) : (s.dropTile key).regs = s.regs := rfl
theorem State.dropTile_hbm (s : State) (key : Nat) : (s.dropTile key).hbm = s.hbm := rfl
theorem State.dropTile_recs (s : State) (key : Nat) : (s.dropTile key).wts.recs = s.wts.recs := rfl
theorem State.dropTile_log (s : State) (key : Nat) : (s.dropTile key).log = s.log := rfl

/-! #### TILE_CLEAR_DONE (R356) -/

/-- The cells of the weight and spare columns of a tile return to the levels (0, 0). -/
def State.clearCells (s : State) (key : Nat) : State :=
  { s with core := { s.core with cells := s.core.cells.filter fun e => e.1 / 1024 / 2048 != key || isRefPcol (e.1 / 1024 % 2048) } }

theorem State.cells_clearCells (s : State) {k x r pc : Nat} (hr : r < 1024) (hpc : pc < 2048) (href : isRefPcol pc = false) :
    SMap.get cellDefault (s.clearCells (tileKey k x)).core.cells (cellKey k x pc r) = 0 := by
  have hcol : cellKey k x pc r / 1024 % 2048 = pc := by
    rw [cellKey, colKey]
    omega
  have htile : cellKey k x pc r / 1024 / 2048 = tileKey k x := by
    rw [cellKey, colKey]
    omega
  have hdefault : cellDefault (cellKey k x pc r) = 0 := by
    rw [cellDefault, hcol, href]
    rfl
  rw [← hdefault]
  exact SMap.get_filter_none _ (fun v => by simp [hcol, htile, href]) _

/-- The spares of a tile are free. -/
def State.freeSpares (s : State) (k x : Nat) : State := s.forEach (List.range 64) fun s i => s.wr (Reg.TILE_SPARE k x i) 0

theorem State.rd_freeSpares (s : State) {k x i : Nat} (hi : i ∈ List.range 64) : (s.freeSpares k x).rd (Reg.TILE_SPARE k x i) = 0 := by
  refine State.forEach_reaches (fun u => u.rd (Reg.TILE_SPARE k x i) = 0) (fun u j _ h => ?_) hi (fun u => State.rd_wr_same _ _ _ (by decide)) s
  by_cases hj : Reg.TILE_SPARE k x j = Reg.TILE_SPARE k x i
  · rw [hj]
    exact State.rd_wr_same _ _ _ (by decide)
  · rw [State.rd_wr_ne hj, h]

/-- The clearing of a tile inside the windows of R354 and R456. -/
theorem State.tileClear_of_window {s : State} {key : Nat} (hclear : (s.wts.loads.any fun r => r.clear.contains key) = true)
    (hengine : s.engineTile key = some key) (hwindow : s.writeWindow = true)
    (htemp : 60 ≤ s.roOf (key / 1024) ∧ s.roOf (key / 1024) < 300) : s.tileClear key =
      (((s.clearCells key).freeSpares (key / 1024) (key % 1024)).setTileState (key / 1024) (key % 1024) 0).dropTile key := by
  obtain ⟨hcold, hhot⟩ := htemp
  rw [State.tileClear]
  dsimp only
  rw [if_neg (by simp only [hclear, hengine, hwindow]; simp; omega)]
  rfl

theorem State.replaceStuck_regs (s : State) (key : Nat) (l : List StuckRec) : (s.replaceStuck key l).regs = s.regs := rfl

/-! #### TILE_PROGRAM_DONE and TILE_RESTORE (R355, R361) -/

theorem stat_not_mem_pload {p : Nat} (hp : p < 64) (k x : Nat) : Reg.TILE_STAT k x ∉ [Reg.FLS_PLOAD p] :=
  fun h => stat_not_mem_ploadRegs hp k x (List.mem_append_left logRegs h)

/-- The registers of a tile's last step: its load's FLS_PLOAD counts one tile more. -/
theorem State.countTile_effect (s : State) (p key n : Nat) : ∀ u, u = (s.dropTile key).setF (Reg.FLS_PLOAD p) Fld.FLS_PLOAD_TDONE n →
    u.fld (Reg.FLS_PLOAD p) Fld.FLS_PLOAD_TDONE = n % 2 ^ 15 ∧ u.core = s.core ∧ u.hbm = s.hbm ∧ u.wts = (s.dropTile key).wts ∧
    RegsExcept [Reg.FLS_PLOAD p] s u := by
  rintro u rfl
  exact ⟨State.fld_setF_same _ _ _ _ (by decide), State.setF_core .., State.setF_hbm .., State.setF_wts ..,
    State.setF_regsExcept _ (by simp) _ _⟩

/-- The tile record of R352 that a tile's burst state gives. -/
def Burst.record (b : Burst) (imageId key : Nat) (fmt : Bool) : TileRec :=
  { imageId := imageId
    tile := key
    degraded := b.unrep != []
    fmt := fmt
    unrep := b.unrep.length
    sparesUsed := (b.spareMap.filter fun c => c.isSome).length
    ok := true
    spares := b.spareMap.map fun c => match c with
      | some c => 0x8000 + c
      | none => 0
    unrepCols := b.unrep }

/-- The tile record is written. -/
def State.setRec (s : State) (key : Nat) (e : TileRec) : State :=
  { s with wts := { s.wts with recs := SMap.set (fun _ => none) s.wts.recs key (some e) } }

theorem State.setRec_regs (s : State) (key : Nat) (e : TileRec) : (s.setRec key e).regs = s.regs := rfl
theorem State.setRec_core (s : State) (key : Nat) (e : TileRec) : (s.setRec key e).core = s.core := rfl
theorem State.setRec_hbm (s : State) (key : Nat) (e : TileRec) : (s.setRec key e).hbm = s.hbm := rfl

theorem State.rec_setRec_same (s : State) (key : Nat) (e : TileRec) : SMap.get (fun _ => none) (s.setRec key e).wts.recs key = some e :=
  SMap.get_set_same (fun _ => none) s.wts.recs key (some e)

/-- A tile whose 1,024 rows are programmed, and which the verify sweeps found good: its record is written, and it takes its configuration,
its state and its corrections. -/
theorem State.tileDone_of_swept {s : State} {key : Nat} {run : LoadRun} {w : WTile} (hprogram : s.programOf key = some (run, w))
    (hnext : (s.burst key).next = 1024) (hwindow : s.writeWindow = true) : ∃ (x : WTile) (l : List StuckRec),
    ∀ e v, e = (s.burst key).record run.image.imageId key x.fmt →
      v = (((((s.setRec key e).setJtile key run.part 2).writeTileCfg key x e.spares).tileReady key e).replaceStuck key l) →
      s.tileDone key [] = (v.dropTile key).setF (Reg.FLS_PLOAD run.part) Fld.FLS_PLOAD_TDONE
        (v.fld (Reg.FLS_PLOAD run.part) Fld.FLS_PLOAD_TDONE + 1) := by
  refine ⟨(s.chunkOf run w).getD w, (s.burst key).known.map (stuckRec key ((s.chunkOf run w).getD w) (s.burst key)), ?_⟩
  rintro e v rfl rfl
  unfold State.tileDone
  rw [hprogram]
  dsimp only
  rw [if_neg (by simp [hnext, hwindow]), Burst.learn_nil, List.filterMap_nil, List.foldl_nil]
  rfl

/-- The last step of a tile that a load has done: what it shows, and what it leaves. -/
theorem State.tileDone_effect {s : State} {key : Nat} {run : LoadRun} {w : WTile} (hkey : key < 16384)
    (hprogram : s.programOf key = some (run, w)) (hnext : (s.burst key).next = 1024) (hwindow : s.writeWindow = true)
    (hpart : run.part < 64) : ∃ t e, s.tileDone key [] = t ∧ e.imageId = run.image.imageId ∧ e.tile = key ∧ e.degraded = ((s.burst key).unrep != []) ∧
      t.tileState (key / 1024) (key % 1024) = (if e.degraded then 3 else 2) ∧ SMap.get (fun _ => none) t.wts.recs key = some e ∧
      t.fld (Reg.FLS_PLOAD run.part) Fld.FLS_PLOAD_TDONE = (s.fld (Reg.FLS_PLOAD run.part) Fld.FLS_PLOAD_TDONE + 1) % 2 ^ 15 ∧
      t.programOf key = none ∧ t.core.cells = s.core.cells ∧ t.hbm = s.hbm := by
  obtain ⟨x, l, h⟩ := State.tileDone_of_swept hprogram hnext hwindow
  generalize he : (s.burst key).record run.image.imageId key x.fmt = e at h
  generalize hv : (((((s.setRec key e).setJtile key run.part 2).writeTileCfg key x e.spares).tileReady key e).replaceStuck key l) = v
  have hwork : TileWork (s.setRec key e) v :=
    hv ▸ ((((TileWork.refl (s.setRec key e)).setJtile).writeTileCfg hkey).tileReady hkey).replaceStuck
  have hstate : v.tileState (key / 1024) (key % 1024) = if e.degraded then 3 else 2 := by
    rw [← hv, State.tileState_congr (RegsExcept.of_regs [] (State.replaceStuck_regs ..)) (by simp), State.tileState_tileReady]
  obtain ⟨htdone, hcore, hhbm, hwts, hregs⟩ :=
    v.countTile_effect run.part key (v.fld (Reg.FLS_PLOAD run.part) Fld.FLS_PLOAD_TDONE + 1) _ rfl
  refine ⟨_, e, h e v rfl hv.symm, he ▸ rfl, he ▸ rfl, he ▸ rfl, ?_, ?_, ?_, ?_, ?_, ?_⟩
  · rw [State.tileState_congr hregs (stat_not_mem_pload hpart _ _), hstate]
  · rw [hwts, State.dropTile_recs, hwork.recs, State.rec_setRec_same]
  · rw [htdone, hwork.pload_fld, (RegsExcept.of_regs [] (s.setRec_regs key e)).fld List.not_mem_nil]
  · exact (State.programOf_congr hwts key).trans (v.programOf_dropTile key)
  · rw [hcore, hwork.cells, State.setRec_core]
  · rw [hhbm, hwork.hbm, State.setRec_hbm]

/-! #### What a flash read leaves (R364) -/

/-- The registers in which the flash controller counts and reports its reads. -/
def flashRegs : List Nat := [Reg.FLS_CECNT, Reg.FLS_UECNT, Reg.FLS_RETRYCNT, Reg.FLS_STAT]

theorem State.flashRead_inv {P : State → Prop} (hwr : ∀ u a v, a ∈ flashRegs → P u → P (State.wr u a v)) {s : State} (h : P s) (r : FlashRead) :
    P (s.flashRead r) := by
  unfold State.flashRead
  extract_lets s1 s2
  have h1 : P s1 := hwr _ _ _ (by simp [flashRegs]) (hwr _ _ _ (by simp [flashRegs]) (hwr _ _ _ (by simp [flashRegs]) h))
  have h2 : P s2 := State.when_inv P _ _ h1 (hwr _ _ _ (by simp [flashRegs]) h1)
  exact State.when_inv P _ _ h2 (hwr _ _ _ (by simp [flashRegs]) h2)

theorem State.flashRead_regsExcept (s : State) (r : FlashRead) : RegsExcept flashRegs s (s.flashRead r) :=
  State.flashRead_inv (fun u _ v ha h => h.trans (u.wr_regsExcept ha v)) (RegsExcept.refl _ s) r

theorem State.flashRead_blocks (s : State) (r : FlashRead) :
    (s.flashRead r).wts = s.wts ∧ (s.flashRead r).core = s.core ∧ (s.flashRead r).hbm = s.hbm ∧ (s.flashRead r).log = s.log :=
  State.flashRead_inv (P := fun u => u.wts = s.wts ∧ u.core = s.core ∧ u.hbm = s.hbm ∧ u.log = s.log) (fun _ _ _ _ h => h) ⟨rfl, rfl, rfl, rfl⟩ r

theorem State.chunkOf_congr {s t : State} (h : s.wts = t.wts) (run : LoadRun) (w : WTile) : s.chunkOf run w = t.chunkOf run w := by
  unfold State.chunkOf State.slotImage
  rw [h]

theorem State.spillOf_congr {s t : State} (h : s.wts = t.wts) (run : LoadRun) (w : WSpill) : s.spillOf run w = t.spillOf run w := by
  unfold State.spillOf State.slotImage
  rw [h]

theorem State.goodRec_congr {s t : State} (h : s.wts = t.wts) (key imageId : Nat) : s.goodRec key imageId = t.goodRec key imageId := by
  unfold State.goodRec
  rw [h]

theorem State.tileFence_congr {s t : State} (h : s.log = t.log) (k x : Nat) : s.tileFence k x = t.tileFence k x := by
  rw [State.tileFence, h]
  rfl

/-- The restore of a tile that is not fenced, from a chunk that can be read and a record that checks (R361). -/
theorem State.tileRestore_of_good {s : State} {key : Nat} {r : FlashRead} {run : LoadRun} {w c : WTile} {e : TileRec}
    (hrestore : (s.wts.loads.findSome? fun run => (run.restore.find? fun e => e.1 == key).map fun e => (run, e.2)) = some (run, w))
    (hengine : s.engineTile key = some key) (hchunk : s.chunkOf run w = some c) (hrec : s.goodRec key run.image.imageId = some e)
    (hfence : s.tileFence (key / 1024) (key % 1024) = 0) : ∀ v, v = ((s.flashRead r).writeTileCfg key c e.spares).tileReady key e →
      s.tileRestore key r = (v.dropTile key).setF (Reg.FLS_PLOAD run.part) Fld.FLS_PLOAD_TDONE
        ((s.flashRead r).fld (Reg.FLS_PLOAD run.part) Fld.FLS_PLOAD_TDONE + 1) := by
  rintro v rfl
  obtain ⟨hwts, -, -, hlog⟩ := s.flashRead_blocks r
  rw [State.tileRestore, hrestore]
  dsimp only
  rw [if_neg (not_not_intro hengine), State.chunkOf_congr hwts, hchunk, State.goodRec_congr hwts, hrec]
  dsimp only
  rw [State.restoreTile, if_neg (by rw [State.tileFence_congr hlog]; exact not_not_intro hfence)]

/-- The last step of a tile that a load restores: what it shows, and what it leaves. -/
theorem State.tileRestore_effect {s : State} {key : Nat} {r : FlashRead} {run : LoadRun} {w c : WTile} {e : TileRec} (hkey : key < 16384)
    (hrestore : (s.wts.loads.findSome? fun run => (run.restore.find? fun e => e.1 == key).map fun e => (run, e.2)) = some (run, w))
    (hengine : s.engineTile key = some key) (hchunk : s.chunkOf run w = some c) (hrec : s.goodRec key run.image.imageId = some e)
    (hfence : s.tileFence (key / 1024) (key % 1024) = 0) (hpart : run.part < 64) : ∃ t, s.tileRestore key r = t ∧
      t.tileState (key / 1024) (key % 1024) = (if e.degraded then 3 else 2) ∧
      t.fld (Reg.FLS_PLOAD run.part) Fld.FLS_PLOAD_TDONE = (s.fld (Reg.FLS_PLOAD run.part) Fld.FLS_PLOAD_TDONE + 1) % 2 ^ 15 ∧
      t.core.cells = s.core.cells ∧ t.hbm = s.hbm := by
  have hread : TileWork s (s.flashRead r) := (TileWork.refl s).flashRead
  have hwork : TileWork s (((s.flashRead r).writeTileCfg key c e.spares).tileReady key e) := (hread.writeTileCfg hkey).tileReady hkey
  have hstate := ((s.flashRead r).writeTileCfg key c e.spares).tileState_tileReady key e
  have h := State.tileRestore_of_good (r := r) hrestore hengine hchunk hrec hfence _ rfl
  generalize ((s.flashRead r).writeTileCfg key c e.spares).tileReady key e = v at h hwork hstate
  obtain ⟨htdone, hcore, hhbm, -, hregs⟩ :=
    v.countTile_effect run.part key ((s.flashRead r).fld (Reg.FLS_PLOAD run.part) Fld.FLS_PLOAD_TDONE + 1) _ rfl
  refine ⟨_, h, ?_, ?_, ?_, ?_⟩
  · rw [State.tileState_congr hregs (stat_not_mem_pload hpart _ _), hstate]
  · rw [htdone, hread.pload_fld]
  · rw [hcore, hwork.cells]
  · rw [hhbm, hwork.hbm]

/-! #### SPILL_WRITE (R350 step 11) -/

theorem State.gran_setGran (s : State) (g h : Nat) (v : Granule) (q : Bool) : (s.setGran g v q).gran h = if g = h then v else s.gran h :=
  SMap.get_set ..

/-- A content is written granule by granule. -/
def State.putContent (s : State) (g : Nat) (l : List Granule) : State := s.forEach l.zipIdx fun s e => s.setGran (g + e.2) e.1 false

/-- Each granule of a content that is written stands in its place. -/
theorem State.gran_written (s : State) (g : Nat) {l : List Granule} {i : Nat} (hi : i < l.length) :
    (s.putContent g l).gran (g + i) = nth 0 l i := by
  have hl : l[i]? = some (nth 0 l i) := by rw [nth, List.getD_eq_getElem _ _ hi, List.getElem?_eq_getElem hi]
  refine State.forEach_reaches (fun u => u.gran (g + i) = nth 0 l i) (fun u e he h => ?_) (List.mk_mem_zipIdx_iff_getElem?.2 hl) (fun u => ?_) s
  · rw [State.gran_setGran]
    split
    · next hplace =>
      have hsame : l[e.2]? = some e.1 := List.mk_mem_zipIdx_iff_getElem?.1 he
      rw [Nat.add_left_cancel hplace, hl] at hsame
      exact (Option.some.inj hsame).symm
    · exact h
  · rw [State.gran_setGran, if_pos rfl]

/-- A content reaches the memory alone. -/
theorem State.putContent_blocks (s : State) (g : Nat) (l : List Granule) :
    (s.putContent g l).wts = s.wts ∧ (s.putContent g l).core = s.core ∧ (s.putContent g l).log = s.log :=
  State.forEach_inv (fun u => u.wts = s.wts ∧ u.core = s.core ∧ u.log = s.log) (fun s (e : Granule × Nat) => s.setGran (g + e.2) e.1 false)
    (fun _ _ h => h) l.zipIdx s ⟨rfl, rfl, rfl⟩

/-- A flash read leaves the base of a region that a handle names. -/
theorem State.regionBase_flashRead {s : State} {p h rgn : Nat} (hrgn : s.handleRegion p h = some rgn) (r : FlashRead) :
    (s.flashRead r).regionBase rgn = s.regionBase rgn := by
  have hlt : rgn < 1024 := by
    unfold State.handleRegion at hrgn
    extract_lets a q at hrgn
    have hq : q < 1024 := bits_lt _ _ 10
    split_ifs at hrgn
    exact Option.some.inj hrgn ▸ hq
  have hreg : Reg.HBM_RGNB rgn ∉ flashRegs := by
    simp [flashRegs, Reg.HBM_RGNB, Reg.FLS_CECNT, Reg.FLS_UECNT, Reg.FLS_RETRYCNT, Reg.FLS_STAT]
    omega
  rw [State.regionBase, (s.flashRead_regsExcept r).fld hreg]
  rfl

/-- The last step of a spill content: it is written, counted to its region's tenant, and leaves its load. -/
theorem State.spillWrite_of_content {s : State} {p : Nat} {r : FlashRead} {run : LoadRun} {w c : WSpill} {rest : List WSpill} {rgn : Nat}
    (hloads : s.wts.loads = [run]) (hpart : run.part = p) (hkeys : run.keys = []) (hspills : run.spills = w :: rest)
    (hrgn : s.handleRegion p w.lregion = some rgn) (hinit : s.rgnInit rgn = false) (hcontent : s.spillOf run w = some c) :
    ∀ u, u = (s.flashRead r).putContent (s.regionBase rgn + c.roff / 32) c.content →
      s.spillWrite p r = (u.addHbmb (u.rgnTenant rgn) (32 * c.content.length)).setLoad p fun x => { x with spills := rest } := by
  rintro u rfl
  rw [State.spillWrite, hloads, find_part_singleton hpart]
  dsimp only
  rw [hspills]
  dsimp only
  rw [hrgn]
  dsimp only
  rw [if_neg (by simp [hkeys, hinit]), State.spillOf_congr (s.flashRead_blocks r).1, hcontent]
  dsimp only
  rw [State.regionBase_flashRead hrgn, ← State.putContent]

/-- A load that leaves a spill content out of its work, after a count of memory traffic. -/
theorem State.setLoad_addHbmb_blocks (u : State) (m n p : Nat) (f : LoadRun → LoadRun) :
    ((u.addHbmb m n).setLoad p f).wts.loads = u.wts.loads.map (fun r => if r.part = p then f r else r) ∧
    ((u.addHbmb m n).setLoad p f).core = u.core ∧ ((u.addHbmb m n).setLoad p f).log = u.log ∧
    ((u.addHbmb m n).setLoad p f).hbm = u.hbm := ⟨rfl, rfl, rfl, rfl⟩

theorem State.gran_congr {s t : State} (h : s.hbm = t.hbm) (g : Nat) : s.gran g = t.gran g := by
  rw [State.gran, h]
  rfl

/-- A spill content reaches its region: what the write of it leaves. -/
theorem State.spillWrite_effect {s : State} {p : Nat} {r : FlashRead} {run : LoadRun} {w c : WSpill} {rest : List WSpill} {rgn i : Nat}
    (hloads : s.wts.loads = [run]) (hpart : run.part = p) (hkeys : run.keys = []) (hspills : run.spills = w :: rest)
    (hrgn : s.handleRegion p w.lregion = some rgn) (hinit : s.rgnInit rgn = false) (hcontent : s.spillOf run w = some c)
    (hi : i < c.content.length) : ∃ t, s.spillWrite p r = t ∧ t.gran (s.regionBase rgn + c.roff / 32 + i) = nth 0 c.content i ∧
      t.wts.loads = [{ run with spills := rest }] ∧ t.core = s.core ∧ t.log = s.log := by
  have h := State.spillWrite_of_content (r := r) hloads hpart hkeys hspills hrgn hinit hcontent _ rfl
  have hgran := (s.flashRead r).gran_written (s.regionBase rgn + c.roff / 32) hi
  obtain ⟨hwts, hcore, hlog⟩ := (s.flashRead r).putContent_blocks (s.regionBase rgn + c.roff / 32) c.content
  obtain ⟨hwts', hcore', -, hlog'⟩ := s.flashRead_blocks r
  generalize (s.flashRead r).putContent (s.regionBase rgn + c.roff / 32) c.content = u at *
  obtain ⟨huloads, hucore, hulog, huhbm⟩ :=
    u.setLoad_addHbmb_blocks (u.rgnTenant rgn) (32 * c.content.length) p fun x => { x with spills := rest }
  refine ⟨_, h, ?_, ?_, hucore.trans (hcore.trans hcore'), hulog.trans (hlog.trans hlog')⟩
  · rw [State.gran_congr huhbm, hgran]
  · rw [huloads, hwts, hwts', hloads, List.map_singleton, if_pos hpart]

end Machine

open Machine

/-- A cleared tile holds no weight and no spare, and is in state 0. -/
theorem tileClearDone_completes (s : State) (k : CoreNo) (x : TileNo) (r pc : Nat)
    (hclear : (s.wts.loads.any fun r => r.clear.contains (tileKey k x)) = true)
    (hengine : s.engineTile (tileKey k x) = some (tileKey k x)) (hwindow : s.writeWindow = true ∧ 60 ≤ s.roOf k ∧ s.roOf k < 300)
    (hplace : r < 1024 ∧ pc < 1104 ∧ isRefPcol pc = false) :
    Completes (.tileClearDone k x) s fun t => t.tileState k x = 0 ∧ SMap.get cellDefault t.core.cells (cellKey k x pc r) = 0 ∧
      (∀ i ∈ List.range 64, t.rd (Reg.TILE_SPARE k x i) = 0) ∧ (t.wts.loads.any fun r => r.clear.contains (tileKey k x)) = false ∧
      t.hbm = s.hbm ∧ t.log = s.log := by
  obtain ⟨hopen, htemp⟩ := hwindow
  obtain ⟨hr, hpc, href⟩ := hplace
  rw [← tileKey_div k x] at htemp
  have h := State.tileClear_of_window hclear hengine hopen htemp
  rw [tileKey_div, tileKey_mod] at h
  have hspare (i : Nat) : Reg.TILE_STAT k x ≠ Reg.TILE_SPARE k x i := by simp only [Reg.TILE_STAT, Reg.TILE_SPARE]; omega
  have hkeep {β : Type} (g : State → β) (hg : ∀ u a v, g (State.wr u a v) = g u) (u : State) : g (u.freeSpares k x) = g u :=
    State.forEach_keeps g _ (fun u i => hg u _ 0) _ u
  refine ⟨_, congrArg Host.Outcome.next h, ?_, ?_, fun i hi => ?_, State.clear_dropTile .., ?_, ?_⟩
  · rw [State.tileState_congr (RegsExcept.of_regs [] (State.dropTile_regs ..)) (by simp), State.tileState_setTileState]
  · rw [State.dropTile_core, State.setTileState, State.setF_core, hkeep State.core State.wr_core]
    exact s.cells_clearCells hr (by omega) href
  · rw [State.rd_congr (State.dropTile_regs ..), State.setTileState, State.rd_setF_ne (hspare i), State.rd_freeSpares _ hi]
  · rw [State.dropTile_hbm, State.setTileState, State.setF_hbm, hkeep State.hbm State.wr_hbm]
    rfl
  · rw [State.dropTile_log, State.setTileState, State.setF_log, hkeep State.log State.wr_log]
    rfl

/-- A tile that is programmed is ready or degraded by its record. -/
theorem tileProgramDone_completes (s : State) (k : CoreNo) (x : TileNo) (run : LoadRun) (w : WTile)
    (hprogram : s.programOf (tileKey k x) = some (run, w)) (hnext : (s.burst (tileKey k x)).next = 1024) (hwindow : s.writeWindow = true)
    (hpart : run.part < 64) :
    Completes (.tileProgramDone k x []) s fun t => t.tileState k x = (if (s.burst (tileKey k x)).unrep = [] then 2 else 3) ∧
      (SMap.get (fun _ => none) t.wts.recs (tileKey k x)).map (fun r => (r.imageId, r.tile, r.degraded)) =
        some (run.image.imageId, tileKey k x, (s.burst (tileKey k x)).unrep != []) ∧
      t.fld (Reg.FLS_PLOAD run.part) Fld.FLS_PLOAD_TDONE = (s.fld (Reg.FLS_PLOAD run.part) Fld.FLS_PLOAD_TDONE + 1) % 2 ^ 15 ∧
      (t.programOf (tileKey k x)).isNone = true ∧ t.core.cells = s.core.cells ∧ t.hbm = s.hbm := by
  obtain ⟨t, e, ht, himage, htile, hdegraded, hstate, hrec, htdone, hnone, hcells, hhbm⟩ :=
    State.tileDone_effect (tileKey_lt k x) hprogram hnext hwindow hpart
  rw [tileKey_div, tileKey_mod] at hstate
  refine ⟨t, congrArg Host.Outcome.next ht, ?_, ?_, htdone, ?_, hcells, hhbm⟩
  · rw [hstate, hdegraded]
    by_cases h : (s.burst (tileKey k x)).unrep = []
    · rw [if_pos h, h]
      rfl
    · rw [if_neg h, if_pos (by simpa using h)]
  · rw [hrec, ← himage, ← hdegraded]
    exact congrArg (fun n => some (e.imageId, n, e.degraded)) htile
  · rw [hnone]
    rfl

/-- A restored tile is ready or degraded by its record. -/
theorem tileRestore_completes (s : State) (k : CoreNo) (x : TileNo) (r : FlashRead) (run : LoadRun) (w c : WTile) (e : TileRec)
    (hrestore : (s.wts.loads.findSome? fun run => (run.restore.find? fun e => e.1 == tileKey k x).map fun e => (run, e.2)) = some (run, w))
    (hengine : s.engineTile (tileKey k x) = some (tileKey k x)) (hchunk : s.chunkOf run w = some c)
    (hrec : s.goodRec (tileKey k x) run.image.imageId = some e) (hfence : s.tileFence k x = 0) (hpart : run.part < 64) :
    Completes (.tileRestore k x r) s fun t => t.tileState k x = (if e.degraded then 3 else 2) ∧
      t.fld (Reg.FLS_PLOAD run.part) Fld.FLS_PLOAD_TDONE = (s.fld (Reg.FLS_PLOAD run.part) Fld.FLS_PLOAD_TDONE + 1) % 2 ^ 15 ∧
      t.core.cells = s.core.cells ∧ t.hbm = s.hbm := by
  obtain ⟨t, ht, hstate, heffect⟩ := State.tileRestore_effect (r := r) (tileKey_lt k x) hrestore hengine hchunk hrec
    (by rwa [tileKey_div, tileKey_mod]) hpart
  rw [tileKey_div, tileKey_mod] at hstate
  exact ⟨t, congrArg Host.Outcome.next ht, hstate, heffect⟩

/-- Settles O19, by the effect of each command of a load: its start, its abort, the work of the engines, its spill contents and its end. -/
theorem loadCommandsComplete : Obligations.LoadCommandsComplete := by
  refine ⟨load_completes, loadResume_completes, fun s p r key hloads hrun _ _ _ hkey => loadAbort_completes s p r key hloads hrun hkey,
    programBurst_completes, tileProgramDone_completes, tileClearDone_completes, tileRestore_completes,
    fun s p r run w c rest rgn i hloads hrun hspills hrgn hcontent hi => ?_, loadComplete_completes⟩
  obtain ⟨t, ht, heffect⟩ := State.spillWrite_effect (r := r) hloads hrun.1 hrun.2 hspills hrgn.1 hrgn.2 hcontent hi
  exact ⟨t, congrArg Host.Outcome.next ht, heffect⟩

end Sys2Proof
end

section
set_option Elab.async false

/-! ### Faults and bundles of a context -/

namespace Sys2Proof

namespace Machine

/-! #### Loops of register writes -/

theorem State.forEach_wr_regsExcept {l : List Nat} {g v : Nat → Nat} {R : List Nat} (h : ∀ i ∈ l, g i ∈ R) (s : State) :
    RegsExcept R s (s.forEach l fun s i => s.wr (g i) (v i)) :=
  State.forEach_mem (RegsExcept R s) _ (fun u i hi hu => hu.trans (u.wr_regsExcept (h i hi) _)) s (RegsExcept.refl R s)

theorem State.rd_forEach_wr {l : List Nat} {g v : Nat → Nat} (hg : Function.Injective g) {i : Nat} (hi : i ∈ l) (s : State) :
    (s.forEach l fun s i => s.wr (g i) (v i)).rd (g i) = v i % 2 ^ 32 := by
  refine State.forEach_reaches (fun u => u.rd (g i) = v i % 2 ^ 32) (fun u j _ h => ?_) hi (fun u => u.rd_wr_mod _ _) s
  rcases eq_or_ne j i with rfl | hj
  · exact u.rd_wr_mod _ _
  · rw [State.rd_wr_ne (hg.ne hj), h]

/-! #### The report of a fault (R187, R188, R190) -/

/-- The registers that a fault of a context may change: its RUN, the core's status, its report, and the log's. -/
def faultRegs (k n : Nat) : List Nat :=
  [Reg.CORE_CTXCTL k n, Reg.CORE_STAT k, Reg.CORE_FLTINFO k n] ++ (List.range 4).map (Reg.CORE_FLTOPND k n) ++
    (List.range 8).map (Reg.CORE_FLTBW k n) ++ logRegs

theorem logRegs_subset_faultRegs (k n : Nat) : logRegs ⊆ faultRegs k n := List.subset_append_right _ _

theorem not_mem_logRegs {a : Nat} (h : 0x1000000 ≤ a) : a ∉ logRegs := by
  intro ha
  simp only [logRegs, List.mem_cons, List.not_mem_nil, or_false, Reg.LOG_SEQ_LO, Reg.LOG_SEQ_HI, Reg.LOG_QSTAT, Reg.LOG_SUPCNT,
    Reg.LOG_STAT] at ha
  omega

/-- Of core `k` a fault of context `n` changes the control word of the context, the core's status and the fault reports. -/
theorem mem_faultRegs {k n a : Nat} (ha : a ∈ faultRegs k n) : a = Reg.CORE_CTXCTL k n ∨ a = Reg.CORE_STAT k ∨
    (0x1000400 + k * 0x100000 + n * 0x40 ≤ a ∧ a < 0x1000440 + k * 0x100000 + n * 0x40) ∨ a < 0x1000000 := by
  simp only [faultRegs, List.mem_append, List.mem_cons, List.not_mem_nil, or_false, List.mem_map, List.mem_range, Reg.CORE_FLTINFO,
    Reg.CORE_FLTOPND, Reg.CORE_FLTBW] at ha
  rcases ha with (((ha | ha | ha) | ⟨i, hi, ha⟩) | ⟨i, hi, ha⟩) | ha
  · exact .inl ha
  · exact .inr (.inl ha)
  · omega
  · omega
  · omega
  · exact .inr (.inr (.inr (not_le.1 fun h => not_mem_logRegs h ha)))

/-- The word of CORE_FLTINFO that reports a fault. -/
def faultWord (pc slot reason : Nat) : Nat := 2 ^ 31 + slot % 8 * 2 ^ 27 + reason % 256 * 2 ^ 16 + pc % 65536

theorem faultWord_lt (pc slot reason : Nat) : faultWord pc slot reason < 2 ^ 32 := by
  unfold faultWord
  omega

theorem bits_faultWord (pc slot reason : Nat) : bits (faultWord pc slot reason) 31 1 = 1 ∧
    bits (faultWord pc slot reason) 16 8 = reason % 256 ∧ bits (faultWord pc slot reason) 0 16 = pc % 65536 := by
  unfold faultWord bits
  omega

/-- The report of a fault in the registers of the context, before its record and its message. -/
def State.faultReport (s : State) (k n pc slot reason : Nat) (op bw : List Nat) : State :=
  let s := ((s.setRun k n 3).setF (Reg.CORE_STAT k) ⟨n, 1⟩ 1).wr (Reg.CORE_FLTINFO k n) (faultWord pc slot reason)
  (s.forEach (List.range 4) fun s i => s.wr (Reg.CORE_FLTOPND k n i) (nth 0 op i % 2 ^ 32)).forEach (List.range 8)
    fun s i => s.wr (Reg.CORE_FLTBW k n i) (nth 0 bw i % 2 ^ 32)

section
variable (s : State) (k n pc slot reason : Nat) (op bw : List Nat)

theorem State.faultReport_regsExcept : RegsExcept (faultRegs k n) s (s.faultReport k n pc slot reason op bw) := by
  refine RegsExcept.trans ?_ (State.forEach_wr_regsExcept (R := faultRegs k n) (fun i hi => ?_) _)
  refine RegsExcept.trans ?_ (State.forEach_wr_regsExcept (R := faultRegs k n) (fun i hi => ?_) _)
  · refine RegsExcept.trans ?_ (State.wr_regsExcept _ (by simp [faultRegs]) _)
    exact RegsExcept.trans (State.setF_regsExcept _ (by simp [faultRegs]) _ _) (State.setF_regsExcept _ (by simp [faultRegs]) _ _)
  · simp only [faultRegs, List.mem_append, List.mem_map_of_mem hi, or_true, true_or]
  · simp only [faultRegs, List.mem_append, List.mem_map_of_mem hi, or_true, true_or]

/-- The report leaves every block but the registers alone. -/
theorem State.faultReport_keeps {β : Type} (g : State → β) (hg : ∀ u a v, g (State.wr u a v) = g u) :
    g (s.faultReport k n pc slot reason op bw) = g s := by
  unfold State.faultReport
  rw [State.forEach_keeps g _ fun u i => hg u _ _, State.forEach_keeps g _ fun u i => hg u _ _, hg, State.setF, hg, State.setRun,
    State.setF, hg]

theorem State.ctxRun_faultReport : (s.faultReport k n pc slot reason op bw).ctxRun k n = 3 := by
  have hbw (i : Nat) : Reg.CORE_FLTBW k n i ≠ Reg.CORE_CTXCTL k n := by simp only [Reg.CORE_FLTBW, Reg.CORE_CTXCTL]; omega
  have hopnd (i : Nat) : Reg.CORE_FLTOPND k n i ≠ Reg.CORE_CTXCTL k n := by simp only [Reg.CORE_FLTOPND, Reg.CORE_CTXCTL]; omega
  have hinfo : Reg.CORE_FLTINFO k n ≠ Reg.CORE_CTXCTL k n := by simp only [Reg.CORE_FLTINFO, Reg.CORE_CTXCTL]; omega
  have hstat : Reg.CORE_STAT k ≠ Reg.CORE_CTXCTL k n := by simp only [Reg.CORE_STAT, Reg.CORE_CTXCTL]; omega
  unfold State.faultReport
  rw [State.forEach_keeps (fun u => u.ctxRun k n) _ fun u i => State.fld_wr_ne (hbw i) u _ _,
    State.forEach_keeps (fun u => u.ctxRun k n) _ fun u i => State.fld_wr_ne (hopnd i) u _ _]
  rw [State.ctxRun, State.fld_wr_ne hinfo, State.fld_setF_ne hstat, State.setRun, State.fld_setF_same _ _ _ _ (by decide)]
  rfl

theorem State.fltinfo_faultReport : (s.faultReport k n pc slot reason op bw).rd (Reg.CORE_FLTINFO k n) = faultWord pc slot reason := by
  have hbw (i : Nat) : Reg.CORE_FLTBW k n i ≠ Reg.CORE_FLTINFO k n := by simp only [Reg.CORE_FLTBW, Reg.CORE_FLTINFO]; omega
  have hopnd (i : Nat) : Reg.CORE_FLTOPND k n i ≠ Reg.CORE_FLTINFO k n := by simp only [Reg.CORE_FLTOPND, Reg.CORE_FLTINFO]; omega
  unfold State.faultReport
  rw [State.forEach_keeps (fun u => u.rd (Reg.CORE_FLTINFO k n)) _ fun u i => State.rd_wr_ne (hbw i) u _,
    State.forEach_keeps (fun u => u.rd (Reg.CORE_FLTINFO k n)) _ fun u i => State.rd_wr_ne (hopnd i) u _]
  exact State.rd_wr_same _ _ _ (faultWord_lt pc slot reason)

theorem State.fltopnd_faultReport {i : Nat} (hi : i < 4) :
    (s.faultReport k n pc slot reason op bw).rd (Reg.CORE_FLTOPND k n i) = nth 0 op i % 2 ^ 32 := by
  have hbw : Reg.CORE_FLTOPND k n i ∉ (List.range 8).map (Reg.CORE_FLTBW k n) := by
    simp only [List.mem_map, List.mem_range, Reg.CORE_FLTBW, Reg.CORE_FLTOPND]; omega
  have hinj : Function.Injective (Reg.CORE_FLTOPND k n) := fun i j h => by simp only [Reg.CORE_FLTOPND] at h; omega
  unfold State.faultReport
  rw [State.forEach_wr_regsExcept (fun j hj => List.mem_map_of_mem hj) _ _ hbw, State.rd_forEach_wr hinj (List.mem_range.2 hi), Nat.mod_mod]

theorem State.failStep_cases (p : Nat) : s.failStep p = s ∨ ∃ x, s.failStep p = s.setPart p x :=
  (ite_eq_or_eq _ _ _).symm.imp id fun h => ⟨_, h⟩

/-- What a failed step keeps: all that is not of the serving engine. -/
theorem State.failStep_keeps {β : Type} (g : State → β) (hg : ∀ u p x, g (State.setPart u p x) = g u) (p : Nat) : g (s.failStep p) = g s := by
  rcases s.failStep_cases p with h | ⟨x, h⟩
  · rw [h]
  · rw [h, hg]

/-- What a fault of a context can do (R187, R190): nothing to one that is stopped; MORE to one with a report; else the report, its record
and its message. -/
theorem State.ctxFault_cases : (s.ctxRun k n = 0 ∧ s.ctxFault k n pc slot reason op bw = s) ∨
    (s.ctxRun k n ≠ 0 ∧ s.fld (Reg.CORE_FLTINFO k n) Fld.CORE_FLTINFO_VALID = 1 ∧
      s.ctxFault k n pc slot reason op bw = (s.setRun k n 3).setF (Reg.CORE_FLTINFO k n) Fld.CORE_FLTINFO_MORE 1) ∨
    (s.ctxRun k n ≠ 0 ∧ s.fld (Reg.CORE_FLTINFO k n) Fld.CORE_FLTINFO_VALID ≠ 1 ∧ ∃ e arg, s.ctxFault k n pc slot reason op bw =
      (((s.faultReport k n pc slot reason op bw).sherd e).post .fault k mgmtNode (s.ctxPart k n) arg).failStep (s.ctxPart k n)) := by
  by_cases hrun : s.ctxRun k n = 0
  · exact .inl ⟨hrun, if_pos hrun⟩
  by_cases hvalid : s.fld (Reg.CORE_FLTINFO k n) Fld.CORE_FLTINFO_VALID = 1
  · exact .inr (.inl ⟨hrun, hvalid, (if_neg hrun).trans (if_pos hvalid)⟩)
  · refine .inr (.inr ⟨hrun, hvalid, ?_⟩)
    unfold State.ctxFault State.faultReport faultWord
    rw [if_neg hrun, if_neg hvalid]
    exact ⟨_, _, rfl⟩

/-- A fault changes the registers of its report alone. -/
theorem State.ctxFault_regsExcept : RegsExcept (faultRegs k n) s (s.ctxFault k n pc slot reason op bw) := by
  rcases s.ctxFault_cases k n pc slot reason op bw with ⟨-, h⟩ | ⟨-, -, h⟩ | ⟨-, -, e, arg, h⟩
  · rw [h]
    exact RegsExcept.refl _ s
  · rw [h]
    have hctl : Reg.CORE_CTXCTL k n ∈ faultRegs k n := by simp [faultRegs]
    have hinfo : Reg.CORE_FLTINFO k n ∈ faultRegs k n := by simp [faultRegs]
    exact (s.setF_regsExcept hctl _ _).trans (State.setF_regsExcept _ hinfo _ _)
  · rw [h]
    refine (s.faultReport_regsExcept k n pc slot reason op bw).trans fun a ha => ?_
    rw [State.failStep_keeps _ (fun u => u.rd a) fun _ _ _ => rfl]
    exact State.sherd_rd _ e fun h => ha (logRegs_subset_faultRegs k n h)

/-- What register writes, records, messages and the serving state of a partition leave alone, a fault leaves alone. -/
theorem State.ctxFault_keeps {β : Type} (g : State → β) (hwr : ∀ u a v, g (State.wr u a v) = g u) (hsherd : ∀ u e, g (State.sherd u e) = g u)
    (hpost : ∀ u t i j p arg, g (State.post u t i j p arg) = g u) (hpart : ∀ u p x, g (State.setPart u p x) = g u) :
    g (s.ctxFault k n pc slot reason op bw) = g s := by
  rcases s.ctxFault_cases k n pc slot reason op bw with ⟨-, h⟩ | ⟨-, -, h⟩ | ⟨-, -, e, arg, h⟩
  · rw [h]
  · rw [h, State.setF, hwr, State.setRun, State.setF, hwr]
  · rw [h, State.failStep_keeps _ g hpart, hpost, hsherd, State.faultReport_keeps s k n _ _ _ _ _ g hwr]

@[simp] theorem State.ctxFault_core : (s.ctxFault k n pc slot reason op bw).core = s.core :=
  s.ctxFault_keeps k n _ _ _ _ _ State.core (fun _ _ _ => rfl) State.sherd_core (fun _ _ _ _ _ _ => rfl) fun _ _ _ => rfl
@[simp] theorem State.ctxFault_hbm : (s.ctxFault k n pc slot reason op bw).hbm = s.hbm :=
  s.ctxFault_keeps k n _ _ _ _ _ State.hbm (fun _ _ _ => rfl) State.sherd_hbm (fun _ _ _ _ _ _ => rfl) fun _ _ _ => rfl
@[simp] theorem State.ctxFault_lnk : (s.ctxFault k n pc slot reason op bw).lnk = s.lnk :=
  s.ctxFault_keeps k n _ _ _ _ _ State.lnk (fun _ _ _ => rfl) State.sherd_lnk (fun _ _ _ _ _ _ => rfl) fun _ _ _ => rfl

variable {s k n}

/-- The registers of the first fault of a context are those of its report. -/
theorem State.rd_ctxFault_of_first (hrun : s.ctxRun k n ≠ 0) (hvalid : s.fld (Reg.CORE_FLTINFO k n) Fld.CORE_FLTINFO_VALID = 0) {a : Nat}
    (ha : a ∉ logRegs) : (s.ctxFault k n pc slot reason op bw).rd a = (s.faultReport k n pc slot reason op bw).rd a := by
  rcases s.ctxFault_cases k n pc slot reason op bw with ⟨h, -⟩ | ⟨-, h, -⟩ | ⟨-, -, e, arg, h⟩
  · exact absurd h hrun
  · exact absurd (h.symm.trans hvalid) (by decide)
  · rw [h, State.failStep_keeps _ (fun u => u.rd a) fun _ _ _ => rfl]
    exact State.sherd_rd _ e ha

/-- A fault stops a context that runs (R187). -/
theorem State.ctxRun_ctxFault (hrun : s.ctxRun k n ≠ 0) : (s.ctxFault k n pc slot reason op bw).ctxRun k n = 3 := by
  have hinfo : Reg.CORE_FLTINFO k n ≠ Reg.CORE_CTXCTL k n := by simp only [Reg.CORE_FLTINFO, Reg.CORE_CTXCTL]; omega
  have hlog : Reg.CORE_CTXCTL k n ∉ logRegs := not_mem_logRegs (by rw [Reg.CORE_CTXCTL]; omega)
  rcases s.ctxFault_cases k n pc slot reason op bw with ⟨h, -⟩ | ⟨-, -, h⟩ | ⟨-, -, e, arg, h⟩
  · exact absurd h hrun
  · rw [h, State.ctxRun, State.fld_setF_ne hinfo, State.setRun, State.fld_setF_same _ _ _ _ (by decide)]
    rfl
  · rw [h, State.failStep_keeps _ (fun u => u.ctxRun k n) fun _ _ _ => rfl, ← s.ctxRun_faultReport k n pc slot reason op bw]
    exact State.sherd_fld _ e hlog _

/-- The first fault of a context (R187, R190): it stops, its reason, address and operands are reported, and beside the registers of the
report the cores, the memory and the links stay. -/
theorem State.ctxFault_effect (hrun : s.ctxRun k n ≠ 0) (hvalid : s.fld (Reg.CORE_FLTINFO k n) Fld.CORE_FLTINFO_VALID = 0) :
    ∃ t, s.ctxFault k n pc slot reason op bw = t ∧ t.ctxRun k n = 3 ∧ t.fld (Reg.CORE_FLTINFO k n) Fld.CORE_FLTINFO_VALID = 1 ∧
      t.fld (Reg.CORE_FLTINFO k n) Fld.CORE_FLTINFO_REASON = reason % 256 ∧
      t.fld (Reg.CORE_FLTINFO k n) Fld.CORE_FLTINFO_PC = pc % 65536 ∧
      (∀ i < 4, t.rd (Reg.CORE_FLTOPND k n i) = nth 0 op i % 2 ^ 32) ∧
      RegsExcept (faultRegs k n) s t ∧ t.core = s.core ∧ t.hbm = s.hbm ∧ t.lnk = s.lnk := by
  have hword : (s.ctxFault k n pc slot reason op bw).rd (Reg.CORE_FLTINFO k n) = faultWord pc slot reason := by
    rw [State.rd_ctxFault_of_first _ _ _ _ _ hrun hvalid (not_mem_logRegs (by rw [Reg.CORE_FLTINFO]; omega)), State.fltinfo_faultReport]
  obtain ⟨h1, h2, h3⟩ := bits_faultWord pc slot reason
  refine ⟨_, rfl, State.ctxRun_ctxFault _ _ _ _ _ hrun, ?_, ?_, ?_, fun i hi => ?_, s.ctxFault_regsExcept k n _ _ _ _ _, State.ctxFault_core ..,
    State.ctxFault_hbm .., State.ctxFault_lnk ..⟩
  · rw [State.fld, hword]
    exact h1
  · rw [State.fld, hword]
    exact h2
  · rw [State.fld, hword]
    exact h3
  · rw [State.rd_ctxFault_of_first _ _ _ _ _ hrun hvalid (not_mem_logRegs (by rw [Reg.CORE_FLTOPND]; omega)),
      State.fltopnd_faultReport _ _ _ _ _ _ _ _ hi]

end

/-! #### The slots of an issued bundle (R164) -/

@[simp] theorem State.doneSlot_fld (s : State) (k n slot : Nat) (i : Issued) (a : Nat) (f : Fld) :
    (s.doneSlot k n slot i).fld a f = s.fld a f := rfl
@[simp] theorem State.doneSlot_ctxRun (s : State) (k n slot : Nat) (i : Issued) (j m : Nat) :
    (s.doneSlot k n slot i).ctxRun j m = s.ctxRun j m := rfl

/-- A slot that has been performed changes of the state the program registers of its context alone. -/
theorem State.doneSlot_frame (s : State) (k n slot : Nat) (i : Issued) : RegsExcept [] s (s.doneSlot k n slot i) ∧
    (s.doneSlot k n slot i).core.shelf = s.core.shelf ∧ (s.doneSlot k n slot i).core.queues = s.core.queues ∧
    (s.doneSlot k n slot i).mesh = s.mesh ∧ (s.doneSlot k n slot i).hbm = s.hbm ∧ (s.doneSlot k n slot i).log = s.log :=
  ⟨fun _ _ => rfl, rfl, rfl, rfl, rfl, rfl⟩

/-- The command of the next slot of an issued bundle performs it. -/
theorem State.slotCmd_of_issued {s : State} {k n slot op : Nat} {i : Issued} (h : issuedAt s k n slot op i = true)
    (f : State → Issued → State) : s.slotCmd k n slot op f = f (s.doneSlot k n slot i) i := by
  simp only [issuedAt, Bool.and_eq_true, Bool.or_eq_true, beq_iff_eq] at h
  obtain ⟨⟨⟨hcur, hnext⟩, hop⟩, hfree⟩ := h
  simp [State.slotCmd, hcur, hnext, hop, hfree]

/-- A bundle whose issue faults the context: the command of a slot does what the try to issue does. -/
theorem State.slotCmd_of_faulted {s : State} {k n : Nat} (hcur : (s.ctx k n).cur = none) (hnone : ((s.tryIssue k n).ctx k n).cur = none)
    (hrun : (s.tryIssue k n).ctxRun k n ≠ 1) (slot op : Nat) (f : State → Issued → State) : s.slotCmd k n slot op f = s.tryIssue k n := by
  simp [State.slotCmd, hcur, hnone, hrun]

theorem State.nopCmd_of_faulted {s : State} {k n : Nat} (hcur : (s.ctx k n).cur = none) (hnone : ((s.tryIssue k n).ctx k n).cur = none) :
    s.nopCmd k n = s.tryIssue k n := by
  simp [State.nopCmd, hcur, hnone]

/-- Every command of a slot is NOP or the command of an operation in a slot. -/
theorem exec_slotCommand {k : CoreNo} {n : CtxNo} {c : Instr} (hc : c ∈ slotCommands k n) (s : State) :
    exec c s = .next (s.nopCmd k n) ∨ ∃ slot op f, exec c s = .next (s.slotCmd k n slot op f) := by
  rcases List.mem_cons.1 hc with rfl | hc
  · exact .inl rfl
  · simp only [List.mem_cons, List.not_mem_nil, or_false] at hc
    right
    rcases hc with rfl | rfl | rfl | rfl | rfl | rfl | rfl | rfl | rfl | rfl | rfl | rfl | rfl | rfl | rfl | rfl | rfl | rfl | rfl | rfl |
      rfl | rfl | rfl | rfl | rfl | rfl | rfl | rfl | rfl | rfl | rfl <;> exact ⟨_, _, _, rfl⟩

/-! #### The fetch of a bundle (R160) -/

/-- The correction of single-bit errors leaves no word that had no uncorrectable error with one. -/
theorem State.pmWord_fetch_ne_two {s : State} {k b i : Nat} (h : s.pmWord k b i ≠ 2) (p : Nat) : (s.fetch k p).pmWord k b i ≠ 2 := by
  refine List.foldlRecOn (motive := fun m => SMap.get (fun _ => 0) m (k * 32768 + b * 4 + i) ≠ 2) _ _ h fun m hm j _ => ?_
  split_ifs
  · rw [SMap.get_set]
    split_ifs
    · decide
    · exact hm
  · exact hm

theorem State.fetch_regsExcept (s : State) (k b : Nat) : RegsExcept [Reg.CORE_PMCE k] s (s.fetch k b) := fun a ha =>
  State.rd_inc_ne (fun h : Reg.CORE_PMCE k = a => ha (List.mem_singleton.2 h.symm)) _ _

/-- A fetch changes of the cores the error bits of program memory alone, and neither the memory nor the links. -/
theorem State.fetch_frame (s : State) (k b : Nat) : (∃ e, (s.fetch k b).core = { s.core with pmEcc := e }) ∧
    (s.fetch k b).hbm = s.hbm ∧ (s.fetch k b).lnk = s.lnk :=
  ⟨⟨_, State.inc_core ..⟩, State.inc_hbm .., State.inc_lnk ..⟩

/-- Program memory reads the same after a fetch. -/
theorem State.bundleNat_fetch (s : State) (k n b pc : Nat) : (s.fetch k b).bundleNat k n pc = s.bundleNat k n pc := by
  have hrd {a : Nat} (ha : a ≠ Reg.CORE_PMCE k) : (s.fetch k b).rd a = s.rd a := s.fetch_regsExcept k b a (by simpa using ha)
  have hprog : Reg.CORE_CTXPROG k n ≠ Reg.CORE_PMCE k := by simp only [Reg.CORE_CTXPROG, Reg.CORE_PMCE]; omega
  have hpmem (i : Nat) : Reg.CORE_PMEM k i ≠ Reg.CORE_PMCE k := by simp only [Reg.CORE_PMEM, Reg.CORE_PMCE]; omega
  simp only [State.bundleNat, State.progWords, State.bundleWords, State.fld, hrd hprog, hrd (hpmem _)]

end Machine
end Sys2Proof
end

section
set_option Elab.async false

/-! ### Counters, mode and rows of a context -/

namespace Sys2Proof

namespace Machine

/-! #### The clear of a counter (R142) -/

theorem State.clearCtr_regsExcept (s : State) (k c : Nat) :
    RegsExcept [Reg.QUE_CENQ k c, Reg.QUE_CDONE k c, Reg.QUE_CSTAT k c] s (s.clearCtr k c) := by
  unfold State.clearCtr
  refine RegsExcept.trans ?_ (State.wr_regsExcept _ (by simp) _)
  refine RegsExcept.trans ?_ (State.wr_regsExcept _ (by simp) _)
  exact RegsExcept.trans (RegsExcept.of_regs _ rfl) (State.wr_regsExcept _ (by simp) _)

theorem State.clearCtr_reads_zero (s : State) (k c : Nat) : (s.clearCtr k c).rd (Reg.QUE_CENQ k c) = 0 ∧
    (s.clearCtr k c).rd (Reg.QUE_CDONE k c) = 0 ∧ (s.clearCtr k c).rd (Reg.QUE_CSTAT k c) = 0 := by
  have hde : Reg.QUE_CDONE k c ≠ Reg.QUE_CENQ k c := by simp only [Reg.QUE_CDONE, Reg.QUE_CENQ]; omega
  have hse : Reg.QUE_CSTAT k c ≠ Reg.QUE_CENQ k c := by simp only [Reg.QUE_CSTAT, Reg.QUE_CENQ]; omega
  have hsd : Reg.QUE_CSTAT k c ≠ Reg.QUE_CDONE k c := by simp only [Reg.QUE_CSTAT, Reg.QUE_CDONE]; omega
  unfold State.clearCtr
  refine ⟨?_, ?_, State.rd_wr_same _ _ _ (by decide)⟩
  · rw [State.rd_wr_ne hse, State.rd_wr_ne hde, State.rd_wr_same _ _ _ (by decide)]
  · rw [State.rd_wr_ne hsd, State.rd_wr_same _ _ _ (by decide)]

/-- What register writes and the sources of errors leave alone, the clear of a counter leaves alone. -/
theorem State.clearCtr_keeps {β : Type} (g : State → β) (hwr : ∀ u a v, g (State.wr u a v) = g u)
    (hsrc : ∀ (u : State) e, g { u with core := { u.core with errSrc := e } } = g u) (s : State) (k c : Nat) : g (s.clearCtr k c) = g s := by
  unfold State.clearCtr
  rw [hwr, hwr, hwr, hsrc]

theorem State.clearCtr_frame (s : State) (k c : Nat) : (s.clearCtr k c).core.shelf = s.core.shelf ∧
    (s.clearCtr k c).core.queues = s.core.queues ∧ (s.clearCtr k c).mesh = s.mesh ∧ (s.clearCtr k c).hbm = s.hbm ∧
    (s.clearCtr k c).log = s.log :=
  ⟨State.clearCtr_keeps (fun u => u.core.shelf) (fun _ _ _ => rfl) (fun _ _ => rfl) s k c,
    State.clearCtr_keeps (fun u => u.core.queues) (fun _ _ _ => rfl) (fun _ _ => rfl) s k c,
    State.clearCtr_keeps State.mesh (fun _ _ _ => rfl) (fun _ _ => rfl) s k c,
    State.clearCtr_keeps State.hbm (fun _ _ _ => rfl) (fun _ _ => rfl) s k c,
    State.clearCtr_keeps State.log (fun _ _ _ => rfl) (fun _ _ => rfl) s k c⟩

theorem State.cerr_of_rd {s : State} {k c : Nat} (h : s.rd (Reg.QUE_CSTAT k c) = 0) : s.cerr k c = false := by
  rw [State.cerr, State.fld, h, bits_zero]
  rfl

theorem State.cmdClr_of_equal {s : State} {k n : Nat} {i : Issued} (h : issuedAt s k n 4 3 i = true)
    (heq : s.cenq k (bits i.bundle 190 6) = s.cdone k (bits i.bundle 190 6)) :
    s.cmdClr k n = (s.doneSlot k n 4 i).clearCtr k (bits i.bundle 190 6) :=
  (State.slotCmd_of_issued h _).trans (if_neg (not_not.2 heq))

theorem State.cmdClr_of_busy {s : State} {k n : Nat} {i : Issued} (h : issuedAt s k n 4 3 i = true)
    (hne : s.cenq k (bits i.bundle 190 6) ≠ s.cdone k (bits i.bundle 190 6)) :
    ∃ op bw, s.cmdClr k n = (s.doneSlot k n 4 i).ctxFault k n (i.next - 1) 4 0x17 op bw :=
  ⟨_, _, (State.slotCmd_of_issued h _).trans (if_pos hne)⟩

/-- A counter whose number is below 64 lies apart from the registers of the contexts of its core. -/
theorem counterRegs_ge (k c : Nat) {a : Nat} (ha : a ∈ [Reg.QUE_CENQ k c, Reg.QUE_CDONE k c, Reg.QUE_CSTAT k c]) :
    0x1020100 + k * 0x100000 ≤ a ∧ a < 0x1020110 + k * 0x100000 + c * 0x10 := by
  simp only [List.mem_cons, List.not_mem_nil, or_false, Reg.QUE_CENQ, Reg.QUE_CDONE, Reg.QUE_CSTAT] at ha
  omega

theorem counter_not_mem_faultRegs {k n c a : Nat} (hk : k < 16) (hn : n < 4) (hc : c < 64)
    (ha : a ∈ [Reg.QUE_CENQ k c, Reg.QUE_CDONE k c, Reg.QUE_CSTAT k c]) : a ∉ faultRegs k n := fun hmem => by
  have hplace := counterRegs_ge k c ha
  have hfault := mem_faultRegs hmem
  simp only [Reg.CORE_CTXCTL, Reg.CORE_STAT] at hfault
  omega

/-! #### A bundle of the other mode (R128) -/

theorem fetches_spec {s : State} {k n : Nat} (h : fetches s k n = true) : s.ctxRun k n = 1 ∧ (s.ctx k n).cur = none ∧
    ((s.ctx k n).wait = .none ∨ (s.ctx k n).wait = .counter) ∧ s.pcOf k n < s.pcount k n ∧
    ∀ i ∈ List.range 4, s.pmWord k (s.fld (Reg.CORE_CTXPROG k n) Fld.CORE_CTXPROG_PBASE + s.pcOf k n) i ≠ 2 := by
  simpa only [fetches, Bool.and_eq_true, Bool.or_eq_true, beq_iff_eq, decide_eq_true_eq, List.all_eq_true, bne_iff_ne,
    Option.isNone_iff_eq_none, and_assoc] using h

/-- A fetch changes no register but the core's count of corrected errors. -/
theorem State.fld_afterFetch (s : State) (k n : Nat) {a : Nat} (ha : a ≠ Reg.CORE_PMCE k) (f : Fld) : (afterFetch s k n).fld a f = s.fld a f :=
  (s.fetch_regsExcept k _).fld (by simpa using ha) f

/-- A bundle that can be fetched and is of the other mode faults its context at its address. -/
theorem State.tryIssue_of_mismatch {s : State} {k n : Nat} (h : fetches s k n = true)
    (hmode : bits (s.bundleNat k n (s.pcOf k n)) 255 1 ≠ b2n (s.tagged k n)) :
    ∃ op, s.tryIssue k n = (afterFetch s k n).bundleFault k n (s.pcOf k n) 6 0x02 op := by
  obtain ⟨hrun, hcur, hwait, hpc, hgood⟩ := fetches_spec h
  have hidle : ¬(s.ctxRun k n ≠ 1 ∨ (s.ctx k n).cur.isSome = true ∨ ((s.ctx k n).wait ≠ .none ∧ (s.ctx k n).wait ≠ .counter)) := by
    rw [hrun, hcur]
    rintro (h | h | ⟨h, h'⟩)
    · exact h rfl
    · exact Bool.false_ne_true h
    · exact hwait.elim h h'
  have hfound : (List.range 4).find? (fun i => (afterFetch s k n).pmWord k
      (s.fld (Reg.CORE_CTXPROG k n) Fld.CORE_CTXPROG_PBASE + s.pcOf k n) i == 2) = none :=
    List.find?_eq_none.2 fun i hi => by
      rw [beq_iff_eq]
      exact State.pmWord_fetch_ne_two (hgood i hi) _
  have htag : (afterFetch s k n).tagged k n = s.tagged k n :=
    congrArg (· == 1) (s.fld_afterFetch k n (by simp only [Reg.CORE_CTXCTL, Reg.CORE_PMCE]; omega) _)
  have hbundle : bits ((afterFetch s k n).bundleNat k n (s.pcOf k n)) 255 1 ≠ b2n ((afterFetch s k n).tagged k n) := by
    rwa [htag, afterFetch, State.bundleNat_fetch]
  refine ⟨[bits ((afterFetch s k n).bundleNat k n (s.pcOf k n)) 255 1, b2n ((afterFetch s k n).tagged k n)], ?_⟩
  unfold State.tryIssue
  rw [if_neg hidle]
  dsimp only
  rw [if_neg (not_le.2 hpc)]
  unfold afterFetch at hfound hbundle ⊢
  rw [hfound]
  exact if_pos hbundle

end Machine

open Machine

/-- Settles O44: the command of CLR does the clear of the counter, or the fault of counter busy, in the state with its slot done. -/
theorem counterClear : Obligations.CounterClear := by
  intro k n s i hissued c
  have hc : c < 64 := bits_lt _ 190 6
  obtain ⟨hsame, hshelf, hqueues, hmesh, hhbm, hlog⟩ := s.doneSlot_frame k n 4 i
  refine ⟨fun heq => ⟨_, congrArg Host.Outcome.next (State.cmdClr_of_equal hissued heq), ?_⟩, fun hne hrun hvalid => ?_⟩
  · generalize s.doneSlot k n 4 i = u at *
    obtain ⟨henq, hdone, hstat⟩ := u.clearCtr_reads_zero k c
    obtain ⟨hshelf', hqueues', hmesh', hhbm', hlog'⟩ := u.clearCtr_frame k c
    have hregs := (hsame.mono (List.nil_subset _)).trans (u.clearCtr_regsExcept k c)
    have hctl : Reg.CORE_CTXCTL k n ∉ [Reg.QUE_CENQ k c, Reg.QUE_CDONE k c, Reg.QUE_CSTAT k c] := fun hmem => by
      have hplace := counterRegs_ge k c hmem
      simp only [Reg.CORE_CTXCTL] at hplace
      omega
    exact ⟨henq, hdone, State.cerr_of_rd hstat, hregs.fld hctl _, hregs, hshelf'.trans hshelf, hqueues'.trans hqueues,
      hmesh'.trans hmesh, hhbm'.trans hhbm, hlog'.trans hlog⟩
  · obtain ⟨op, bw, h⟩ := State.cmdClr_of_busy hissued hne
    rw [← s.doneSlot_ctxRun k n 4 i] at hrun
    rw [← s.doneSlot_fld k n 4 i] at hvalid
    generalize s.doneSlot k n 4 i = u at *
    obtain ⟨t, ht, hfaulted, hval, hreason, -, -, hregs, hcore, hhbm', -⟩ := u.ctxFault_effect (i.next - 1) 4 0x17 op bw hrun hvalid
    have hkept {a : Nat} (ha : a ∈ [Reg.QUE_CENQ k c, Reg.QUE_CDONE k c, Reg.QUE_CSTAT k c]) : t.rd a = s.rd a :=
      (hregs a (counter_not_mem_faultRegs k.isLt n.isLt hc ha)).trans (hsame a List.not_mem_nil)
    exact ⟨t, congrArg Host.Outcome.next (h.trans ht), hfaulted, hval, hreason, hkept (by simp), hkept (by simp), hkept (by simp),
      hcore ▸ hshelf, hcore ▸ hqueues, hhbm'.trans hhbm⟩

/-- Settles O45: the try to issue the bundle faults the context, and every command of a slot then does that try alone. -/
theorem modeMismatch : Obligations.ModeMismatch := by
  intro k n s c hc hfetches hmode hvalid
  obtain ⟨hrunning, hcur, -, -, -⟩ := fetches_spec hfetches
  obtain ⟨op, htry⟩ := State.tryIssue_of_mismatch hfetches hmode
  have hrun : (afterFetch s k n).ctxRun k n ≠ 0 := by
    rw [State.ctxRun, s.fld_afterFetch k n (by simp only [Reg.CORE_CTXCTL, Reg.CORE_PMCE]; omega)]
    exact fun h => absurd (h.symm.trans hrunning) (by decide)
  have hfresh : (afterFetch s k n).fld (Reg.CORE_FLTINFO k n) Fld.CORE_FLTINFO_VALID = 0 := by
    rw [s.fld_afterFetch k n (by simp only [Reg.CORE_FLTINFO, Reg.CORE_PMCE]; omega), hvalid]
  have hpcreg : Reg.CORE_CTXPC k n ∉ faultRegs k n := fun hmem => by
    have hfault := mem_faultRegs hmem
    simp only [Reg.CORE_CTXPC, Reg.CORE_CTXCTL, Reg.CORE_STAT] at hfault
    omega
  obtain ⟨t, ht, hfaulted, hval, hreason, hpc, -, hregs, hcore, hhbm, hlnk⟩ :=
    State.ctxFault_effect (s.pcOf k n) 6 0x02 op ((afterFetch s k n).progWords k n (s.pcOf k n)) hrun hfresh
  rw [← State.bundleFault, ← htry] at ht
  obtain ⟨⟨e, hfetch⟩, hfetchHbm, hfetchLnk⟩ := s.fetch_frame k (s.fld (Reg.CORE_CTXPROG k n) Fld.CORE_CTXPROG_PBASE + s.pcOf k n)
  rw [← afterFetch] at hfetch hfetchHbm hfetchLnk
  rw [hfetch] at hcore
  have hctx : t.ctx k n = s.ctx k n := by
    rw [State.ctx, hcore]
    rfl
  have hexec : exec c s = .next t := by
    rw [← hctx, ← ht] at hcur
    rcases exec_slotCommand hc s with h | ⟨slot, o, f, h⟩
    · rw [h, State.nopCmd_of_faulted (by rwa [← hctx, ← ht]) hcur, ht]
    · rw [h, State.slotCmd_of_faulted (by rwa [← hctx, ← ht]) hcur (by rw [ht, hfaulted]; decide), ht]
  refine ⟨t, hexec, hfaulted, hval, hreason, ?_, hctx, ?_, hcore ▸ rfl, hcore ▸ rfl, hcore ▸ rfl,
    hhbm.trans hfetchHbm, hlnk.trans hfetchLnk⟩
  · rw [hpc]
    exact Nat.mod_eq_of_lt (bits_lt _ 0 16)
  · rw [State.pcOf, hregs.fld hpcreg, s.fld_afterFetch k n (by simp only [Reg.CORE_CTXPC, Reg.CORE_PMCE]; omega)]
    rfl

end Sys2Proof
end

section
set_option Elab.async false

/-! ### Accesses to shelf rows -/

namespace Sys2Proof

namespace Machine

/-- The fault of an access is a fault of its context, at its slot. -/
theorem State.accFault_eq (s : State) (a : Acc) (reason : Nat) (op : List Nat) :
    ∃ pc bw, s.accFault a reason op = s.ctxFault a.k a.ctx pc a.slot reason op bw := by
  unfold State.accFault State.bundleFault
  split_ifs
  · exact ⟨_, _, rfl⟩
  · exact ⟨_, _, rfl⟩

/-- An access outside the rows of its context is refused with the fault of R127. -/
theorem State.access_of_outside {s : State} {a : Acc} (h : s.inRows a.k a.ctx a.row = false) (w : Option (Row × Bool)) :
    ∃ op, nth 0 op 0 = a.row ∧ s.access a w = .refused (s.accFault a 0x08 op) := by
  refine ⟨[a.row, s.rowBase a.k a.ctx, s.rowCount a.k a.ctx, if a.snode = noNode then a.areg else a.snode], rfl, ?_⟩
  unfold State.access
  simp only [h, Bool.not_false, if_true]

theorem cecnt_ne_eccstat (k : Nat) : Reg.SHELF_CECNT k ≠ Reg.SHELF_ECCSTAT k := by
  simp only [Reg.SHELF_CECNT, Reg.SHELF_ECCSTAT]
  omega

/-- The count of a corrected single-bit error of a core's shelf (R120). -/
def State.countCe (s : State) (k : Nat) : State := (s.setF (Reg.SHELF_ECCSTAT k) Fld.SHELF_ECCSTAT_CE 1).inc (Reg.SHELF_CECNT k) 1

theorem State.countCe_reads (s : State) (k : Nat) : (s.countCe k).fld (Reg.SHELF_ECCSTAT k) Fld.SHELF_ECCSTAT_CE = 1 ∧
    (s.countCe k).rd (Reg.SHELF_CECNT k) = satAdd 0xFFFFFFFF (s.rd (Reg.SHELF_CECNT k)) 1 := by
  unfold State.countCe
  constructor
  · rw [State.fld_inc_ne (cecnt_ne_eccstat k), State.fld_setF_same _ _ _ _ (by decide)]
    rfl
  · rw [State.rd_inc_same, State.rd_setF_ne (cecnt_ne_eccstat k).symm]

theorem State.countCe_regsExcept (s : State) (k : Nat) : RegsExcept [Reg.SHELF_ECCSTAT k, Reg.SHELF_CECNT k] s (s.countCe k) :=
  (s.setF_regsExcept (by simp) _ _).trans (State.wr_regsExcept _ (by simp) _)

/-- The read of a row with a single-bit error (R120). -/
theorem State.readRow_of_single {s : State} {a : Acc} (hpoison : (s.shelfRow a.k a.row).poison = false) (hecc : (s.shelfRow a.k a.row).ecc = 1) :
    s.readRow a = (s.countCe a.k, (s.shelfRow a.k a.row).data, false) := by
  simp only [State.readRow, hpoison, hecc, State.countCe]
  rfl

end Machine

open Machine

/-- Settles O47: the refusal of the access is the fault of its context, which changes no row and no waiting list. -/
theorem accessOutsideTheRowRange : Obligations.AccessOutsideTheRowRange := by
  intro s a w _ _ hout
  obtain ⟨op, hop, h⟩ := State.access_of_outside hout w
  obtain ⟨pc, bw, hfault⟩ := s.accFault_eq a 0x08 op
  have hcore := s.ctxFault_core a.k a.ctx pc a.slot 0x08 op bw
  refine ⟨_, hfault ▸ h, congrArg CoreBlk.shelf hcore, congrArg CoreBlk.waiters hcore, fun hrun =>
    ⟨State.ctxRun_ctxFault _ _ _ _ _ hrun, fun hvalid => ?_⟩⟩
  obtain ⟨t, ht, -, hval, hreason, -, hopnd, -⟩ := s.ctxFault_effect pc a.slot 0x08 op bw hrun hvalid
  rw [ht]
  exact ⟨hval, hreason, hop ▸ hopnd 0 (by decide)⟩

/-- Settles O48: the read counts the corrected error, and changes the two registers of that count alone. -/
theorem singleBitErrorRead : Obligations.SingleBitErrorRead := by
  intro s a _ x hpoison hecc
  obtain ⟨hce, hcount⟩ := s.countCe_reads a.k
  exact ⟨_, State.readRow_of_single hpoison hecc, hce, hcount, (State.inc_core ..).trans (State.setF_core ..), s.countCe_regsExcept a.k⟩

end Sys2Proof
end

section
set_option Elab.async false

/-! ### The commands of queues, accumulators, the scrubber and blocked accesses -/

namespace Sys2Proof

theorem findIdx1_cons_of_pos {α : Type} {p : α → Bool} {x : α} (h : p x = true) (l : List α) : findIdx1 p (x :: l) = some (0, x) := by
  simp [findIdx1, List.zipIdx_cons, h]

theorem getElem?_setNth_same {α : Type} {l : List α} {j : Nat} {x : α} (h : l[j]? = some x) (v : α) : (setNth l j v)[j]? = some v := by
  obtain ⟨hj, -⟩ := List.getElem?_eq_some_iff.1 h
  exact List.getElem?_set_self hj

namespace Machine

theorem rowKey_injective (k : Nat) : Function.Injective (rowKey k) := fun r r' h => by
  simp only [rowKey] at h
  omega

/-! #### Queues and rows of a core -/

@[simp] theorem State.queue_setQueue_same (s : State) (k q : Nat) (l : List QDesc) : (s.setQueue k q l).queue k q = l := by
  rw [State.queue, State.setQueue, State.setF_core]
  exact SMap.get_set_same ..

theorem State.queue_congr {s t : State} (h : s.core.queues = t.core.queues) (k q : Nat) : s.queue k q = t.queue k q := by
  rw [State.queue, h]
  rfl

theorem State.shelfRow_congr {s t : State} (h : s.core.shelf = t.core.shelf) (k r : Nat) : s.shelfRow k r = t.shelfRow k r := by
  rw [State.shelfRow, h]
  rfl

/-- What register writes and the descriptors leave alone, a change of a queue leaves alone. -/
theorem State.setQueue_keeps {β : Type} (g : State → β) (hwr : ∀ u a v, g (State.wr u a v) = g u)
    (hqueues : ∀ (u : State) m, g { u with core := { u.core with queues := m } } = g u) (s : State) (k q : Nat) (l : List QDesc) :
    g (s.setQueue k q l) = g s := by
  unfold State.setQueue State.setF
  rw [hwr, hqueues]

@[simp] theorem State.shelfRow_putRow_same (s : State) (k r : Nat) (d : Row) (poison full : Bool) :
    (s.putRow k r d poison full).shelfRow k r = { data := d, full := full, poison := poison, ecc := 0 } := SMap.get_set_same ..

theorem State.shelfRow_setShelfRow_same (s : State) (k r : Nat) (x : ShelfRow) : (s.setShelfRow k r x).shelfRow k r = x := SMap.get_set_same ..

theorem State.shelfRow_putRow_ne {r r' : Nat} (h : r ≠ r') (s : State) (k : Nat) (d : Row) (poison full : Bool) :
    (s.putRow k r d poison full).shelfRow k r' = s.shelfRow k r' := SMap.get_set_ne _ (fun e => h (rowKey_injective k e)) _ _

/-! #### Accesses that write (R123, R127, R248) -/

/-- The state in which an access has written a row. -/
def State.writtenRow (s : State) (a : Acc) (d : Row) (poison full : Bool) : State :=
  (s.delWaiter a.k a.row a.who true).putRow a.k a.row d poison full

/-- A write changes of the state the rows and the waiting lists alone. -/
theorem State.writtenRow_eq (s : State) (a : Acc) (d : Row) (poison full : Bool) :
    ∃ m w, s.writtenRow a d poison full = { s with core := { s.core with shelf := m, waiters := w } } := ⟨_, _, rfl⟩

theorem State.shelfRow_writtenRow_same {a : Acc} {k r : Nat} (hk : a.k = k) (hr : a.row = r) (s : State) (d : Row) (poison full : Bool) :
    (s.writtenRow a d poison full).shelfRow k r = { data := d, full := full, poison := poison, ecc := 0 } := by
  subst hk hr
  exact State.shelfRow_putRow_same ..

theorem State.shelfRow_writtenRow_ne {a : Acc} {k r : Nat} (hk : a.k = k) (hr : a.row ≠ r) (s : State) (d : Row) (poison full : Bool) :
    (s.writtenRow a d poison full).shelfRow k r = s.shelfRow k r := by
  subst hk
  exact State.shelfRow_putRow_ne hr ..

/-- A write in scheduled mode, to a row that no descriptor still has to fill or by a descriptor, leaves the tag. -/
theorem State.access_scheduled_write {s : State} {a : Acc} (htag : a.tagged = false) (hrow : s.inRows a.k a.ctx a.row = true)
    (hspill : s.spillPending a.k a.row = false ∨ a.cls = .que) (d : Row) (poison : Bool) :
    s.access a (some (d, poison)) = .ok (s.writtenRow a d poison (s.shelfRow a.k a.row).full) d poison := by
  have hfree : s.spillPending a.k a.row = true → a.cls = .que := fun h => hspill.resolve_left (by rw [h]; decide)
  simpa [State.access, hrow, htag, State.writtenRow] using hfree

/-- A FILL in tagged mode of an EMPTY row that a buffer admits makes it FULL. -/
theorem State.access_tagged_fill {s : State} {a : Acc} (htag : a.tagged = true) (hrow : s.inRows a.k a.ctx a.row = true)
    (hallowed : s.tagAllowed a.k a.ctx a.cls true a.row = true) (hempty : (s.shelfRow a.k a.row).full = false) (d : Row) (poison : Bool) :
    s.access a (some (d, poison)) = .ok (s.writtenRow a d poison true) d poison := by
  simp [State.access, hrow, htag, hallowed, hempty, State.writtenRow]

/-! #### DESCRIPTOR_START (R136) -/

/-- The start of the first descriptor of a queue, a READ: it takes an identity and issues the requests of its rows. -/
theorem State.descStart_of_read {s : State} {k q : Nat} {d : QDesc} {rest : List QDesc} (hq : s.queue k q = d :: rest)
    (hstart : d.started = false) (hread : d.write = false) : ∀ e, e = { d with started := true, id := s.hbm.nextId } →
    s.descStart k q = (({ s with hbm := { s.hbm with nextId := s.hbm.nextId + 1 } } : State).setQueue k q (e :: rest)).forEach
      (List.range d.rows) fun s i => s.issueRow k q e i 0 false := by
  rintro e rfl
  unfold State.descStart
  rw [hq, findIdx1_cons_of_pos (by rw [hstart]; rfl)]
  have hfence : ¬(d.fence = true ∧ (0 : Nat) ≠ 0) := fun h => h.2 rfl
  have hqueue : ({ s with hbm := { s.hbm with nextId := s.hbm.nextId + 1 } } : State).queue k q = d :: rest := hq
  simp only [hfence, if_false, hread, Bool.false_eq_true, State.setDesc, hqueue]
  rfl

theorem State.length_reqs_issueRows (s : State) (k q : Nat) (d : QDesc) (l : List Nat) :
    (s.forEach l fun s i => s.issueRow k q d i 0 false).hbm.reqs.length = s.hbm.reqs.length + 17 * l.length := by
  induction l generalizing s with
  | nil => rfl
  | cons i l ih =>
    rw [State.forEach_cons, ih]
    simp only [State.issueRow, List.length_append, List.length_map, List.length_range, List.length_cons]
    omega

/-- What a change of the requests leaves alone, the issue of the requests of a descriptor's rows leaves alone. -/
theorem State.issueRows_keeps {β : Type} (g : State → β) (hreqs : ∀ (u : State) l, g { u with hbm := { u.hbm with reqs := l } } = g u)
    (s : State) (k q : Nat) (d : QDesc) (l : List Nat) : g (s.forEach l fun s i => s.issueRow k q d i 0 false) = g s :=
  State.forEach_keeps g _ (fun u _ => hreqs u _) l s

end Machine
end Sys2Proof
end

section
set_option Elab.async false

/-! ### Descriptors and accumulators -/

namespace Sys2Proof

namespace Machine

/-! #### DESCRIPTOR_ROW_LAND (R137) -/

/-- The answers to the requests of a row, none refused or poisoned: their granules, in order. -/
theorem State.answers_of_clean {s : State} {k q id row : Nat} {gs : List Granule} (hlen : gs.length = 17)
    (h : ∀ g ∈ List.range 17, (s.respOf k q id row g).map (fun r => (r.data, r.poison || r.refused)) = some (nth 0 gs g, false)) :
    s.rowAnswered k q id row = true ∧
    (((List.range 17).filterMap fun g => s.respOf k q id row g).any fun r => r.refused || r.poison) = false ∧
    (((List.range 17).filterMap fun g => s.respOf k q id row g).map fun r => if r.refused then (0 : Granule) else r.data) = gs := by
  have hclean {g : Nat} (hg : g ∈ List.range 17) : ∃ r, s.respOf k q id row g = some r ∧ r.data = nth 0 gs g ∧ r.poison = false ∧ r.refused = false := by
    obtain ⟨r, hr, hdata⟩ := Option.map_eq_some_iff.1 (h g hg)
    simp only [Prod.mk.injEq, Bool.or_eq_false_iff] at hdata
    exact ⟨r, hr, hdata.1, hdata.2.1, hdata.2.2⟩
  refine ⟨List.all_eq_true.2 fun g hg => ?_, List.any_eq_false.2 fun r hr => ?_, ?_⟩
  · obtain ⟨r, hr, -⟩ := hclean hg
    rw [hr]
    rfl
  · obtain ⟨g, hg, hr⟩ := List.mem_filterMap.1 hr
    obtain ⟨r', hr', -, hpoison, hrefused⟩ := hclean hg
    obtain rfl : r' = r := Option.some.inj (hr'.symm.trans hr)
    simp [hpoison, hrefused]
  · rw [List.map_filterMap]
    calc _ = (List.range 17).filterMap (some ∘ nth 0 gs) := List.filterMap_congr fun g hg => by
            obtain ⟨r, hr, hdata, -, hrefused⟩ := hclean hg
            simp [hr, hdata, hrefused]
      _ = gs := by rw [List.filterMap_eq_map, ← hlen, map_range_nth]

theorem State.lateTime_keeps {β : Type} (g : State → β) (hwr : ∀ u a v, g (State.wr u a v) = g u) (s : State) (k row cycles : Nat) :
    g (s.lateTime k row cycles) = g s := by
  refine State.forEach_keeps g _ (fun u n => ?_) _ s
  split
  · exact State.when_keeps g _ _ u (hwr u _ _)
  · rfl

/-- The state in which row `i` of descriptor `j` of a queue has landed: its answers are gone, and the descriptor has the row done. -/
def State.landed (s : State) (k q j i : Nat) (d : QDesc) : State :=
  let mine (r : HbmResp) : Bool := match r.by_ with
    | .desc k' q' id' i' _ => k' == k && q' == q && id' == d.id && i' == i
    | _ => false
  ({ s with hbm := { s.hbm with resps := s.hbm.resps.filter fun r => !mine r } } : State).setDesc k q j { d with done := d.done ++ [i] }

/-- What register writes, the descriptors and the memory leave alone, the end of a row's landing leaves alone. -/
theorem State.landed_keeps {β : Type} (g : State → β) (hwr : ∀ u a v, g (State.wr u a v) = g u)
    (hqueues : ∀ (u : State) m, g { u with core := { u.core with queues := m } } = g u) (hhbm : ∀ (u : State) m, g { u with hbm := m } = g u)
    (s : State) (k q j i : Nat) (d : QDesc) : g (s.landed k q j i d) = g s := by
  unfold State.landed State.setDesc
  rw [State.setQueue_keeps g hwr hqueues, hhbm]

theorem State.queue_landed {s : State} {k q j : Nat} {d : QDesc} (hj : (s.queue k q)[j]? = some d) (i : Nat) :
    ((s.landed k q j i d).queue k q)[j]? = some { d with done := d.done ++ [i] } := by
  unfold State.landed State.setDesc
  rw [State.queue_setQueue_same]
  exact getElem?_setNth_same hj _

/-- A row of a READ in scheduled mode lands with the granules that have returned (R137). -/
theorem State.landRow_of_clean {s : State} {k q j i cycles : Nat} {d : QDesc} {gs : List Granule} (hj : (s.queue k q)[j]? = some d)
    (hread : d.write = false) (hstart : d.started = true) (hi : i < d.rows) (hnew : d.done.contains i = false) (htag : d.tagged = false)
    (hrow : s.inRows k d.ctx (d.first + i) = true) (hlen : gs.length = 17)
    (h : ∀ g ∈ List.range 17, (s.respOf k q d.id i g).map (fun r => (r.data, r.poison || r.refused)) = some (nth 0 gs g, false)) :
    ∃ c, s.landRow k q j i cycles =
      ((s.writtenRow (d.acc k q i) (rowOfGranules gs) false (s.shelfRow k (d.first + i)).full).landed k q j i d).when c
        fun s => s.lateTime k (d.first + i) cycles := by
  obtain ⟨hanswered, hbad, hdata⟩ := State.answers_of_clean hlen h
  have hacc := State.access_scheduled_write (s := s) (a := d.acc k q i) htag hrow (.inr rfl) (rowOfGranules gs) false
  have hgo : ¬(d.write = true ∨ (!d.started) = true ∨ d.rows ≤ i ∨ d.done.contains i = true ∨ (!s.rowAnswered k q d.id i) = true ∨
      (d.tagged = true ∧ i ≠ d.done.length)) := by
    rw [hread, hstart, hnew, hanswered, htag]
    simp [hi]
  refine ⟨s.spillPending k (d.first + i), ?_⟩
  unfold State.landRow
  rw [hj]
  dsimp only
  rw [if_neg hgo, hbad, hdata, hacc, Bool.or_false]
  rfl

end Machine
end Sys2Proof
end

section
set_option Elab.async false

/-! ### Completion, accumulators, the scrubber and parked rows -/

namespace Sys2Proof

namespace Machine

/-! #### DESCRIPTOR_COMPLETE (R138) -/

/-- What the count of a completed descriptor can do (R138, R139): DONE goes up, and the first error is recorded. -/
theorem State.countDone_cases (s : State) (k q : Nat) (d : QDesc) (err : Bool) :
    ∃ u, u = s.wr (Reg.QUE_CDONE k d.ctr) (s.cdone k d.ctr + 1) ∧ (s.countDone k q d err = u ∨ ∃ e, s.countDone k q d err =
      (({ u with core := { u.core with errSrc := e } } : State).setF (Reg.QUE_CSTAT k d.ctr) Fld.QUE_CSTAT_ERR 1).setF
        (Reg.QUE_CSTAT k d.ctr) Fld.QUE_CSTAT_ERRQ q) := by
  refine ⟨_, rfl, ?_⟩
  unfold State.countDone
  exact (ite_eq_or_eq _ _ _).symm.imp_right fun h => ⟨_, h⟩

/-- What register writes and the sources of errors leave alone, the count of a completed descriptor leaves alone. -/
theorem State.countDone_keeps {β : Type} (g : State → β) (hwr : ∀ u a v, g (State.wr u a v) = g u)
    (hsrc : ∀ (u : State) e, g { u with core := { u.core with errSrc := e } } = g u) (s : State) (k q : Nat) (d : QDesc) (err : Bool) :
    g (s.countDone k q d err) = g s := by
  obtain ⟨u, hu, h | ⟨e, h⟩⟩ := s.countDone_cases k q d err
  · rw [h, hu, hwr]
  · rw [h, State.setF, hwr, State.setF, hwr, hsrc, hu, hwr]

/-- Beside DONE the count of a completed descriptor changes the counter's status alone. -/
theorem State.countDone_regsExcept (s : State) (k q : Nat) (d : QDesc) (err : Bool) :
    RegsExcept [Reg.QUE_CSTAT k d.ctr] (s.wr (Reg.QUE_CDONE k d.ctr) (s.cdone k d.ctr + 1)) (s.countDone k q d err) := by
  have hstat : Reg.QUE_CSTAT k d.ctr ∈ [Reg.QUE_CSTAT k d.ctr] := List.mem_singleton_self _
  obtain ⟨u, hu, h | ⟨e, h⟩⟩ := s.countDone_cases k q d err
  · rw [h, hu]
    exact RegsExcept.refl _ _
  · rw [h, ← hu]
    refine RegsExcept.trans ?_ (State.setF_regsExcept _ hstat _ _)
    exact RegsExcept.trans (RegsExcept.of_regs _ rfl) (State.setF_regsExcept _ hstat _ _)

theorem State.rd_setQueue_ne {k q a : Nat} (h : Reg.QUE_QSTAT k q ≠ a) (s : State) (l : List QDesc) : (s.setQueue k q l).rd a = s.rd a :=
  State.rd_setF_ne h _ _ _

/-- The end of the oldest descriptor of a queue (R138): it leaves the queue and is counted. -/
theorem State.descPop_of_ended {s : State} {k q : Nat} {d : QDesc} {rest : List QDesc} (hq : s.queue k q = d :: rest)
    (hend : s.descEnded k q d = true) (hlive : d.ended = false) :
    ∃ err, s.descPop k q = ((s.dropReqs k q d.id).setQueue k q rest).countDone k q d err := by
  unfold State.descPop
  rw [hq]
  simp only [hend, hlive, Bool.not_true, Bool.false_eq_true, if_false]
  exact ⟨_, rfl⟩

theorem State.descComplete_of_idle {s : State} {k q : Nat} (h : ∀ n < 4, (s.descPop k q).op k (8 + n) = none) :
    s.descComplete k q = s.descPop k q := by
  unfold State.descComplete
  dsimp only
  split
  case h_1 n hn => exact State.runUnit_of_none (h n (List.mem_range.1 (List.mem_of_find?_eq_some hn)))
  case h_2 => rfl

/-! #### Operations of units -/

theorem State.op_setOp_same (s : State) (k u : Nat) (o : Option UnitOp) : (s.setOp k u o).op k u = o := SMap.get_set_same ..

theorem State.setOp_shelf (s : State) (k u : Nat) (o : Option UnitOp) : (s.setOp k u o).core.shelf = s.core.shelf := rfl

/-- A round of a unit whose step goes on. -/
theorem State.runOp_of_go {s t : State} {k u : Nat} {o o' : UnitOp} (hop : s.op k u = some o) (hstep : s.unitStep k u o = .go t o') (fuel : Nat) :
    s.runOp k u (fuel + 1) = (t.setOp k u (some o')).runOp k u fuel := by
  rw [State.runOp, hop]
  dsimp only
  rw [hstep]

/-- A round of a unit whose operation is over. -/
theorem State.runOp_of_fin {s t : State} {k u : Nat} {o : UnitOp} (hop : s.op k u = some o) (hstep : s.unitStep k u o = .fin t) (fuel : Nat) :
    s.runOp k u (fuel + 1) = t.endOp k u := by
  rw [State.runOp, hop]
  dsimp only
  rw [hstep]

/-! #### ACCUMULATE (R73, R74, R171) -/

/-- The operation of an accumulator that has written `i` rows of a delivered read, in scheduled mode. -/
def accumOp (d : Delivered) (i : Nat) : UnitOp :=
  { ctx := d.job.ctx, pc := d.job.pc, tagged := false, job := .accum d, i := i, held := [], blocked := none }

/-- `u` is `s` while the accumulator of group `g` writes the rows of a delivered read: `i` of them are written, and beside the unit, the
rows and the waiting lists of the core nothing has changed. -/
structure Accumulating (s : State) (k g : Nat) (d : Delivered) (i : Nat) (u : State) : Prop where
  op : u.op k (16 + g) = some (accumOp d i)
  same : ∃ ops shelf waiters, u = { s with core := { s.core with ops := ops, shelf := shelf, waiters := waiters } }
  rows : ∀ x < i, (u.shelfRow k (d.job.tmpl.odst + x)).data = (s.contribRow k d x).toRow

/-- The rows of a delivered read can be written: they lie in the context's rows and no descriptor still has to land on them, no column
exceeds the headroom, and no partial sums are merged. -/
structure AccumReady (s : State) (k : Nat) (d : Delivered) : Prop where
  psrc : d.job.tmpl.psrc = 0xFFFF
  headroom : s.headroom k d.tile d.job.tmpl.base = none
  free : ∀ x < 11, s.inRows k d.job.ctx (d.job.tmpl.odst + x) = true ∧ s.spillPending k (d.job.tmpl.odst + x) = false

section
variable {s u : State} {k g i : Nat} {d : Delivered}

/-- The next step of an accumulator writes the next row. -/
theorem State.stepAccum_of_ready (hready : AccumReady u k d) (hi : i < 11) : u.unitStep k (16 + g) (accumOp d i) =
    .go (u.writtenRow ((accumOp d i).acc k (16 + g) .acc .fill (d.job.tmpl.odst + i)) (u.contribRow k d i).toRow false
      (u.shelfRow k (d.job.tmpl.odst + i)).full) (accumOp d (i + 1)) := by
  obtain ⟨hrow, hspill⟩ := hready.free i hi
  have hacc := State.access_scheduled_write (s := u) (a := (accumOp d i).acc k (16 + g) .acc .fill (d.job.tmpl.odst + i)) rfl hrow
    (.inl hspill) (u.contribRow k d i).toRow false
  have hhead : (if (accumOp d i).i = 0 ∧ (accumOp d i).held = [] then u.headroom k d.tile d.job.tmpl.base else none) = none := by
    rw [hready.headroom, ite_self]
  unfold State.unitStep accumOp State.stepAccum
  unfold accumOp at hhead hacc
  dsimp only
  rw [if_neg (not_le.2 hi), hhead]
  dsimp only
  rw [if_pos hready.psrc, hacc]
  rfl

theorem Accumulating.ready (h : Accumulating s k g d i u) (hready : AccumReady s k d) : AccumReady u k d := by
  obtain ⟨ops, shelf, waiters, rfl⟩ := h.same
  exact ⟨hready.psrc, hready.headroom, hready.free⟩

theorem Accumulating.contribRow (h : Accumulating s k g d i u) (x : Nat) : u.contribRow k d x = s.contribRow k d x := by
  obtain ⟨ops, shelf, waiters, rfl⟩ := h.same
  rfl

/-- A round of the accumulator writes one row more. -/
theorem Accumulating.round (h : Accumulating s k g d i u) (hready : AccumReady s k d) (hi : i < 11) (fuel : Nat) :
    ∃ v, u.runOp k (16 + g) (fuel + 1) = v.runOp k (16 + g) fuel ∧ Accumulating s k g d (i + 1) v := by
  have hk : ((accumOp d i).acc k (16 + g) .acc .fill (d.job.tmpl.odst + i)).k = k := rfl
  have hrow : ((accumOp d i).acc k (16 + g) .acc .fill (d.job.tmpl.odst + i)).row = d.job.tmpl.odst + i := rfl
  have hstep := State.stepAccum_of_ready (g := g) (h.ready hready) hi
  generalize (accumOp d i).acc k (16 + g) .acc .fill (d.job.tmpl.odst + i) = a at hk hrow hstep
  refine ⟨_, State.runOp_of_go h.op hstep fuel, State.op_setOp_same .., ?_, fun x hx => ?_⟩
  · obtain ⟨ops, shelf, waiters, hu⟩ := h.same
    obtain ⟨shelf', waiters', hw⟩ := u.writtenRow_eq a (u.contribRow k d i).toRow false (u.shelfRow k (d.job.tmpl.odst + i)).full
    rw [hw, hu]
    exact ⟨_, shelf', waiters', rfl⟩
  · rw [State.shelfRow_congr (State.setOp_shelf ..)]
    rcases Nat.lt_succ_iff_lt_or_eq.1 hx with hx | rfl
    · rw [State.shelfRow_writtenRow_ne hk (hrow ▸ fun e => absurd (Nat.add_left_cancel e) hx.ne'), h.rows x hx]
    · rw [State.shelfRow_writtenRow_same hk hrow, h.contribRow]

theorem Accumulating.rounds (hready : AccumReady s k d) (m fuel : Nat) : ∀ {i u}, Accumulating s k g d i u → i + m ≤ 11 →
    ∃ v, u.runOp k (16 + g) (m + fuel) = v.runOp k (16 + g) fuel ∧ Accumulating s k g d (i + m) v := by
  induction m with
  | zero => exact fun h _ => ⟨_, by rw [Nat.zero_add], h⟩
  | succ m ih =>
    intro i u h hm
    obtain ⟨v, hv, hnext⟩ := h.round hready (by omega) (m + fuel)
    obtain ⟨w, hw, hlast⟩ := ih hnext (by omega)
    exact ⟨w, by rw [show m + 1 + fuel = m + fuel + 1 by omega, hv, hw], by rwa [show i + (m + 1) = i + 1 + m by omega]⟩

/-- With the eleven rows written the operation of the accumulator is over. -/
theorem Accumulating.over (h : Accumulating s k g d 11 u) (fuel : Nat) : u.runOp k (16 + g) (fuel + 1) = u.endOp k (16 + g) :=
  State.runOp_of_fin h.op rfl fuel

end

/-- The end of an operation of a unit that is not the mesh send. -/
theorem State.endOp_of_ne_send (s : State) (k : Nat) {u : Nat} (hu : u ≠ 6) : s.endOp k u =
    { s.setOp k u none with hbm := { s.hbm with late := s.hbm.late.filter fun x => x != k * 32 + u } } := by
  rw [State.endOp, if_neg hu]
  rfl

/-- A free accumulator writes the eleven contribution rows of the first delivered read of its group (R73, R170). -/
theorem State.accumulate_effect {s : State} {k g : Nat} {d : Delivered} {rest : List Delivered} (hgroup : s.group k g = d :: rest)
    (hop : s.op k (16 + g) = none) (htag : s.tagged k d.job.ctx = false) (hready : AccumReady s k d) : ∃ t, s.accumulate k g = t ∧
      (∀ i < 11, (t.shelfRow k (d.job.tmpl.odst + i)).data = (s.contribRow k d i).toRow) ∧ t.group k g = rest ∧
      t.op k (16 + g) = none ∧ t.regs = s.regs ∧ t.mesh = s.mesh := by
  have hstart : s.accumulate k g = ((s.setGroup k g rest).setOp k (16 + g) (some (accumOp d 0))).runUnit k (16 + g) := by
    unfold State.accumulate
    rw [hgroup]
    dsimp only
    rw [hop, htag]
    rfl
  have hrest := State.group_setGroup_same s k g rest
  obtain ⟨m, hm⟩ : ∃ m, s.setGroup k g rest = { s with core := { s.core with groups := m } } := ⟨_, rfl⟩
  rw [hm] at hstart hrest
  have hready' : AccumReady { s with core := { s.core with groups := m } } k d := ⟨hready.psrc, hready.headroom, hready.free⟩
  obtain ⟨u, hu, hwritten⟩ := Accumulating.rounds (g := g) hready' 11 15
    ⟨State.op_setOp_same _ k (16 + g) (some (accumOp d 0)), ⟨_, s.core.shelf, s.core.waiters, rfl⟩, fun x hx => absurd hx (Nat.not_lt_zero x)⟩
    le_rfl
  rw [State.runUnit, State.op_setOp_same] at hstart
  refine ⟨_, hstart.trans (hu.trans ((hwritten.over 14).trans (u.endOp_of_ne_send k (by omega)))), fun i hi => ?_, ?_,
    State.op_setOp_same .., ?_, ?_⟩
  · exact hwritten.rows i hi
  · obtain ⟨ops, shelf, waiters, rfl⟩ := hwritten.same
    exact hrest
  · obtain ⟨ops, shelf, waiters, rfl⟩ := hwritten.same
    rfl
  · obtain ⟨ops, shelf, waiters, rfl⟩ := hwritten.same
    rfl

/-! #### SCRUB_ROW (R122) -/

/-- The state in which the scrubber of a core has moved to its next row. -/
def State.scrubNext (s : State) (k : Nat) : State :=
  { s with core := { s.core with scrub := SMap.set (fun _ => 0) s.core.scrub k ((SMap.get (fun _ => 0) s.core.scrub k + 1) % 49152) } }

/-- A visit of the scrubber that finds a single-bit error corrects it. -/
theorem State.scrubRow_of_single {s : State} {k r : Nat} (hr : SMap.get (fun _ => 0) s.core.scrub k = r)
    (hon : s.fld (Reg.SHELF_SCRUB k) Fld.SHELF_SCRUB_EN = 1) (hpoison : (s.shelfRow k r).poison = false) (hecc : (s.shelfRow k r).ecc ≤ 1) :
    s.scrubRow k 1 = ((s.scrubNext k).setShelfRow k r { s.shelfRow k r with ecc := 0 }).countCe k := by
  subst hr
  have hsame (r : Nat) : (s.scrubNext k).shelfRow k r = s.shelfRow k r := rfl
  rw [← hsame] at hpoison hecc ⊢
  unfold State.scrubRow
  rw [if_neg (not_not.2 hon)]
  exact (if_neg fun h => Bool.false_ne_true (hpoison.symm.trans h)).trans (if_pos (Nat.max_eq_left hecc))

theorem State.countCe_core (s : State) (k : Nat) : (s.countCe k).core = s.core := (State.inc_core ..).trans (State.setF_core ..)

theorem State.countCe_log (s : State) (k : Nat) : (s.countCe k).log = s.log := (State.inc_log ..).trans (State.setF_log ..)

/-! #### BLOCKED_ACCESS_RETRY of a parked row (R212, R124) -/

theorem State.rowWritten_eq (s : State) (node : Nat) (r : MeshRow) :
    ∃ un ej, s.rowWritten node r = { s with mesh := { s.mesh with unwritten := un, ejected := ej } } := ⟨_, _, rfl⟩

/-- A row for a context in tagged mode, of an EMPTY shelf row that a buffer admits, is written. -/
theorem State.land_of_fill {s : State} {k n : Nat} {r : MeshRow} (htag : s.tagged k n = true) (hrow : s.inRows k n r.drow = true)
    (hallowed : s.tagAllowed k n .msh true r.drow = true) (hempty : (s.shelfRow k r.drow).full = false) : s.land k n r =
      .written ((s.writtenRow (portAcc s k n r.drow r.snode .fill true) r.data r.poison true).rowWritten k r) := by
  rw [State.land, htag,
    State.access_tagged_fill (a := portAcc s k n r.drow r.snode .fill true) rfl hrow hallowed hempty r.data r.poison]

theorem State.parkClosed_of_open {s : State} {k n : Nat} (h : (s.slots (ctxKey k n)).all (fun x => !x.closed) = true) : s.parkClosed k n = s := by
  have hnone : (s.slots (ctxKey k n)).find? (fun x => x.closed) = none :=
    List.find?_eq_none.2 fun x hx => by simpa using List.all_eq_true.1 h x hx
  unfold State.parkClosed
  dsimp only
  rw [hnone]

/-- A parked row that is written leaves the parking store. -/
theorem State.retryParked_of_written {s u : State} {k n i : Nat} {r : MeshRow} (hi : (s.parked (ctxKey k n))[i]? = some r)
    (hempty : (s.shelfRow k r.drow).full = false) (hfirst : ((s.parked (ctxKey k n)).take i).any (fun q => q.drow == r.drow) = false)
    (hmay : s.mayRetry k r.drow (64 + n) = true) (hreduce : r.reduce = false) (hland : s.land k n r = .written u) :
    s.retryParked k n i = (u.setParked (ctxKey k n) ((u.parked (ctxKey k n)).eraseIdx i)).parkClosed k n := by
  unfold State.retryParked
  dsimp only
  rw [hi]
  dsimp only
  rw [hempty, hfirst, hmay, hreduce, hland]
  rfl

end Machine

open Machine

theorem descriptorStart_completes (s : State) (k : CoreNo) (q : Fin 16) (d : QDesc) (rest : List QDesc) (hq : s.queue k q = d :: rest)
    (hstart : d.started = false) (hread : d.write = false) :
    Completes (.descriptorStart k q) s fun t => t.hbm.reqs.length = s.hbm.reqs.length + 17 * d.rows ∧
      t.queue k q = { d with started := true, id := s.hbm.nextId } :: rest ∧ t.hbm.nextId = s.hbm.nextId + 1 ∧ t.mesh = s.mesh ∧
      t.log = s.log := by
  have h := State.descStart_of_read hq hstart hread _ rfl
  have hhbm (l : List QDesc) := State.setQueue_keeps State.hbm (fun _ _ _ => rfl) (fun _ _ => rfl)
    { s with hbm := { s.hbm with nextId := s.hbm.nextId + 1 } } k q l
  refine ⟨_, congrArg Host.Outcome.next h, ?_, ?_, ?_, ?_, ?_⟩
  · rw [State.length_reqs_issueRows, List.length_range, hhbm]
  · rw [State.issueRows_keeps (fun u => u.queue k q) fun _ _ => rfl, State.queue_setQueue_same]
  · rw [State.issueRows_keeps (fun u => u.hbm.nextId) fun _ _ => rfl, hhbm]
  · rw [State.issueRows_keeps State.mesh fun _ _ => rfl, State.setQueue_keeps State.mesh (fun _ _ _ => rfl) fun _ _ => rfl]
  · rw [State.issueRows_keeps State.log fun _ _ => rfl, State.setQueue_keeps State.log (fun _ _ _ => rfl) fun _ _ => rfl]

theorem descriptorRowLand_completes (s : State) (k : CoreNo) (q : Fin 16) (j : Fin 256) (i : Fin 4096) (cycles : Nat) (d : QDesc)
    (gs : List Granule) (hj : (s.queue k q)[j.val]? = some d) (hread : d.write = false) (hstart : d.started = true) (hi : i < d.rows)
    (hnew : d.done.contains i.val = false) (htag : d.tagged = false) (hrow : s.inRows k d.ctx (d.first + i) = true) (hlen : gs.length = 17)
    (hgs : (List.range 17).all (fun g => (s.respOf k q d.id i g).map (fun r => (r.data, r.poison || r.refused)) == some (nth 0 gs g, false)) = true) :
    Completes (.descriptorRowLand k q j i cycles) s fun t =>
      t.shelfRow k (d.first + i) = { data := rowOfGranules gs, full := (s.shelfRow k (d.first + i)).full } ∧
      (t.queue k q)[j.val]? = some { d with done := d.done ++ [i.val] } ∧ t.mesh = s.mesh ∧ t.log = s.log := by
  obtain ⟨c, h⟩ := State.landRow_of_clean (cycles := cycles) hj hread hstart hi hnew htag hrow hlen
    fun g hg => beq_iff_eq.1 (List.all_eq_true.1 hgs g hg)
  have hk : (d.acc k q i).k = k := rfl
  have hr : (d.acc k q i).row = d.first + i := rfl
  generalize d.acc k q i = a at h hk hr
  obtain ⟨m, w, hwritten⟩ := s.writtenRow_eq a (rowOfGranules gs) false (s.shelfRow k (d.first + i)).full
  have hshelf := State.shelfRow_writtenRow_same hk hr s (rowOfGranules gs) false (s.shelfRow k (d.first + i)).full
  rw [hwritten] at h hshelf
  have hlate {β : Type} (g : State → β) (hg : ∀ u a v, g (State.wr u a v) = g u) (u : State) :
      g (u.when c fun s => s.lateTime k (d.first + i) cycles) = g u :=
    State.when_keeps g _ _ u (u.lateTime_keeps g hg k _ _)
  refine ⟨_, congrArg Host.Outcome.next h, ?_, ?_, ?_, ?_⟩
  · rw [hlate (fun u => u.shelfRow k (d.first + i)) fun _ _ _ => rfl,
      State.landed_keeps (fun u => u.shelfRow k (d.first + i)) (fun _ _ _ => rfl) (fun _ _ => rfl) fun _ _ => rfl, hshelf]
  · rw [hlate (fun u => u.queue k q) fun _ _ _ => rfl, State.queue_landed (s := { s with core := { s.core with shelf := m, waiters := w } }) hj]
  · rw [hlate State.mesh fun _ _ _ => rfl, State.landed_keeps State.mesh (fun _ _ _ => rfl) (fun _ _ => rfl) fun _ _ => rfl]
  · rw [hlate State.log fun _ _ _ => rfl, State.landed_keeps State.log (fun _ _ _ => rfl) (fun _ _ => rfl) fun _ _ => rfl]

theorem descriptorComplete_completes (s : State) (k : CoreNo) (q : Fin 16) (d : QDesc) (rest : List QDesc) (hq : s.queue k q = d :: rest)
    (hend : s.descEnded k q d = true) (hlive : d.ended = false) (_ : d.ctr < 64)
    (hidle : (List.range 4).all (fun n => (s.op k (8 + n)).isNone) = true) :
    Completes (.descriptorComplete k q) s fun t => t.queue k q = rest ∧ t.cdone k d.ctr = (s.cdone k d.ctr + 1) % 2 ^ 32 ∧
      t.cenq k d.ctr = s.cenq k d.ctr ∧ t.mesh = s.mesh ∧ t.log = s.log := by
  obtain ⟨err, h⟩ := State.descPop_of_ended hq hend hlive
  have hkeeps {β : Type} (g : State → β) (hwr : ∀ u a v, g (State.wr u a v) = g u)
      (hqueues : ∀ (u : State) m, g { u with core := { u.core with queues := m } } = g u)
      (hsrc : ∀ (u : State) e, g { u with core := { u.core with errSrc := e } } = g u) : g (s.descPop k q) = g (s.dropReqs k q d.id) := by
    rw [h, State.countDone_keeps g hwr hsrc, State.setQueue_keeps g hwr hqueues]
  have hnoop (n : Nat) (hn : n < 4) : (s.descPop k q).op k (8 + n) = none := by
    rw [hkeeps (fun u => u.op k (8 + n)) (fun _ _ _ => rfl) (fun _ _ => rfl) fun _ _ => rfl]
    exact Option.isNone_iff_eq_none.1 (List.all_eq_true.1 hidle n (List.mem_range.2 hn))
  have hqstat {a : Nat} (ha : a ∈ [Reg.QUE_CENQ k d.ctr, Reg.QUE_CDONE k d.ctr, Reg.QUE_CSTAT k d.ctr]) : Reg.QUE_QSTAT k q ≠ a := by
    have hplace := counterRegs_ge k d.ctr ha
    simp only [Reg.QUE_QSTAT]
    omega
  have hdone : Reg.QUE_CDONE k d.ctr ∉ [Reg.QUE_CSTAT k d.ctr] := by simp only [List.mem_singleton, Reg.QUE_CDONE, Reg.QUE_CSTAT]; omega
  have henq : Reg.QUE_CENQ k d.ctr ∉ [Reg.QUE_CSTAT k d.ctr] := by simp only [List.mem_singleton, Reg.QUE_CENQ, Reg.QUE_CSTAT]; omega
  have hne : Reg.QUE_CDONE k d.ctr ≠ Reg.QUE_CENQ k d.ctr := by simp only [Reg.QUE_CENQ, Reg.QUE_CDONE]; omega
  refine ⟨_, congrArg Host.Outcome.next (State.descComplete_of_idle hnoop), ?_, ?_, ?_, ?_, ?_⟩
  · rw [h, State.countDone_keeps (fun u => u.queue k q) (fun _ _ _ => rfl) fun _ _ => rfl, State.queue_setQueue_same]
  · rw [State.cdone, h, State.countDone_regsExcept _ _ _ _ _ _ hdone, State.rd_wr_mod, State.cdone, State.rd_setQueue_ne (hqstat (by simp))]
    rfl
  · rw [State.cenq, h, State.countDone_regsExcept _ _ _ _ _ _ henq, State.rd_wr_ne hne, State.rd_setQueue_ne (hqstat (by simp))]
    rfl
  · rw [hkeeps State.mesh (fun _ _ _ => rfl) (fun _ _ => rfl) fun _ _ => rfl]
    rfl
  · rw [hkeeps State.log (fun _ _ _ => rfl) (fun _ _ => rfl) fun _ _ => rfl]
    rfl

theorem scrubRow_completes (s : State) (k : CoreNo) (hon : s.fld (Reg.SHELF_SCRUB k) Fld.SHELF_SCRUB_EN = 1)
    (hpoison : (s.shelfRow k (SMap.get (fun _ => 0) s.core.scrub k)).poison = false)
    (hecc : (s.shelfRow k (SMap.get (fun _ => 0) s.core.scrub k)).ecc ≤ 1) :
    Completes (.scrubRow k 1) s fun t => let r := SMap.get (fun _ => 0) s.core.scrub k
      SMap.get (fun _ => 0) t.core.scrub k = (r + 1) % 49152 ∧ (t.shelfRow k r).ecc = 0 ∧ (t.shelfRow k r).data = (s.shelfRow k r).data ∧
      t.rd (Reg.SHELF_CECNT k) = satAdd 0xFFFFFFFF (s.rd (Reg.SHELF_CECNT k)) 1 ∧ t.fld (Reg.SHELF_ECCSTAT k) Fld.SHELF_ECCSTAT_CE = 1 ∧
      RegsExcept [Reg.SHELF_CECNT k, Reg.SHELF_ECCSTAT k] s t ∧ t.log = s.log := by
  have h := State.scrubRow_of_single rfl hon hpoison hecc
  have hcorrected := State.shelfRow_setShelfRow_same (s.scrubNext k) k (SMap.get (fun _ => 0) s.core.scrub k)
    { s.shelfRow k (SMap.get (fun _ => 0) s.core.scrub k) with ecc := 0 }
  obtain ⟨m, hm⟩ : ∃ m, (s.scrubNext k).setShelfRow k (SMap.get (fun _ => 0) s.core.scrub k)
      { s.shelfRow k (SMap.get (fun _ => 0) s.core.scrub k) with ecc := 0 } = { s.scrubNext k with core := { (s.scrubNext k).core with shelf := m } } :=
    ⟨_, rfl⟩
  rw [hm] at h hcorrected
  obtain ⟨hce, hcount⟩ := State.countCe_reads { s.scrubNext k with core := { (s.scrubNext k).core with shelf := m } } k
  have hrow := (State.shelfRow_congr (congrArg CoreBlk.shelf (State.countCe_core _ k)) k _).trans hcorrected
  refine ⟨_, congrArg Host.Outcome.next h, ?_, by rw [hrow], by rw [hrow], hcount, hce, ?_, State.countCe_log _ k⟩
  · rw [State.countCe_core]
    exact SMap.get_set_same ..
  · exact (RegsExcept.of_regs _ rfl).trans ((State.countCe_regsExcept _ k).mono (by simp))

/-- Settles O7, by the effect of each command. -/
theorem queueCommandsComplete : Obligations.QueueCommandsComplete := by
  refine ⟨descriptorStart_completes, descriptorRowLand_completes, descriptorComplete_completes,
    fun s k g d rest i hgroup hop hpsrc htag hhead hfree hi => ?_, scrubRow_completes,
    fun s k n i r hi hreduce htag hrow hallowed hempty hfirst hmay hopen => ?_⟩
  · have hready : AccumReady s k d := ⟨hpsrc, hhead, fun x hx => by
      simpa using List.all_eq_true.1 hfree x (List.mem_range.2 hx)⟩
    obtain ⟨t, ht, hrows, hgroup', hop', hregs, hmesh⟩ := State.accumulate_effect hgroup hop htag hready
    exact ⟨t, congrArg Host.Outcome.next ht, hrows i hi, hgroup', hop', RegsExcept.of_regs _ hregs, hmesh⟩
  · have h := State.retryParked_of_written hi hempty hfirst hmay hreduce (State.land_of_fill htag hrow hallowed hempty)
    have hk : (portAcc s k n r.drow r.snode .fill true).k = k := rfl
    have hr : (portAcc s k n r.drow r.snode .fill true).row = r.drow := rfl
    generalize portAcc s k n r.drow r.snode .fill true = a at h hk hr
    obtain ⟨m, w, hwritten⟩ := s.writtenRow_eq a r.data r.poison true
    have hshelf := State.shelfRow_writtenRow_same hk hr s r.data r.poison true
    rw [hwritten] at h hshelf
    obtain ⟨un, ej, hcounted⟩ := State.rowWritten_eq { s with core := { s.core with shelf := m, waiters := w } } k r
    rw [hcounted] at h
    exact ⟨_, congrArg Host.Outcome.next (h.trans (State.parkClosed_of_open hopen)), hshelf, SMap.get_set_same .., RegsExcept.of_regs _ rfl⟩

end Sys2Proof
end

section
set_option Elab.async false

/-! ### The start of a context -/

namespace Sys2Proof

namespace Machine

/-! #### What empties a context leaves the registers of the contexts (R114) -/

/-- The first address of the queue registers of a core: above the registers of its contexts. -/
def queueSpace (k : Nat) : Nat := 0x1020000 + k * 0x100000

section
variable {k n a : Nat}

theorem State.rd_setQueue_below (h : a < queueSpace k) (s : State) (q : Nat) (l : List QDesc) : (s.setQueue k q l).rd a = s.rd a :=
  State.rd_setQueue_ne (by simp only [Reg.QUE_QSTAT, queueSpace] at h ⊢; omega) s l

theorem State.rd_clearCtr_below (h : a < queueSpace k) (s : State) (c : Nat) : (s.clearCtr k c).rd a = s.rd a :=
  s.clearCtr_regsExcept k c a fun hmem => by
    have hplace := counterRegs_ge k c hmem
    simp only [queueSpace] at h
    omega

theorem State.unsend_regs (s : State) : (s.unsend k).regs = s.regs := by
  unfold State.unsend
  split
  · split
    · rfl
    · rfl
  · rfl

theorem State.rowWritten_regs (s : State) (node : Nat) (r : MeshRow) : (s.rowWritten node r).regs = s.regs := rfl

theorem State.setDelivery_regs (s : State) (c : Nat) (l m : List MeshRow) (x : List RedSlot) :
    (((s.setDeliv c l).setParked c m).setSlots c x).regs = s.regs := rfl

theorem State.emptyTags_regs (s : State) (k n : Nat) : (s.emptyTags k n).regs = s.regs := rfl

theorem State.emptyTags_queues (s : State) (k n : Nat) : (s.emptyTags k n).core.queues = s.core.queues := rfl

theorem State.rd_discardCtx_below (h : a < queueSpace k) (s : State) (n : Nat) : (s.discardCtx k n).rd a = s.rd a := by
  have hcount : Reg.RTR_DISCNT k ≠ a := by simp only [Reg.RTR_DISCNT, queueSpace] at h ⊢; omega
  have hsink (u : State) (r : MeshRow) : (u.sink k k r).rd a = u.rd a :=
    (State.rd_congr (State.rowWritten_regs ..) a).trans (State.rd_inc_ne hcount u 1)
  unfold State.discardCtx
  exact (State.rd_congr (State.setDelivery_regs ..) a).trans
    ((State.rd_inc_ne hcount _ _).trans (State.forEach_keeps (fun u => u.rd a) _ hsink _ s))

theorem State.rd_emptyCtx_below (h : a < queueSpace k) (s : State) (n : Nat) : (s.emptyCtx k n).rd a = s.rd a := by
  unfold State.emptyCtx
  dsimp only
  rw [State.rd_discardCtx_below h]
  refine (State.rd_congr rfl a).trans ((State.forEach_keeps (fun u => u.rd a) _ (fun u q => u.rd_setQueue_below h q []) _ _).trans ?_)
  exact State.rd_congr (State.when_keeps State.regs _ _ s s.unsend_regs) a

theorem State.rd_clearQueues_below (h : a < queueSpace k) (s : State) (n : Nat) : (s.clearQueues k n).rd a = s.rd a :=
  (State.forEach_keeps (fun u => u.rd a) _ (fun u q => u.rd_setQueue_below h q []) _ _).trans
    (State.forEach_keeps (fun u => u.rd a) _ (fun u c => u.rd_clearCtr_below h c) _ s)

end

/-! #### What a context owns is read from its registers -/

section
variable {s t : State} {k n : Nat}

/-- What a context owns, as four registers say it. -/
theorem State.owned_congr (h : ∀ a ∈ [Reg.CORE_CTXROW k n, Reg.CORE_CTXQ k n, Reg.CORE_CTXCTR_LO k n, Reg.CORE_CTXCTR_HI k n], t.rd a = s.rd a) :
    (∀ c, t.ownsCtr k n c = s.ownsCtr k n c) ∧ (∀ q, t.ownsQueue k n q = s.ownsQueue k n q) ∧ ∀ r, t.inRows k n r = s.inRows k n r := by
  simp only [List.forall_mem_cons, List.not_mem_nil, false_imp_iff, implies_true, and_true] at h
  obtain ⟨hrow, hq, hlo, hhi⟩ := h
  refine ⟨fun c => ?_, fun q => ?_, fun r => ?_⟩
  · rw [State.ownsCtr, State.ctrMask, hlo, hhi]
    rfl
  · rw [State.ownsQueue, hq]
    rfl
  · rw [State.inRows, State.rowBase, State.rowCount, State.fld, State.fld, hrow]
    rfl

/-- The registers that say what a context owns lie below the queue registers. -/
theorem ownerRegs_below (hn : n < 4) {a : Nat}
    (ha : a ∈ [Reg.CORE_CTXROW k n, Reg.CORE_CTXQ k n, Reg.CORE_CTXCTR_LO k n, Reg.CORE_CTXCTR_HI k n]) : a < queueSpace k := by
  simp only [List.mem_cons, List.not_mem_nil, or_false, Reg.CORE_CTXROW, Reg.CORE_CTXQ, Reg.CORE_CTXCTR_LO, Reg.CORE_CTXCTR_HI] at ha
  simp only [queueSpace]
  omega

end

/-! #### Counters, queues and tags -/

section
variable {s : State} {k n : Nat}

/-- A counter that reads ENQ = 0, DONE = 0 and ERR = 0. -/
def State.CtrClear (s : State) (k c : Nat) : Prop := s.rd (Reg.QUE_CENQ k c) = 0 ∧ s.rd (Reg.QUE_CDONE k c) = 0 ∧ s.rd (Reg.QUE_CSTAT k c) = 0

/-- A queue that is empty, and shows it. -/
def State.QueueEmpty (s : State) (k q : Nat) : Prop := s.queue k q = [] ∧ s.fld (Reg.QUE_QSTAT k q) Fld.QUE_QSTAT_INFLIGHT = 0

theorem State.CtrClear.congr {t : State} {c : Nat} (h : s.CtrClear k c)
    (hregs : ∀ a ∈ [Reg.QUE_CENQ k c, Reg.QUE_CDONE k c, Reg.QUE_CSTAT k c], t.rd a = s.rd a) : t.CtrClear k c := by
  obtain ⟨henq, hdone, hstat⟩ := h
  exact ⟨(hregs _ (by simp)).trans henq, (hregs _ (by simp)).trans hdone, (hregs _ (by simp)).trans hstat⟩

theorem State.CtrClear.clearCtr {c : Nat} (h : s.CtrClear k c) (j : Nat) : (s.clearCtr k j).CtrClear k c := by
  rcases eq_or_ne j c with rfl | hj
  · exact s.clearCtr_reads_zero k j
  · refine h.congr fun a ha => s.clearCtr_regsExcept k j a fun hmem => ?_
    simp only [List.mem_cons, List.not_mem_nil, or_false, Reg.QUE_CENQ, Reg.QUE_CDONE, Reg.QUE_CSTAT] at ha hmem
    omega

theorem State.CtrClear.setQueue {c q : Nat} (h : s.CtrClear k c) (hq : q < 16) (l : List QDesc) : (s.setQueue k q l).CtrClear k c :=
  h.congr fun _ ha => State.rd_setQueue_ne (fun e => by
    have hplace := counterRegs_ge k c ha
    simp only [Reg.QUE_QSTAT] at e
    omega) s l

theorem State.queueEmpty_setQueue (s : State) (k q : Nat) : (s.setQueue k q []).QueueEmpty k q :=
  ⟨State.queue_setQueue_same .., State.fld_setF_same _ _ _ _ (by decide)⟩

theorem State.queue_setQueue_ne {j q : Nat} (h : j ≠ q) (s : State) (k : Nat) (l : List QDesc) : (s.setQueue k j l).queue k q = s.queue k q := by
  rw [State.queue, State.setQueue, State.setF_core]
  exact SMap.get_set_ne _ (fun e => h (Nat.add_left_cancel e)) _ _

theorem State.QueueEmpty.setQueue {q : Nat} (h : s.QueueEmpty k q) (j : Nat) : (s.setQueue k j []).QueueEmpty k q := by
  rcases eq_or_ne j q with rfl | hj
  · exact s.queueEmpty_setQueue k j
  · have hreg : Reg.QUE_QSTAT k j ≠ Reg.QUE_QSTAT k q := by simp only [Reg.QUE_QSTAT]; omega
    refine ⟨(State.queue_setQueue_ne hj s k []).trans h.1, ?_⟩
    rw [State.fld, State.rd_setQueue_ne hreg]
    exact h.2

theorem State.ctrClear_clearQueues {c : Nat} (h : s.ownsCtr k n c = true) : (s.clearQueues k n).CtrClear k c := by
  obtain ⟨hc, hbit⟩ := Bool.and_eq_true_iff.1 h
  refine State.forEach_mem (fun u => u.CtrClear k c) _ (fun u q hq hu => hu.setQueue (List.mem_range.1 (List.mem_of_mem_filter hq)) []) _ ?_
  exact State.forEach_reaches (fun u => u.CtrClear k c) (fun u j _ hu => hu.clearCtr j)
    (List.mem_filter.2 ⟨List.mem_range.2 (of_decide_eq_true hc), hbit⟩) (fun u => u.clearCtr_reads_zero k c) s

theorem State.queueEmpty_clearQueues {q : Nat} (hn : n < 4) (hq : q < 16) (h : s.ownsQueue k n q = true) :
    (s.clearQueues k n).QueueEmpty k q := by
  have hreg : Reg.CORE_CTXQ k n < queueSpace k := ownerRegs_below hn (by simp)
  have howns {l : List Nat} : (s.forEach l fun s c => s.clearCtr k c).ownsQueue k n q = true := by
    rw [State.ownsQueue, State.forEach_keeps (fun u => u.rd (Reg.CORE_CTXQ k n)) _ fun u c => u.rd_clearCtr_below hreg c]
    exact h
  exact State.forEach_reaches (fun u => u.QueueEmpty k q) (fun u j _ hu => hu.setQueue j)
    (List.mem_filter.2 ⟨List.mem_range.2 hq, howns⟩) (fun u => u.queueEmpty_setQueue k q) _

/-- A store of rows in which every listed row of key `i` has lost its tag, or is listed no more, holds no FULL row at `i`. -/
theorem SMap.full_filterMap {f : Nat × ShelfRow → Option (Nat × ShelfRow)} {i : Nat} (hkey : ∀ e e', f e = some e' → e'.1 = e.1)
    (hfull : ∀ x e', f (i, x) = some e' → e'.2.full = false) (m : SMap ShelfRow) :
    (SMap.get (fun _ => {}) (m.filterMap f) i).full = false := by
  induction m with
  | nil => rfl
  | cons e m ih =>
    obtain ⟨j, x⟩ := e
    cases hf : f (j, x) with
    | none => rwa [List.filterMap_cons_none hf]
    | some e' =>
      obtain ⟨j', x'⟩ := e'
      rw [List.filterMap_cons_some hf, SMap.get_cons]
      obtain rfl : j' = j := hkey _ _ hf
      split
      case isTrue hi =>
        subst hi
        exact hfull _ _ hf
      case isFalse => exact ih

theorem State.full_emptyTags {r : Nat} (hr : r < 65536) (hrow : s.inRows k n r = true) : ((s.emptyTags k n).shelfRow k r).full = false := by
  have hkey : rowKey k r / 65536 = k ∧ rowKey k r % 65536 = r := by simp only [rowKey]; omega
  refine SMap.full_filterMap (fun e e' h => ?_) (fun x e' h => ?_) _
  · dsimp only at h
    split_ifs at h <;> cases h <;> rfl
  · dsimp only at h
    rw [hkey.1, hkey.2, if_pos ⟨rfl, hrow⟩] at h
    split_ifs at h
    cases h
    rfl

end

/-! #### The registers of a context that starts -/

/-- A context with nothing left in its units, queues, counters and tags. -/
def State.cleared (s : State) (k n : Nat) : State := ((s.emptyCtx k n).clearQueues k n).emptyTags k n

/-- A cleared context starts at address 0 in scheduled mode, with no fault and no late rows. -/
def State.beginCtx (s : State) (k n : Nat) : State :=
  let s := (s.setCtx k n { wait := .stepWait }).setF (Reg.CORE_CTXCTL k n) Fld.CORE_CTXCTL_MODE 0
  let s := (s.setRun k n 1).wr (Reg.CORE_CTXPC k n) 0
  let s := (s.setF (Reg.CORE_FLTINFO k n) Fld.CORE_FLTINFO_VALID 0).setF (Reg.CORE_STAT k) ⟨n, 1⟩ 0
  (s.wr (Reg.QUE_LATECNT k n) 0).wr (Reg.QUE_LATETIME k n) 0

theorem State.startCtx_eq (s : State) (k n : Nat) : ∃ m, s.startCtx k n = { (s.cleared k n).beginCtx k n with mesh := m } := ⟨_, rfl⟩

/-- The registers that the start of a cleared context writes. -/
def startRegs (k n : Nat) : List Nat :=
  [Reg.CORE_CTXCTL k n, Reg.CORE_CTXPC k n, Reg.CORE_FLTINFO k n, Reg.CORE_STAT k, Reg.QUE_LATECNT k n, Reg.QUE_LATETIME k n]

theorem State.beginCtx_regsExcept (s : State) (k n : Nat) : RegsExcept (startRegs k n) s (s.beginCtx k n) := by
  unfold State.beginCtx
  iterate 7 refine RegsExcept.trans ?_ (State.wr_regsExcept _ (by simp [startRegs]) _)
  exact RegsExcept.of_regs _ rfl

/-- What register writes and the program registers leave alone, the start of a cleared context leaves alone. -/
theorem State.beginCtx_keeps {β : Type} (g : State → β) (hwr : ∀ u a v, g (State.wr u a v) = g u)
    (hctx : ∀ u k n c, g (State.setCtx u k n c) = g u) (s : State) (k n : Nat) : g (s.beginCtx k n) = g s := by
  unfold State.beginCtx State.setRun State.setF
  rw [hwr, hwr, hwr, hwr, hwr, hwr, hwr, hctx]

theorem State.beginCtx_starts {n : Nat} (hn : n < 4) (s : State) (k : Nat) :
    (s.beginCtx k n).ctxRun k n = 1 ∧ (s.beginCtx k n).pcOf k n = 0 ∧ (s.beginCtx k n).tagged k n = false := by
  have hlate : RegsExcept [Reg.QUE_LATECNT k n, Reg.QUE_LATETIME k n] _ (s.beginCtx k n) :=
    (State.wr_regsExcept _ (by simp) _).trans (State.wr_regsExcept _ (by simp) _)
  have hctl : Reg.CORE_CTXCTL k n ∉ [Reg.QUE_LATECNT k n, Reg.QUE_LATETIME k n] := by
    simp only [List.mem_cons, List.not_mem_nil, or_false, Reg.CORE_CTXCTL, Reg.QUE_LATECNT, Reg.QUE_LATETIME]
    omega
  have hpc : Reg.CORE_CTXPC k n ∉ [Reg.QUE_LATECNT k n, Reg.QUE_LATETIME k n] := by
    simp only [List.mem_cons, List.not_mem_nil, or_false, Reg.CORE_CTXPC, Reg.QUE_LATECNT, Reg.QUE_LATETIME]
    omega
  have hctlStat : Reg.CORE_STAT k ≠ Reg.CORE_CTXCTL k n := by simp only [Reg.CORE_STAT, Reg.CORE_CTXCTL]; omega
  have hctlInfo : Reg.CORE_FLTINFO k n ≠ Reg.CORE_CTXCTL k n := by simp only [Reg.CORE_FLTINFO, Reg.CORE_CTXCTL]; omega
  have hctlPc : Reg.CORE_CTXPC k n ≠ Reg.CORE_CTXCTL k n := by simp only [Reg.CORE_CTXPC, Reg.CORE_CTXCTL]; omega
  have hpcStat : Reg.CORE_STAT k ≠ Reg.CORE_CTXPC k n := by simp only [Reg.CORE_STAT, Reg.CORE_CTXPC]; omega
  have hpcInfo : Reg.CORE_FLTINFO k n ≠ Reg.CORE_CTXPC k n := by simp only [Reg.CORE_FLTINFO, Reg.CORE_CTXPC]; omega
  refine ⟨?_, ?_, ?_⟩
  · rw [State.ctxRun, hlate.fld hctl, State.fld_setF_ne hctlStat, State.fld_setF_ne hctlInfo, State.fld_wr_ne hctlPc, State.setRun,
      State.fld_setF_same _ _ _ _ (by decide)]
    rfl
  · rw [State.pcOf, hlate.fld hpc, State.fld_setF_ne hpcStat, State.fld_setF_ne hpcInfo, State.fld, State.rd_wr_same _ _ _ (by decide)]
    exact bits_zero _ _
  · rw [State.tagged, hlate.fld hctl, State.fld_setF_ne hctlStat, State.fld_setF_ne hctlInfo, State.fld_wr_ne hctlPc, State.setRun,
      State.fld_setF_other _ _ _ _ _ (by decide) (by decide), State.fld_setF_same _ _ _ _ (by decide)]
    rfl

theorem State.started_of_regs {s t : State} {k n : Nat} (hregs : t.regs = s.regs)
    (h : s.ctxRun k n = 1 ∧ s.pcOf k n = 0 ∧ s.tagged k n = false) : t.ctxRun k n = 1 ∧ t.pcOf k n = 0 ∧ t.tagged k n = false := by
  simp only [State.ctxRun, State.pcOf, State.tagged, State.fld, State.rd, hregs] at h ⊢
  exact h

/-- What the start of a context does to it once it is cleared (R114, R161). -/
theorem State.startCtx_effect {n : Nat} (hn : n < 4) (s : State) (k : Nat) : ∃ t, s.startCtx k n = t ∧
    (t.ctxRun k n = 1 ∧ t.pcOf k n = 0 ∧ t.tagged k n = false) ∧ RegsExcept (startRegs k n) (s.cleared k n) t ∧
    t.core.shelf = (s.cleared k n).core.shelf ∧ t.core.queues = (s.cleared k n).core.queues := by
  obtain ⟨m, hm⟩ := s.startCtx_eq k n
  refine ⟨_, hm, State.started_of_regs (s := (s.cleared k n).beginCtx k n) rfl (State.beginCtx_starts hn _ k),
    (State.beginCtx_regsExcept _ k n).trans (RegsExcept.of_regs _ rfl), ?_, ?_⟩
  · exact Eq.trans (b := ((s.cleared k n).beginCtx k n).core.shelf) rfl
      (State.beginCtx_keeps (fun u => u.core.shelf) (fun _ _ _ => rfl) (fun _ _ _ _ => rfl) _ k n)
  · exact Eq.trans (b := ((s.cleared k n).beginCtx k n).core.queues) rfl
      (State.beginCtx_keeps (fun u => u.core.queues) (fun _ _ _ => rfl) (fun _ _ _ _ => rfl) _ k n)

/-- A cleared context's counters and queues are clear, its rows are EMPTY, and it owns what it owned. -/
theorem State.cleared_spec {n : Nat} (hn : n < 4) (s : State) (k : Nat) :
    (∀ a ∈ [Reg.CORE_CTXROW k n, Reg.CORE_CTXQ k n, Reg.CORE_CTXCTR_LO k n, Reg.CORE_CTXCTR_HI k n], (s.cleared k n).rd a = s.rd a) ∧
    (∀ c, s.ownsCtr k n c = true → (s.cleared k n).CtrClear k c) ∧
    (∀ q < 16, s.ownsQueue k n q = true → (s.cleared k n).QueueEmpty k q) ∧
    ∀ r < 65536, s.inRows k n r = true → ((s.cleared k n).shelfRow k r).full = false := by
  have hempty {a : Nat} (ha : a ∈ [Reg.CORE_CTXROW k n, Reg.CORE_CTXQ k n, Reg.CORE_CTXCTR_LO k n, Reg.CORE_CTXCTR_HI k n]) :
      (s.emptyCtx k n).rd a = s.rd a := State.rd_emptyCtx_below (ownerRegs_below hn ha) s n
  have hclear {a : Nat} (ha : a ∈ [Reg.CORE_CTXROW k n, Reg.CORE_CTXQ k n, Reg.CORE_CTXCTR_LO k n, Reg.CORE_CTXCTR_HI k n]) :
      ((s.emptyCtx k n).clearQueues k n).rd a = s.rd a := (State.rd_clearQueues_below (ownerRegs_below hn ha) _ n).trans (hempty ha)
  obtain ⟨hctr, hqueue, -⟩ := State.owned_congr fun _ => hempty
  obtain ⟨-, -, hrow⟩ := State.owned_congr fun _ => hclear
  refine ⟨fun a ha => (State.rd_congr (State.emptyTags_regs ..) a).trans (hclear ha), fun c hc => ?_, fun q hq hown => ?_,
    fun r hr hin => State.full_emptyTags hr ((hrow r).trans hin)⟩
  · exact (State.ctrClear_clearQueues ((hctr c).trans hc)).congr fun a _ => State.rd_congr (State.emptyTags_regs ..) a
  · obtain ⟨hlist, hshown⟩ := State.queueEmpty_clearQueues hn hq ((hqueue q).trans hown)
    exact ⟨(State.queue_congr (State.emptyTags_queues ..) k q).trans hlist,
      ((RegsExcept.of_regs [] (State.emptyTags_regs ..)).fld List.not_mem_nil _).trans hshown⟩

end Machine

open Machine

/-- Settles O49: the context is cleared, and what starts it then writes no register of its counters, its queues and what it owns. -/
theorem contextStart : Obligations.ContextStart := by
  intro s k n _ hn
  obtain ⟨howner, hctr, hqueue, hrows⟩ := s.cleared_spec hn k
  obtain ⟨t, ht, ⟨hrun, hpc, htagged⟩, hregs, hshelf, hqueues⟩ := s.startCtx_effect hn k
  dsimp only
  rw [ht]
  generalize s.cleared k n = u at *
  obtain ⟨hownsCtr, hownsQueue, hinRows⟩ := State.owned_congr (s := s) (t := t) fun a ha =>
    (hregs a fun hmem => by
      simp only [List.mem_cons, List.not_mem_nil, or_false, startRegs, Reg.CORE_CTXROW, Reg.CORE_CTXQ, Reg.CORE_CTXCTR_LO,
        Reg.CORE_CTXCTR_HI, Reg.CORE_CTXCTL, Reg.CORE_CTXPC, Reg.CORE_FLTINFO, Reg.CORE_STAT, Reg.QUE_LATECNT, Reg.QUE_LATETIME] at ha hmem
      omega).trans (howner a ha)
  refine ⟨hrun, hpc, htagged, fun c _ hown => ?_, fun q hq hown => ?_, fun r hr hin => ?_, hownsCtr, hownsQueue, hinRows⟩
  · obtain ⟨henq, hdone, hstat⟩ := (hctr c ((hownsCtr c).symm.trans hown)).congr (t := t) fun a ha => hregs a fun hmem => by
      have hplace := counterRegs_ge k c ha
      simp only [List.mem_cons, List.not_mem_nil, or_false, startRegs, Reg.CORE_CTXCTL, Reg.CORE_CTXPC, Reg.CORE_FLTINFO, Reg.CORE_STAT,
        Reg.QUE_LATECNT, Reg.QUE_LATETIME] at hmem
      omega
    exact ⟨henq, hdone, State.cerr_of_rd hstat⟩
  · obtain ⟨hlist, hshown⟩ := hqueue q hq ((hownsQueue q).symm.trans hown)
    refine ⟨(State.queue_congr hqueues k q).trans hlist, (hregs.fld (fun hmem => ?_) _).trans hshown⟩
    simp only [List.mem_cons, List.not_mem_nil, or_false, startRegs, Reg.QUE_QSTAT, Reg.CORE_CTXCTL, Reg.CORE_CTXPC, Reg.CORE_FLTINFO,
      Reg.CORE_STAT, Reg.QUE_LATECNT, Reg.QUE_LATETIME] at hmem
    omega
  · exact (congrArg ShelfRow.full (State.shelfRow_congr hshelf k r)).trans (hrows r hr ((hinRows r).symm.trans hin))

end Sys2Proof
end

section
set_option Elab.async false

/-! ### Messages that reclaim a partition -/

namespace Sys2Proof

open Machine

/-! #### A forced context with a counter number that no counter has -/

/-- A READ descriptor of context 0, not started, that completes into counter `ctr`. -/
def readInto (ctr : Nat) : QDesc :=
  { write := false, keep := false, fence := false, ctr := ctr, first := 0, rows := 1, hstride := 17, region := 0, hoff := 0, ctx := 0,
    tagged := false, src := 0, pc := 0 }

/-- Context 0 of core 0 owns queue 0, which holds a descriptor of counter 0 and one whose counter number, 8176, lies beyond the 64
counters of a core: its DONE would be word 1 of the core's program memory. -/
def strayCounter : State :=
  { State.reset.wr (Reg.CORE_CTXQ 0 0) 1 with core := { queues := [(0, [readInto 0, readInto 8176])] } }

/-- FORCE_SCHED is on its way to that context. -/
def strayCounterForced : State := { strayCounter with mesh := { msgs := [⟨.forceSched, mgmtNode, 0, 0, 0⟩] } }

/-- Refutes O10: in the clause of FORCE_SCHED the condition that a counter number is below 64 stands under the quantifiers over queues and
descriptors, so it is about ONE descriptor of the core, and a second one is free. In `strayCounterForced` the first descriptor
meets it; the abort of the second counts in word 1 of program memory, which then reads 1, and the clause says that it stays. -/
theorem not_partitionMessagesComplete : ¬ Obligations.PartitionMessagesComplete := by
  rintro ⟨-, -, -, hforce, -⟩
  obtain ⟨t, ht, -, -, -, -, -, hpmem⟩ :=
    hforce strayCounterForced strayCounter 0 0 (by decide) 0 (by decide) (readInto 0) (by decide) (by decide)
  obtain rfl : strayCounterForced.forceSched 0 0 = t := Host.Outcome.next.inj ht
  have hcounted : (strayCounterForced.forceSched 0 0).rd (Reg.CORE_PMEM 0 1) = 1 := by decide
  have hkept : (strayCounterForced.forceSched 0 0).rd (Reg.CORE_PMEM 0 1) = 0 := (hpmem 1 (List.mem_range.2 (by decide))).trans (by decide)
  exact absurd (hcounted.symm.trans hkept) (by decide)

end Sys2Proof
end

section
set_option Elab.async false

/-! ### Operations of slot 5: a halt whose sampler faults the halted context -/

namespace Sys2Proof

open Machine

/-- Partition 0 has contexts 0 and 1 of core 1 and runs. Context 0 is halting, with its operations complete; context 1 waits at the
end of its step and has reported STEP_DONE. The open step has an entry to sample, and the journal places its logits in context 16372
of core 0, whose report word CORE_FLTINFO 0 16372 has the address of CORE_CTXCTL 1 0. -/
def haltBesideSampler : State :=
  { (((((State.reset.wr (Reg.CORE_CTXCTL 1 0) (2 ^ 18)).wr (Reg.CORE_CTXCTL 1 1) (2 ^ 18 + 1)).wr (Reg.CORE_CTXCTL 0 16372) (2 ^ 18)).wr
      (Reg.CNET_PSTAT 0) (2 ^ 26)).wr (Reg.CNET_PMEM 0) 2).wr (Reg.SRV_PLOG 0) 1 with
    core := { ctxs := [(4, { wait := .halting }), (5, { wait := .stepWait })] }
    mesh := { root := [(0, { stepDone := [1] })] }
    srv := { parts := [(0, { opened := true, plan := [⟨0, 1, false, 0, 0, 1, 0, []⟩] })] }
    wts := { jparts := [(0, { place := [some (0, 16372)] })] } }

/-- Refutes O6: in the clause of HALT_COMPLETE the halt lets the step boundary begin, at which the sampler reads the logits in the
context that the journal's placement names, any two numbers in a state. In `haltBesideSampler` that read is refused, and the report of
the fault writes 2 into the RUN field of the context that has just halted, where the clause says 0. -/
theorem not_controlCommandsComplete : ¬ Obligations.ControlCommandsComplete := by
  rintro ⟨-, -, -, -, -, -, -, -, -, -, -, -, -, -, -, -, -, hhalt, -⟩
  obtain ⟨t, ht, -, hstopped, -⟩ := hhalt haltBesideSampler 1 0 (by decide) (by decide) (by decide)
  obtain rfl : haltBesideSampler.haltComplete 1 0 = t := Host.Outcome.next.inj ht
  have hfaulted : (haltBesideSampler.haltComplete 1 0).ctxRun 1 0 = 2 := by decide +kernel
  exact absurd (hfaulted.symm.trans hstopped) (by decide)

end Sys2Proof
end

section
set_option Elab.async false

/-! ### The messages of barriers and steps -/

namespace Sys2Proof

namespace Machine

/-! #### Messages taken and posted (R216) -/

/-- A state with other messages on their way. -/
def State.withMsgs (s : State) (l : List Msg) : State := { s with mesh := { s.mesh with msgs := l } }

theorem State.takeMsg_withMsgs {s u : State} {t : MsgType} {a b p : Nat} {m : Msg} (h : s.takeMsg t a b p = some (m, u)) :
    ∃ l, u = s.withMsgs l := by
  unfold State.takeMsg at h
  split at h
  · exact ⟨_, (congrArg Prod.snd (Option.some.inj h)).symm⟩
  · cases h

theorem State.forEach_post {α : Type} (t : α → MsgType) (from_ p : Nat) (to_ arg : α → Nat) (l : List α) (s : State) :
    s.forEach l (fun s x => s.post (t x) from_ (to_ x) p (arg x)) =
      s.withMsgs (s.mesh.msgs ++ l.map fun x => ⟨t x, from_, to_ x, p, arg x⟩) := by
  induction l generalizing s with
  | nil => simp [State.withMsgs]
  | cons x l ih =>
    rw [State.forEach_cons, ih]
    simp [State.withMsgs, State.post]

/-! #### The root of a partition (R220, R221) -/

@[simp] theorem State.root_setRoot_same (s : State) (p : Nat) (x : RootPart) : (s.setRoot p x).root p = x := SMap.get_set_same ..

@[simp] theorem State.root_withMsgs (s : State) (l : List Msg) (p : Nat) : (s.withMsgs l).root p = s.root p := rfl
@[simp] theorem State.regs_withMsgs (s : State) (l : List Msg) : (s.withMsgs l).regs = s.regs := rfl
@[simp] theorem State.msgs_withMsgs (s : State) (l : List Msg) : (s.withMsgs l).mesh.msgs = l := rfl
@[simp] theorem State.run_withMsgs (s : State) (l : List Msg) (p : Nat) : (s.withMsgs l).run p = s.run p := rfl
@[simp] theorem State.run_setRoot (s : State) (q : Nat) (x : RootPart) (p : Nat) : (s.setRoot q x).run p = s.run p := rfl
@[simp] theorem State.root_setF (s : State) (a : Nat) (f : Fld) (v p : Nat) : (s.setF a f v).root p = s.root p := rfl

theorem State.queryBarrier_eq (s : State) (p id total : Nat) :
    s.queryBarrier p id total = (s.setRoot p { s.root p with query := some (id, total), counts := [] }).withMsgs
      (s.mesh.msgs ++ (s.members p).map fun m => ⟨.barQuery, mgmtNode, m, p, id * 2 ^ 32⟩) :=
  State.forEach_post (fun _ => .barQuery) mgmtNode p (fun m => m) (fun _ => id * 2 ^ 32) (s.members p) _

theorem State.rootBarrier_cases (s : State) (p : Nat) : s.rootBarrier p = s ∨ ∃ id total, s.rootBarrier p = s.queryBarrier p id total := by
  unfold State.rootBarrier
  dsimp only
  split
  · split
    · exact .inr ⟨_, _, rfl⟩
    · exact .inl rfl
  · exact .inl rfl

theorem State.rootBarrier_frame (s : State) (p : Nat) : ((s.rootBarrier p).root p).arrived = (s.root p).arrived ∧
    (s.rootBarrier p).regs = s.regs ∧ (s.rootBarrier p).core = s.core ∧ (s.rootBarrier p).log = s.log := by
  obtain h | ⟨id, total, h⟩ := s.rootBarrier_cases p
  · rw [h]
    exact ⟨rfl, rfl, rfl, rfl⟩
  · rw [h, State.queryBarrier_eq]
    exact ⟨by simp, rfl, rfl, rfl⟩

theorem barArrive_completes (s u : State) (k : CoreNo) (p : PartNo) (m : Msg) (h : s.takeMsg .barArrive k mgmtNode p = some (m, u))
    (hrun : s.run p ≠ 3) :
    Completes (.barArrive k p) s fun t =>
      (t.root p).arrived = ((s.root p).arrived.filter fun a => a.1 != k.val) ++ [(k.val, m.arg / 2 ^ 32, m.arg % 2 ^ 24)] ∧
      t.fld (Reg.CNET_PSTAT p) Fld.CNET_PSTAT_BAR = 1 ∧ t.run p = s.run p ∧ RegsExcept [Reg.CNET_PSTAT p] s t ∧ t.core = s.core ∧ t.log = s.log := by
  obtain ⟨l, rfl⟩ := State.takeMsg_withMsgs h
  set x : RootPart :=
    { s.root p with arrived := ((s.root p).arrived.filter fun a => a.1 != k.val) ++ [(k.val, m.arg / 2 ^ 32, m.arg % 2 ^ 24)] }
  set v : State := ((s.withMsgs l).setRoot p x).setF (Reg.CNET_PSTAT p) Fld.CNET_PSTAT_BAR 1 with hv
  have heq : s.barArrive k p = v.rootBarrier p := by
    unfold State.barArrive
    rw [h]
    exact if_neg hrun
  obtain ⟨harrived, hregs, hcore, hlog⟩ := v.rootBarrier_frame p
  have hroot : v.root p = x := by rw [hv, State.root_setF, State.root_setRoot_same]
  have hfld (f : Fld) : (v.rootBarrier p).fld (Reg.CNET_PSTAT p) f = v.fld (Reg.CNET_PSTAT p) f :=
    (RegsExcept.of_regs [] hregs).fld List.not_mem_nil f
  refine ⟨v.rootBarrier p, congrArg Host.Outcome.next heq, ?_, ?_, ?_, ?_, hcore.trans (State.setF_core ..), hlog.trans (State.setF_log ..)⟩
  · rw [harrived, hroot]
  · exact (hfld _).trans (State.fld_setF_same _ _ _ _ (by decide))
  · exact (hfld _).trans (State.fld_setF_other _ _ _ _ _ (by decide) (by decide))
  · exact ((RegsExcept.of_regs _ (by rfl)).trans (State.setF_regsExcept ((s.withMsgs l).setRoot p x) (List.mem_singleton_self _) _ _)).trans
      (.of_regs _ hregs)

theorem barArrive_of_reclaim (s u : State) (k : CoreNo) (p : PartNo) (m : Msg) (h : s.takeMsg .barArrive k mgmtNode p = some (m, u))
    (hrun : s.run p = 3) : s.barArrive k p = u := by
  obtain ⟨l, rfl⟩ := State.takeMsg_withMsgs h
  unfold State.barArrive
  rw [h]
  exact if_pos hrun

theorem barQuery_completes (s u : State) (node : Fin 32) (p : PartNo) (m : Msg) (h : s.takeMsg .barQuery mgmtNode node p = some (m, u)) :
    Completes (.barQuery node p) s fun t => let w := SMap.get (fun _ => 0) s.mesh.ejected (node * 64 + p);
      t.mesh.msgs = u.mesh.msgs ++ [⟨.barCount, node, mgmtNode, p, m.arg / 2 ^ 32 * 2 ^ 32 + w % 2 ^ 24⟩] ∧
      SMap.get (fun _ => 0) t.mesh.reported (node * 64 + p) = w ∧ t.mesh.ejected = s.mesh.ejected ∧ RegsExcept [] s t ∧ t.core = s.core ∧
      t.log = s.log := by
  obtain ⟨l, rfl⟩ := State.takeMsg_withMsgs h
  refine ⟨s.barQuery node p, rfl, ?_⟩
  unfold State.barQuery
  rw [h]
  exact ⟨rfl, SMap.get_set_same .., rfl, .of_regs _ rfl, rfl, rfl⟩

/-! #### BAR_COUNT (R220 steps 3 and 4) -/

theorem State.barCount_of_missing {s u : State} {node p id total : Nat} {m : Msg} {counts : List (Nat × Nat)}
    (h : s.takeMsg .barCount node mgmtNode p = some (m, u)) (hquery : (s.root p).query = some (id, total))
    (hcounts : counts = ((s.root p).counts.filter fun c => c.1 != node) ++ [(node, m.arg % 2 ^ 24)])
    (hmissing : (s.members p).all (fun m => counts.any fun c => c.1 == m) = false) :
    s.barCount node p = u.setRoot p { s.root p with counts := counts } := by
  obtain ⟨l, rfl⟩ := State.takeMsg_withMsgs h
  unfold State.barCount
  simp only [h, State.root_withMsgs, hquery, ← hcounts]
  exact if_pos (by rw [Bool.not_eq_true']; exact hmissing)

theorem State.barCount_of_equal {s u : State} {node p id total : Nat} {m : Msg} {counts : List (Nat × Nat)}
    (h : s.takeMsg .barCount node mgmtNode p = some (m, u)) (hquery : (s.root p).query = some (id, total))
    (hcounts : counts = ((s.root p).counts.filter fun c => c.1 != node) ++ [(node, m.arg % 2 ^ 24)])
    (hall : (s.members p).all (fun m => counts.any fun c => c.1 == m) = true) (hrun : s.run p ≠ 3)
    (hequal : counts.foldl (fun a c => a + c.2) 0 % 2 ^ 24 = total % 2 ^ 24) :
    s.barCount node p = (u.setRoot p { s.root p with counts := counts }).releaseBarrier p id := by
  obtain ⟨l, rfl⟩ := State.takeMsg_withMsgs h
  unfold State.barCount
  simp only [h, State.root_withMsgs, hquery, ← hcounts, State.run_setRoot, State.run_withMsgs]
  rw [if_neg (by rw [Bool.not_eq_true', Bool.not_eq_false]; exact hall), if_neg hrun, if_pos (by rw [beq_iff_eq]; exact hequal)]

theorem State.clearSent_frame (s : State) (p k : Nat) : (s.clearSent p k).regs = s.regs ∧ (s.clearSent p k).mesh = s.mesh ∧
    (s.clearSent p k).log = s.log :=
  ⟨State.forEach_keeps (·.regs) _ (by intros; rfl) _ s, State.forEach_keeps (·.mesh) _ (by intros; rfl) _ s,
    State.forEach_keeps (·.log) _ (by intros; rfl) _ s⟩

theorem State.memberCores_congr {s t : State} {p : Nat} (h : s.rd (Reg.CNET_PMEM p) = t.rd (Reg.CNET_PMEM p)) : s.memberCores p = t.memberCores p := by
  unfold State.memberCores State.fld
  rw [h]

theorem State.fld_congr {s t : State} (h : s.regs = t.regs) (a : Nat) (f : Fld) : s.fld a f = t.fld a f := by
  unfold State.fld
  rw [State.rd_congr h]

/-- The registers, messages and root of partition p in state `t`, in terms of those of `s`, after the release of barrier `id`. -/
structure Released (s : State) (p id : Nat) (t : State) : Prop where
  bar : t.fld (Reg.CNET_PSTAT p) Fld.CNET_PSTAT_BAR = 0
  barid : t.fld (Reg.CNET_PSTAT p) Fld.CNET_PSTAT_BARID = id
  root : t.root p = { s.root p with arrived := [], query := none, counts := [] }
  msgs : t.mesh.msgs = s.mesh.msgs ++ (s.memberCores p).map fun k => ⟨.barRelease, mgmtNode, k, p, id * 2 ^ 32⟩
  regs : RegsExcept [Reg.CNET_PSTAT p] s t

theorem State.releaseBarrier_released (s : State) (p : Nat) {id : Nat} (hid : id < 256) : Released s p id (s.releaseBarrier p id) := by
  unfold State.releaseBarrier
  dsimp only
  generalize ha : s.forEach (s.members p) _ = a
  obtain ⟨haregs, hamsgs, haroot⟩ : a.regs = s.regs ∧ a.mesh.msgs = s.mesh.msgs ∧ a.root p = s.root p := by
    subst ha
    exact ⟨State.forEach_keeps (·.regs) _ (by intros; rfl) _ s, State.forEach_keeps (·.mesh.msgs) _ (by intros; rfl) _ s,
      State.forEach_keeps (·.root p) _ (by intros; rfl) _ s⟩
  generalize hb : a.setRoot p _ = b
  obtain ⟨hbregs, hbmsgs, hbroot⟩ : b.regs = a.regs ∧ b.mesh.msgs = a.mesh.msgs ∧
      b.root p = { s.root p with arrived := [], query := none, counts := [] } := by
    subst hb
    exact ⟨rfl, rfl, by rw [State.root_setRoot_same, haroot]⟩
  generalize hc : (b.setF (Reg.CNET_PSTAT p) Fld.CNET_PSTAT_BAR 0).setF (Reg.CNET_PSTAT p) Fld.CNET_PSTAT_BARID id = c
  have hcmesh : c.mesh = b.mesh := by subst hc; rfl
  have hcregs : RegsExcept [Reg.CNET_PSTAT p] b c := by
    subst hc
    exact (State.setF_regsExcept _ (List.mem_singleton_self _) _ _).trans (State.setF_regsExcept _ (List.mem_singleton_self _) _ _)
  have hbar : c.fld (Reg.CNET_PSTAT p) Fld.CNET_PSTAT_BAR = 0 := by
    subst hc
    rw [State.fld_setF_other _ _ _ _ _ (by decide) (by decide), State.fld_setF_same _ _ _ _ (by decide), Nat.zero_mod]
  have hbarid : c.fld (Reg.CNET_PSTAT p) Fld.CNET_PSTAT_BARID = id := by
    subst hc
    rw [State.fld_setF_same _ _ _ _ (by decide)]
    exact Nat.mod_eq_of_lt (b := 256) hid
  generalize hd : c.forEach _ (fun s k => s.clearSent p k) = d
  obtain ⟨hdregs, hdmesh⟩ : d.regs = c.regs ∧ d.mesh = c.mesh := by
    subst hd
    exact ⟨State.forEach_keeps (·.regs) _ (fun s k => (s.clearSent_frame p k).1) _ c,
      State.forEach_keeps (·.mesh) _ (fun s k => (s.clearSent_frame p k).2.1) _ c⟩
  have hregs : RegsExcept [Reg.CNET_PSTAT p] s d :=
    ((RegsExcept.of_regs _ (hbregs.trans haregs)).trans hcregs).trans (.of_regs _ hdregs)
  have hcores : d.memberCores p = s.memberCores p := State.memberCores_congr <| hregs _ fun hmem => by
    simp only [Reg.CNET_PMEM, Reg.CNET_PSTAT, List.mem_singleton] at hmem
    omega
  have hmsgs : d.mesh.msgs = s.mesh.msgs := by rw [hdmesh, hcmesh, hbmsgs, hamsgs]
  rw [State.forEach_post (fun _ => .barRelease) mgmtNode p (fun k => k) (fun _ => id * 2 ^ 32)]
  refine ⟨?_, ?_, ?_, ?_, hregs.trans (.of_regs _ (State.regs_withMsgs ..))⟩
  · rw [State.fld_congr (State.regs_withMsgs ..), State.fld_congr hdregs, hbar]
  · rw [State.fld_congr (State.regs_withMsgs ..), State.fld_congr hdregs, hbarid]
  · rw [State.root_withMsgs, State.root, hdmesh, hcmesh]
    exact hbroot
  · rw [State.msgs_withMsgs, hcores, hmsgs]

theorem barCount_completes (s u : State) (node : Fin 32) (p : PartNo) (m : Msg) (id total : Nat) (counts : List (Nat × Nat))
    (h : s.takeMsg .barCount node mgmtNode p = some (m, u)) (hquery : (s.root p).query = some (id, total))
    (hcounts : counts = ((s.root p).counts.filter fun c => c.1 != node.val) ++ [(node.val, m.arg % 2 ^ 24)])
    (hall : (s.members p).all (fun m => counts.any fun c => c.1 == m) = true) (hrun : s.run p ≠ 3)
    (hequal : counts.foldl (fun a c => a + c.2) 0 % 2 ^ 24 = total % 2 ^ 24) (hid : id < 256) :
    Completes (.barCount node p) s fun t => t.fld (Reg.CNET_PSTAT p) Fld.CNET_PSTAT_BAR = 0 ∧
      t.fld (Reg.CNET_PSTAT p) Fld.CNET_PSTAT_BARID = id ∧ t.root p = { s.root p with arrived := [], query := none, counts := [] } ∧
      t.mesh.msgs = u.mesh.msgs ++ (s.memberCores p).map (fun k => ⟨.barRelease, mgmtNode, k, p, id * 2 ^ 32⟩) ∧
      RegsExcept [Reg.CNET_PSTAT p] s t := by
  have heq := State.barCount_of_equal h hquery hcounts hall hrun hequal
  obtain ⟨l, rfl⟩ := State.takeMsg_withMsgs h
  have hrel := ((s.withMsgs l).setRoot p { s.root p with counts := counts }).releaseBarrier_released p hid
  refine ⟨_, congrArg Host.Outcome.next heq, hrel.bar, hrel.barid, ?_, hrel.msgs, hrel.regs⟩
  rw [hrel.root, State.root_setRoot_same]

theorem barRequeryTimer_completes (s : State) (p : PartNo) (id total : Nat) (hquery : (s.root p).query = some (id, total))
    (hcounts : (s.root p).counts = []) (hflight : s.inFlight p [.barQuery, .barCount] = false) :
    Completes (.barRequeryTimer p) s fun t =>
      t.mesh.msgs = s.mesh.msgs ++ (s.members p).map (fun m => ⟨.barQuery, mgmtNode, m, p, id * 2 ^ 32⟩) ∧
      t.root p = s.root p ∧ RegsExcept [] s t ∧ t.core = s.core ∧ t.log = s.log := by
  have heq : s.requery p = s.queryBarrier p id total := by
    unfold State.requery
    simp only [hquery, hcounts, hflight, Bool.not_false, and_self, if_true]
  refine ⟨_, congrArg Host.Outcome.next heq, ?_⟩
  rw [State.queryBarrier_eq]
  refine ⟨rfl, ?_, .of_regs _ rfl, rfl, rfl⟩
  rw [State.root_withMsgs, State.root_setRoot_same, ← hquery, ← hcounts]

/-! #### Contexts that go on (R184, R185 step 5) -/

theorem ctxKey_injective (k : Nat) : Function.Injective (ctxKey k) := fun n n' h => by
  simp only [ctxKey] at h
  omega

@[simp] theorem State.ctx_setCtx_same (s : State) (k n : Nat) (c : CtxState) : (s.setCtx k n c).ctx k n = c := SMap.get_set_same ..

theorem State.ctx_setCtx_ne {n m : Nat} (h : n ≠ m) (s : State) (k : Nat) (c : CtxState) : (s.setCtx k n c).ctx k m = s.ctx k m :=
  SMap.get_set_ne _ (fun e => h (ctxKey_injective k e)) _ _

/-- Contexts of a core take a waiting state. -/
def State.setWaits (s : State) (k : Nat) (l : List Nat) (w : CtxWait) : State := s.forEach l fun s n => s.setWait k n w

theorem State.wait_setWaits {l : List Nat} {n : Nat} (hn : n ∈ l) (s : State) (k : Nat) (w : CtxWait) :
    ((s.setWaits k l w).ctx k n).wait = w := by
  refine State.forEach_reaches (fun u => (u.ctx k n).wait = w) (fun u m _ h => ?_) hn (fun u => ?_) s
  · obtain rfl | hne := eq_or_ne m n
    · rw [State.setWait, State.ctx_setCtx_same]
    · rw [State.setWait, State.ctx_setCtx_ne hne, h]
  · rw [State.setWait, State.ctx_setCtx_same]

theorem State.setWaits_frame (s : State) (k : Nat) (l : List Nat) (w : CtxWait) : (s.setWaits k l w).regs = s.regs ∧
    (s.setWaits k l w).mesh = s.mesh ∧ (s.setWaits k l w).log = s.log :=
  ⟨State.forEach_keeps (·.regs) _ (by intros; rfl) _ s, State.forEach_keeps (·.mesh) _ (by intros; rfl) _ s,
    State.forEach_keeps (·.log) _ (by intros; rfl) _ s⟩

theorem State.clearSent_ctx {p k n : Nat} {s : State} (hn : n ∈ s.ctxsOn p k) : ((s.clearSent p k).ctx k n).sent = 0 ∧
    ((s.clearSent p k).ctx k n).wait = (s.ctx k n).wait := by
  refine ⟨State.forEach_reaches (fun u => (u.ctx k n).sent = 0) (fun u m _ h => ?_) hn (fun u => ?_) s,
    State.forEach_keeps (fun u => (u.ctx k n).wait) _ (fun u m => ?_) _ s⟩
  · obtain rfl | hne := eq_or_ne m n
    · rw [State.ctx_setCtx_same]
    · rw [State.ctx_setCtx_ne hne, h]
  · rw [State.ctx_setCtx_same]
  · obtain rfl | hne := eq_or_ne m n
    · rw [State.ctx_setCtx_same]
    · rw [State.ctx_setCtx_ne hne]

theorem State.ctxsOn_congr {s t : State} (h : s.regs = t.regs) (p k : Nat) : s.ctxsOn p k = t.ctxsOn p k := by
  unfold State.ctxsOn State.ctxEn State.ctxPart
  simp only [State.fld_congr h]

theorem barRelease_completes (s u : State) (k : CoreNo) (p : PartNo) (m : Msg) (n : CtxNo)
    (h : s.takeMsg .barRelease mgmtNode k p = some (m, u)) (hn : n.val ∈ s.ctxsOn p k) (hwait : (s.ctx k n).wait = .barrier (m.arg / 2 ^ 32)) :
    Completes (.barRelease k p) s fun t => (t.ctx k n).wait = .none ∧ (t.ctx k n).sent = 0 ∧ t.mesh.msgs = u.mesh.msgs ∧ RegsExcept [] s t ∧
      t.log = s.log := by
  obtain ⟨l, rfl⟩ := State.takeMsg_withMsgs h
  set waiting := (s.ctxsOn p k).filter fun n => s.barrierOf k n == some (m.arg / 2 ^ 32)
  have hmem : n.val ∈ waiting := List.mem_filter.2 ⟨hn, by simp [State.barrierOf, hwait]⟩
  have heq : s.barRelease k p = ((s.withMsgs l).setWaits k waiting .none).clearSent p k := by
    unfold State.barRelease
    rw [h]
    rfl
  obtain ⟨hregs, hmesh, hlog⟩ := (s.withMsgs l).setWaits_frame k waiting .none
  obtain ⟨hregs', hmesh', hlog'⟩ := ((s.withMsgs l).setWaits k waiting .none).clearSent_frame p k
  obtain ⟨hsent, hkept⟩ := State.clearSent_ctx (s := (s.withMsgs l).setWaits k waiting .none) (n := n) (by rwa [State.ctxsOn_congr hregs])
  exact ⟨_, congrArg Host.Outcome.next heq, hkept.trans (State.wait_setWaits hmem _ _ _), hsent, by rw [hmesh', hmesh],
    .of_regs _ (hregs'.trans hregs), hlog'.trans hlog⟩

theorem stepStart_completes (s u : State) (k : CoreNo) (p : PartNo) (m : Msg) (n : CtxNo)
    (h : s.takeMsg .stepStart mgmtNode k p = some (m, u))
    (hpstart : (s.mesh.msgs.any fun m => m.type == .pstart && m.dnode == k && m.part == p) = false) (hn : n.val ∈ s.ctxsOn p k)
    (hwait : (s.ctx k n).wait = .stepWait) :
    Completes (.stepStart k p) s fun t => (t.ctx k n).wait = .none ∧ t.mesh.msgs = u.mesh.msgs ∧ RegsExcept [] s t ∧ t.log = s.log := by
  obtain ⟨l, rfl⟩ := State.takeMsg_withMsgs h
  set waiting := (s.ctxsOn p k).filter fun n => (s.ctx k n).wait == .stepWait
  have hmem : n.val ∈ waiting := List.mem_filter.2 ⟨hn, by simp [hwait]⟩
  have heq : s.takeStepStart k p = (s.withMsgs l).setWaits k waiting .none := by
    unfold State.takeStepStart
    rw [hpstart, h]
    rfl
  obtain ⟨hregs, hmesh, hlog⟩ := (s.withMsgs l).setWaits_frame k waiting .none
  exact ⟨_, congrArg Host.Outcome.next heq, State.wait_setWaits hmem _ _ _, by rw [hmesh], .of_regs _ hregs, hlog⟩

/-! #### Steps and boundaries (R185, R221) -/

theorem State.setPRun_cases (s : State) (p v : Nat) :
    let w := (s.setF (Reg.CNET_PSTAT p) Fld.CNET_PSTAT_RUN v).setF (Reg.PCI_VSTAT p) Fld.PCI_VSTAT_PRUN v
    s.setPRun p v = w ∨ s.setPRun p v = (w.setF (Reg.PCI_VSTAT p) Fld.PCI_VSTAT_PSTEV 1).raiseVf p 1 := by
  dsimp only
  unfold State.setPRun State.when
  dsimp only
  split
  · exact .inr rfl
  · exact .inl rfl

theorem State.raiseVf_keeps {β : Type} (g : State → β) (hvf : ∀ u p x, g (State.setVf u p x) = g u) (s : State) (p v : Nat) :
    g (s.raiseVf p v) = g s := by
  unfold State.raiseVf
  dsimp only
  split <;> exact hvf _ _ _

/-- What register writes and the state of a VF leave alone, the run state of a partition leaves alone. -/
theorem State.setPRun_keeps {β : Type} (g : State → β) (hwr : ∀ u a v, g (State.wr u a v) = g u)
    (hvf : ∀ u p x, g (State.setVf u p x) = g u) (s : State) (p v : Nat) : g (s.setPRun p v) = g s := by
  obtain h | h := s.setPRun_cases p v
  · rw [h]
    exact (hwr _ _ _).trans (hwr _ _ _)
  · rw [h, State.raiseVf_keeps g hvf]
    exact (hwr _ _ _).trans ((hwr _ _ _).trans (hwr _ _ _))

theorem State.setPRun_regsExcept (s : State) (p v : Nat) : RegsExcept [Reg.CNET_PSTAT p, Reg.PCI_VSTAT p] s (s.setPRun p v) := by
  have hw : RegsExcept [Reg.CNET_PSTAT p, Reg.PCI_VSTAT p] s
      ((s.setF (Reg.CNET_PSTAT p) Fld.CNET_PSTAT_RUN v).setF (Reg.PCI_VSTAT p) Fld.PCI_VSTAT_PRUN v) :=
    (State.setF_regsExcept s (by simp) _ _).trans (State.setF_regsExcept _ (by simp) _ _)
  obtain h | h := s.setPRun_cases p v
  · rw [h]
    exact hw
  · rw [h]
    exact (hw.trans (State.setF_regsExcept _ (by simp) _ _)).trans (.of_regs _ (State.raiseVf_regs ..))

theorem Reg.PCI_VSTAT_ne_CNET_PSTAT (p : Nat) : Reg.PCI_VSTAT p ≠ Reg.CNET_PSTAT p := by
  simp only [Reg.PCI_VSTAT, Reg.CNET_PSTAT, ne_eq]
  omega

theorem State.pstat_setPRun (s : State) (p v : Nat) (f : Fld) :
    (s.setPRun p v).fld (Reg.CNET_PSTAT p) f = (s.setF (Reg.CNET_PSTAT p) Fld.CNET_PSTAT_RUN v).fld (Reg.CNET_PSTAT p) f := by
  obtain h | h := s.setPRun_cases p v
  · rw [h, State.fld_setF_ne (Reg.PCI_VSTAT_ne_CNET_PSTAT p)]
  · rw [h, State.raiseVf_fld, State.fld_setF_ne (Reg.PCI_VSTAT_ne_CNET_PSTAT p), State.fld_setF_ne (Reg.PCI_VSTAT_ne_CNET_PSTAT p)]

theorem State.run_setPRun (s : State) (p v : Nat) : (s.setPRun p v).run p = v % 4 :=
  (s.pstat_setPRun p v _).trans (State.fld_setF_same _ _ _ _ (by decide))

theorem State.stepNo_setPRun (s : State) (p v : Nat) : (s.setPRun p v).stepNo p = s.stepNo p :=
  (s.pstat_setPRun p v _).trans (State.fld_setF_other _ _ _ _ _ (by decide) (by decide))

theorem State.rootStep_of_missing {s : State} {j p : Nat} (hj : j ∈ s.memberCores p) (hdone : (s.root p).stepDone.contains j = false)
    (hhalted : s.allHalted p j = false) : s.rootStep p = s := by
  have hall : (s.memberCores p).all (fun k => (s.root p).stepDone.contains k || s.allHalted p k) = false :=
    List.all_eq_false.2 ⟨j, hj, by rw [hdone, hhalted]; exact Bool.false_ne_true⟩
  unfold State.rootStep
  dsimp only
  rw [hall]
  exact if_pos (.inr (.inl rfl))

theorem State.rootStep_of_last {s : State} {k p : Nat} (hrun : s.run p = 1) (hcores : s.memberCores p = [k])
    (hdone : (s.root p).stepDone.contains k = true) (hlive : s.allHalted p k = false) (hparts : s.jobParts p ≠ 0) :
    s.rootStep p = ((s.setRoot p { s.root p with boundary := true, stepDone := [], acks := [] }).setPRun p 2).post
      .boundary mgmtNode k p (s.stepNo p) := by
  generalize hb : (s.setRoot p { s.root p with boundary := true, stepDone := [], acks := [] }).setPRun p 2 = b
  have hregs : RegsExcept [Reg.CNET_PSTAT p, Reg.PCI_VSTAT p] s b := hb ▸ State.setPRun_regsExcept (s.setRoot p _) p 2
  have hstep : b.stepNo p = s.stepNo p := hb ▸ State.stepNo_setPRun (s.setRoot p _) p 2
  have hjob : b.jobParts p ≠ 0 := by
    rwa [State.jobParts, hregs.fld fun hmem => ?_]
    simp only [Reg.SRV_PCFG, Reg.CNET_PSTAT, Reg.PCI_VSTAT, List.mem_cons, List.not_mem_nil, or_false] at hmem
    omega
  have hall : (s.memberCores p).all (fun k => (s.root p).stepDone.contains k || s.allHalted p k) = true := by
    simp only [hcores, List.all_cons, List.all_nil, hdone, Bool.true_or, Bool.and_self]
  have hlives : ((s.memberCores p).all fun k => s.allHalted p k) = false := by
    simp only [hcores, List.all_cons, List.all_nil, hlive, Bool.and_true]
  unfold State.rootStep
  simp only [hrun, hall, hlives, Bool.not_true, Bool.false_eq_true, ne_eq, not_true_eq_false, or_self, if_false, hb]
  rw [hcores, State.forEach_cons, State.forEach_nil, hstep]
  exact if_neg hjob

theorem State.rootStepDone_eq {s u : State} {k p : Nat} {m : Msg} (h : s.takeMsg .stepDone k mgmtNode p = some (m, u)) :
    s.rootStepDone k p = (u.setRoot p { s.root p with stepDone := ((s.root p).stepDone.filter fun c => c != k) ++ [k] }).rootStep p := by
  obtain ⟨l, rfl⟩ := State.takeMsg_withMsgs h
  unfold State.rootStepDone
  rw [h]
  rfl

theorem not_contains_recorded {l : List Nat} {k j : Nat} (hne : j ≠ k) (hj : l.contains j = false) :
    ((l.filter fun c => c != k) ++ [k]).contains j = false := by
  simp only [List.contains_eq_mem, decide_eq_false_iff_not] at hj ⊢
  simp [hj, hne]

theorem stepDone_of_missing (s u : State) (k j : CoreNo) (p : PartNo) (m : Msg) (h : s.takeMsg .stepDone k mgmtNode p = some (m, u))
    (hj : j.val ∈ s.memberCores p) (hne : j ≠ k) (hdone : (s.root p).stepDone.contains j.val = false) (hhalted : s.allHalted p j = false) :
    s.rootStepDone k p = u.setRoot p { s.root p with stepDone := ((s.root p).stepDone.filter fun c => c != k.val) ++ [k.val] } := by
  rw [State.rootStepDone_eq h]
  obtain ⟨l, rfl⟩ := State.takeMsg_withMsgs h
  refine State.rootStep_of_missing (j := j) hj ?_ hhalted
  rw [State.root_setRoot_same]
  exact not_contains_recorded (fun e => hne (Fin.ext e)) hdone

theorem stepDone_completes (s u : State) (k : CoreNo) (p : PartNo) (m : Msg) (h : s.takeMsg .stepDone k mgmtNode p = some (m, u))
    (hrun : s.run p = 1) (hcores : s.memberCores p = [k.val]) (hlive : s.allHalted p k = false) (hparts : s.jobParts p ≠ 0) :
    Completes (.stepDone k p) s fun t => t.run p = 2 ∧ t.root p = { s.root p with boundary := true, stepDone := [], acks := [] } ∧
      t.mesh.msgs = u.mesh.msgs ++ [⟨.boundary, mgmtNode, k, p, s.stepNo p⟩] ∧ t.core = s.core ∧ t.log = s.log ∧
      RegsExcept [Reg.CNET_PSTAT p, Reg.PCI_VSTAT p] s t := by
  have hlast := State.rootStep_of_last (s := u.setRoot p { s.root p with stepDone := ((s.root p).stepDone.filter fun c => c != k.val) ++ [k.val] })
    (k := k) (p := p)
  obtain ⟨l, rfl⟩ := State.takeMsg_withMsgs h
  have heq := (State.rootStepDone_eq h).trans (hlast hrun hcores (by rw [State.root_setRoot_same]; simp) hlive hparts)
  refine ⟨_, congrArg Host.Outcome.next heq, ?_⟩
  rw [State.root_setRoot_same]
  generalize hc : State.setRoot (State.setRoot _ p _) p _ = c
  obtain ⟨hregs, hmsgs, hroot, hcore, hlog⟩ : c.regs = s.regs ∧ c.mesh.msgs = l ∧
      c.root p = { s.root p with boundary := true, stepDone := [], acks := [] } ∧ c.core = s.core ∧ c.log = s.log := by
    subst hc
    exact ⟨rfl, rfl, State.root_setRoot_same .., rfl, rfl⟩
  have hmesh := c.setPRun_keeps (·.mesh) (fun _ _ _ => rfl) (fun _ _ _ => rfl) p 2
  refine ⟨c.run_setPRun p 2, ?_, ?_, ?_, ?_, ?_⟩
  · exact (congrArg (fun b : MeshBlk => SMap.get (fun _ => ({} : RootPart)) b.root p) hmesh).trans hroot
  · exact congrArg (· ++ [(⟨.boundary, mgmtNode, k, p, s.stepNo p⟩ : Msg)]) ((congrArg MeshBlk.msgs hmesh).trans hmsgs)
  · exact (c.setPRun_keeps (·.core) (fun _ _ _ => rfl) (fun _ _ _ => rfl) p 2).trans hcore
  · exact (c.setPRun_keeps (·.log) (fun _ _ _ => rfl) (fun _ _ _ => rfl) p 2).trans hlog
  · exact (RegsExcept.of_regs _ hregs).trans (c.setPRun_regsExcept p 2)

theorem boundary_of_unarmed (s u : State) (k : CoreNo) (p : PartNo) (m : Msg) (h : s.takeMsg .boundary mgmtNode k p = some (m, u))
    (harmed : s.armedTiles k = []) : s.takeBoundary k p = u.post .boundaryAck k mgmtNode p m.arg := by
  obtain ⟨l, rfl⟩ := State.takeMsg_withMsgs h
  have hflip : (s.withMsgs l).flipPart k p = s.withMsgs l := by
    unfold State.flipPart
    rw [show (s.withMsgs l).armedTiles k = [] from harmed]
    rfl
  unfold State.takeBoundary
  rw [h]
  exact congrArg (State.post · .boundaryAck k mgmtNode p m.arg) hflip

theorem State.tryStart_of_missing {s : State} {p : Nat} (h : (s.memberCores p).all (fun k => (s.root p).acks.contains k) = false) :
    s.tryStart p = s := by
  unfold State.tryStart
  dsimp only
  rw [h]
  exact if_pos (.inr (.inr (.inr (.inl rfl))))

theorem State.boundaryAck_of_incomplete {s u a : State} {k p : Nat} {m : Msg} (h : s.takeMsg .boundaryAck k mgmtNode p = some (m, u))
    (ha : u.setRoot p { u.root p with acks := ((u.root p).acks.filter fun c => c != k) ++ [k] } = a)
    (hall : (a.memberCores p).all (fun k => (a.root p).acks.contains k) = false) : s.boundaryAck k p = a := by
  unfold State.boundaryAck
  simp only [h, ha]
  rw [hall, if_neg (fun e => Bool.false_ne_true e.1)]
  exact State.tryStart_of_missing hall

theorem boundaryAck_of_missing (s u : State) (k j : CoreNo) (p : PartNo) (m : Msg) (h : s.takeMsg .boundaryAck k mgmtNode p = some (m, u))
    (hj : j.val ∈ s.memberCores p) (hne : j ≠ k) (hacks : (s.root p).acks.contains j.val = false) :
    s.boundaryAck k p = u.setRoot p { s.root p with acks := ((s.root p).acks.filter fun c => c != k.val) ++ [k.val] } := by
  obtain ⟨l, rfl⟩ := State.takeMsg_withMsgs h
  refine State.boundaryAck_of_incomplete h rfl ?_
  rw [State.root_setRoot_same]
  refine List.all_eq_false.2 ⟨j, hj, ?_⟩
  exact fun e => Bool.false_ne_true ((not_contains_recorded (fun e => hne (Fin.ext e)) hacks).symm.trans e)

end Machine

open Machine

/-- Settles O9, message by message: a message taken leaves the rest of the state to the root's or the core's own change, which changes
registers of CNET_PSTAT, the root of the partition and posts, and runs through `State.forEach_post` and `State.setPRun_cases`. -/
theorem barrierCommandsComplete : Obligations.BarrierCommandsComplete := by
  unfold Obligations.BarrierCommandsComplete
  refine ⟨barArrive_completes, ?_, barQuery_completes, ?_, barCount_completes, barRequeryTimer_completes, barRelease_completes, ?_,
    stepDone_completes, ?_, ?_, stepStart_completes⟩
  · exact fun s u k p m h hrun => ⟨u, congrArg Host.Outcome.next (barArrive_of_reclaim s u k p m h hrun), rfl⟩
  · exact fun s u node p m id total counts h hquery hcounts hmissing =>
      ⟨_, congrArg Host.Outcome.next (State.barCount_of_missing h hquery hcounts hmissing), rfl⟩
  · exact fun s u k j p m h hj ⟨hne, hdone, hhalted⟩ =>
      ⟨_, congrArg Host.Outcome.next (stepDone_of_missing s u k j p m h hj hne hdone hhalted), rfl⟩
  · intro s u k p m h harmed
    refine ⟨_, congrArg Host.Outcome.next (boundary_of_unarmed s u k p m h harmed), ?_⟩
    obtain ⟨l, rfl⟩ := State.takeMsg_withMsgs h
    exact ⟨rfl, .of_regs _ rfl, rfl, rfl⟩
  · exact fun s u k j p m h hj ⟨hne, hacks⟩ =>
      ⟨_, congrArg Host.Outcome.next (boundaryAck_of_missing s u k j p m h hj hne hacks), rfl⟩

end Sys2Proof
end

section
set_option Elab.async false

/-! ### Firing images, route sets, and the start and stop of a partition -/

namespace Sys2Proof

namespace Machine

/-! #### Loops of loops -/

theorem RegsExcept.forEach {α : Type} {R : List Nat} {l : List α} {f : State → α → State} (h : ∀ u, ∀ x ∈ l, RegsExcept R u (f u x))
    (s : State) : RegsExcept R s (s.forEach l f) :=
  State.forEach_mem (RegsExcept R s) f (fun u x hx hu => hu.trans (h u x hx)) s (.refl R s)

/-! #### The contents of a logical core (R156, R158 step 8) -/

theorem State.wrBytes_keeps {β : Type} (g : State → β) (hwr : ∀ u a v, g (State.wr u a v) = g u) (s : State) (a : Nat) (l : List Nat) :
    g (s.wrBytes a l) = g s :=
  State.forEach_keeps g _ (fun _ _ => hwr _ _ _) _ s

/-- What register writes and the cores' own state leave alone, the contents of a logical core leave alone. -/
theorem State.writeLcore_keeps {β : Type} (g : State → β) (hwr : ∀ u a v, g (State.wr u a v) = g u)
    (hcore : ∀ (u : State) c, g { u with core := c } = g u) (s : State) (p l : Nat) (f : SignedFile) : g (s.writeLcore p l f) = g s := by
  have hbytes {α : Type} (l : List α) (a : α → Nat) (b : α → List Nat) (u : State) : g (u.forEach l fun u x => u.wrBytes (a x) (b x)) = g u :=
    State.forEach_keeps g _ (fun u x => u.wrBytes_keeps g hwr (a x) (b x)) l u
  have hrows (l : List Nat) (k : Nat) (a : Nat → Nat) (x : Nat → ShelfRow) (u : State) :
      g (u.forEach l fun u i => u.setShelfRow k (a i) (x i)) = g u :=
    State.forEach_keeps g _ (fun _ _ => hcore _ _) l u
  unfold State.writeLcore
  dsimp only
  rw [hbytes, hcore, hbytes, hrows, hbytes, hbytes, hbytes, hbytes, State.forEach_keeps g _ (fun _ _ => ?_)]
  · exact (hwr _ _ _).trans (hwr _ _ _)
  · exact (hwr _ _ _).trans (hwr _ _ _)

theorem State.row_writeLcore (s : State) (p l : Nat) (f : SignedFile) {i : Nat} (hi : i < (f.res l).rows) :
    ((s.writeLcore p l f).shelfRow (s.lctx p l).1 (s.rowBase (s.lctx p l).1 (s.lctx p l).2 + i)).data = rowOf (f.entry 8 l i) := by
  have hbytes {α : Type} (l : List α) (a : α → Nat) (b : α → List Nat) (u : State) :
      (u.forEach l fun u x => u.wrBytes (a x) (b x)).core.shelf = u.core.shelf :=
    State.forEach_keeps (·.core.shelf) _ (fun u x => u.wrBytes_keeps (·.core.shelf) (fun _ _ _ => rfl) (a x) (b x)) l u
  unfold State.writeLcore
  dsimp only
  generalize (s.lctx p l).1 = k, (s.lctx p l).2 = n
  rw [State.shelfRow_congr ((hbytes ..).trans (Eq.trans (by rfl) (hbytes ..)))]
  refine State.forEach_reaches (fun u => (u.shelfRow k (s.rowBase k n + i)).data = rowOf (f.entry 8 l i)) (fun u j _ h => ?_)
    (List.mem_range.2 hi) (fun u => ?_) _
  · obtain rfl | hne := eq_or_ne j i
    · rw [State.shelfRow_setShelfRow_same]
    · have hkeep := State.shelfRow_putRow_ne (show s.rowBase k n + j ≠ s.rowBase k n + i by omega) u k (rowOf (f.entry 8 l j)) false
        (s.shelfRow k (s.rowBase k n + j)).full
      exact (congrArg ShelfRow.data hkeep).trans h
  · rw [State.shelfRow_setShelfRow_same]

theorem State.loadedSigs_countSig (s : State) (p : Nat) :
    SMap.get (fun _ => 0) (s.countSig p).wts.loadedSigs p = SMap.get (fun _ => 0) s.wts.loadedSigs p + 1 := by
  unfold State.countSig
  exact SMap.get_set_same (fun _ => 0) s.wts.loadedSigs p (SMap.get (fun _ => 0) s.wts.loadedSigs p + 1)

theorem State.imageEnds_imageEnd (s : State) (p : Nat) (e : ImageEnd) : SMap.get (fun _ => 0) (s.imageEnd p e).wts.imageEnds p = e.code := by
  unfold State.imageEnd
  exact SMap.get_set_same (fun _ => 0) s.wts.imageEnds p _

theorem State.routeEnds_routeEnd (s : State) (p : Nat) (e : ImageEnd) : SMap.get (fun _ => 0) (s.routeEnd p e).wts.routeEnds p = e.code := by
  unfold State.routeEnd
  exact SMap.get_set_same (fun _ => 0) s.wts.routeEnds p _

theorem State.core_imageEnd_countSig (s : State) (p : Nat) (e : ImageEnd) : ((s.countSig p).imageEnd p e).core = s.core := rfl

theorem firingImageLoad_completes (s : State) (p : PartNo) (img f : SignedFile) (i : Nat) (hpair : s.pairCheck p img f = none)
    (hone : img.nlcore = 1) (hbuf : (img.given 3 0).any (fun i => badBuffer (img.entry 3 0 i)) = false)
    (hstopped : s.ctxRun (s.lctx p 0).1 (s.lctx p 0).2 = 0) (hi : i < (img.res 0).rows) :
    Completes (.firingImageLoad p img f) s fun t => SMap.get (fun _ => 0) t.wts.imageEnds p = 1 ∧
      SMap.get (fun _ => 0) t.wts.loadedSigs p = SMap.get (fun _ => 0) s.wts.loadedSigs p + 1 ∧
      (t.shelfRow (s.lctx p 0).1 (s.rowBase (s.lctx p 0).1 (s.lctx p 0).2 + i)).data = rowOf (img.entry 8 0 i) ∧ t.hbm = s.hbm ∧
      t.mesh = s.mesh ∧ t.srv = s.srv ∧ t.log = s.log := by
  have heq : s.imageLoad p img f = ((s.writeLcore p 0 img).countSig p).imageEnd p .loaded := by
    unfold State.imageLoad
    rw [hpair]
    dsimp only
    have hwritten : ((List.range img.nlcore).any fun l =>
        (img.given 3 l).any (fun i => badBuffer (img.entry 3 l i)) || s.ctxRun (s.lctx p l).1 (s.lctx p l).2 != 0) = false := by
      rw [hone, List.range_one, List.any_cons, List.any_nil, hbuf, hstopped]
      rfl
    rw [hwritten, hone, List.range_one, State.forEach_cons, State.forEach_nil]
    exact if_neg Bool.false_ne_true
  have hrow := s.row_writeLcore p 0 img hi
  have hkeep {β : Type} (g : State → β) (hwr : ∀ u a v, g (State.wr u a v) = g u) (hcore : ∀ (u : State) c, g { u with core := c } = g u) :
      g (s.writeLcore p 0 img) = g s := State.writeLcore_keeps g hwr hcore s p 0 img
  generalize s.writeLcore p 0 img = u at heq hrow hkeep
  refine ⟨_, congrArg Host.Outcome.next heq, State.imageEnds_imageEnd .., ?_, ?_, hkeep (·.hbm) (fun _ _ _ => rfl) fun _ _ => rfl,
    hkeep (·.mesh) (fun _ _ _ => rfl) fun _ _ => rfl, hkeep (·.srv) (fun _ _ _ => rfl) fun _ _ => rfl,
    hkeep (·.log) (fun _ _ _ => rfl) fun _ _ => rfl⟩
  · rw [← hkeep (fun u => SMap.get (fun _ => 0) u.wts.loadedSigs p) (fun _ _ _ => rfl) fun _ _ => rfl]
    exact u.loadedSigs_countSig p
  · exact (congrArg ShelfRow.data (State.shelfRow_congr (congrArg CoreBlk.shelf (u.core_imageEnd_countSig p .loaded)) _ _)).trans hrow

/-! #### Route lists and reduction tables (R202, R215) -/

/-- What register writes and the positions of the routers leave alone, a route list leaves alone. -/
theorem State.writeRoutes_keeps {β : Type} (g : State → β) (hwr : ∀ u a v, g (State.wr u a v) = g u)
    (hmesh : ∀ (u : State) m, g { u with mesh := m } = g u) (s : State) (p : Nat) (flows : List (Nat × Nat × Nat)) :
    g (s.writeRoutes p flows) = g s := by
  unfold State.writeRoutes
  split
  · rfl
  · refine State.forEach_keeps g _ (fun u r => ?_) _ s
    dsimp only
    rw [State.forEach_keeps g _ (fun _ _ => ?_), hwr, State.forEach_keeps g _ (fun _ _ => ?_)]
    · exact hwr _ _ _
    · exact hmesh _ _

theorem State.writeReds_keeps {β : Type} (g : State → β) (hwr : ∀ u a v, g (State.wr u a v) = g u) (s : State) (p k : Nat) (f : SignedFile) :
    g (s.writeReds p k f) = g s := by
  unfold State.writeReds
  dsimp only
  rw [State.forEach_keeps g _ (fun u x => ?_), State.forEach_keeps g _ (fun u e => ?_)]
  · unfold State.wr64
    simp only [hwr]
  · simp only [hwr]

/-- The registers of reduction table entry e of a core. -/
def redRegs (k e : Nat) : List Nat :=
  [Reg.RTR_REDA k e, Reg.RTR_REDB k e, Reg.RTR_REDC k e, Reg.RTR_REDSP_LO k e, Reg.RTR_REDSP_HI k e]

theorem State.redFree_lt {s : State} {p k e : Nat} (h : e ∈ s.redFree p k) : e < 256 := List.mem_range.1 (List.mem_filter.1 h).1

theorem State.rd_writeReds {a k : Nat} (ha : ∀ e < 256, a ∉ redRegs k e) (s : State) (p : Nat) (f : SignedFile) :
    (s.writeReds p k f).rd a = s.rd a := by
  have hne : ∀ e < 256, Reg.RTR_REDA k e ≠ a ∧ Reg.RTR_REDB k e ≠ a ∧ Reg.RTR_REDC k e ≠ a ∧ Reg.RTR_REDSP_LO k e ≠ a ∧
      Reg.RTR_REDSP_LO k e + 4 ≠ a ∧ Reg.RTR_REDSP_HI k e ≠ a := fun e he => by
    have h := ha e he
    simp only [redRegs, List.mem_cons, List.not_mem_nil, or_false, not_or, Reg.RTR_REDSP_LO, Reg.RTR_REDSP_HI] at h ⊢
    omega
  unfold State.writeReds
  dsimp only
  refine State.forEach_mem (fun u => u.rd a = s.rd a) _ (fun u x hx hu => ?_) _ (State.forEach_mem (fun u => u.rd a = s.rd a) _ (fun u e he hu => ?_) s rfl)
  · obtain ⟨hA, hB, hC, hlo, -, hhi⟩ := hne x.1 (State.redFree_lt (List.of_mem_zip hx).1)
    rw [State.rd_wr_ne hA, State.rd_wr_ne hhi, State.rd_wr_ne hlo, State.rd_wr_ne hC, State.rd_wr_ne hB, hu]
  · obtain ⟨hA, hB, hC, hlo, hlo4, -⟩ := hne e (State.redFree_lt (List.mem_filter.1 he).1)
    rw [State.wr64, State.rd_wr_ne hlo4, State.rd_wr_ne hlo, State.rd_wr_ne hC, State.rd_wr_ne hB, State.rd_wr_ne hA, hu]

theorem rlseg_not_mem_redRegs {r p k e : Nat} (hp : p < 64) (he : e < 256) : Reg.RTR_RLSEG r p ∉ redRegs k e := by
  simp only [redRegs, List.mem_cons, List.not_mem_nil, or_false, Reg.RTR_RLSEG, Reg.RTR_REDA, Reg.RTR_REDB, Reg.RTR_REDC, Reg.RTR_REDSP_LO,
    Reg.RTR_REDSP_HI]
  omega

theorem State.routeBase_le {s : State} {p n b : Nat} (h : s.routeBase p n = some b) : b + n ≤ 2048 :=
  of_decide_eq_true (Bool.and_eq_true _ _ ▸ List.find?_some h).1

/-- Router r takes the route list of a partition at base b: the round of the loop of `State.writeRoutes`. -/
def State.writeRouter (s : State) (p b : Nat) (flows : List (Nat × Nat × Nat)) (r : Nat) : State :=
  let s := s.forEach flows.zipIdx fun s e => s.wr (Reg.RTR_RLIST r (b + e.2)) (e.1.1 * 2 ^ 26 + e.1.2.1 * 2 ^ 18 + e.1.2.2)
  let s := s.wr (Reg.RTR_RLSEG r p) (flows.length * 2 ^ 16 + b % 2048)
  s.forEach (List.range 8) fun s o => s.setRoutePos r o p {}

theorem State.writeRoutes_of_base {s : State} {p b : Nat} {flows : List (Nat × Nat × Nat)} (hb : s.routeBase p flows.length = some b) :
    s.writeRoutes p flows = s.forEach (List.range 16) fun s r => s.writeRouter p b flows r := by
  unfold State.writeRoutes
  rw [hb]
  rfl

theorem State.forEach_setRoutePos_regs (s : State) (r p : Nat) (l : List Nat) : (s.forEach l fun s o => s.setRoutePos r o p {}).regs = s.regs :=
  State.forEach_keeps (·.regs) _ (by intros; rfl) l s

theorem State.rlseg_writeRouter {p r q b : Nat} (hp : p < 64) {flows : List (Nat × Nat × Nat)} (hfit : b + flows.length ≤ 2048) (s : State) :
    (s.writeRouter p b flows q).rd (Reg.RTR_RLSEG r p) = if q = r then flows.length * 2 ^ 16 + b % 2048 else s.rd (Reg.RTR_RLSEG r p) := by
  unfold State.writeRouter
  dsimp only
  rw [State.rd_congr (State.forEach_setRoutePos_regs ..)]
  split
  · next heq =>
    subst heq
    exact State.rd_wr_same _ _ _ (by omega)
  · next hne =>
    rw [State.rd_wr_ne (by simp only [Reg.RTR_RLSEG]; omega)]
    refine State.forEach_mem (fun v => v.rd (Reg.RTR_RLSEG r p) = s.rd (Reg.RTR_RLSEG r p)) _ (fun v e he hv => ?_) s rfl
    have hidx := List.snd_lt_of_mem_zipIdx he
    rw [State.rd_wr_ne (by simp only [Reg.RTR_RLIST, Reg.RTR_RLSEG]; omega), hv]

/-- Every router's segment register of the partition names the base and length of its route list. -/
theorem State.rlseg_writeRoutes {s : State} {p r b : Nat} (hp : p < 64) (hr : r < 16) {flows : List (Nat × Nat × Nat)}
    (hb : s.routeBase p flows.length = some b) : (s.writeRoutes p flows).rd (Reg.RTR_RLSEG r p) = flows.length * 2 ^ 16 + b % 2048 := by
  have hround (u : State) (q : Nat) := State.rlseg_writeRouter (r := r) (q := q) hp (State.routeBase_le hb) u
  rw [State.writeRoutes_of_base hb]
  refine State.forEach_reaches (fun u => u.rd (Reg.RTR_RLSEG r p) = flows.length * 2 ^ 16 + b % 2048) (fun u q _ h => ?_) (List.mem_range.2 hr)
    (fun u => ?_) s
  · rw [hround, h, ite_self]
  · rw [hround, if_pos rfl]

theorem routeSetLoad_completes (s : State) (p : PartNo) (img f : SignedFile) (r : CoreNo) (b : Nat) (hpair : s.pairCheck p img f = none)
    (hb : s.routeBase p ((f.given 0x10 0).filterMap fun i => s.flowOf p img (f.entry 0x10 0 i)).length = some b) :
    Completes (.routeSetLoad p img f) s fun t => SMap.get (fun _ => 0) t.wts.routeEnds p = 1 ∧
      SMap.get (fun _ => 0) t.wts.loadedSigs p = SMap.get (fun _ => 0) s.wts.loadedSigs p + 1 ∧
      t.rd (Reg.RTR_RLSEG r p) = ((f.given 0x10 0).filterMap fun i => s.flowOf p img (f.entry 0x10 0 i)).length * 2 ^ 16 + b % 2048 ∧
      t.core = s.core ∧ t.hbm = s.hbm ∧ t.srv = s.srv ∧ t.log = s.log := by
  generalize hflows : ((f.given 0x10 0).filterMap fun i => s.flowOf p img (f.entry 0x10 0 i)) = flows at hb ⊢
  have heq : s.routeLoad p img f =
      (((s.writeRoutes p flows).forEach (List.range 16) fun s k => s.writeReds p k f).countSig p).routeEnd p .loaded := by
    unfold State.routeLoad
    rw [hpair]
    dsimp only
    rw [hflows]
  have hkeep {β : Type} (g : State → β) (hwr : ∀ u a v, g (State.wr u a v) = g u) (hmesh : ∀ (u : State) m, g { u with mesh := m } = g u) :
      g ((s.writeRoutes p flows).forEach (List.range 16) fun s k => s.writeReds p k f) = g s :=
    (State.forEach_keeps g _ (fun u k => u.writeReds_keeps g hwr p k f) _ _).trans (s.writeRoutes_keeps g hwr hmesh p flows)
  have hseg : ((s.writeRoutes p flows).forEach (List.range 16) fun s k => s.writeReds p k f).rd (Reg.RTR_RLSEG r p) =
      flows.length * 2 ^ 16 + b % 2048 :=
    (State.forEach_keeps (·.rd (Reg.RTR_RLSEG r p)) _ (fun u k => u.rd_writeReds (fun e he => rlseg_not_mem_redRegs p.isLt he) p f) _ _).trans
      (State.rlseg_writeRoutes p.isLt r.isLt hb)
  generalize (s.writeRoutes p flows).forEach (List.range 16) _ = u at heq hkeep hseg
  refine ⟨_, congrArg Host.Outcome.next heq, State.routeEnds_routeEnd .., ?_, ?_, hkeep (·.core) (fun _ _ _ => rfl) fun _ _ => rfl,
    hkeep (·.hbm) (fun _ _ _ => rfl) fun _ _ => rfl, hkeep (·.srv) (fun _ _ _ => rfl) fun _ _ => rfl,
    hkeep (·.log) (fun _ _ _ => rfl) fun _ _ => rfl⟩
  · rw [← hkeep (fun u => SMap.get (fun _ => 0) u.wts.loadedSigs p) (fun _ _ _ => rfl) fun _ _ => rfl]
    exact u.loadedSigs_countSig p
  · exact (State.rd_congr (show ((u.countSig p).routeEnd p .loaded).regs = u.regs from rfl) _).trans hseg

/-! #### STOP (R387, R390) -/

@[simp] theorem State.part_setPart_same (s : State) (p : Nat) (x : PartSrv) : (s.setPart p x).part p = x := SMap.get_set_same ..

@[simp] theorem State.core_withMsgs (s : State) (l : List Msg) : (s.withMsgs l).core = s.core := rfl
@[simp] theorem State.hbm_withMsgs (s : State) (l : List Msg) : (s.withMsgs l).hbm = s.hbm := rfl
@[simp] theorem State.log_withMsgs (s : State) (l : List Msg) : (s.withMsgs l).log = s.log := rfl
@[simp] theorem State.part_withMsgs (s : State) (l : List Msg) (p : Nat) : (s.withMsgs l).part p = s.part p := rfl

theorem State.part_congr {s t : State} (h : s.srv = t.srv) (p : Nat) : s.part p = t.part p := by
  rw [State.part, h]
  rfl

theorem State.pcStat_regsExcept (s : State) (p result reason : Nat) : RegsExcept [Reg.GCTL_PCSTAT] s (s.pcStat p result reason) :=
  ((State.setF_regsExcept s (List.mem_singleton_self _) _ _).trans (State.setF_regsExcept _ (List.mem_singleton_self _) _ _)).trans
    (State.setF_regsExcept _ (List.mem_singleton_self _) _ _)

theorem State.pcStat_keeps {β : Type} (g : State → β) (hwr : ∀ u a v, g (State.wr u a v) = g u) (s : State) (p result reason : Nat) :
    g (s.pcStat p result reason) = g s := (hwr _ _ _).trans ((hwr _ _ _).trans (hwr _ _ _))

theorem State.fld_pcStat (s : State) (p result reason : Nat) : (s.pcStat p result reason).fld Reg.GCTL_PCSTAT Fld.GCTL_PCSTAT_RESULT = result % 4 ∧
    (s.pcStat p result reason).fld Reg.GCTL_PCSTAT Fld.GCTL_PCSTAT_PART = p % 64 := by
  unfold State.pcStat
  constructor
  · rw [State.fld_setF_other _ _ _ _ _ (by decide) (by decide), State.fld_setF_other _ _ _ _ _ (by decide) (by decide),
      State.fld_setF_same _ _ _ _ (by decide)]
    rfl
  · exact State.fld_setF_same _ _ _ _ (by decide)

theorem State.members_congr {s t : State} {p : Nat} (h : s.rd (Reg.CNET_PMEM p) = t.rd (Reg.CNET_PMEM p)) : s.members p = t.members p := by
  unfold State.members State.memberPorts
  rw [State.memberCores_congr h]
  unfold State.fld
  rw [h]

theorem pmem_ne_pcstat (p : Nat) : Reg.CNET_PMEM p ∉ [Reg.GCTL_PCSTAT] := by
  simp only [Reg.CNET_PMEM, Reg.GCTL_PCSTAT, List.mem_singleton]
  omega

theorem State.orderStop_of_opened {s : State} {p : Nat} (hrun : s.run p ≠ 0) (hstopping : (s.part p).stopping = 0) (hopened : (s.part p).opened = true) :
    s.orderStop p = (s.setPart p { s.part p with stopping := 1 }).withMsgs
      (s.mesh.msgs ++ (s.members p).map fun m => ⟨.pstop, mgmtNode, m, p, 0⟩) := by
  unfold State.orderStop
  rw [if_neg (by simp [hrun, hstopping])]
  dsimp only
  rw [State.forEach_post (fun _ => .pstop) mgmtNode p (fun m => m) (fun _ => 0)]
  generalize hv : State.withMsgs _ _ = v
  have hopen : (v.part p).opened = true := by
    rw [← hv, State.part_withMsgs, State.part_setPart_same]
    exact hopened
  unfold State.tryStop
  rw [if_pos (.inr (.inr (.inl hopen)))]
  exact hv.symm

theorem partitionStop_completes (s : State) (p : PartNo) (hrun : s.run p = 1 ∨ s.run p = 2)
    (h : (s.part p).stopping = 0 ∧ (s.part p).opened = true) :
    Completes (.partitionStop p) s fun t => t.fld Reg.GCTL_PCSTAT Fld.GCTL_PCSTAT_RESULT = 3 ∧ t.fld Reg.GCTL_PCSTAT Fld.GCTL_PCSTAT_PART = p ∧
      t.part p = { s.part p with stopping := 1 } ∧ t.mesh.msgs = s.mesh.msgs ++ (s.members p).map (fun m => ⟨.pstop, mgmtNode, m, p, 0⟩) ∧
      RegsExcept [Reg.GCTL_PCSTAT] s t ∧ t.core = s.core ∧ t.hbm = s.hbm ∧ t.log = s.log := by
  obtain ⟨hstopping, hopened⟩ := h
  have hregs := s.pcStat_regsExcept p 3 0
  have hkeep {β : Type} (g : State → β) (hwr : ∀ u a v, g (State.wr u a v) = g u) : g (s.pcStat p 3 0) = g s := s.pcStat_keeps g hwr p 3 0
  obtain ⟨hresult, hpart⟩ := s.fld_pcStat p 3 0
  have heq : s.stopCommand p = (s.pcStat p 3 0).orderStop p := by
    unfold State.stopCommand
    rw [if_neg (by omega), if_neg (by omega)]
  generalize s.pcStat p 3 0 = u at heq hregs hkeep hresult hpart
  have hupart : u.part p = s.part p := State.part_congr (hkeep (·.srv) fun _ _ _ => rfl) p
  have hurun : u.run p = s.run p := hregs.fld (by simp only [Reg.CNET_PSTAT, Reg.GCTL_PCSTAT, List.mem_singleton]; omega) _
  rw [State.orderStop_of_opened (by omega) (by rw [hupart, hstopping]) (by rw [hupart, hopened]), hupart,
    State.members_congr (hregs _ (pmem_ne_pcstat p)), hkeep (·.mesh.msgs) fun _ _ _ => rfl] at heq
  generalize s.mesh.msgs ++ (s.members p).map (fun m => (⟨.pstop, mgmtNode, m, p, 0⟩ : Msg)) = l at heq ⊢
  generalize ({ s.part p with stopping := 1 } : PartSrv) = x at heq ⊢
  refine ⟨_, congrArg Host.Outcome.next heq, ?_, ?_, ?_, State.msgs_withMsgs .., ?_, ?_, ?_, ?_⟩
  · rw [State.fld_congr (State.regs_withMsgs ..), State.setPart_fld, hresult]
  · rw [State.fld_congr (State.regs_withMsgs ..), State.setPart_fld, hpart]
    exact Nat.mod_eq_of_lt p.isLt
  · rw [State.part_withMsgs, State.part_setPart_same]
  · exact hregs.trans (.of_regs _ ((State.regs_withMsgs ..).trans (State.setPart_regs ..)))
  · rw [State.core_withMsgs, State.setPart_core, hkeep (·.core) fun _ _ _ => rfl]
  · rw [State.hbm_withMsgs, State.setPart_hbm, hkeep (·.hbm) fun _ _ _ => rfl]
  · rw [State.log_withMsgs, State.setPart_log, hkeep (·.log) fun _ _ _ => rfl]

/-! #### START (R388) -/

theorem State.afterStart_of_parts {s : State} {p : Nat} (h : s.jobParts p ≠ 0) : s.afterStart p = s := if_pos (.inr h)

/-- The start of a partition in state `t`, in terms of state `s`. -/
structure Launched (s : State) (p : Nat) (t : State) : Prop where
  run : t.run p = 2
  root : t.root p = { acks := s.memberCores p }
  msgs : t.mesh.msgs = s.mesh.msgs ++ (s.members p).map fun m => ⟨.pstart, mgmtNode, m, p, 0⟩
  planned : (t.part p).planned = false
  regs : RegsExcept [Reg.CNET_PSTAT p, Reg.PCI_VSTAT p, Reg.SRV_PSTAT p] s t
  blocks : t.core = s.core ∧ t.hbm = s.hbm ∧ t.log = s.log

theorem State.launch_launched {s : State} {p : Nat} (hparts : s.jobParts p ≠ 0) : Launched s p (s.launch p false) := by
  unfold State.launch
  rw [State.when_false]
  dsimp only
  generalize ha : State.setPart s p _ = a
  obtain ⟨haplanned, haregs, hamsgs, hacore, hahbm, halog⟩ : (a.part p).planned = false ∧ a.regs = s.regs ∧ a.mesh.msgs = s.mesh.msgs ∧
      a.core = s.core ∧ a.hbm = s.hbm ∧ a.log = s.log := by
    subst ha
    exact ⟨by rw [State.part_setPart_same], rfl, rfl, rfl, rfl, rfl⟩
  generalize hv : State.setRoot _ p _ = v
  obtain ⟨hvplanned, hvregs, hvmsgs, hvroot, hvcore, hvhbm, hvlog⟩ : (v.part p).planned = false ∧ v.regs = a.regs ∧ v.mesh.msgs = a.mesh.msgs ∧
      v.root p = { acks := a.memberCores p } ∧ v.core = a.core ∧ v.hbm = a.hbm ∧ v.log = a.log := by
    subst hv
    exact ⟨haplanned, rfl, rfl, by rw [State.root_setRoot_same]; rfl, rfl, rfl, rfl⟩
  have hcregs := v.setPRun_regsExcept p 2
  have hcrun := v.run_setPRun p 2
  have hckeep {β : Type} (g : State → β) (hwr : ∀ u a v, g (State.wr u a v) = g u) (hvf : ∀ u p x, g (State.setVf u p x) = g u) :
      g (v.setPRun p 2) = g v := v.setPRun_keeps g hwr hvf p 2
  generalize v.setPRun p 2 = c at hcregs hcrun hckeep ⊢
  generalize hd : c.when _ _ = d
  have hdregs : RegsExcept [Reg.SRV_PSTAT p] c d := by
    subst hd
    exact State.when_inv (RegsExcept [Reg.SRV_PSTAT p] c) _ _ (.refl _ _) (State.setF_regsExcept _ (List.mem_singleton_self _) _ _)
  have hdkeep {β : Type} (g : State → β) (hwr : ∀ u a v, g (State.wr u a v) = g u) : g d = g c := by
    subst hd
    exact State.when_inv (fun u => g u = g c) _ _ rfl (hwr _ _ _)
  have hregs : RegsExcept [Reg.CNET_PSTAT p, Reg.PCI_VSTAT p, Reg.SRV_PSTAT p] s d :=
    (RegsExcept.of_regs _ (hvregs.trans haregs)).trans ((hcregs.mono (by simp)).trans (hdregs.mono (by simp)))
  have hkeep {β : Type} (g : State → β) (hwr : ∀ u a v, g (State.wr u a v) = g u) (hvf : ∀ u p x, g (State.setVf u p x) = g u) : g d = g v :=
    (hdkeep g hwr).trans (hckeep g hwr hvf)
  have hjob : d.jobParts p ≠ 0 := by
    rwa [State.jobParts, hregs.fld]
    simp only [Reg.SRV_PCFG, Reg.CNET_PSTAT, Reg.PCI_VSTAT, Reg.SRV_PSTAT, List.mem_cons, List.not_mem_nil, or_false]
    omega
  have hpmem : d.rd (Reg.CNET_PMEM p) = s.rd (Reg.CNET_PMEM p) := hregs _ (by
    simp only [Reg.CNET_PMEM, Reg.CNET_PSTAT, Reg.PCI_VSTAT, Reg.SRV_PSTAT, List.mem_cons, List.not_mem_nil, or_false]
    omega)
  rw [State.forEach_post (fun _ => .pstart) mgmtNode p (fun m => m) (fun _ => 0), State.afterStart_of_parts (by exact hjob)]
  refine ⟨?_, ?_, ?_, ?_, hregs.trans (.of_regs _ (State.regs_withMsgs ..)), ?_, ?_, ?_⟩
  · rw [State.run_withMsgs]
    exact (hdregs.fld (by simp only [Reg.CNET_PSTAT, Reg.SRV_PSTAT, List.mem_singleton]; omega) _).trans hcrun
  · rw [State.root_withMsgs, hkeep (·.root p) (fun _ _ _ => rfl) fun _ _ _ => rfl, hvroot, State.memberCores_congr (State.rd_congr haregs _)]
  · rw [State.msgs_withMsgs, hkeep (·.mesh.msgs) (fun _ _ _ => rfl) fun _ _ _ => rfl, hvmsgs, hamsgs, State.members_congr hpmem]
  · rw [State.part_withMsgs]
    exact (hkeep (fun u => (u.part p).planned) (fun _ _ _ => rfl) fun _ _ _ => rfl).trans hvplanned
  · exact (hkeep (·.core) (fun _ _ _ => rfl) fun _ _ _ => rfl).trans (hvcore.trans hacore)
  · exact (hkeep (·.hbm) (fun _ _ _ => rfl) fun _ _ _ => rfl).trans (hvhbm.trans hahbm)
  · exact (hkeep (·.log) (fun _ _ _ => rfl) fun _ _ _ => rfl).trans (hvlog.trans halog)

theorem partitionStart_completes (s : State) (p : PartNo) (hreason : s.startReason p = 0) (hparts : s.jobParts p ≠ 0) :
    Completes (.partitionStart p false) s fun t => t.fld Reg.GCTL_PCSTAT Fld.GCTL_PCSTAT_RESULT = 1 ∧ t.run p = 2 ∧
      t.root p = { acks := s.memberCores p } ∧ t.mesh.msgs = s.mesh.msgs ++ (s.members p).map (fun m => ⟨.pstart, mgmtNode, m, p, 0⟩) ∧
      (t.part p).planned = false ∧ t.core = s.core ∧ t.hbm = s.hbm ∧ t.log = s.log := by
  have heq : s.startCommand p false = (s.pcStat p 1 0).launch p false := if_neg (not_not.2 hreason)
  have hregs := s.pcStat_regsExcept p 1 0
  have hkeep {β : Type} (g : State → β) (hwr : ∀ u a v, g (State.wr u a v) = g u) : g (s.pcStat p 1 0) = g s := s.pcStat_keeps g hwr p 1 0
  have hresult := (s.fld_pcStat p 1 0).1
  generalize s.pcStat p 1 0 = u at heq hregs hkeep hresult
  obtain ⟨hrun, hroot, hmsgs, hplanned, hlaunch, hcore, hhbm, hlog⟩ := State.launch_launched (s := u) (p := p) (by
    rwa [State.jobParts, hregs.fld (by simp only [Reg.SRV_PCFG, Reg.GCTL_PCSTAT, List.mem_singleton]; omega)])
  have hpmem := hregs _ (pmem_ne_pcstat p)
  refine ⟨_, congrArg Host.Outcome.next heq, ?_, hrun, ?_, ?_, hplanned, ?_, ?_, ?_⟩
  · rw [hlaunch.fld ?_, hresult]
    simp only [Reg.GCTL_PCSTAT, Reg.CNET_PSTAT, Reg.PCI_VSTAT, Reg.SRV_PSTAT, List.mem_cons, List.not_mem_nil, or_false]
    omega
  · rw [hroot, State.memberCores_congr hpmem]
  · rw [hmsgs, State.members_congr hpmem, hkeep (·.mesh.msgs) fun _ _ _ => rfl]
  · exact hcore.trans (hkeep (·.core) fun _ _ _ => rfl)
  · exact hhbm.trans (hkeep (·.hbm) fun _ _ _ => rfl)
  · exact hlog.trans (hkeep (·.log) fun _ _ _ => rfl)

/-! #### STOP_TIMEOUT (R226, R289, R387 step 3) -/

theorem State.splitUsage_nil (s : State) (p : Nat) : ∃ m, s.splitUsage p [] = { s with mgmt := m } := ⟨_, rfl⟩

/-- The open step of a partition has failed, in state `t`, without a plan, in terms of state `s`. -/
structure StepFailed (s : State) (p : Nat) (t : State) : Prop where
  regs : RegsExcept (Reg.SRV_PSTAT p :: logRegs) s t
  core : t.core = s.core
  hbm : t.hbm = s.hbm
  opened : (t.part p).opened = false
  stopping : (t.part p).stopping = (s.part p).stopping

namespace StepFailed

variable {s t : State} {p : Nat}

theorem setFails (h : StepFailed s p t) {f : Fld} {v : Nat} : StepFailed s p (t.setF (Reg.SRV_PSTAT p) f v) :=
  ⟨h.regs.trans (State.setF_regsExcept t List.mem_cons_self f v), h.core, h.hbm, h.opened, h.stopping⟩

theorem setPart (h : StepFailed s p t) (x : PartSrv) (hopened : x.opened = (t.part p).opened) (hstopping : x.stopping = (t.part p).stopping) :
    StepFailed s p (t.setPart p x) :=
  ⟨h.regs.trans (.of_regs _ (State.setPart_regs ..)), h.core, h.hbm, by rw [State.part_setPart_same, hopened, h.opened],
    by rw [State.part_setPart_same, hstopping, h.stopping]⟩

theorem setVf (h : StepFailed s p t) {q : Nat} {x : Vf} : StepFailed s p (t.setVf q x) :=
  ⟨h.regs.trans (.of_regs _ (State.setVf_regs ..)), h.core, h.hbm, h.opened, h.stopping⟩

theorem sherd (h : StepFailed s p t) {e : Event} : StepFailed s p (t.sherd e) :=
  ⟨h.regs.trans fun a ha => State.sherd_rd t e fun hm => ha (List.mem_cons_of_mem _ hm), (State.sherd_core t e).trans h.core,
    (State.sherd_hbm t e).trans h.hbm, by rw [State.part_congr (State.sherd_srv t e), h.opened], by rw [State.part_congr (State.sherd_srv t e), h.stopping]⟩

end StepFailed

theorem State.stepFails_failed {s : State} {p : Nat} (hplan : (s.part p).plan = []) : StepFailed s p (s.stepFails p) := by
  obtain ⟨m, hm⟩ := s.splitUsage_nil p
  unfold State.stepFails
  dsimp only
  rw [hm, hplan]
  generalize hu : State.setPart _ p _ = u
  obtain ⟨hregs, hcore, hhbm, hopened, hstopping⟩ : u.regs = s.regs ∧ u.core = s.core ∧ u.hbm = s.hbm ∧ (u.part p).opened = false ∧
      (u.part p).stopping = (s.part p).stopping := by
    subst hu
    exact ⟨rfl, rfl, rfl, by rw [State.part_setPart_same], by rw [State.part_setPart_same]⟩
  have hu' : StepFailed s p u := ⟨.of_regs _ hregs, hcore, hhbm, hopened, hstopping⟩
  split
  · rw [List.filter_nil, State.forEach_nil]
    have hv := hu'.setFails (f := Fld.SRV_PSTAT_FAILS) (v := 0)
    generalize u.setF (Reg.SRV_PSTAT p) Fld.SRV_PSTAT_FAILS 0 = v at hv ⊢
    have hw := hv.setPart { v.part p with plan := [], replay := false } rfl rfl
    generalize v.setPart p { v.part p with plan := [], replay := false } = w at hw ⊢
    exact StepFailed.sherd (StepFailed.setVf hw)
  · have hv (n : Nat) := hu'.setFails (f := Fld.SRV_PSTAT_FAILS) (v := n)
    exact State.when_inv (StepFailed s p) _ _ (hv _) (hv _).setFails

/-- A partition whose step fails keeps the list of its contexts. -/
theorem State.ctxsOf_congr {s t : State} (h : ∀ k < 16, ∀ n < 4, s.rd (Reg.CORE_CTXCTL k n) = t.rd (Reg.CORE_CTXCTL k n)) (p : Nat) :
    s.ctxsOf p = t.ctxsOf p := by
  refine List.filter_congr fun c hc => ?_
  obtain ⟨k, hk, hc⟩ := List.mem_flatMap.1 hc
  obtain ⟨n, hn, rfl⟩ := List.mem_map.1 hc
  unfold State.ctxEn State.ctxPart State.fld
  rw [h k (List.mem_range.1 hk) n (List.mem_range.1 hn)]

@[simp] theorem State.recl_setRecl_same (s : State) (p : Nat) (x : Reclaim) : (s.setRecl p x).recl p = x := SMap.get_set_same ..
@[simp] theorem State.recl_withMsgs (s : State) (l : List Msg) (p : Nat) : (s.withMsgs l).recl p = s.recl p := rfl

/-- The first step of a reclaim orders every context of the partition to scheduled mode. -/
theorem State.reclStep_first {s : State} {p : Nat} (h : s.ctxsOf p ≠ []) (fuel : Nat) :
    s.reclStep p (fuel + 1) 1 = (s.setRecl p { s.recl p with step := 1, awaited := (s.ctxsOf p).map (·.1) }).withMsgs
      (s.mesh.msgs ++ (s.ctxsOf p).map fun c => ⟨.forceSched, mgmtNode, c.1, p, c.2⟩) := by
  have horders : s.reclOrders p 1 = (s.ctxsOf p).map fun c => (.forceSched, c.1, c.2) := rfl
  unfold State.reclStep
  rw [if_neg (by decide), if_neg (by decide), horders]
  dsimp only
  rw [if_neg (by rwa [List.map_eq_nil_iff]), List.map_map,
    State.forEach_post (fun o : MsgType × Nat × Nat => o.1) mgmtNode p (fun o => o.2.1) (fun o => o.2.2), List.map_map]
  rfl

theorem ctxctl_not_mem {p k n : Nat} (hk : k < 16) (hn : n < 4) :
    Reg.CORE_CTXCTL k n ∉ [Reg.CNET_PSTAT p, Reg.PCI_VSTAT p] ++ Reg.SRV_PSTAT p :: logRegs := by
  have hlog : Reg.CORE_CTXCTL k n ∉ logRegs := not_mem_logRegs (by simp only [Reg.CORE_CTXCTL]; omega)
  simp only [List.cons_append, List.nil_append, List.mem_cons, not_or]
  refine ⟨?_, ?_, ?_, hlog⟩ <;> simp only [Reg.CORE_CTXCTL, Reg.CNET_PSTAT, Reg.PCI_VSTAT, Reg.SRV_PSTAT] <;> omega

theorem State.failStep_of_opened {s : State} {p : Nat} (h : (s.part p).opened = true) :
    s.failStep p = s.setPart p { s.part p with failed := true } := if_pos h

/-- An open step without a plan fails at the start of a reclaim. -/
theorem State.openStep_failed {s : State} {p : Nat} (hopened : (s.part p).opened = true) (hplan : (s.part p).plan = []) :
    StepFailed s p ((s.failStep p).stepFails p) := by
  rw [State.failStep_of_opened hopened]
  have hfailed := State.stepFails_failed (s := s.setPart p { s.part p with failed := true }) (p := p) (by rw [State.part_setPart_same, hplan])
  exact ⟨(RegsExcept.of_regs _ (State.setPart_regs ..)).trans hfailed.regs, hfailed.core, hfailed.hbm, hfailed.opened,
    hfailed.stopping.trans (by rw [State.part_setPart_same])⟩

theorem stopTimeout_completes (s : State) (p : PartNo)
    (h : (s.part p).stopping = 1 ∧ (s.part p).opened = true ∧ (s.part p).plan = []) (hrun : s.run p = 1 ∨ s.run p = 2) (hctxs : s.ctxsOf p ≠ []) :
    Completes (.stopTimeout p) s fun t => t.run p = 3 ∧ (t.recl p).step = 1 ∧ (t.recl p).awaited = (s.ctxsOf p).map (·.1) ∧
      (t.part p).opened = false ∧ (t.part p).stopping = 1 ∧ t.core = s.core ∧ t.hbm = s.hbm := by
  obtain ⟨hstopping, hopened, hplan⟩ := h
  have heq : s.stopTimeout p = s.startReclaim p [] := if_pos ⟨hstopping, hopened⟩
  refine ⟨_, congrArg Host.Outcome.next heq, ?_⟩
  have hu := State.openStep_failed hopened hplan
  unfold State.startReclaim
  rw [if_neg (by omega), if_pos hopened]
  generalize (s.failStep p).stepFails p = u at hu ⊢
  dsimp only
  generalize hv : u.setPart p _ = v
  obtain ⟨hvregs, hvcore, hvhbm, hvopened, hvstopping⟩ : v.regs = u.regs ∧ v.core = u.core ∧ v.hbm = u.hbm ∧ (v.part p).opened = false ∧
      (v.part p).stopping = 1 := by
    subst hv
    exact ⟨rfl, rfl, rfl, by rw [State.part_setPart_same]; exact hu.opened, by rw [State.part_setPart_same]; exact hu.stopping.trans hstopping⟩
  generalize hw : State.setRoot _ p _ = w
  obtain ⟨hwregs, hwcore, hwhbm, hwsrv⟩ : w.regs = v.regs ∧ w.core = v.core ∧ w.hbm = v.hbm ∧ w.srv = v.srv := by
    subst hw
    exact ⟨rfl, rfl, rfl, rfl⟩
  have hx := (w.setF_regsExcept (l := [Reg.CNET_PSTAT p, Reg.PCI_VSTAT p]) List.mem_cons_self Fld.CNET_PSTAT_BAR 0).trans
    ((w.setF (Reg.CNET_PSTAT p) Fld.CNET_PSTAT_BAR 0).setPRun_regsExcept p 3)
  have hxrun := (w.setF (Reg.CNET_PSTAT p) Fld.CNET_PSTAT_BAR 0).run_setPRun p 3
  have hxkeep {β : Type} (g : State → β) (hwr : ∀ u a v, g (State.wr u a v) = g u) (hvf : ∀ u p x, g (State.setVf u p x) = g u) :
      g ((w.setF (Reg.CNET_PSTAT p) Fld.CNET_PSTAT_BAR 0).setPRun p 3) = g w := (State.setPRun_keeps g hwr hvf _ p 3).trans (hwr _ _ _)
  generalize (w.setF (Reg.CNET_PSTAT p) Fld.CNET_PSTAT_BAR 0).setPRun p 3 = x at hx hxrun hxkeep ⊢
  generalize hy : x.setRecl p _ = y
  obtain ⟨hyregs, hycore, hyhbm, hysrv⟩ : y.regs = x.regs ∧ y.core = x.core ∧ y.hbm = x.hbm ∧ y.srv = x.srv := by
    subst hy
    exact ⟨State.setRecl_regs .., State.setRecl_core .., State.setRecl_hbm .., State.setRecl_srv ..⟩
  have hregs : RegsExcept ([Reg.CNET_PSTAT p, Reg.PCI_VSTAT p] ++ Reg.SRV_PSTAT p :: logRegs) s y :=
    ((hu.regs.mono (List.subset_append_right _ _)).trans (.of_regs _ (hwregs.trans hvregs))).trans
      ((hx.mono (List.subset_append_left _ _)).trans (.of_regs _ hyregs))
  have hsame : y.ctxsOf p = s.ctxsOf p := State.ctxsOf_congr (fun k hk n hn => hregs _ (ctxctl_not_mem hk hn)) p
  rw [State.reclStep_first (by rwa [hsame]), hsame]
  generalize y.mesh.msgs ++ _ = l
  generalize hz : y.setRecl p _ = z
  obtain ⟨hzrecl, hzregs, hzcore, hzhbm, hzsrv⟩ : z.recl p = { y.recl p with step := 1, awaited := (s.ctxsOf p).map (·.1) } ∧ z.regs = y.regs ∧
      z.core = y.core ∧ z.hbm = y.hbm ∧ z.srv = y.srv := by
    subst hz
    exact ⟨State.recl_setRecl_same .., State.setRecl_regs .., State.setRecl_core .., State.setRecl_hbm .., State.setRecl_srv ..⟩
  have hpart : z.part p = v.part p := State.part_congr (by
    rw [hzsrv, hysrv, hxkeep (·.srv) (fun _ _ _ => rfl) fun _ _ _ => rfl, hwsrv]) p
  refine ⟨?_, ?_, ?_, ?_, ?_, ?_, ?_⟩
  · rw [State.run_withMsgs]
    exact (State.fld_congr (hzregs.trans hyregs) _ _).trans hxrun
  · rw [State.recl_withMsgs, hzrecl]
  · rw [State.recl_withMsgs, hzrecl]
  · rw [State.part_withMsgs, hpart, hvopened]
  · rw [State.part_withMsgs, hpart, hvstopping]
  · rw [State.core_withMsgs, hzcore, hycore, hxkeep (·.core) (fun _ _ _ => rfl) fun _ _ _ => rfl, hwcore, hvcore, hu.core]
  · rw [State.hbm_withMsgs, hzhbm, hyhbm, hxkeep (·.hbm) (fun _ _ _ => rfl) fun _ _ _ => rfl, hwhbm, hvhbm, hu.hbm]

end Machine

open Machine

/-- Settles O20: a load writes through register writes and shelf rows alone, which `State.writeLcore_keeps` and `State.writeRoutes_keeps`
say once; the commands of a partition change its own registers and records and post to its members. -/
theorem imageAndPartitionCommandsComplete : Obligations.ImageAndPartitionCommandsComplete := by
  unfold Obligations.ImageAndPartitionCommandsComplete
  exact ⟨firingImageLoad_completes, routeSetLoad_completes, partitionStop_completes, partitionStart_completes, stopTimeout_completes⟩

end Sys2Proof
end

section
set_option Elab.async false

/-! ### Units at work: what decides an access, and the rounds of an operation -/

namespace Sys2Proof

namespace Machine

/-! #### What decides an access besides the row itself -/

/-- State `t` has the registers, the queues of descriptors and the mesh of `s`: an access to a row that stands as in `s` does there what it
does in `s`. -/
structure SameGround (s t : State) : Prop where
  regs : t.regs = s.regs
  queues : t.core.queues = s.core.queues
  mesh : t.mesh = s.mesh

namespace SameGround

variable {s t u : State}

theorem refl (s : State) : SameGround s s := ⟨rfl, rfl, rfl⟩
theorem trans (h : SameGround s t) (g : SameGround t u) : SameGround s u :=
  ⟨g.regs.trans h.regs, g.queues.trans h.queues, g.mesh.trans h.mesh⟩

theorem core (h : SameGround s t) {c : CoreBlk} (hc : c.queues = t.core.queues) : SameGround s { t with core := c } :=
  ⟨h.regs, hc.trans h.queues, h.mesh⟩
theorem setOp (h : SameGround s t) {k u : Nat} {o : Option UnitOp} : SameGround s (t.setOp k u o) := h.core rfl
theorem setCtx (h : SameGround s t) {k n : Nat} {c : CtxState} : SameGround s (t.setCtx k n c) := h.core rfl
theorem doneSlot (h : SameGround s t) {k n slot : Nat} {i : Issued} : SameGround s (t.doneSlot k n slot i) := h.setCtx
theorem delWaiter (h : SameGround s t) {k r who : Nat} {fill : Bool} : SameGround s (t.delWaiter k r who fill) := h.core rfl
theorem setShelfRow (h : SameGround s t) {k r : Nat} {x : ShelfRow} : SameGround s (t.setShelfRow k r x) := h.core rfl
theorem setEng (h : SameGround s t) {k x : Nat} {e : TileEng} : SameGround s (t.setEng k x e) := h.core rfl
theorem writtenRow (h : SameGround s t) {a : Acc} {d : Row} {poison full : Bool} : SameGround s (t.writtenRow a d poison full) :=
  h.delWaiter.setShelfRow
theorem endOp (h : SameGround s t) {k u : Nat} (hu : u ≠ 6) : SameGround s (t.endOp k u) := by
  rw [State.endOp_of_ne_send _ _ hu]
  exact ⟨h.regs, h.queues, h.mesh⟩

theorem inRows (h : SameGround s t) (k n r : Nat) : t.inRows k n r = s.inRows k n r := by
  unfold State.inRows State.rowBase State.rowCount
  simp only [State.fld_congr h.regs]

theorem spillPending (h : SameGround s t) (k r : Nat) : t.spillPending k r = s.spillPending k r := by
  unfold State.spillPending State.rgnType
  simp only [State.fld_congr h.regs, State.queue_congr h.queues]

theorem tagAllowed (h : SameGround s t) (k n : Nat) (cls : Cls) (fill : Bool) (r : Nat) : t.tagAllowed k n cls fill r = s.tagAllowed k n cls fill r := by
  unfold State.tagAllowed State.admits State.bufCount State.bufBase
  simp only [State.fld_congr h.regs]

theorem plainRow (h : SameGround s t) {k r : Nat} (hrow : t.shelfRow k r = s.shelfRow k r) (n : Nat) : plainRow t k n r = plainRow s k n r := by
  unfold Sys2Proof.plainRow
  rw [h.inRows, h.spillPending, hrow]

theorem taggedRow (h : SameGround s t) {k r : Nat} (hrow : t.shelfRow k r = s.shelfRow k r) (n : Nat) (cls : Cls) (fill full : Bool) :
    taggedRow t k n r cls fill full = taggedRow s k n r cls fill full := by
  unfold Sys2Proof.taggedRow
  rw [h.inRows, h.tagAllowed, hrow]

theorem regsExcept (h : SameGround s t) : RegsExcept [] s t := .of_regs _ h.regs

end SameGround

/-! #### Accesses that read (R120, R123, R126, R127) -/

/-- A read in scheduled mode of a row that stands as it is. -/
theorem State.access_plain_read {s : State} {a : Acc} (htag : a.tagged = false) (h : plainRow s a.k a.ctx a.row = true) :
    s.access a none = .ok (s.delWaiter a.k a.row a.who false) (s.shelfRow a.k a.row).data false := by
  simp only [plainRow, Bool.and_eq_true, Bool.not_eq_true', beq_iff_eq] at h
  obtain ⟨⟨⟨hrow, hspill⟩, hpoison⟩, hecc⟩ := h
  have hkeep : (s.delWaiter a.k a.row a.who false).shelfRow a.k a.row = s.shelfRow a.k a.row := rfl
  simp [State.access, hrow, htag, hspill, State.readRow, hkeep, hpoison, hecc]

/-- A CONSUME of a FULL row that a buffer admits makes it EMPTY. -/
theorem State.access_consume {s : State} {a : Acc} (htag : a.tagged = true) (hkind : a.kind = .consume)
    (h : taggedRow s a.k a.ctx a.row a.cls false true = true) :
    s.access a none = .ok ((s.delWaiter a.k a.row a.who false).setShelfRow a.k a.row { s.shelfRow a.k a.row with full := false })
      (s.shelfRow a.k a.row).data false := by
  simp only [taggedRow, Bool.and_eq_true, Bool.not_eq_true', beq_iff_eq] at h
  obtain ⟨⟨⟨⟨hrow, hallowed⟩, hfull⟩, hpoison⟩, hecc⟩ := h
  simp [State.access, hrow, htag, hkind, hallowed, hfull, State.readRow, State.shelfRow_setShelfRow_same, hpoison, hecc]

/-- A PEEK of a FULL row that a buffer admits leaves it FULL. -/
theorem State.access_peek {s : State} {a : Acc} (htag : a.tagged = true) (hkind : a.kind = .peek)
    (h : taggedRow s a.k a.ctx a.row a.cls false true = true) :
    s.access a none = .ok (s.delWaiter a.k a.row a.who false) (s.shelfRow a.k a.row).data false := by
  simp only [taggedRow, Bool.and_eq_true, Bool.not_eq_true', beq_iff_eq] at h
  obtain ⟨⟨⟨⟨hrow, hallowed⟩, hfull⟩, hpoison⟩, hecc⟩ := h
  have hkeep : (s.delWaiter a.k a.row a.who false).shelfRow a.k a.row = s.shelfRow a.k a.row := rfl
  simp [State.access, hrow, htag, hkind, hallowed, hfull, State.readRow, hkeep, hpoison, hecc]

/-! #### The rounds of an operation -/

/-- An operation as its unit takes it. -/
def firstOp (n pc : Nat) (tagged : Bool) (j : UnitJob) : UnitOp :=
  { ctx := n, pc := pc, tagged := tagged, job := j, i := 0, held := [], blocked := none }

theorem State.startUnit_eq (s : State) (k u n pc : Nat) (tagged : Bool) (j : UnitJob) :
    s.startUnit k u n pc tagged j = (s.setOp k u (some (firstOp n pc tagged j))).runOp k u j.bound := by
  unfold State.startUnit State.runUnit
  rw [State.op_setOp_same]
  rfl

theorem State.runOp_setOp_go {s t : State} {k u : Nat} {o o' : UnitOp} (h : (s.setOp k u (some o)).unitStep k u o = .go t o') (fuel : Nat) :
    (s.setOp k u (some o)).runOp k u (fuel + 1) = (t.setOp k u (some o')).runOp k u fuel :=
  State.runOp_of_go (State.op_setOp_same ..) h fuel

theorem State.runOp_setOp_fin {s t : State} {k u : Nat} {o : UnitOp} (h : (s.setOp k u (some o)).unitStep k u o = .fin t) (fuel : Nat) :
    (s.setOp k u (some o)).runOp k u (fuel + 1) = t.endOp k u :=
  State.runOp_of_fin (State.op_setOp_same ..) h fuel

theorem State.op_endOp_same (s : State) (k u : Nat) : (s.endOp k u).op k u = none := State.op_setOp_same ..

theorem State.shelf_endOp (s : State) (k : Nat) {u : Nat} (hu : u ≠ 6) : (s.endOp k u).core.shelf = s.core.shelf := by
  rw [State.endOp_of_ne_send _ _ hu]
  rfl

@[simp] theorem State.shelfRow_setOp (s : State) (k u : Nat) (o : Option UnitOp) (j r : Nat) : (s.setOp k u o).shelfRow j r = s.shelfRow j r := rfl
@[simp] theorem State.shelfRow_setCtx (s : State) (k n : Nat) (c : CtxState) (j r : Nat) : (s.setCtx k n c).shelfRow j r = s.shelfRow j r := rfl
@[simp] theorem State.shelfRow_doneSlot (s : State) (k n slot : Nat) (i : Issued) (j r : Nat) :
    (s.doneSlot k n slot i).shelfRow j r = s.shelfRow j r := rfl
@[simp] theorem State.shelfRow_delWaiter (s : State) (k q who : Nat) (fill : Bool) (j r : Nat) :
    (s.delWaiter k q who fill).shelfRow j r = s.shelfRow j r := rfl

theorem State.shelfRow_setShelfRow_ne {r r' : Nat} (h : r ≠ r') (s : State) (k : Nat) (x : ShelfRow) :
    (s.setShelfRow k r x).shelfRow k r' = s.shelfRow k r' := SMap.get_set_ne _ (fun e => h (rowKey_injective k e)) _ _

end Machine
end Sys2Proof
end

section
set_option Elab.async false

/-! ### The operations of slots 0, 1, 3 and 4 -/

namespace Sys2Proof

namespace Machine

/-! #### COPY, COPYK and FILLZ (R174) -/

section
variable {s t : State} {k src dst n : Nat} {kind : TagKind} {d : Row} {p : Bool} {o : UnitOp}

theorem State.unitStep_move {src : Option Nat} (hjob : o.job = .move src dst n kind) :
    s.unitStep k 1 o = s.stepMove k o src dst n kind := by
  unfold State.unitStep
  rw [hjob]

theorem State.unitStep_move_read (hjob : o.job = .move (some src) dst n kind) (hi : o.i < n) (hheld : o.held = [])
    (h : s.access (o.acc k 1 .mov kind (src + o.i)) none = .ok t d p) :
    s.unitStep k 1 o = .go t { o with held := [(d, p)], blocked := none } := by
  rw [State.unitStep_move hjob, State.stepMove, if_neg (not_le.2 hi), hheld]
  dsimp only
  rw [h]
  rfl

theorem State.unitStep_move_write {x : Row × Bool} {rest : List (Row × Bool)} (hjob : o.job = .move (some src) dst n kind) (hi : o.i < n)
    (hheld : o.held = x :: rest) (h : s.access (o.acc k 1 .mov .fill (dst + o.i)) (some x) = .ok t d p) :
    s.unitStep k 1 o = .go t { o with i := o.i + 1, held := [], blocked := none } := by
  rw [State.unitStep_move hjob, State.stepMove, if_neg (not_le.2 hi), hheld]
  dsimp only
  rw [h]
  rfl

theorem State.unitStep_fillz (hjob : o.job = .move none dst n kind) (hi : o.i < n)
    (h : s.access (o.acc k 1 .mov .fill (dst + o.i)) (some (0, false)) = .ok t d p) :
    s.unitStep k 1 o = .go t { o with i := o.i + 1, held := [], blocked := none } := by
  rw [State.unitStep_move hjob, State.stepMove, if_neg (not_le.2 hi)]
  dsimp only
  rw [h]
  rfl

theorem State.unitStep_move_over {src : Option Nat} (hjob : o.job = .move src dst n kind) (hi : n ≤ o.i) : s.unitStep k 1 o = .fin s := by
  rw [State.unitStep_move hjob]
  exact if_pos hi

end

/-- A move of one row, with what its read and its write do. -/
theorem State.move_one {s s₁ s₂ : State} {k n pc src dst : Nat} {tagged : Bool} {kind : TagKind} {d d' : Row} {p p' : Bool} {o : UnitOp}
    (ho : firstOp n pc tagged (.move (some src) dst 1 kind) = o)
    (hread : (s.setOp k 1 (some o)).access (o.acc k 1 .mov kind src) none = .ok s₁ d p)
    (hwrite : (s₁.setOp k 1 (some { o with held := [(d, p)], blocked := none })).access (o.acc k 1 .mov .fill dst) (some (d, p)) = .ok s₂ d' p') :
    ∃ o', s.startUnit k 1 n pc tagged (.move (some src) dst 1 kind) = (s₂.setOp k 1 o').endOp k 1 := by
  subst ho
  rw [State.startUnit_eq]
  exact ⟨_, (State.runOp_setOp_go (State.unitStep_move_read rfl Nat.zero_lt_one rfl hread) 3).trans
    ((State.runOp_setOp_go (State.unitStep_move_write rfl Nat.zero_lt_one rfl hwrite) 2).trans
      (State.runOp_setOp_fin (State.unitStep_move_over rfl le_rfl) 1))⟩

/-- FILLZ of one row, with what its write does. -/
theorem State.fillz_one {s s₁ : State} {k n pc dst : Nat} {tagged : Bool} {kind : TagKind} {d : Row} {p : Bool} {o : UnitOp}
    (ho : firstOp n pc tagged (.move none dst 1 kind) = o)
    (hwrite : (s.setOp k 1 (some o)).access (o.acc k 1 .mov .fill dst) (some (0, false)) = .ok s₁ d p) :
    ∃ o', s.startUnit k 1 n pc tagged (.move none dst 1 kind) = (s₁.setOp k 1 o').endOp k 1 := by
  subst ho
  rw [State.startUnit_eq]
  exact ⟨_, (State.runOp_setOp_go (State.unitStep_fillz rfl Nat.zero_lt_one hwrite) 3).trans
    (State.runOp_setOp_fin (State.unitStep_move_over rfl le_rfl) 2)⟩

/-- What a move has done to a core in state `t`, in terms of state `s`: row `dst` holds the data and a tag, and the unit is free. -/
structure Moved (s : State) (k dst : Nat) (d : Row) (full : Bool) (t : State) : Prop where
  row : t.shelfRow k dst = { data := d, full := full }
  op : t.op k 1 = none
  ground : SameGround s t

theorem Moved.of_written {s u : State} {k dst : Nat} {a : Acc} {d : Row} {full : Bool} {o : Option UnitOp} (hk : a.k = k) (hrow : a.row = dst)
    (hu : SameGround s u) : Moved s k dst d full (((u.writtenRow a d false full).setOp k 1 o).endOp k 1) :=
  ⟨by rw [State.shelfRow_congr (State.shelf_endOp _ _ (by decide)), State.shelfRow_setOp, State.shelfRow_writtenRow_same hk hrow],
    State.op_endOp_same .., hu.writtenRow.setOp.endOp (by decide)⟩

theorem State.shelfRow_written_end {u : State} {k r : Nat} {a : Acc} {d : Row} {full : Bool} {o : Option UnitOp} (hk : a.k = k) (hrow : a.row ≠ r) :
    (((u.writtenRow a d false full).setOp k 1 o).endOp k 1).shelfRow k r = u.shelfRow k r := by
  rw [State.shelfRow_congr (State.shelf_endOp _ _ (by decide)), State.shelfRow_setOp, State.shelfRow_writtenRow_ne hk hrow]

theorem taggedRow_spec {s : State} {k n r : Nat} {cls : Cls} {fill full : Bool} (h : taggedRow s k n r cls fill full = true) :
    s.inRows k n r = true ∧ s.tagAllowed k n cls fill r = true ∧ (s.shelfRow k r).full = full := by
  simp only [taggedRow, Bool.and_eq_true, beq_iff_eq] at h
  obtain ⟨⟨⟨⟨hrow, hallowed⟩, hfull⟩, -⟩, -⟩ := h
  exact ⟨hrow, hallowed, hfull⟩

section
variable {s : State} {k n src dst : Nat} (pc : Nat) (kind : TagKind)

theorem State.move_scheduled (hsrc : plainRow s k n src = true) (hdst : s.inRows k n dst = true) (hspill : s.spillPending k dst = false) :
    Moved s k dst (s.shelfRow k src).data (s.shelfRow k dst).full (s.startUnit k 1 n pc false (.move (some src) dst 1 kind)) := by
  generalize ho : firstOp n pc false (.move (some src) dst 1 kind) = o
  obtain ⟨rfl, htag⟩ : n = o.ctx ∧ o.tagged = false := by subst ho; exact ⟨rfl, rfl⟩
  have hg := (SameGround.refl s).setOp (k := k) (u := 1) (o := some o)
  have hread := State.access_plain_read (a := o.acc k 1 .mov kind src) htag ((hg.plainRow rfl o.ctx).trans hsrc)
  have hg' := (hg.delWaiter (k := k) (r := src) (who := 1) (fill := false)).setOp (k := k) (u := 1)
    (o := some { o with held := [((s.shelfRow k src).data, false)], blocked := none })
  have hwrite := State.access_scheduled_write (a := o.acc k 1 .mov .fill dst) htag ((hg'.inRows k o.ctx dst).trans hdst)
    (.inl ((hg'.spillPending k dst).trans hspill)) (s.shelfRow k src).data false
  obtain ⟨o', h⟩ := State.move_one ho hread hwrite
  rw [h]
  exact .of_written rfl rfl hg'

theorem State.fillz_scheduled (hdst : s.inRows k n dst = true) (hspill : s.spillPending k dst = false) :
    Moved s k dst 0 (s.shelfRow k dst).full (s.startUnit k 1 n pc false (.move none dst 1 kind)) := by
  generalize ho : firstOp n pc false (.move none dst 1 kind) = o
  obtain ⟨rfl, htag⟩ : n = o.ctx ∧ o.tagged = false := by subst ho; exact ⟨rfl, rfl⟩
  have hg := (SameGround.refl s).setOp (k := k) (u := 1) (o := some o)
  have hwrite := State.access_scheduled_write (a := o.acc k 1 .mov .fill dst) htag ((hg.inRows k o.ctx dst).trans hdst)
    (.inl ((hg.spillPending k dst).trans hspill)) 0 false
  obtain ⟨o', h⟩ := State.fillz_one ho hwrite
  rw [h]
  exact .of_written rfl rfl hg

end

theorem State.move_consume {s : State} {k n src dst : Nat} (pc : Nat) (hsrc : taggedRow s k n src .mov false true = true)
    (hdst : taggedRow s k n dst .mov true false = true) :
    let t := s.startUnit k 1 n pc true (.move (some src) dst 1 .consume)
    Moved s k dst (s.shelfRow k src).data true t ∧ t.shelfRow k src = { s.shelfRow k src with full := false } := by
  generalize ho : firstOp n pc true (.move (some src) dst 1 .consume) = o
  obtain ⟨rfl, htag⟩ : n = o.ctx ∧ o.tagged = true := by subst ho; exact ⟨rfl, rfl⟩
  obtain ⟨hrow, hallowed, hempty⟩ := taggedRow_spec hdst
  have hne : src ≠ dst := fun e => by
    subst e
    exact Bool.false_ne_true (hempty.symm.trans (taggedRow_spec hsrc).2.2)
  have hg := (SameGround.refl s).setOp (k := k) (u := 1) (o := some o)
  have hread := State.access_consume (a := o.acc k 1 .mov .consume src) htag rfl ((hg.taggedRow rfl o.ctx .mov false true).trans hsrc)
  have hg' := ((hg.delWaiter (k := k) (r := src) (who := 1) (fill := false)).setShelfRow (k := k) (r := src)
    (x := { s.shelfRow k src with full := false })).setOp (k := k) (u := 1)
    (o := some { o with held := [((s.shelfRow k src).data, false)], blocked := none })
  generalize hu : State.setOp _ k 1 (some { o with held := [((s.shelfRow k src).data, false)], blocked := none }) = u at hg'
  have hother : u.shelfRow k dst = s.shelfRow k dst := by
    rw [← hu, State.shelfRow_setOp, State.shelfRow_setShelfRow_ne hne]
    rfl
  have hsame : u.shelfRow k src = { s.shelfRow k src with full := false } := by
    rw [← hu, State.shelfRow_setOp, State.shelfRow_setShelfRow_same]
  have hwrite := State.access_tagged_fill (s := u) (a := o.acc k 1 .mov .fill dst) htag ((hg'.inRows k o.ctx dst).trans hrow)
    ((hg'.tagAllowed k o.ctx .mov true dst).trans hallowed) ((congrArg ShelfRow.full hother).trans hempty) (s.shelfRow k src).data false
  rw [← hu] at hwrite
  obtain ⟨o', h⟩ := State.move_one ho hread hwrite
  rw [hu] at h
  dsimp only
  rw [h]
  exact ⟨.of_written rfl rfl hg', (State.shelfRow_written_end rfl hne.symm).trans hsame⟩

theorem State.move_peek {s : State} {k n src dst : Nat} (pc : Nat) (hsrc : taggedRow s k n src .mov false true = true)
    (hdst : taggedRow s k n dst .mov true false = true) :
    let t := s.startUnit k 1 n pc true (.move (some src) dst 1 .peek)
    Moved s k dst (s.shelfRow k src).data true t ∧ t.shelfRow k src = { s.shelfRow k src with full := true } := by
  generalize ho : firstOp n pc true (.move (some src) dst 1 .peek) = o
  obtain ⟨rfl, htag⟩ : n = o.ctx ∧ o.tagged = true := by subst ho; exact ⟨rfl, rfl⟩
  obtain ⟨hrow, hallowed, hempty⟩ := taggedRow_spec hdst
  have hfull := (taggedRow_spec hsrc).2.2
  have hne : src ≠ dst := fun e => by
    subst e
    exact Bool.false_ne_true (hempty.symm.trans hfull)
  have hg := (SameGround.refl s).setOp (k := k) (u := 1) (o := some o)
  have hread := State.access_peek (a := o.acc k 1 .mov .peek src) htag rfl ((hg.taggedRow rfl o.ctx .mov false true).trans hsrc)
  have hg' := (hg.delWaiter (k := k) (r := src) (who := 1) (fill := false)).setOp (k := k) (u := 1)
    (o := some { o with held := [((s.shelfRow k src).data, false)], blocked := none })
  have hwrite := State.access_tagged_fill (a := o.acc k 1 .mov .fill dst) htag ((hg'.inRows k o.ctx dst).trans hrow)
    ((hg'.tagAllowed k o.ctx .mov true dst).trans hallowed) hempty (s.shelfRow k src).data false
  obtain ⟨o', h⟩ := State.move_one ho hread hwrite
  dsimp only
  rw [h]
  refine ⟨.of_written rfl rfl hg', (State.shelfRow_written_end rfl hne.symm).trans ?_⟩
  rw [← hfull]
  rfl

end Machine
end Sys2Proof
end

section
set_option Elab.async false

/-! ### DISPATCH, SEND, SENDK and the enqueues -/

namespace Sys2Proof

namespace Machine

/-! #### DISPATCH (R167, R169) -/

section
variable {s t : State} {k g t0 n row : Nat} {istep : Bool} {kind : TagKind} {ts : List DispTmpl} {tm : DispTmpl} {d : Row} {p : Bool} {o : UnitOp}

theorem State.unitStep_dispatch (hjob : o.job = .dispatch g t0 n row istep kind ts) :
    s.unitStep k 0 o = s.stepDispatch k o g t0 n row istep kind ts := by
  unfold State.unitStep
  rw [hjob]

theorem State.unitStep_dispatch_read (hjob : o.job = .dispatch g t0 n row istep kind ts) (hi : o.i < n) (hts : ts[o.i]? = some tm)
    (hheld : o.held = []) (h : s.access (o.acc k 0 .mov kind (if istep then row + o.i else row)) none = .ok t d p) :
    s.unitStep k 0 o = .go t { o with held := [(d, p)], blocked := none } := by
  rw [State.unitStep_dispatch hjob, State.stepDispatch, if_neg (not_le.2 hi), hheld, hts]
  dsimp only
  rw [h]
  rfl

theorem State.unitStep_dispatch_hand {x : Row × Bool} {rest : List (Row × Bool)} (hjob : o.job = .dispatch g t0 n row istep kind ts)
    (hi : o.i < n) (hts : ts[o.i]? = some tm) (hheld : o.held = x :: rest) (hroom : (s.eng k (64 * g + t0 + o.i)).bufs.length < 2) :
    ∃ held, s.unitStep k 0 o = .go (s.handSegment k (64 * g + t0 + o.i) { seg := segmentOf x.1 x.2, ctx := o.ctx, pc := o.pc, tmpl := tm })
      { o with i := o.i + 1, held := held } := by
  rw [State.unitStep_dispatch hjob, State.stepDispatch, if_neg (not_le.2 hi), hheld, hts]
  dsimp only
  rw [if_neg (not_le.2 hroom)]
  exact ⟨_, rfl⟩

theorem State.unitStep_dispatch_over (hjob : o.job = .dispatch g t0 n row istep kind ts) (hi : n ≤ o.i) : s.unitStep k 0 o = .fin s := by
  rw [State.unitStep_dispatch hjob]
  exact if_pos hi

end

theorem State.eng_endOp (s : State) (k : Nat) {u : Nat} (hu : u ≠ 6) (x : Nat) : (s.endOp k u).eng k x = s.eng k x := by
  rw [State.endOp_of_ne_send _ _ hu]
  rfl

/-- A dispatch to one tile, with what the read of its row does. -/
theorem State.dispatch_one {s s₁ : State} {k n pc g t0 row : Nat} {tagged istep : Bool} {kind : TagKind} {tm : DispTmpl} {d : Row} {o : UnitOp}
    (ho : firstOp n pc tagged (.dispatch g t0 1 row istep kind [tm]) = o)
    (hread : (s.setOp k 0 (some o)).access (o.acc k 0 .mov kind row) none = .ok s₁ d false)
    (hroom : (s₁.eng k (64 * g + t0)).bufs.length < 2) :
    ∃ o₁ o₂, s.startUnit k 0 n pc tagged (.dispatch g t0 1 row istep kind [tm]) =
      (((s₁.setOp k 0 o₁).handSegment k (64 * g + t0) { seg := alignSegment d, ctx := n, pc := pc, tmpl := tm }).setOp k 0 o₂).endOp k 0 := by
  subst ho
  have hread' : (s.setOp k 0 (some (firstOp n pc tagged (.dispatch g t0 1 row istep kind [tm])))).access
      ((firstOp n pc tagged (.dispatch g t0 1 row istep kind [tm])).acc k 0 .mov kind (if istep then row + 0 else row)) none = .ok s₁ d false := by
    rwa [Nat.add_zero, ite_self]
  obtain ⟨held, hhand⟩ := State.unitStep_dispatch_hand (s := s₁.setOp k 0 (some _)) (k := k)
    (o := { firstOp n pc tagged (.dispatch g t0 1 row istep kind [tm]) with held := [(d, false)], blocked := none }) rfl Nat.zero_lt_one rfl rfl hroom
  rw [State.startUnit_eq]
  exact ⟨_, _, (State.runOp_setOp_go (State.unitStep_dispatch_read rfl Nat.zero_lt_one rfl rfl hread') 3).trans
    ((State.runOp_setOp_go hhand 2).trans (State.runOp_setOp_fin (State.unitStep_dispatch_over rfl le_rfl) 1))⟩

theorem State.dispatch_scheduled {s : State} {k n g t0 row : Nat} {istep : Bool} {kind : TagKind} {tm : DispTmpl} (pc : Nat)
    (hrow : plainRow s k n row = true) (hroom : (s.eng k (64 * g + t0)).bufs.length < 2) :
    let t := s.startUnit k 0 n pc false (.dispatch g t0 1 row istep kind [tm])
    (t.eng k (64 * g + t0)).bufs = (s.eng k (64 * g + t0)).bufs ++ [{ seg := alignSegment (s.shelfRow k row).data, ctx := n, pc := pc, tmpl := tm }] ∧
    t.op k 0 = none ∧ SameGround s t := by
  generalize ho : firstOp n pc false (.dispatch g t0 1 row istep kind [tm]) = o
  obtain ⟨rfl, htag⟩ : n = o.ctx ∧ o.tagged = false := by subst ho; exact ⟨rfl, rfl⟩
  have hg := (SameGround.refl s).setOp (k := k) (u := 0) (o := some o)
  have hread := State.access_plain_read (a := o.acc k 0 .mov kind row) htag ((hg.plainRow rfl o.ctx).trans hrow)
  obtain ⟨o₁, o₂, h⟩ := State.dispatch_one ho hread hroom
  dsimp only
  rw [h]
  refine ⟨?_, State.op_endOp_same .., (hg.delWaiter.setOp.setEng).setOp.endOp (by decide)⟩
  rw [State.eng_endOp _ _ (by decide)]
  exact congrArg TileEng.bufs (State.eng_setEng_same ..)

/-! #### SEND and SENDK (R179) -/

/-- The row that a core sends: data `d` of context `n` to row `drow` of core `dest` by sending-table entry `ste`. -/
def sendRow (part k n : Nat) (d : Row) (p : Bool) (dest : Nat) (red : Bool) (ste drow : Nat) : MeshRow where
  data := d
  poison := p
  dnode := dest
  snode := k
  part := part
  vc := 0
  reduce := red
  ste := ste
  drow := drow
  wt := 1
  srcs := [ctxKey k n]

section
variable {s t : State} {k dest ste drow src n : Nat} {red : Bool} {kind : TagKind} {d : Row} {p : Bool} {o : UnitOp}

theorem State.unitStep_send (hjob : o.job = .send dest red ste drow src n kind) :
    s.unitStep k 6 o = s.stepSend k o dest red ste drow src n kind := by
  unfold State.unitStep
  rw [hjob]

theorem State.unitStep_send_row (hjob : o.job = .send dest red ste drow src n kind) (hi : o.i < n) (hroom : (s.inputQ k 4 0).length < 8)
    (h : s.access (o.acc k 6 .msh kind (src + o.i)) none = .ok t d p) :
    s.unitStep k 6 o = .go ((t.pushInput k 4 0 (sendRow (t.ctxPart k o.ctx) k o.ctx d p dest red ste (drow + o.i))).sentRow (ctxKey k o.ctx))
      { o with i := o.i + 1, blocked := none } := by
  rw [State.unitStep_send hjob, State.stepSend, if_neg (not_le.2 hi), if_neg (not_le.2 hroom), h]
  rfl

theorem State.unitStep_send_over (hjob : o.job = .send dest red ste drow src n kind) (hi : n ≤ o.i) : s.unitStep k 6 o = .fin s := by
  rw [State.unitStep_send hjob]
  exact if_pos hi

end

/-- A send of one row, with what its read does. -/
theorem State.send_one {s s₁ : State} {k n pc dest ste drow src : Nat} {tagged red : Bool} {kind : TagKind} {d : Row} {o : UnitOp}
    (ho : firstOp n pc tagged (.send dest red ste drow src 1 kind) = o) (hroom : (s.inputQ k 4 0).length < 8)
    (hread : (s.setOp k 6 (some o)).access (o.acc k 6 .msh kind src) none = .ok s₁ d false) :
    s.startUnit k 6 n pc tagged (.send dest red ste drow src 1 kind) =
      (((s₁.pushInput k 4 0 (sendRow (s₁.ctxPart k n) k n d false dest red ste drow)).sentRow (ctxKey k n)).setOp k 6
        (some { o with i := 1, blocked := none })).endOp k 6 := by
  subst ho
  rw [State.startUnit_eq]
  exact (State.runOp_setOp_go (State.unitStep_send_row rfl Nat.zero_lt_one hroom hread) 2).trans
    (State.runOp_setOp_fin (State.unitStep_send_over rfl le_rfl) 1)

theorem State.inputQ_pushInput_same (s : State) (r i vc : Nat) (x : MeshRow) :
    (s.pushInput r i vc x).inputQ r i vc = s.inputQ r i vc ++ [{ x with age := s.mesh.arrivals }] := SMap.get_set_same ..

/-- A send that has sent all its rows takes none of them back when it ends (R220). -/
theorem State.endOp_of_sent {v : State} {k dest ste drow src n : Nat} {red : Bool} {kind : TagKind} {o : UnitOp}
    (hjob : o.job = .send dest red ste drow src n kind) (hi : o.i = n) :
    let t := (v.setOp k 6 (some o)).endOp k 6
    t.mesh = v.mesh ∧ t.regs = v.regs ∧ t.core.shelf = v.core.shelf ∧ t.op k 6 = none ∧ t.ctx k o.ctx = v.ctx k o.ctx := by
  have hsent : (v.setOp k 6 (some o)).unsend k = (v.setOp k 6 (some o)).setCtx k o.ctx (v.ctx k o.ctx) := by
    unfold State.unsend
    rw [State.op_setOp_same]
    dsimp only
    rw [hjob]
    dsimp only
    rw [hi, Nat.sub_self]
    rfl
  dsimp only
  rw [State.endOp, if_pos rfl, hsent]
  exact ⟨rfl, rfl, rfl, State.op_setOp_same .., State.ctx_setCtx_same ..⟩

theorem State.inputQ_congr {s t : State} (h : s.mesh = t.mesh) (r i vc : Nat) : s.inputQ r i vc = t.inputQ r i vc := by
  rw [State.inputQ, h]
  rfl

theorem State.ctx_congr {s t : State} (h : s.core = t.core) (k n : Nat) : s.ctx k n = t.ctx k n := by
  rw [State.ctx, h]
  rfl

section
variable {s : State} {k n dest ste drow src : Nat} {red : Bool} (pc : Nat)

/-- A read row goes to the router; what the read did to the rows stays. -/
theorem State.send_effect {s₁ : State} {kind : TagKind} {d : Row} {o : UnitOp} (ho : firstOp n pc true (.send dest red ste drow src 1 kind) = o)
    (hroom : (s.inputQ k 4 0).length < 8) (hread : (s.setOp k 6 (some o)).access (o.acc k 6 .msh kind src) none = .ok s₁ d false)
    (hg : SameGround s s₁) (hctx : s₁.ctx k n = s.ctx k n) :
    let t := s.startUnit k 6 n pc true (.send dest red ste drow src 1 kind)
    t.inputQ k 4 0 = s.inputQ k 4 0 ++ [{ sendRow (s.ctxPart k n) k n d false dest red ste drow with age := s.mesh.arrivals }] ∧
    t.ctx k n = s.ctx k n ∧ t.op k 6 = none ∧ t.regs = s.regs ∧ ∀ r, t.shelfRow k r = s₁.shelfRow k r := by
  obtain ⟨rfl, hjob⟩ : n = o.ctx ∧ o.job = .send dest red ste drow src 1 kind := by subst ho; exact ⟨rfl, rfl⟩
  dsimp only
  rw [State.send_one ho hroom hread]
  generalize hv : (s₁.pushInput k 4 0 (sendRow (s₁.ctxPart k o.ctx) k o.ctx d false dest red ste drow)).sentRow (ctxKey k o.ctx) = v
  obtain ⟨hmesh, hregs, hshelf, hop, hend⟩ := State.endOp_of_sent (k := k) (v := v) (o := { o with i := 1, blocked := none }) hjob rfl
  have hin : v.inputQ k 4 0 = s₁.inputQ k 4 0 ++ [{ sendRow (s₁.ctxPart k o.ctx) k o.ctx d false dest red ste drow with age := s₁.mesh.arrivals }] :=
    hv ▸ State.inputQ_pushInput_same ..
  have hrest : v.regs = s₁.regs ∧ v.core = s₁.core := by subst hv; exact ⟨rfl, rfl⟩
  refine ⟨?_, hend.trans ((State.ctx_congr hrest.2 ..).trans hctx), hop,
    hregs.trans (hrest.1.trans hg.regs), fun r => State.shelfRow_congr (hshelf.trans (congrArg CoreBlk.shelf hrest.2)) k r⟩
  rw [State.inputQ_congr hmesh, hin, State.inputQ_congr hg.mesh, hg.mesh, State.ctxPart, State.fld_congr hg.regs]
  rfl

theorem State.send_consume (hrow : taggedRow s k n src .msh false true = true) (hroom : (s.inputQ k 4 0).length < 8) :
    let t := s.startUnit k 6 n pc true (.send dest red ste drow src 1 .consume)
    t.inputQ k 4 0 = s.inputQ k 4 0 ++ [{ sendRow (s.ctxPart k n) k n (s.shelfRow k src).data false dest red ste drow with age := s.mesh.arrivals }] ∧
    t.ctx k n = s.ctx k n ∧ t.op k 6 = none ∧ t.regs = s.regs ∧ (t.shelfRow k src).full = false := by
  generalize ho : firstOp n pc true (.send dest red ste drow src 1 .consume) = o
  obtain ⟨rfl, htag⟩ : n = o.ctx ∧ o.tagged = true := by subst ho; exact ⟨rfl, rfl⟩
  have hg := (SameGround.refl s).setOp (k := k) (u := 6) (o := some o)
  have hread := State.access_consume (a := o.acc k 6 .msh .consume src) htag rfl ((hg.taggedRow rfl o.ctx .msh false true).trans hrow)
  obtain ⟨hin, hctx, hop, hregs, hrows⟩ := State.send_effect pc ho hroom hread hg.delWaiter.setShelfRow rfl
  exact ⟨hin, hctx, hop, hregs, congrArg ShelfRow.full ((hrows src).trans (State.shelfRow_setShelfRow_same ..))⟩

theorem State.send_peek (hrow : taggedRow s k n src .msh false true = true) (hroom : (s.inputQ k 4 0).length < 8) :
    let t := s.startUnit k 6 n pc true (.send dest red ste drow src 1 .peek)
    t.inputQ k 4 0 = s.inputQ k 4 0 ++ [{ sendRow (s.ctxPart k n) k n (s.shelfRow k src).data false dest red ste drow with age := s.mesh.arrivals }] ∧
    t.ctx k n = s.ctx k n ∧ t.op k 6 = none ∧ t.regs = s.regs ∧ (t.shelfRow k src).full = true := by
  generalize ho : firstOp n pc true (.send dest red ste drow src 1 .peek) = o
  obtain ⟨rfl, htag⟩ : n = o.ctx ∧ o.tagged = true := by subst ho; exact ⟨rfl, rfl⟩
  have hg := (SameGround.refl s).setOp (k := k) (u := 6) (o := some o)
  have hread := State.access_peek (a := o.acc k 6 .msh .peek src) htag rfl ((hg.taggedRow rfl o.ctx .msh false true).trans hrow)
  obtain ⟨hin, hctx, hop, hregs, hrows⟩ := State.send_effect pc ho hroom hread hg.delWaiter rfl
  exact ⟨hin, hctx, hop, hregs, (congrArg ShelfRow.full (hrows src)).trans (taggedRow_spec hrow).2.2⟩

end

/-! #### ENQ_T and ENQ_S (R134, R182) -/

/-- The registers and the stale handles decide the checks of a descriptor. -/
theorem State.descCheck_congr {s t : State} (hregs : s.regs = t.regs) (hhbm : s.hbm = t.hbm) (k n q src w hoff : Nat) :
    s.descCheck k n q src w hoff = t.descCheck k n q src w hoff := by
  cases s
  cases t
  dsimp only at hregs hhbm
  subst hregs hhbm
  rfl

theorem none_of_check_passed {α : Type} {c : Prop} [Decidable c] {x : α} {rest : Option α} (h : (if c then some x else rest) = none) :
    rest = none := by
  split_ifs at h
  exact h

/-- A descriptor that passes every check names a counter that can count it. -/
theorem State.descCheck_none {s : State} {k n q src w hoff : Nat} (h : s.descCheck k n q src w hoff = none) :
    s.cenq k (dfield w 2 2) ≠ 0xFFFFFFFF := fun hfull => by
  unfold State.descCheck at h
  dsimp only at h
  iterate 12 replace h := none_of_check_passed h
  rw [if_pos hfull] at h
  exact Option.some_ne_none _ h

theorem State.enqueue_of_checked {s : State} {k n q src w hoff : Nat} (h : s.descCheck k n q src w hoff = none) (pc : Nat) (tagged : Bool) :
    ∃ d : QDesc, s.enqueue k n q src w hoff pc tagged =
        (s.setQueue k q (s.queue k q ++ [d])).wr (Reg.QUE_CENQ k (dfield w 2 2)) (s.cenq k (dfield w 2 2) + 1) ∧
      (d.ctr, d.rows, d.hoff, d.ctx) = (dfield w 2 2, dfield w 8 2, hoff, n) := by
  unfold State.enqueue
  rw [h]
  exact ⟨_, rfl, rfl⟩

theorem State.queue_endOp (s : State) (k : Nat) {u : Nat} (hu : u ≠ 6) (j q : Nat) : (s.endOp k u).queue j q = s.queue j q := by
  rw [State.endOp_of_ne_send _ _ hu]
  rfl

theorem State.regs_endOp (s : State) (k : Nat) {u : Nat} (hu : u ≠ 6) : (s.endOp k u).regs = s.regs := by
  rw [State.endOp_of_ne_send _ _ hu]
  rfl

theorem State.queue_wr (s : State) (a v k q : Nat) : (s.wr a v).queue k q = s.queue k q := rfl

/-- Descriptor `w` of context `n` has come to the end of queue `q` between states `s` and `t`, counted in ENQ, and the unit is free. -/
structure Enqueued (s : State) (k n q w : Nat) (t : State) : Prop where
  before : (t.queue k q).take (s.queue k q).length = s.queue k q
  new : ((t.queue k q).drop (s.queue k q).length).map (fun d => (d.ctr, d.rows, d.hoff, d.ctx)) =
    [(dfield w 2 2, dfield w 8 2, dfield w 16 5, n)]
  counted : t.cenq k (dfield w 2 2) = s.cenq k (dfield w 2 2) + 1
  op : t.op k (8 + n) = none

theorem State.unitStep_enqWait {s : State} {k u n q src w hoff : Nat} {o : UnitOp} (hjob : o.job = .enqWait q src [w, hoff]) (hn : o.ctx = n)
    (hroom : (s.queue k q).length < 256) : s.unitStep k u o = .fin (s.enqueue k n q src w hoff o.pc o.tagged) := by
  unfold State.unitStep
  rw [hjob, ← hn]
  exact if_neg (not_le.2 hroom)

theorem State.unitStep_enqRow {s t : State} {k u q row slot : Nat} {kind : TagKind} {d : Row} {o : UnitOp} (hjob : o.job = .enqRow q row slot kind)
    (h : s.access (o.acc k u .mov kind row) none = .ok t d false) : s.unitStep k u o =
      .go t { o with job := .enqWait q (0x80000000 + row * 32 + slot) [descSlot d slot, dfield (descSlot d slot) 16 5], blocked := none } := by
  unfold State.unitStep
  rw [hjob]
  dsimp only
  rw [State.stepEnqRow, h]
  rfl

/-- A unit that holds a checked descriptor, with room in the queue, enqueues it. -/
theorem Enqueued.of_wait {s u : State} {k n q src w : Nat} {o : UnitOp} (hjob : o.job = .enqWait q src [w, dfield w 16 5]) (hn : o.ctx = n)
    (hregs : u.regs = s.regs) (hhbm : u.hbm = s.hbm) (hqueues : u.core.queues = s.core.queues) (hroom : (s.queue k q).length < 256)
    (hcheck : s.descCheck k n q src w (dfield w 16 5) = none) (fuel : Nat) :
    Enqueued s k n q w ((u.setOp k (8 + n) (some o)).runOp k (8 + n) (fuel + 1)) := by
  have hqueue : (u.setOp k (8 + n) (some o)).queue k q = s.queue k q := State.queue_congr hqueues k q
  have hcheck' : (u.setOp k (8 + n) (some o)).descCheck k n q src w (dfield w 16 5) = none := (State.descCheck_congr hregs hhbm ..).trans hcheck
  have hcenq : (u.setOp k (8 + n) (some o)).cenq k (dfield w 2 2) = s.cenq k (dfield w 2 2) := State.rd_congr hregs _
  obtain ⟨d, henq, hd⟩ := State.enqueue_of_checked hcheck' o.pc o.tagged
  have hfin := State.unitStep_enqWait (u := 8 + n) hjob hn (by rw [hqueue]; exact hroom)
  have hlt : s.cenq k (dfield w 2 2) + 1 < 2 ^ 32 := by
    have h1 := s.rd_lt (Reg.QUE_CENQ k (dfield w 2 2))
    have h2 := State.descCheck_none hcheck
    unfold State.cenq at h2 ⊢
    omega
  rw [State.runOp_setOp_fin hfin, henq, hqueue, hcenq]
  generalize hv : (State.setQueue _ k q (s.queue k q ++ [d])).wr (Reg.QUE_CENQ k (dfield w 2 2)) (s.cenq k (dfield w 2 2) + 1) = v
  have hq : (v.endOp k (8 + n)).queue k q = s.queue k q ++ [d] := by
    rw [State.queue_endOp _ _ (by omega), ← hv, State.queue_wr, State.queue_setQueue_same]
  have hc : (v.endOp k (8 + n)).cenq k (dfield w 2 2) = s.cenq k (dfield w 2 2) + 1 := by
    rw [State.cenq, State.rd_congr (State.regs_endOp _ _ (by omega)), ← hv, State.rd_wr_same _ _ _ hlt]
  refine ⟨?_, ?_, hc, State.op_endOp_same ..⟩
  · rw [hq, List.take_left]
  · rw [hq, List.drop_left]
    exact congrArg (fun x => [x]) hd

theorem State.enqT_effect {s : State} {k n q src w : Nat} (pc : Nat) (tagged : Bool) (hroom : (s.queue k q).length < 256)
    (hcheck : s.descCheck k n q src w (dfield w 16 5) = none) :
    Enqueued s k n q w (s.startUnit k (8 + n) n pc tagged (.enqWait q src [w, dfield w 16 5])) := by
  rw [State.startUnit_eq]
  exact Enqueued.of_wait (o := firstOp n pc tagged (.enqWait q src [w, dfield w 16 5])) rfl rfl rfl rfl rfl hroom hcheck 3

theorem State.enqS_scheduled {s : State} {k n q row slot : Nat} {kind : TagKind} (pc : Nat) (hrow : plainRow s k n row = true)
    (hroom : (s.queue k q).length < 256)
    (hcheck : s.descCheck k n q (0x80000000 + row * 32 + slot) (descSlot (s.shelfRow k row).data slot)
      (dfield (descSlot (s.shelfRow k row).data slot) 16 5) = none) :
    Enqueued s k n q (descSlot (s.shelfRow k row).data slot) (s.startUnit k (8 + n) n pc false (.enqRow q row slot kind)) := by
  rw [State.startUnit_eq]
  generalize ho : firstOp n pc false (.enqRow q row slot kind) = o
  obtain ⟨rfl, htag, hjob⟩ : n = o.ctx ∧ o.tagged = false ∧ o.job = .enqRow q row slot kind := by subst ho; exact ⟨rfl, rfl, rfl⟩
  have hg := (SameGround.refl s).setOp (k := k) (u := 8 + o.ctx) (o := some o)
  have hread := State.access_plain_read (a := o.acc k (8 + o.ctx) .mov kind row) htag ((hg.plainRow rfl o.ctx).trans hrow)
  have hgo := State.runOp_setOp_go (State.unitStep_enqRow hjob hread) 3
  rw [UnitJob.bound, hgo]
  refine Enqueued.of_wait ?_ ?_ ?_ ?_ ?_ hroom hcheck 2 <;> rfl

end Machine
end Sys2Proof
end

section
set_option Elab.async false

/-! ### A bundle of NOPs, and the commands of slots 0, 1, 3 and 4 -/

namespace Sys2Proof

namespace Machine

/-! #### A bundle that passes every check (R164, R165) -/

theorem of_maskOf_succ_eq_zero {n : Nat} {p : Nat → Bool} (h : maskOf (n + 1) p = 0) : p n = false := by
  rw [maskOf, List.range_succ, List.foldl_append, List.foldl_cons, List.foldl_nil] at h
  cases hp : p n with
  | false => rfl
  | true =>
    rw [hp, if_pos rfl] at h
    exact absurd h (Nat.ne_of_gt (Nat.add_pos_right _ (Nat.two_pow_pos n)))

/-- A bundle of NOPs holds no wait. -/
theorem hasWait_of_slotsOf {b : Nat} (h : slotsOf b = 0) : hasWait b = false := by
  have h5 : slotOp b 5 = 0 := by simpa using of_maskOf_succ_eq_zero h
  rw [hasWait, h5]
  rfl

section
variable {s : State} {k n b : Nat}

theorem fetchesOk_spec (h : fetchesOk s k n b = true) : s.ctxRun k n = 1 ∧ (s.ctx k n).cur = none ∧
    ((s.ctx k n).wait = .none ∨ (s.ctx k n).wait = .counter) ∧ s.pcOf k n < s.pcount k n ∧ b = (afterFetch s k n).bundleNat k n (s.pcOf k n) ∧
    (∀ i ∈ List.range 4, (afterFetch s k n).pmWord k (s.fld (Reg.CORE_CTXPROG k n) Fld.CORE_CTXPROG_PBASE + s.pcOf k n) i ≠ 2) ∧
    bits b 255 1 = b2n ((afterFetch s k n).tagged k n) ∧
    (decodeCheck b).or ((afterFetch s k n).operandCheck k n b (s.ctx k n).a) = none ∧
    (List.range 5).all (fun j => slotOp b j == 0 || (afterFetch s k n).unitFree k n j) = true := by
  simp only [fetchesOk, Bool.and_eq_true, Option.isNone_iff_eq_none, beq_iff_eq, Bool.or_eq_true, decide_eq_true_eq] at h
  obtain ⟨⟨⟨⟨⟨⟨⟨⟨hrun, hcur⟩, hwait⟩, hpc⟩, hb⟩, hgood⟩, hmode⟩, hcheck⟩, hfree⟩ := h
  exact ⟨hrun, hcur, hwait, hpc, hb, fun i hi => by simpa using List.all_eq_true.1 hgood i hi, hmode, hcheck, hfree⟩

/-- The fetch of a bundle without a wait that passes every check issues it. -/
theorem State.tryIssue_of_passes (h : fetchesOk s k n b = true) (hwaits : hasWait b = false) :
    s.tryIssue k n = (afterFetch s k n).issueBundle k n (s.pcOf k n) b := by
  obtain ⟨hrun, hcur, hwait, hpc, hb, hgood, hmode, hcheck, -⟩ := fetchesOk_spec h
  have hidle : ¬(s.ctxRun k n ≠ 1 ∨ (s.ctx k n).cur.isSome = true ∨ ((s.ctx k n).wait ≠ .none ∧ (s.ctx k n).wait ≠ .counter)) := by
    rw [hrun, hcur]
    rintro (h | h | ⟨h, h'⟩)
    · exact h rfl
    · exact Bool.false_ne_true h
    · exact hwait.elim h h'
  have hfound : (List.range 4).find? (fun i => (afterFetch s k n).pmWord k
      (s.fld (Reg.CORE_CTXPROG k n) Fld.CORE_CTXPROG_PBASE + s.pcOf k n) i == 2) = none :=
    List.find?_eq_none.2 fun i hi => by simpa using hgood i hi
  unfold afterFetch at hb hfound hmode hcheck ⊢
  unfold State.tryIssue
  rw [if_neg hidle]
  dsimp only
  rw [if_neg (not_le.2 hpc), hfound, ← hb]
  dsimp only
  rw [if_neg (not_not.2 hmode), hcheck]
  dsimp only
  rw [hwaits]
  exact if_pos rfl

/-- A bundle of NOPs that finds the units free moves the pc on (R162). -/
theorem State.issueBundle_of_nops {u : State} (hslots : slotsOf b = 0)
    (hfree : (List.range 5).all (fun j => slotOp b j == 0 || u.unitFree k n j) = true) (pc : Nat) :
    u.issueBundle k n pc b = (u.setCtx k n { u.ctx k n with wait := .none, cur := none }).setPc k n (pc + 1) := by
  rw [State.issueBundle]
  dsimp only
  rw [hfree, if_neg (by decide), hslots]
  rfl

theorem State.ctx_setPc (s : State) (k n v j m : Nat) : (s.setPc k n v).ctx j m = s.ctx j m := State.ctx_congr (State.setF_core ..) j m

theorem State.nopCmd_of_nops (h : fetchesOk s k n b = true) (hslots : slotsOf b = 0) : s.nopCmd k n =
    ((afterFetch s k n).setCtx k n { (afterFetch s k n).ctx k n with wait := .none, cur := none }).setPc k n (s.pcOf k n + 1) := by
  obtain ⟨-, hcur, -, -, -, -, -, -, hfree⟩ := fetchesOk_spec h
  have hissue := (State.tryIssue_of_passes h (hasWait_of_slotsOf hslots)).trans (State.issueBundle_of_nops hslots hfree _)
  rw [State.nopCmd_of_faulted hcur, hissue]
  rw [hissue, State.ctx_setPc, State.ctx_setCtx_same]

/-- A bundle of NOPs moves the pc on, and leaves the mesh and the log alone. -/
theorem State.nopCmd_effect (h : fetchesOk s k n b = true) (hslots : slotsOf b = 0) : (s.nopCmd k n).pcOf k n = s.pcOf k n + 1 ∧
    ((s.nopCmd k n).ctx k n).cur = none ∧ ((s.nopCmd k n).ctx k n).wait = .none ∧ (s.nopCmd k n).mesh = s.mesh ∧ (s.nopCmd k n).log = s.log := by
  obtain ⟨-, -, -, hpc, -⟩ := fetchesOk_spec h
  have hsmall : s.pcOf k n + 1 < 2 ^ 16 := lt_of_le_of_lt hpc (bits_lt _ 16 16)
  have hmesh : (afterFetch s k n).mesh = s.mesh := State.inc_mesh ..
  have hlog : (afterFetch s k n).log = s.log := State.inc_log ..
  rw [State.nopCmd_of_nops h hslots, ← hmesh, ← hlog]
  generalize afterFetch s k n = r
  rw [State.ctx_setPc, State.ctx_setCtx_same]
  exact ⟨(State.fld_setF_same _ _ _ _ (by decide)).trans (Nat.mod_eq_of_lt hsmall), rfl, rfl, State.setF_mesh .., State.setF_log ..⟩

end

/-! #### The commands of issued bundles -/

section
variable {s t : State} {k n : Nat} {i : Issued}

/-- What a move does to the state with its slot done it does to the state before. -/
theorem Moved.of_doneSlot {slot dst : Nat} {d : Row} {full : Bool} (h : Moved (s.doneSlot k n slot i) k dst d full t) : Moved s k dst d full t :=
  ⟨h.row, h.op, (SameGround.refl s).doneSlot.trans h.ground⟩

theorem State.cmdDispatch_of_issued (h : issuedAt s k n 0 1 i = true) (hc : bits i.bundle 23 7 = 1) :
    s.cmdDispatch k n = (s.doneSlot k n 0 i).startUnit k 0 n (i.next - 1) (bitAt i.bundle 255)
      (.dispatch (bits i.bundle 36 4) (bits i.bundle 30 6) 1 (i.row 9 1) (bitAt i.bundle 22) (accKind (bitAt i.bundle 21))
        [s.dispTmpl k (bits i.bundle 13 8)]) := by
  rw [State.cmdDispatch, State.slotCmd_of_issued h]
  dsimp only
  rw [hc]
  rfl

theorem State.cmdMove_of_issued {op : Nat} (h : issuedAt s k n 1 op i = true) (hop : op ≠ 3) (hc : bits i.bundle 44 4 = 1) :
    s.cmdMove k n op = (s.doneSlot k n 1 i).startUnit k 1 n (i.next - 1) (bitAt i.bundle 255)
      (.move (some (i.row 68 60)) (i.row 56 48) 1 (accKind (op == 1))) := by
  rw [State.cmdMove, State.slotCmd_of_issued h, if_neg hop, hc]
  rfl

theorem State.cmdFillz_of_issued (h : issuedAt s k n 1 3 i = true) (hc : bits i.bundle 44 4 = 1) :
    s.cmdMove k n 3 = (s.doneSlot k n 1 i).startUnit k 1 n (i.next - 1) (bitAt i.bundle 255) (.move none (i.row 56 48) 1 .peek) := by
  rw [State.cmdMove, State.slotCmd_of_issued h, if_pos rfl, hc]
  rfl

theorem State.cmdSend_of_issued {op : Nat} (h : issuedAt s k n 3 op i = true) (hc : bits i.bundle 136 4 = 1) :
    let e := bits i.bundle 160 8
    let w := s.rd (Reg.CORE_SENT k (2 * e))
    let u := s.doneSlot k n 3 i
    s.cmdSend k n op = (u.setCtx k n { u.ctx k n with sent := (u.ctx k n).sent + 1 }).startUnit k 6 n (i.next - 1) (bitAt i.bundle 255)
      (.send (bits w 0 5) (bitAt w 8) e (bits w 16 16 + bits i.bundle 140 8) (i.row 156 148) 1 (accKind (op == 1))) := by
  dsimp only
  rw [State.cmdSend, State.slotCmd_of_issued h]
  dsimp only
  rw [hc]
  rfl

theorem State.cmdEnqT_of_issued (h : issuedAt s k n 4 1 i = true) (hx : bitAt i.bundle 185 = false) :
    let w := s.descEntry k (bits i.bundle 186 10)
    s.cmdEnqT k n = (s.doneSlot k n 4 i).startUnit k (8 + n) n (i.next - 1) (bitAt i.bundle 255)
      (.enqWait (bits i.bundle 196 4) (bits i.bundle 186 10) [w, dfield w 16 5]) := by
  dsimp only
  rw [State.cmdEnqT, State.slotCmd_of_issued h]
  dsimp only
  rw [hx]
  rfl

theorem State.cmdEnqS_of_issued (h : issuedAt s k n 4 2 i = true) :
    s.cmdEnqS k n = (s.doneSlot k n 4 i).startUnit k (8 + n) n (i.next - 1) (bitAt i.bundle 255)
      (.enqRow (bits i.bundle 196 4) (i.row 192 184) (bits i.bundle 179 5) (accKind (bitAt i.bundle 178))) := State.slotCmd_of_issued h _

/-- A move of one row in scheduled mode (R174, R123). -/
theorem State.cmdMove_scheduled {op : Nat} (h : issuedAt s k n 1 op i = true) (hop : op ≠ 3) (hc : bits i.bundle 44 4 = 1)
    (htag : bitAt i.bundle 255 = false) (hsrc : plainRow s k n (i.row 68 60) = true) (hdst : s.inRows k n (i.row 56 48) = true)
    (hspill : s.spillPending k (i.row 56 48) = false) :
    Moved s k (i.row 56 48) (s.shelfRow k (i.row 68 60)).data (s.shelfRow k (i.row 56 48)).full (s.cmdMove k n op) := by
  have hg := (SameGround.refl s).doneSlot (k := k) (n := n) (slot := 1) (i := i)
  rw [State.cmdMove_of_issued h hop hc, htag]
  exact (State.move_scheduled _ _ ((hg.plainRow (State.shelfRow_doneSlot ..) n).trans hsrc) ((hg.inRows k n _).trans hdst)
    ((hg.spillPending k _).trans hspill)).of_doneSlot

theorem State.cmdFillz_scheduled (h : issuedAt s k n 1 3 i = true) (hc : bits i.bundle 44 4 = 1) (htag : bitAt i.bundle 255 = false)
    (hdst : s.inRows k n (i.row 56 48) = true) (hspill : s.spillPending k (i.row 56 48) = false) :
    Moved s k (i.row 56 48) 0 (s.shelfRow k (i.row 56 48)).full (s.cmdMove k n 3) := by
  have hg := (SameGround.refl s).doneSlot (k := k) (n := n) (slot := 1) (i := i)
  rw [State.cmdFillz_of_issued h hc, htag]
  exact (State.fillz_scheduled _ _ ((hg.inRows k n _).trans hdst) ((hg.spillPending k _).trans hspill)).of_doneSlot

theorem State.sent_doneSlot (s : State) (k n slot : Nat) (i : Issued) : ((s.doneSlot k n slot i).ctx k n).sent = (s.ctx k n).sent := by
  rw [State.doneSlot, State.ctx_setCtx_same]

/-- What an enqueue does to the state with its slot done it does to the state before. -/
theorem Enqueued.of_doneSlot {slot q w : Nat} (h : Enqueued (s.doneSlot k n slot i) k n q w t) : Enqueued s k n q w t :=
  ⟨h.before, h.new, h.counted, h.op⟩

end

end Machine

open Machine

/-- Settles O4: each command is what its unit does with the operation in the state with its slot done; a bundle of NOPs only issues. -/
theorem slotCommandsComplete : Obligations.SlotCommandsComplete := by
  refine ⟨?_, ?_, ?_, ?_, ?_, ?_, ?_, ?_, ?_, ?_, ?_, ?_⟩
  · intro s k n b h hslots
    exact ⟨_, rfl, State.nopCmd_effect h hslots⟩
  · intro s k n i h hc htag hrow hroom
    have hcmd := State.cmdDispatch_of_issued h hc
    rw [htag] at hcmd
    have hg := (SameGround.refl s).doneSlot (k := k) (n := n) (slot := 0) (i := i)
    obtain ⟨hbufs, hop, hground⟩ := State.dispatch_scheduled (istep := bitAt i.bundle 22) (kind := accKind (bitAt i.bundle 21))
      (tm := s.dispTmpl k (bits i.bundle 13 8)) (i.next - 1) ((hg.plainRow (State.shelfRow_doneSlot ..) n).trans hrow) hroom
    exact ⟨_, congrArg Host.Outcome.next hcmd, hbufs, hop, (hg.trans hground).regsExcept, (hg.trans hground).mesh⟩
  · intro s k n i h hc htag hsrc hdst
    have hcmd := State.cmdMove_of_issued h (by decide) hc
    rw [htag] at hcmd
    have hg := (SameGround.refl s).doneSlot (k := k) (n := n) (slot := 1) (i := i)
    obtain ⟨hmoved, hrow⟩ := State.move_consume (i.next - 1) ((hg.taggedRow (State.shelfRow_doneSlot ..) n _ _ _).trans hsrc)
      ((hg.taggedRow (State.shelfRow_doneSlot ..) n _ _ _).trans hdst)
    have hm := hmoved.of_doneSlot
    exact ⟨_, congrArg Host.Outcome.next hcmd, hm.row, hrow, hm.op, hm.ground.regsExcept, hm.ground.mesh⟩
  · intro s k n i h hc htag hsrc hdst hspill
    have hm := State.cmdMove_scheduled h (by decide) hc htag hsrc hdst hspill
    exact ⟨_, rfl, hm.row, hm.op, hm.ground.regsExcept, hm.ground.mesh⟩
  · intro s k n i h hc htag hsrc hdst
    have hcmd := State.cmdMove_of_issued h (by decide) hc
    rw [htag] at hcmd
    have hg := (SameGround.refl s).doneSlot (k := k) (n := n) (slot := 1) (i := i)
    obtain ⟨hmoved, hrow⟩ := State.move_peek (i.next - 1) ((hg.taggedRow (State.shelfRow_doneSlot ..) n _ _ _).trans hsrc)
      ((hg.taggedRow (State.shelfRow_doneSlot ..) n _ _ _).trans hdst)
    have hm := hmoved.of_doneSlot
    exact ⟨_, congrArg Host.Outcome.next hcmd, hm.row, hrow, hm.op, hm.ground.regsExcept, hm.ground.mesh⟩
  · intro s k n i h hc htag hsrc hdst hspill
    have hm := State.cmdMove_scheduled h (by decide) hc htag hsrc hdst hspill
    exact ⟨_, rfl, hm.row, hm.op, hm.ground.regsExcept, hm.ground.mesh⟩
  · intro s k n i h hc htag hdst hspill
    have hm := State.cmdFillz_scheduled h hc htag hdst hspill
    exact ⟨_, rfl, hm.row, hm.op, hm.ground.regsExcept, hm.ground.mesh⟩
  · intro s k n i h hc htag hrow hroom
    have hcmd := State.cmdSend_of_issued h hc
    rw [htag] at hcmd
    obtain ⟨hin, hctx, hop, hregs, hfull⟩ := State.send_consume (i.next - 1) (((SameGround.refl s).doneSlot.setCtx.taggedRow rfl n _ _ _).trans hrow) hroom
    exact ⟨_, congrArg Host.Outcome.next hcmd, hin, (congrArg CtxState.sent hctx).trans (by rw [State.ctx_setCtx_same, State.sent_doneSlot]), hfull, hop,
      .of_regs _ hregs⟩
  · intro s k n i h hc htag hrow hroom
    have hcmd := State.cmdSend_of_issued h hc
    rw [htag] at hcmd
    obtain ⟨hin, hctx, hop, hregs, hfull⟩ := State.send_peek (i.next - 1) (((SameGround.refl s).doneSlot.setCtx.taggedRow rfl n _ _ _).trans hrow) hroom
    exact ⟨_, congrArg Host.Outcome.next hcmd, hin, (congrArg CtxState.sent hctx).trans (by rw [State.ctx_setCtx_same, State.sent_doneSlot]), hfull, hop,
      .of_regs _ hregs⟩
  · intro s k n i h hx hroom hcheck
    have hq := (State.enqT_effect (s := s.doneSlot k n 4 i) (i.next - 1) (bitAt i.bundle 255) hroom
      ((State.descCheck_congr rfl rfl ..).trans hcheck)).of_doneSlot
    exact ⟨_, congrArg Host.Outcome.next (State.cmdEnqT_of_issued h hx), hq.before, hq.new, hq.counted, hq.op⟩
  · rintro s k n i _ h htag hrow rfl hroom hcheck
    have hcmd := State.cmdEnqS_of_issued h
    rw [htag] at hcmd
    have hg := (SameGround.refl s).doneSlot (k := k) (n := n) (slot := 4) (i := i)
    have hq := (State.enqS_scheduled (kind := accKind (bitAt i.bundle 178)) (i.next - 1) ((hg.plainRow (State.shelfRow_doneSlot ..) n).trans hrow) hroom
      ((State.descCheck_congr rfl rfl ..).trans hcheck)).of_doneSlot
    exact ⟨_, congrArg Host.Outcome.next hcmd, hq.before, hq.new, hq.counted, hq.op⟩
  · intro s k n i h heq
    obtain ⟨hsame, -, -, hmesh, -, -⟩ := s.doneSlot_frame k n 4 i
    refine ⟨_, congrArg Host.Outcome.next (State.cmdClr_of_equal h heq), ?_⟩
    generalize s.doneSlot k n 4 i = u at *
    obtain ⟨henq, hdone, hstat⟩ := u.clearCtr_reads_zero k (bits i.bundle 190 6)
    obtain ⟨-, -, hmesh', -, -⟩ := u.clearCtr_frame k (bits i.bundle 190 6)
    exact ⟨henq, hdone, hstat, (hsame.mono (List.nil_subset _)).trans (u.clearCtr_regsExcept k _), hmesh'.trans hmesh⟩

end Sys2Proof
end

section
set_option Elab.async false

/-! ### The wheel operations -/

namespace Sys2Proof

namespace Machine

/-! #### The operand rows of a wheel operation in the order of their accesses (R125) -/

/-- A sort keeps the order of a part of a list that is sorted already. -/
theorem filter_mergeSort_of_pairwise {α : Type} {le : α → α → Bool} (htrans : ∀ x y z, le x y = true → le y z = true → le x z = true)
    (htotal : ∀ x y, (le x y || le y x) = true) {p : α → Bool} {l : List α} (h : (l.filter p).Pairwise fun x y => le x y = true) :
    (l.mergeSort le).filter p = l.filter p := by
  have hsub : (l.filter p).Sublist ((l.mergeSort le).filter p) := by
    simpa using (List.sublist_mergeSort htrans htotal h List.filter_sublist).filter p
  exact (hsub.eq_of_length ((List.mergeSort_perm l le).filter p).length_eq.symm).symm

theorem pairwise_rows (a count : Nat) (x : Bool) :
    ((List.range count).map fun i => (a + i, x)).Pairwise fun e f => decide (e.1 ≤ f.1) = true := by
  rw [List.pairwise_map]
  refine List.pairwise_lt_range.imp fun h => decide_eq_true ?_
  omega

theorem filter_rows (a count : Nat) (x y : Bool) : ((List.range count).map fun i => (a + i, x)).filter (fun e => e.2 == y) =
    if x = y then (List.range count).map (fun i => (a + i, x)) else [] := by
  split_ifs with h
  · refine List.filter_eq_self.2 fun e he => ?_
    obtain ⟨i, -, rfl⟩ := List.mem_map.1 he
    exact beq_iff_eq.2 h
  · refine List.filter_eq_nil_iff.2 fun e he => ?_
    obtain ⟨i, -, rfl⟩ := List.mem_map.1 he
    simpa using h

/-- The rows of an operand stand in the plan in their order. -/
theorem filter_wheelPlan (a na b nb : Nat) (x : Bool) : (wheelPlan a na b nb).filter (fun e => e.2 == x) =
    if x then (List.range nb).map (fun i => (b + i, true)) else (List.range na).map (fun i => (a + i, false)) := by
  have hside : (((List.range na).map fun i => (a + i, false)) ++ (List.range nb).map fun i => (b + i, true)).filter (fun e => e.2 == x) =
      if x then (List.range nb).map (fun i => (b + i, true)) else (List.range na).map (fun i => (a + i, false)) := by
    rw [List.filter_append, filter_rows, filter_rows]
    cases x <;> simp
  rw [← hside]
  refine filter_mergeSort_of_pairwise (fun x y z h1 h2 => ?_) (fun x y => ?_) ?_
  · simp only [decide_eq_true_eq] at *
    exact h1.trans h2
  · simpa using Nat.le_total x.1 y.1
  · rw [hside]
    split_ifs
    · exact pairwise_rows ..
    · exact pairwise_rows ..

theorem length_wheelPlan (a na b nb : Nat) : (wheelPlan a na b nb).length = na + nb := by
  simp [wheelPlan]

theorem mem_wheelPlan {a na b nb : Nat} {e : Nat × Bool} (h : e ∈ wheelPlan a na b nb) : (∃ i < na, e.1 = a + i) ∨ ∃ i < nb, e.1 = b + i := by
  rw [wheelPlan, List.mem_mergeSort, List.mem_append, List.mem_map, List.mem_map] at h
  rcases h with ⟨i, hi, rfl⟩ | ⟨i, hi, rfl⟩
  · exact .inl ⟨i, List.mem_range.1 hi, rfl⟩
  · exact .inr ⟨i, List.mem_range.1 hi, rfl⟩

/-- The rows of an operand as they stand. -/
def State.operandRows (s : State) (k a count : Nat) : List (Row × Bool) := (List.range count).map fun x => ((s.shelfRow k (a + x)).data, false)

/-- The row of an entry of a plan as it stands. -/
def State.planRow (s : State) (k : Nat) (e : Nat × Bool) : Row × Bool := ((s.shelfRow k e.1).data, false)

/-- Of the rows read in the order of the plan those of an operand are its rows. -/
theorem State.side_of_plan (s : State) (k a na b nb : Nat) (x : Bool) :
    ((((wheelPlan a na b nb).zip ((wheelPlan a na b nb).map (s.planRow k))).filter fun e => e.1.2 == x).map (·.2)) =
      if x then s.operandRows k b nb else s.operandRows k a na := by
  rw [← List.map_prod_left_eq_zip, List.filter_map, List.map_map]
  have hfilter := filter_wheelPlan a na b nb x
  rw [show ((fun e : (Nat × Bool) × (Row × Bool) => e.1.2 == x) ∘ fun e => (e, s.planRow k e)) = fun e => e.2 == x from rfl, hfilter]
  split_ifs
  · rw [List.map_map]
    rfl
  · rw [List.map_map]
    rfl

/-! #### The steps of a wheel operation (R176, R177) -/

/-- A wheel operation in scheduled mode that has made `i` accesses and holds the rows read. -/
def wheelAt (n pc : Nat) (j : UnitJob) (i : Nat) (held : List (Row × Bool)) : UnitOp :=
  { ctx := n, pc := pc, tagged := false, job := j, i := i, held := held, blocked := none }

/-- The operand rows of operation `op` can be read by a context in scheduled mode, and its rows of C be written. -/
structure WheelReady (s : State) (k n : Nat) (op : WheelOp) (m : WheelTmpl) (a b c : Nat) : Prop where
  reads : ∀ e ∈ wheelPlan a (wheelRows op m).1 b (wheelRows op m).2.1, plainRow s k n e.1 = true
  writes : ∀ x < (wheelRows op m).2.2, s.inRows k n (c + x) = true ∧ s.spillPending k (c + x) = false

/-- The rows of C and the counts for the operand rows as they stand. -/
def State.wheelOutcome (s : State) (k : Nat) (op : WheelOp) (m : WheelTmpl) (a b : Nat) : List Row × WheelCount :=
  wheelResult op m (s.operandRows k a (wheelRows op m).1) (s.operandRows k b (wheelRows op m).2.1)

section
variable {s u : State} {k un n pc i : Nat} {op : WheelOp} {m : WheelTmpl} {a b c : Nat} {ac bc : TagKind} {held : List (Row × Bool)} (hop : op ≠ .merge)
include hop

theorem State.unitStep_wheel {o : UnitOp} (hjob : o.job = .wheel op m a b c ac bc) :
    u.unitStep k un o = u.stepWheel k un o op m a b c ac bc := by
  unfold State.unitStep
  rw [hjob]
  cases op with
  | merge => exact absurd rfl hop
  | mmnt | mmnn | conv | func | add | mul | reduce | bscale => rfl

theorem State.unitStep_wheel_read {e : Nat × Bool} (he : (wheelPlan a (wheelRows op m).1 b (wheelRows op m).2.1)[i]? = some e)
    (hrow : plainRow u k n e.1 = true) : u.unitStep k un (wheelAt n pc (.wheel op m a b c ac bc) i held) =
      .go (u.delWaiter k e.1 un false) (wheelAt n pc (.wheel op m a b c ac bc) (i + 1) (held ++ [u.planRow k e])) := by
  have hread := State.access_plain_read (s := u)
    (a := (wheelAt n pc (.wheel op m a b c ac bc) i held).acc k un .whl (if e.2 then bc else ac) e.1) rfl hrow
  rw [State.unitStep_wheel hop rfl, State.stepWheel]
  unfold wheelAt at hread ⊢
  dsimp only
  rw [he]
  dsimp only
  rw [hread]
  rfl

theorem State.unitStep_wheel_write {x : Nat} (hx : x < (wheelRows op m).2.2) (hrow : u.inRows k n (c + x) = true)
    (hspill : u.spillPending k (c + x) = false)
    (hheld : held = (wheelPlan a (wheelRows op m).1 b (wheelRows op m).2.1).map (s.planRow k)) :
    ∃ acc : Acc, acc.k = k ∧ acc.row = c + x ∧
      u.unitStep k un (wheelAt n pc (.wheel op m a b c ac bc) ((wheelPlan a (wheelRows op m).1 b (wheelRows op m).2.1).length + x) held) =
      .go (u.writtenRow acc (nth 0 (s.wheelOutcome k op m a b).1 x) false (u.shelfRow k (c + x)).full)
        (wheelAt n pc (.wheel op m a b c ac bc) ((wheelPlan a (wheelRows op m).1 b (wheelRows op m).2.1).length + x + 1) held) := by
  generalize hplan : wheelPlan a (wheelRows op m).1 b (wheelRows op m).2.1 = plan at hheld ⊢
  have hsideA := s.side_of_plan k a (wheelRows op m).1 b (wheelRows op m).2.1 false
  have hsideB := s.side_of_plan k a (wheelRows op m).1 b (wheelRows op m).2.1 true
  rw [hplan, ← hheld] at hsideA hsideB
  have hwrite := State.access_scheduled_write (s := u)
    (a := (wheelAt n pc (.wheel op m a b c ac bc) (plan.length + x) held).acc k un .whl .fill (c + x)) rfl hrow (.inl hspill)
    (nth 0 (s.wheelOutcome k op m a b).1 x) false
  refine ⟨(wheelAt n pc (.wheel op m a b c ac bc) (plan.length + x) held).acc k un .whl .fill (c + x), rfl, rfl, ?_⟩
  rw [State.unitStep_wheel hop rfl, State.stepWheel]
  unfold wheelAt at hwrite ⊢
  dsimp only
  rw [hplan, List.getElem?_eq_none (Nat.le_add_right _ _)]
  dsimp only
  rw [hsideA, hsideB, Nat.add_sub_cancel_left, if_neg (not_le.2 hx)]
  unfold State.wheelOutcome at hwrite
  rw [if_neg Bool.false_ne_true, if_pos rfl, hwrite]
  rfl

theorem State.unitStep_wheel_over :
    ∃ r p w, u.unitStep k un (wheelAt n pc (.wheel op m a b c ac bc)
      ((wheelPlan a (wheelRows op m).1 b (wheelRows op m).2.1).length + (wheelRows op m).2.2) held) =
      .fin ((u.creditWheel k m.layer r).addUsage p 0 w 0) := by
  rw [State.unitStep_wheel hop rfl, State.stepWheel]
  unfold wheelAt
  dsimp only
  rw [List.getElem?_eq_none (Nat.le_add_right _ _)]
  dsimp only
  rw [Nat.add_sub_cancel_left, if_pos le_rfl]
  exact ⟨_, _, _, rfl⟩

/-- Round by round the operand rows are read. -/
theorem State.wheel_reads (hready : WheelReady s k n op m a b c) : ∀ i ≤ (wheelPlan a (wheelRows op m).1 b (wheelRows op m).2.1).length, ∀ fuel,
    ∃ v, SameGround s v ∧ (∀ r, v.shelfRow k r = s.shelfRow k r) ∧
      (s.setOp k un (some (wheelAt n pc (.wheel op m a b c ac bc) 0 []))).runOp k un (i + fuel) =
      (v.setOp k un (some (wheelAt n pc (.wheel op m a b c ac bc) i
        (((wheelPlan a (wheelRows op m).1 b (wheelRows op m).2.1).take i).map (s.planRow k))))).runOp k un fuel := by
  obtain ⟨hreads, -⟩ := hready
  intro i
  generalize hplan : wheelPlan a (wheelRows op m).1 b (wheelRows op m).2.1 = plan at hreads ⊢
  induction i with
  | zero => exact fun _ fuel => ⟨s, .refl s, fun _ => rfl, by rw [Nat.zero_add]; rfl⟩
  | succ i ih =>
    intro hi fuel
    obtain ⟨v, hg, hrows, hrun⟩ := ih (by omega) (fuel + 1)
    have he : plan[i]? = some plan[i] := List.getElem?_eq_getElem hi
    have hgo := hg.setOp (k := k) (u := un) (o := some (wheelAt n pc (.wheel op m a b c ac bc) i ((plan.take i).map (s.planRow k))))
    have hstep := State.runOp_setOp_go (State.unitStep_wheel_read (un := un) (pc := pc) (c := c) (ac := ac) (bc := bc) hop (hplan ▸ he)
      ((hgo.plainRow (hrows _) n).trans (hreads _ (List.getElem_mem hi)))) fuel
    refine ⟨_, hgo.delWaiter (k := k) (r := plan[i].1) (who := un) (fill := false), fun r => hrows r, ?_⟩
    rw [show i + 1 + fuel = i + (fuel + 1) by omega, hrun, hstep, State.planRow, State.shelfRow_setOp, hrows, List.take_succ_eq_append_getElem hi,
      List.map_append]
    rfl

/-- Round by round the rows of C are written. -/
theorem State.wheel_writes (hready : WheelReady s k n op m a b c) (hg : SameGround s u)
    (hheld : held = (wheelPlan a (wheelRows op m).1 b (wheelRows op m).2.1).map (s.planRow k)) : ∀ x ≤ (wheelRows op m).2.2, ∀ fuel,
    ∃ v, SameGround s v ∧ (∀ y < x, (v.shelfRow k (c + y)).data = nth 0 (s.wheelOutcome k op m a b).1 y) ∧
      (u.setOp k un (some (wheelAt n pc (.wheel op m a b c ac bc)
        (wheelPlan a (wheelRows op m).1 b (wheelRows op m).2.1).length held))).runOp k un (x + fuel) =
      (v.setOp k un (some (wheelAt n pc (.wheel op m a b c ac bc)
        ((wheelPlan a (wheelRows op m).1 b (wheelRows op m).2.1).length + x) held))).runOp k un fuel := by
  intro x
  induction x with
  | zero => exact fun _ fuel => ⟨u, hg, fun y hy => absurd hy (Nat.not_lt_zero y), by rw [Nat.zero_add, Nat.add_zero]⟩
  | succ x ih =>
    intro hx fuel
    obtain ⟨v, hgv, hdone, hrun⟩ := ih (by omega) (fuel + 1)
    obtain ⟨hrow, hspill⟩ := hready.writes x hx
    have hgo := hgv.setOp (k := k) (u := un) (o := some (wheelAt n pc (.wheel op m a b c ac bc)
      ((wheelPlan a (wheelRows op m).1 b (wheelRows op m).2.1).length + x) held))
    obtain ⟨acc, hk, hacc, hstep⟩ := State.unitStep_wheel_write (un := un) (pc := pc) (ac := ac) (bc := bc) hop hx
      ((hgo.inRows k n _).trans hrow) ((hgo.spillPending k _).trans hspill) hheld
    rw [show x + 1 + fuel = x + (fuel + 1) by omega]
    refine ⟨_, ?_, ?_, hrun.trans (State.runOp_setOp_go hstep fuel)⟩
    · exact hgo.writtenRow
    · intro y hy
      rcases Nat.lt_succ_iff_lt_or_eq.1 hy with hy | rfl
      · rw [State.shelfRow_writtenRow_ne hk (hacc ▸ fun e => absurd (Nat.add_left_cancel e) hy.ne'), State.shelfRow_setOp, hdone y hy]
      · rw [State.shelfRow_writtenRow_same hk hacc]

end

/-! #### What the counts of a layer leave alone (R42, R43) -/

theorem State.lput_core (s : State) (k l : Nat) (c : LCnt) (v : Nat) : (s.lput k l c v).core = s.core := by
  cases c with
  | zero => exact State.wr64_core ..
  | csat | osat | ozero | flag | range | inval => exact State.wr_core ..

theorem State.arithAdvise_core (s : State) (k : Nat) : (s.arithAdvise k).core = s.core := by
  unfold State.arithAdvise
  split_ifs
  · exact State.advise_core ..
  · rfl

theorem State.lraise_eq (s : State) (k l : Nat) (c : LCnt) :
    ∃ first, s.lraise k l c = (s.setF (Reg.CORE_LSTAT k l) ⟨c.bit, 1⟩ 1).when first fun u => u.arithAdvise k := ⟨_, rfl⟩

theorem State.core_when {f : State → State} (hf : ∀ u, (f u).core = u.core) (s : State) (b : Bool) : (s.when b f).core = s.core :=
  State.when_keeps State.core b f s (hf s)

theorem State.lraise_core (s : State) (k l : Nat) (c : LCnt) : (s.lraise k l c).core = s.core := by
  obtain ⟨first, h⟩ := s.lraise_eq k l c
  rw [h, State.core_when fun u => u.arithAdvise_core k, State.setF_core]

theorem State.lcount_eq (s : State) (k l : Nat) (c : LCnt) (n : Nat) :
    ∃ reached, s.lcount k l c n = (s.lput k l c (c.add (s.lget k l c) n)).when reached fun u => u.lraise k l c := ⟨_, rfl⟩

theorem State.lcount_core (s : State) (k l : Nat) (c : LCnt) (n : Nat) : (s.lcount k l c n).core = s.core := by
  obtain ⟨reached, h⟩ := s.lcount_eq k l c n
  rw [h, State.core_when fun u => u.lraise_core k l c, State.lput_core]

theorem State.creditWheel_core (s : State) (k l : Nat) (c : WheelCount) : (s.creditWheel k l c).core = s.core := by
  unfold State.creditWheel
  rw [State.lcount_core, State.lcount_core, State.lcount_core, State.lcount_core]

theorem State.creditWheel_mesh (s : State) (k l : Nat) (c : WheelCount) : (s.creditWheel k l c).mesh = s.mesh :=
  (Leaves.refl (layerRegs k l) s).lcount.lcount.lcount.lcount.mesh

/-! #### The wheel operations other than MERGE -/

/-- The end of a wheel operation leaves the rows and the mesh. -/
theorem State.wheel_end (u : State) {k un : Nat} (hun : un ≠ 6) (l : Nat) (r : WheelCount) (p x : Nat) :
    let t := ((u.creditWheel k l r).addUsage p 0 x 0).endOp k un
    t.core.shelf = u.core.shelf ∧ t.mesh = u.mesh := by
  have hcore := u.creditWheel_core k l r
  have hmesh := u.creditWheel_mesh k l r
  generalize u.creditWheel k l r = v at hcore hmesh ⊢
  dsimp only
  refine ⟨?_, ?_⟩
  · rw [State.shelf_endOp _ _ hun, ← hcore]
    rfl
  · rw [State.endOp_of_ne_send _ _ hun, ← hmesh]
    rfl

section
variable {s : State} {k n : Nat} {op : WheelOp} {m : WheelTmpl} {a b c : Nat}

/-- A wheel operation that finds its rows writes its result (R176). -/
theorem State.wheel_effect (hop : op ≠ .merge) (hready : WheelReady s k n op m a b c) {un : Nat} (hun : un ≠ 6) (pc : Nat) (ac bc : TagKind) :
    let t := s.startUnit k un n pc false (.wheel op m a b c ac bc)
    (∀ j < (wheelRows op m).2.2, (t.shelfRow k (c + j)).data = nth 0 (s.wheelOutcome k op m a b).1 j) ∧ t.op k un = none ∧ t.mesh = s.mesh := by
  obtain ⟨v, hv, -, hread⟩ := State.wheel_reads (un := un) (pc := pc) (ac := ac) (bc := bc) hop hready _ le_rfl ((wheelRows op m).2.2 + (1 + 1))
  rw [List.take_length] at hread
  obtain ⟨w, hw, hrows, hwrite⟩ := State.wheel_writes (un := un) (pc := pc) (ac := ac) (bc := bc) hop hready hv rfl _ le_rfl (1 + 1)
  obtain ⟨r, p, x, hover⟩ := State.unitStep_wheel_over (u := w.setOp k un (some (wheelAt n pc (.wheel op m a b c ac bc)
    ((wheelPlan a (wheelRows op m).1 b (wheelRows op m).2.1).length + (wheelRows op m).2.2)
    ((wheelPlan a (wheelRows op m).1 b (wheelRows op m).2.1).map (s.planRow k))))) (un := un) (pc := pc) (ac := ac) (bc := bc) hop
  have hbound : (UnitJob.wheel op m a b c ac bc).bound =
      (wheelPlan a (wheelRows op m).1 b (wheelRows op m).2.1).length + ((wheelRows op m).2.2 + (1 + 1)) := by
    rw [length_wheelPlan]
    exact Nat.add_assoc ..
  have hend : s.startUnit k un n pc false (.wheel op m a b c ac bc) = _ :=
    (s.startUnit_eq ..).trans ((congrArg _ hbound).trans (hread.trans (hwrite.trans (State.runOp_setOp_fin hover 1))))
  dsimp only
  rw [hend]
  exact ⟨fun j hj => (congrArg ShelfRow.data (State.shelfRow_congr (State.wheel_end _ hun m.layer r p x).1 k _)).trans (hrows j hj),
    State.op_endOp_same .., (State.wheel_end _ hun m.layer r p x).2.trans hw.mesh⟩

end

section
variable {s : State} {k n : Nat} {i : Issued}

theorem State.cmdWheel_of_issued {op : Nat} (h : issuedAt s k n 2 op i = true) (htag : bitAt i.bundle 255 = false) :
    s.cmdWheel k n op = (s.doneSlot k n 2 i).startUnit k (2 + n) n (i.next - 1) false
      (.wheel (wheelOp op) (s.wheelTmpl k (bits i.bundle 118 8)) (i.row 114 106) (i.row 102 94) (i.row 90 82)
        (accKind (bitAt i.bundle 81)) (accKind (bitAt i.bundle 80))) := by
  rw [State.cmdWheel, State.slotCmd_of_issued h]
  rw [State.startSlot, htag]
  rfl

theorem wheelReady_of_all {op : WheelOp} {m : WheelTmpl} {a b c : Nat}
    (hA : (List.range (wheelRows op m).1).all (fun x => plainRow s k n (a + x)) = true)
    (hB : (List.range (wheelRows op m).2.1).all (fun x => plainRow s k n (b + x)) = true)
    (hC : (List.range (wheelRows op m).2.2).all (fun x => s.inRows k n (c + x) && !s.spillPending k (c + x)) = true) :
    WheelReady s k n op m a b c := by
  simp only [List.all_eq_true, List.mem_range, Bool.and_eq_true, Bool.not_eq_true'] at hA hB hC
  refine ⟨fun e he => ?_, hC⟩
  rcases mem_wheelPlan he with ⟨x, hx, h⟩ | ⟨x, hx, h⟩
  · exact h ▸ hA x hx
  · exact h ▸ hB x hx

/-- What is ready for a wheel operation is ready with the slot done. -/
theorem WheelReady.doneSlot {op : WheelOp} {m : WheelTmpl} {a b c slot : Nat} (h : WheelReady s k n op m a b c) :
    WheelReady (s.doneSlot k n slot i) k n op m a b c := by
  have hg := (SameGround.refl s).doneSlot (k := k) (n := n) (slot := slot) (i := i)
  exact ⟨fun e he => (hg.plainRow (State.shelfRow_doneSlot ..) n).trans (h.reads e he), fun x hx =>
    ⟨(hg.inRows k n _).trans (h.writes x hx).1, (hg.spillPending k _).trans (h.writes x hx).2⟩⟩

/-- The command of a wheel operation other than MERGE. -/
theorem State.cmdWheel_effect {op : Nat} (h : issuedAt s k n 2 op i = true) (htag : bitAt i.bundle 255 = false) (hn : n < 4)
    {w : WheelOp} (hw : wheelOp op = w) (hop : w ≠ .merge) {m : WheelTmpl} (hm : s.wheelTmpl k (bits i.bundle 118 8) = m)
    (hready : WheelReady s k n w m (i.row 114 106) (i.row 102 94) (i.row 90 82)) {j : Nat} (hj : j < (wheelRows w m).2.2) :
    ((s.cmdWheel k n op).shelfRow k (i.row 90 82 + j)).data = nth 0 (s.wheelOutcome k w m (i.row 114 106) (i.row 102 94)).1 j ∧
    (s.cmdWheel k n op).op k (2 + n) = none ∧ (s.cmdWheel k n op).mesh = s.mesh := by
  subst hw hm
  obtain ⟨hrows, hfree, hmesh⟩ := State.wheel_effect (un := 2 + n) hop (hready.doneSlot (slot := 2) (i := i)) (by omega) (i.next - 1)
    (accKind (bitAt i.bundle 81)) (accKind (bitAt i.bundle 80))
  rw [State.cmdWheel_of_issued h htag]
  exact ⟨hrows j hj, hfree, hmesh⟩

end

/-! #### MERGE (R176) -/

/-- A count of nothing writes a counter back. -/
theorem State.lcount_inval_zero (s : State) (k l : Nat) :
    s.lcount k l .inval 0 = s.wr (Reg.CORE_LINVAL k l) (s.rd (Reg.CORE_LINVAL k l)) := by
  have hadd : LCnt.inval.add (s.rd (Reg.CORE_LINVAL k l)) 0 = s.rd (Reg.CORE_LINVAL k l) :=
    Nat.min_eq_right (Nat.le_of_lt_succ (s.rd_lt _))
  obtain ⟨t, h⟩ : ∃ t : Nat, s.lcount k l .inval 0 = (s.wr (Reg.CORE_LINVAL k l) (LCnt.inval.add (s.rd (Reg.CORE_LINVAL k l)) 0)).when
      (bitAt t 7 && decide (s.rd (Reg.CORE_LINVAL k l) < 2 ^ bits t 0 5) && decide (2 ^ bits t 0 5 ≤ LCnt.inval.add (s.rd (Reg.CORE_LINVAL k l)) 0))
      fun u => u.lraise k l .inval := ⟨_, rfl⟩
  have hbelow (x v : Nat) : (bitAt t 7 && decide (v < x) && decide (x ≤ v)) = false := by
    rcases Nat.lt_or_ge v x with hx | hx
    · rw [decide_eq_false (not_le.2 hx), Bool.and_false]
    · rw [decide_eq_false (not_lt.2 hx), Bool.and_false, Bool.false_and]
  rw [h, hadd, hbelow]
  rfl

theorem State.rd_wr_self (s : State) (a b : Nat) : (s.wr a (s.rd a)).rd b = s.rd b := by
  by_cases h : a = b
  · rw [← h, State.rd_wr_same _ _ _ (s.rd_lt a)]
  · exact State.rd_wr_ne h ..

theorem State.writtenRow_mesh (s : State) (a : Acc) (d : Row) (poison full : Bool) : (s.writtenRow a d poison full).mesh = s.mesh := rfl

theorem State.data_writtenRow_same {a : Acc} {k r : Nat} (hk : a.k = k) (hr : a.row = r) (s : State) (d : Row) (poison full : Bool) :
    ((s.writtenRow a d poison full).shelfRow k r).data = d := congrArg ShelfRow.data (State.shelfRow_writtenRow_same hk hr ..)

theorem State.inRows_of_rd {s t : State} (h : ∀ a, t.rd a = s.rd a) (k n r : Nat) : t.inRows k n r = s.inRows k n r := by
  unfold State.inRows State.rowBase State.rowCount State.fld
  rw [h]

theorem State.spillPending_of_rd {s t : State} (h : ∀ a, t.rd a = s.rd a) (hq : t.core.queues = s.core.queues) (k r : Nat) :
    t.spillPending k r = s.spillPending k r := by
  unfold State.spillPending State.rgnType State.fld
  simp only [h, State.queue_congr hq]

section
variable {s u : State} {k un n pc a b c : Nat} {m : WheelTmpl} {ac bc : TagKind} (hcount : wheelRows .merge m = (1, 1, 1))
include hcount

theorem State.unitStep_merge_first (hrow : plainRow u k n a = true) : u.unitStep k un (wheelAt n pc (.wheel .merge m a b c ac bc) 0 []) =
    .go (u.delWaiter k a un false) (wheelAt n pc (.wheel .merge m a b c ac bc) 0 [((u.shelfRow k a).data, false)]) := by
  have hread := State.access_plain_read (s := u) (a := (wheelAt n pc (.wheel .merge m a b c ac bc) 0 []).acc k un .whl ac a) rfl hrow
  unfold State.unitStep
  unfold wheelAt at hread ⊢
  dsimp only
  rw [State.stepMerge, hcount, if_neg (not_le.2 Nat.zero_lt_one)]
  dsimp only
  rw [Nat.add_zero, hread]
  rfl

theorem State.unitStep_merge_second {x : Row} (hrow : plainRow u k n b = true) :
    ∃ v, u.unitStep k un (wheelAt n pc (.wheel .merge m a b c ac bc) 0 [(x, false)]) =
        .go v (wheelAt n pc (.wheel .merge m a b c ac bc) 0 [(x, false), ((u.shelfRow k b).data, false)]) ∧
      (∀ e, v.rd e = u.rd e) ∧ v.core.queues = u.core.queues ∧ v.mesh = u.mesh := by
  have hread := State.access_plain_read (s := u) (a := (wheelAt n pc (.wheel .merge m a b c ac bc) 0 [(x, false)]).acc k un .whl bc b) rfl hrow
  have hcounted := (u.delWaiter k b un false).lcount_inval_zero k m.layer
  refine ⟨(u.delWaiter k b un false).lcount k m.layer .inval 0, ?_, fun e => ?_, ?_, ?_⟩
  · unfold State.unitStep
    unfold wheelAt at hread ⊢
    dsimp only
    rw [State.stepMerge, hcount, if_neg (not_le.2 Nat.zero_lt_one)]
    dsimp only
    rw [Nat.add_zero, hread]
    rfl
  · rw [hcounted]
    exact State.rd_wr_self ..
  · rw [hcounted, State.wr_core]
    rfl
  · rw [hcounted, State.wr_mesh]
    rfl

theorem State.unitStep_merge_write {x y : Row} (hrow : u.inRows k n c = true) (hspill : u.spillPending k c = false)
    (hkey : (P40.read x false).sameKey (P40.read y false) = true) :
    ∃ v, u.unitStep k un (wheelAt n pc (.wheel .merge m a b c ac bc) 0 [(x, false), (y, false)]) =
        .go v (wheelAt n pc (.wheel .merge m a b c ac bc) 1 []) ∧
      (v.shelfRow k c).data = ((P40.read x false).merge (P40.read y false)).toRow ∧ v.mesh = u.mesh := by
  have hwrite := State.access_scheduled_write (s := u)
    (a := (wheelAt n pc (.wheel .merge m a b c ac bc) 0 [(x, false), (y, false)]).acc k un .whl .fill c) rfl hrow (.inl hspill)
    ((P40.read x false).merge (P40.read y false)).toRow false
  refine ⟨u.writtenRow ((wheelAt n pc (.wheel .merge m a b c ac bc) 0 [(x, false), (y, false)]).acc k un .whl .fill c)
    ((P40.read x false).merge (P40.read y false)).toRow false (u.shelfRow k c).full, ?_,
    State.data_writtenRow_same rfl rfl .., State.writtenRow_mesh ..⟩
  unfold State.unitStep
  unfold wheelAt at hwrite ⊢
  dsimp only
  rw [State.stepMerge, hcount, if_neg (not_le.2 Nat.zero_lt_one)]
  dsimp only
  rw [hkey, if_neg (by decide), Nat.add_zero, hwrite]
  rfl

theorem State.unitStep_merge_over : ∃ p w, u.unitStep k un (wheelAt n pc (.wheel .merge m a b c ac bc) 1 []) = .fin (u.addUsage p 0 w 0) := by
  unfold State.unitStep wheelAt
  dsimp only
  rw [State.stepMerge, hcount]
  exact ⟨_, _, if_pos le_rfl⟩

/-- MERGE of one row of A with one row of B of the same key writes their sum to C. -/
theorem State.merge_one (hun : un ≠ 6) (pc : Nat) (ac bc : TagKind) (hA : plainRow s k n a = true) (hB : plainRow s k n b = true)
    (hC : s.inRows k n c = true) (hspill : s.spillPending k c = false)
    (hkey : (P40.read (s.shelfRow k a).data false).sameKey (P40.read (s.shelfRow k b).data false) = true) :
    let t := s.startUnit k un n pc false (.wheel .merge m a b c ac bc)
    (t.shelfRow k c).data = ((P40.read (s.shelfRow k a).data false).merge (P40.read (s.shelfRow k b).data false)).toRow ∧
    t.op k un = none ∧ t.mesh = s.mesh := by
  have hbound : (UnitJob.wheel .merge m a b c ac bc).bound = 5 := by
    rw [UnitJob.bound, hcount]
    rfl
  have hg := (SameGround.refl s).setOp (k := k) (u := un) (o := some (wheelAt n pc (.wheel .merge m a b c ac bc) 0 []))
  have h1 := State.runOp_setOp_go (State.unitStep_merge_first (un := un) (pc := pc) (b := b) (c := c) (ac := ac) (bc := bc) hcount
    ((hg.plainRow rfl n).trans hA)) 4
  have hg1 := (hg.delWaiter (k := k) (r := a) (who := un) (fill := false)).setOp (k := k) (u := un)
    (o := some (wheelAt n pc (.wheel .merge m a b c ac bc) 0 [((s.shelfRow k a).data, false)]))
  obtain ⟨v, hsecond, hrd, hqueues, hmesh⟩ := State.unitStep_merge_second (un := un) (pc := pc) (a := a) (c := c) (ac := ac) (bc := bc)
    (x := (s.shelfRow k a).data) hcount ((hg1.plainRow rfl n).trans hB)
  have h2 := State.runOp_setOp_go hsecond 3
  have hrd' (o : Option UnitOp) (e : Nat) : (v.setOp k un o).rd e = s.rd e := (hrd e).trans (State.rd_congr hg1.regs e)
  obtain ⟨w, hwrite, hrow, hmesh'⟩ := State.unitStep_merge_write (u := v.setOp k un (some _)) (un := un) (pc := pc) (a := a) (b := b) (ac := ac) (bc := bc)
    hcount ((State.inRows_of_rd (hrd' _) k n c).trans hC) ((State.spillPending_of_rd (hrd' _) hqueues k c).trans hspill) hkey
  have h3 := State.runOp_setOp_go hwrite 2
  obtain ⟨p, x, hover⟩ := State.unitStep_merge_over (un := un) (k := k) (n := n) (pc := pc) (a := a) (b := b) (c := c) (ac := ac) (bc := bc) hcount
    (u := w.setOp k un (some (wheelAt n pc (.wheel .merge m a b c ac bc) 1 [])))
  have h4 := State.runOp_setOp_fin hover 1
  have hend : s.startUnit k un n pc false (.wheel .merge m a b c ac bc) = _ :=
    (s.startUnit_eq ..).trans ((congrArg _ hbound).trans (h1.trans (h2.trans (h3.trans h4))))
  dsimp only
  rw [hend]
  refine ⟨?_, State.op_endOp_same .., ?_⟩
  · exact (congrArg ShelfRow.data (State.shelfRow_congr (State.shelf_endOp _ _ hun) k c)).trans hrow
  · rw [State.endOp_of_ne_send _ _ hun]
    exact hmesh'.trans (hmesh.trans hg1.mesh)

end

end Machine

open Machine

/-- Settles O5: a wheel operation reads its rows in the order of the plan, of which each operand's rows are a sorted part, and then writes C. -/
theorem wheelCommandsComplete : Obligations.WheelCommandsComplete := by
  refine ⟨?_, ?_, ?_, ?_, ?_, ?_, ?_, ?_, ?_⟩
  iterate 8
    · intro s k n i j h htag hA hB hC hj
      exact ⟨_, rfl, State.cmdWheel_effect h htag n.isLt rfl (by decide) rfl (wheelReady_of_all hA hB hC) hj⟩
  · intro s k n i h htag hcount hA hB hC hspill hkey
    have hg := (SameGround.refl s).doneSlot (k := k) (n := n) (slot := 2) (i := i)
    have hun : 2 + n.val ≠ 6 := by omega
    have hmerge := State.merge_one (m := s.wheelTmpl k (bits i.bundle 118 8)) hcount hun (i.next - 1) (accKind (bitAt i.bundle 81))
      (accKind (bitAt i.bundle 80)) ((hg.plainRow (State.shelfRow_doneSlot ..) n).trans hA) ((hg.plainRow (State.shelfRow_doneSlot ..) n).trans hB)
      ((hg.inRows k n _).trans hC) ((hg.spillPending k _).trans hspill) hkey
    exact ⟨_, congrArg Host.Outcome.next (State.cmdWheel_of_issued h htag), hmerge⟩

end Sys2Proof
end

section
set_option Elab.async false

/-! ### The mesh commands -/

namespace Sys2Proof

open Machine

/-- A row of partition 2 from core 4 to core 7 on VC 0 (DATA), the only virtual channel that the model's senders, ports and serving engine
give a row. -/
def rowToCore7 : MeshRow :=
  { data := 0, poison := false, dnode := 7, snode := 4, part := 2, vc := 0, reduce := false, ste := 0, drow := 180, wt := 1 }

/-- That row is the head of the REQ buffer (VC 1) of router 5's west input. -/
def dataRowInReqBuffer : State := ({} : State).setInputQ 5 3 1 [rowToCore7]

/-- Refutes O8: the clause of ROUTER_FORWARD names the virtual channel of the buffer in which the head waits and no condition on the
virtual channel in the row's sideband (R194), by which the next buffer is chosen. In `dataRowInReqBuffer` a row of VC 0 waits in a buffer
of VC 1: output E sends it to the neighbour's buffer of VC 0, and the buffer of VC 1, in which the clause puts it, stays empty. -/
theorem not_meshCommandsComplete : ¬ Obligations.MeshCommandsComplete := by
  rintro ⟨hforward, -⟩
  obtain ⟨t, ht, hsent, -⟩ :=
    hforward dataRowInReqBuffer 5 1 (3, 1, rowToCore7) (by decide +kernel) (by decide) (by decide) (by decide) (by decide)
  obtain rfl : dataRowInReqBuffer.forward 5 1 0 0 = t := Host.Outcome.next.inj ht
  have hempty : (dataRowInReqBuffer.forward 5 1 0 0).inputQ 6 3 1 = [] := by decide +kernel
  exact absurd (hempty.symm.trans hsent) (by decide)

end Sys2Proof
end

section
set_option Elab.async false

/-! ### Answers to requests of the HBM controllers -/

namespace Sys2Proof

namespace Machine

/-- The answer to a request (R238, R241). -/
def HbmReq.resp (q : HbmReq) (data : Granule) (poison refused : Bool) : HbmResp :=
  { by_ := q.by_, write := q.write, data := data, poison := poison, refused := refused }

/-- A granule of a copy reaches the host interface alone. -/
theorem State.copyGranule_frame (s : State) (p cid i : Nat) (a : HbmResp) : ∃ h, s.copyGranule p cid i a = { s with host := h } := by
  have hset (g : VfCmd → VfCmd) : ∃ h, s.setCmd p cid g = { s with host := h } := by
    unfold State.setCmd
    dsimp only
    split
    · exact ⟨_, rfl⟩
    · exact ⟨_, rfl⟩
  unfold State.copyGranule
  split
  · exact ⟨_, rfl⟩
  · extract_lets v
    obtain ⟨h, hh⟩ : ∃ h, v = { s with host := h } := hset _
    split
    · exact ⟨h, hh⟩
    · rw [hh]
      exact ⟨_, rfl⟩

/-- A granule of a peer's request reaches its port alone. -/
theorem State.peerGranule_frame (s : State) (port tag i : Nat) (a : HbmResp) : ∃ l, s.peerGranule port tag i a = { s with lnk := l } := by
  unfold State.peerGranule
  dsimp only
  split
  · exact ⟨_, rfl⟩
  · split
    · exact ⟨_, rfl⟩
    · exact ⟨_, rfl⟩

section
variable {k u id x y : Nat} {q : HbmReq}

/-- A descriptor that waits has its answer. -/
theorem State.answerReq_of_waiting {s : State} (hby : q.by_ = .desc k u id x y)
    (hwaits : ((s.queue k u).any fun d => d.started && d.id == id) = true) (data : Granule) (poison refused : Bool) :
    s.answerReq q data poison refused = { s with hbm := { s.hbm with resps := s.hbm.resps ++ [q.resp data poison refused] } } := by
  unfold State.answerReq
  dsimp only
  rw [hby]
  dsimp only
  rw [if_pos hwaits, HbmReq.resp, hby]

/-- The answer to a descriptor reaches the controllers' answers alone. -/
theorem State.answerReq_of_desc (s : State) (hby : q.by_ = .desc k u id x y) (data : Granule) (poison refused : Bool) :
    ∃ l, s.answerReq q data poison refused = { s with hbm := { s.hbm with resps := l } } := by
  by_cases hwaits : ((s.queue k u).any fun d => d.started && d.id == id) = true
  · exact ⟨_, State.answerReq_of_waiting hby hwaits ..⟩
  · unfold State.answerReq
    dsimp only
    rw [hby]
    dsimp only
    rw [if_neg hwaits]
    exact ⟨_, rfl⟩

end

/-- An answer reaches the controllers' answers, the host interface or a port alone. -/
theorem State.answerReq_frame (s : State) (q : HbmReq) (data : Granule) (poison refused : Bool) :
    ∃ l h p, s.answerReq q data poison refused = { s with hbm := { s.hbm with resps := l }, host := h, lnk := p } := by
  cases hby : q.by_ with
  | desc k u id x y =>
    obtain ⟨l, hl⟩ := s.answerReq_of_desc hby data poison refused
    exact ⟨l, s.host, s.lnk, hl⟩
  | copy p cid i =>
    obtain ⟨h, hh⟩ := s.copyGranule_frame p cid i (q.resp data poison refused)
    refine ⟨s.hbm.resps, h, s.lnk, ?_⟩
    rw [State.answerReq, hby]
    exact (congrArg (s.copyGranule p cid i) (by rw [HbmReq.resp, hby])).trans hh
  | peer port tag i =>
    obtain ⟨p, hp⟩ := s.peerGranule_frame port tag i (q.resp data poison refused)
    refine ⟨s.hbm.resps, s.host, p, ?_⟩
    rw [State.answerReq, hby]
    exact (congrArg (s.peerGranule port tag i) (by rw [HbmReq.resp, hby])).trans hp

/-- A request that R235 does not allow is counted and answered. -/
theorem State.acceptReq_of_refused {s : State} {q : HbmReq} (h : s.reqAllowed q = false) :
    s.acceptReq q = (s.inc (Reg.HBM_REFCNT q.ctl) 1).answerReq q 0 false true := by
  rw [State.acceptReq, h]
  rfl

end Machine

open Machine

/-- Settles O57: the refusal counts the request and answers it, and an answer leaves the registers and the memory alone. -/
theorem refusedRequest : Obligations.RefusedRequest := by
  intro s q hrefused
  dsimp only
  rw [State.acceptReq_of_refused hrefused]
  obtain ⟨l, h, p, heq⟩ := (s.inc (Reg.HBM_REFCNT q.ctl) 1).answerReq_frame q 0 false true
  have hresps : ∀ k u id r g, q.by_ = .desc k u id r g → (s.queue k u).any (fun d => d.started && d.id == id) = true →
      l = s.hbm.resps ++ [q.resp 0 false true] := fun k u id r g hby hwaits =>
    (congrArg (fun t : State => t.hbm.resps) heq).symm.trans
      (congrArg (fun t : State => t.hbm.resps) (State.answerReq_of_waiting (s := s.inc _ _) hby hwaits 0 false true))
  rw [heq]
  exact ⟨rfl, rfl, rfl, rfl, s.rd_inc_same _ _, s.wr_regsExcept (List.mem_singleton_self _) _, hresps⟩

end Sys2Proof
end

section
set_option Elab.async false

/-! ### The failure of the part -/

namespace Sys2Proof

namespace Machine

/-- No stream is held and no tier move is ordered or under way, and the record of the part's failure (R471) reads `w`. -/
structure Drained (w : Nat) (s : State) : Prop where
  streams : s.srv.streams = []
  moves : s.hbm.moves = []
  pfail : s.rd Reg.LOG_PFAIL = w

namespace Drained

variable {w : Nat} {s : State}

/-- An update of other parts of the state. -/
theorem upd (h : Drained w s) {latches core mesh hbm srv lnk wts boot clk pwr thm log sec mgmt host free pending}
    (e : (srv.streams, hbm.moves) = (s.srv.streams, s.hbm.moves) := by rfl) :
    Drained w ⟨s.regs, latches, core, mesh, hbm, srv, lnk, wts, boot, clk, pwr, thm, log, sec, mgmt, host, free, pending⟩ := by
  obtain ⟨e1, e2⟩ := Prod.mk.inj e
  exact ⟨e1.trans h.streams, e2.trans h.moves, h.pfail⟩

theorem wr (h : Drained w s) {a v : Nat} (ha : a ≠ Reg.LOG_PFAIL) : Drained w (s.wr a v) :=
  ⟨h.streams, h.moves, (State.rd_wr_ne ha s v).trans h.pfail⟩
theorem setF (h : Drained w s) {a : Nat} {f : Fld} {v : Nat} (ha : a ≠ Reg.LOG_PFAIL) : Drained w (s.setF a f v) := h.wr ha
theorem inc (h : Drained w s) {a n : Nat} (ha : a ≠ Reg.LOG_PFAIL) : Drained w (s.inc a n) := h.wr ha

/-- A field of the record itself is set. -/
theorem record (h : Drained w s) {f : Fld} (hf : f.lo + f.width ≤ 32) {v : Nat} : Drained (putFld f w v) (s.setF Reg.LOG_PFAIL f v) :=
  ⟨h.streams, h.moves, by rw [State.rd_setF_same _ _ _ _ hf, h.pfail]⟩

theorem ite {c : Prop} [Decidable c] {t : State} (h : Drained w s) (g : Drained w t) : Drained w (if c then s else t) := by
  split
  · exact h
  · exact g
theorem when (h : Drained w s) {c : Bool} {f : State → State} (hf : ∀ s, Drained w s → Drained w (f s)) : Drained w (s.when c f) :=
  (hf s h).ite h
theorem forEach (h : Drained w s) {α : Type} {l : List α} {f : State → α → State} (hf : ∀ s x, Drained w s → Drained w (f s x)) :
    Drained w (s.forEach l f) := State.forEach_inv _ f hf l s h

theorem setVf (h : Drained w s) {p : Nat} {v : Vf} : Drained w (s.setVf p v) := h.upd
theorem setCtx (h : Drained w s) {k n : Nat} {c : CtxState} : Drained w (s.setCtx k n c) := h.upd
theorem setPart (h : Drained w s) {p : Nat} {x : PartSrv} : Drained w (s.setPart p x) := h.upd
theorem setDeliv (h : Drained w s) {c : Nat} {l : List MeshRow} : Drained w (s.setDeliv c l) := h.upd
theorem setParked (h : Drained w s) {c : Nat} {l : List MeshRow} : Drained w (s.setParked c l) := h.upd
theorem setSlots (h : Drained w s) {c : Nat} {l : List RedSlot} : Drained w (s.setSlots c l) := h.upd
theorem raisePf (h : Drained w s) {v : Nat} : Drained w (s.raisePf v) := h.ite (h.upd.ite h.upd)
theorem raiseVf (h : Drained w s) {p v : Nat} : Drained w (s.raiseVf p v) := h.setVf.ite h.setVf
theorem sherd (h : Drained w s) {e : Event} : Drained w (s.sherd e) :=
  ⟨by rw [State.sherd_srv, h.streams], by rw [State.sherd_hbm, h.moves], (State.sherd_rd s e (by decide)).trans h.pfail⟩

/-! #### The stop of a partition (R387, R471) -/

theorem setQueue (h : Drained w s) {k q : Nat} {l : List QDesc} : Drained w (s.setQueue k q l) :=
  h.upd.setF (by rw [Reg.QUE_QSTAT, Reg.LOG_PFAIL]; omega)
theorem sink (h : Drained w s) {k node : Nat} {r : MeshRow} : Drained w (s.sink k node r) :=
  (h.inc (by rw [Reg.RTR_DISCNT, Reg.LOG_PFAIL]; omega)).upd
theorem discardCtx (h : Drained w s) {k n : Nat} : Drained w (s.discardCtx k n) :=
  ((h.forEach fun _ _ h => h.sink).inc (by rw [Reg.RTR_DISCNT, Reg.LOG_PFAIL]; omega)).setDeliv.setParked.setSlots

theorem unsend (h : Drained w s) {k : Nat} : Drained w (s.unsend k) := by
  unfold State.unsend
  split
  · split
    · exact h.setCtx
    · exact h
  · exact h

theorem emptyCtx (h : Drained w s) {k n : Nat} : Drained w (s.emptyCtx k n) :=
  ((h.when fun _ h => h.unsend).upd.forEach fun _ _ h => h.setQueue).upd.discardCtx
theorem stopCtx (h : Drained w s) {k n : Nat} : Drained w (s.stopCtx k n) :=
  (h.setF (by rw [Reg.CORE_CTXCTL, Reg.LOG_PFAIL]; omega)).setCtx.emptyCtx

theorem vstat_ne (p : Nat) : Reg.PCI_VSTAT p ≠ Reg.LOG_PFAIL := by
  rw [Reg.PCI_VSTAT, Reg.LOG_PFAIL]
  omega
theorem pstat_ne (p : Nat) : Reg.CNET_PSTAT p ≠ Reg.LOG_PFAIL := by
  rw [Reg.CNET_PSTAT, Reg.LOG_PFAIL]
  omega

theorem setPRun (h : Drained w s) {p v : Nat} : Drained w (s.setPRun p v) :=
  ((h.setF (pstat_ne p)).setF (vstat_ne p)).when fun _ h => (h.setF (vstat_ne p)).raiseVf
theorem stopPart (h : Drained w s) {p : Nat} : Drained w (s.stopPart p) :=
  ((h.forEach fun _ _ h => h.stopCtx).upd.setF (pstat_ne p)).setPRun.setVf.setPart
theorem pcDone (h : Drained w s) {p : Nat} : Drained w (s.pcDone p) := (h.setF (by decide)).raisePf.ite h
theorem finishStop (h : Drained w s) {p : Nat} : Drained w (s.finishStop p) := h.stopPart.setPart.pcDone

/-- With no stream held the end of a partition ends none. -/
theorem endPart (h : Drained w s) {p status : Nat} : Drained w (s.endPart p status) := by
  have hlive : s.liveStreams p = [] := by rw [State.liveStreams, h.streams]; rfl
  rw [State.endPart, hlive]
  exact h.forEach fun _ _ h => h.when fun _ h => h.setF (by rw [Reg.ADP_SCTL, Reg.LOG_PFAIL]; omega)

/-- With no tier move under way none is aborted. -/
theorem abortMoves (h : Drained w s) {p : Nat} : Drained w (s.abortMoves p) := by
  rw [State.abortMoves, h.moves]
  exact h

theorem stopForced (h : Drained w s) {p : Nat} : Drained w (s.stopForced p) := h.ite h.endPart.abortMoves.finishStop

/-! #### Ports (R298) -/

/-- With no tier move under way no request of a port ends one. -/
theorem dropPort (h : Drained w s) {i : Nat} : Drained w (s.dropPort i) := by
  unfold State.dropPort
  extract_lets x reqs u
  have hu : Drained w u := h.upd
  clear_value u
  refine hu.forEach fun v r hv => ?_
  rw [hv.moves]
  exact hv

theorem disablePort (h : Drained w s) {i : Nat} : Drained w (s.disablePort i) :=
  ((h.setF (by rw [Reg.LNK_CTL, Reg.LOG_PFAIL]; omega)).dropPort.setF (by rw [Reg.LNK_STAT, Reg.LOG_PFAIL]; omega)).setF
    (by rw [Reg.LNK_STAT, Reg.LOG_PFAIL]; omega)

end Drained

/-! #### What a failure leaves in LOG_PFAIL (R471) -/

theorem noStreams_iff (s : State) : noStreams s = true ↔ s.srv.streams = [] ∧ s.hbm.moves = [] := by simp [noStreams]

/-- What follows the record of a first failure leaves the record. -/
theorem Drained.partFail {w code : Nat} {s : State} (hfailed : s.failed = false)
    (h : Drained w ((s.setF Reg.LOG_PFAIL Fld.LOG_PFAIL_FAILED 1).setF Reg.LOG_PFAIL Fld.LOG_PFAIL_CODE code)) : Drained w (s.partFail code) := by
  unfold State.partFail
  rw [if_neg (by rw [hfailed]; decide)]
  exact ((((h.setF (by decide)).forEach fun _ _ h => h.stopForced).forEach fun _ _ h => h.disablePort).forEach
    fun _ p h => (h.setF (vstat_ne p)).raiseVf).upd.sherd

/-- The first failure of the part is recorded with its code. -/
theorem State.rd_pfail_partFail {s : State} (hfailed : s.failed = false) (hnone : noStreams s = true) (code : Nat) :
    (s.partFail code).rd Reg.LOG_PFAIL = putFld Fld.LOG_PFAIL_CODE (putFld Fld.LOG_PFAIL_FAILED (s.rd Reg.LOG_PFAIL) 1) code := by
  obtain ⟨hstreams, hmoves⟩ := (noStreams_iff s).1 hnone
  have h : Drained (s.rd Reg.LOG_PFAIL) s := ⟨hstreams, hmoves, rfl⟩
  exact (Drained.partFail hfailed ((h.record (by decide)).record (by decide))).pfail

theorem State.partFail_effect {s : State} (hfailed : s.failed = false) (hnone : noStreams s = true) (code : Nat) :
    (s.partFail code).failed = true ∧ (s.partFail code).fld Reg.LOG_PFAIL Fld.LOG_PFAIL_CODE = code % 2 ^ 16 := by
  unfold State.failed State.fld
  rw [State.rd_pfail_partFail hfailed hnone]
  constructor
  · rw [bits_putFld_above _ _ _ _ _ (by decide), bits_putFld_same]
    rfl
  · exact bits_putFld_same _ _ _

end Machine

end Sys2Proof
end

section
set_option Elab.async false

/-! ### The region table -/

namespace Sys2Proof

namespace Machine

/-! #### Where the registers of regions lie (R233, R236) -/

theorem rowsAt_hbm {a : Nat} (h1 : 0x2800000 ≤ a) (h2 : a < 0x2880000) : rowsAt a = rowsHBM := by
  unfold rowsAt
  iterate 14 rw [if_neg (by omega)]
  rw [if_pos ⟨h1, h2⟩]

/-- The handle map (R236). -/
def hmapRow : RegRow := ⟨0x2808000, [(0x4, 4096)], 0, 0x800003ff, 0, 0, 0⟩

/-- The other registers of the block end below the handle map within each controller. -/
theorem hit_hmap_of_ne {i : Nat} (hi : i < 4096) {r : RegRow} (hr : r ∈ rowsHBM) (hne : r ≠ hmapRow) : r.hit (Reg.HBM_HMAP i) = false := by
  have hrows : ∀ r ∈ rowsHBM, r ≠ hmapRow → 0x2800000 ≤ r.base ∧ (r.base < 0x2800200 ∧ (r.strides = [(0x10000, 8)] ∨ r.strides = [(0x10000, 8), (4, 16)]) ∨
    r.base < 0x2804010 ∧ r.strides = [(0x10, 1024)]) := by decide
  have ha : Reg.HBM_HMAP i = 0x2808000 + i * 4 := rfl
  rw [Bool.eq_false_iff]
  intro hit
  obtain ⟨hlow, ⟨hbase, hs | hs⟩ | ⟨hbase, hs⟩⟩ := hrows r hr hne
  all_goals
    simp only [RegRow.hit, hs, stridesHit, Bool.and_eq_true, decide_eq_true_eq, beq_iff_eq] at hit
    omega

theorem writable_hmap {i : Nat} (hi : i < 4096) : writable (Reg.HBM_HMAP i) = 0x800003FF := by
  have ha : Reg.HBM_HMAP i = 0x2808000 + i * 4 := rfl
  have hit : hmapRow.hit (Reg.HBM_HMAP i) = true := by
    simp [RegRow.hit, hmapRow, stridesHit, ha]
    omega
  have hrow : regRow (Reg.HBM_HMAP i) = some hmapRow := by
    unfold regRow
    rw [rowsAt_hbm (by omega) (by omega)]
    cases hfind : rowsHBM.find? fun r => r.hit (Reg.HBM_HMAP i) with
    | none => exact absurd hit (List.find?_eq_none.1 hfind hmapRow (by decide))
    | some r =>
      by_contra hne
      have hother := hit_hmap_of_ne hi (List.mem_of_find?_eq_some hfind) fun h => hne (congrArg some h)
      exact absurd ((List.find?_some (p := fun r : RegRow => r.hit (Reg.HBM_HMAP i)) hfind).symm.trans hother) (by decide)
  rw [writable, hrow]
  rfl

/-! #### REGION_WRITE (R236, R237) -/

/-- The word that a write of a register leaves in it. -/
def State.regionWord (s : State) (a w : Nat) : Nat := (s.rd a - (s.rd a &&& writable a)) + (w &&& writable a)

/-- A legal write that makes an entry valid starts its fill. -/
theorem State.regionWrite_of_new {s u : State} {r j w : Nat}
    (hu : u = s.wr (Reg.HBM_RGNA r + 4 * j) (s.regionWord (Reg.HBM_RGNA r + 4 * j) w)) (htrained : s.allTrained = true)
    (hold : s.inUse (s.rgnPart r) = false) (hnew : s.inUse (u.rgnPart r) = false) (hwas : s.rgnValid r = false) (hnow : u.rgnValid r = true)
    (hfields : u.regionFields r = true) (hok : u.regionOk r = true) :
    s.regionWrite r j w = u.setF (Reg.HBM_RGND r) Fld.HBM_RGND_INIT 1 := by
  unfold State.regionWrite
  extract_lets a t was now moved gone b v
  have ht : t = u := hu.symm
  have hv : v = u := by simp [v, gone, was, hwas, ht]
  rw [if_neg (by simp [ht, now, htrained, hold, hnew, hfields, hok])]
  simp [hv, ht, was, now, hwas, hnow]

theorem State.regionWrite_of_inUse {s : State} {r : Nat} (h : s.inUse (s.rgnPart r) = true) (j w : Nat) : s.regionWrite r j w = s.regionRej :=
  if_pos (.inr (.inl h))

theorem bits_handle_word (w : Nat) : bits (w &&& 0x800003FF) 0 10 = bits w 0 10 := by
  simp only [bits, Nat.and_mod_two_pow, pow_zero, Nat.div_one]
  exact (Nat.and_two_pow_sub_one_eq_mod (w % 2 ^ 10) 10).trans (Nat.mod_mod ..)

/-- A legal write of a handle: the region that it names is valid and the partition's. -/
theorem State.hmapWrite_of_legal {s : State} {p h w : Nat} (hi : p * 64 + h < 4096) (hrun : s.run p = 0)
    (hvalid : s.rgnValid (bits w 0 10) = true) (hpart : s.rgnPart (bits w 0 10) = p) : ∀ u, u =
      s.wr (Reg.HBM_HMAP (p * 64 + h)) (w &&& writable (Reg.HBM_HMAP (p * 64 + h))) →
      s.hmapWrite p h w = { u with hbm := { u.hbm with stale := u.hbm.stale.filter fun x => x != p * 64 + h } } := by
  rintro u rfl
  have hregion : (s.wr (Reg.HBM_HMAP (p * 64 + h)) (w &&& writable (Reg.HBM_HMAP (p * 64 + h)))).fld (Reg.HBM_HMAP (p * 64 + h))
      Fld.HBM_HMAP_RGN = bits w 0 10 := by
    rw [writable_hmap hi, State.fld, State.rd_wr_same _ _ _ (lt_of_le_of_lt Nat.and_le_right (by decide))]
    exact bits_handle_word w
  unfold State.hmapWrite
  dsimp only
  rw [hregion, if_neg (by simp [hrun, hvalid, hpart])]

end Machine

open Machine

section
variable (s : State) (r : Fin 1024)

theorem Machine.Reg.HBM_RGND_ne_RGNA (r q : Nat) : Reg.HBM_RGND r ≠ Reg.HBM_RGNA q := by
  rw [Reg.HBM_RGND, Reg.HBM_RGNA]
  omega

theorem regionWrite_completes (u : State) (j : Fin 4) (w : Word)
    (hu : u = s.wr (Reg.HBM_RGNA r + 4 * j) (s.regionWord (Reg.HBM_RGNA r + 4 * j) w.toNat)) (htrained : s.allTrained = true)
    (hfree : s.inUse (s.rgnPart r) = false ∧ s.inUse (u.rgnPart r) = false) (hvalid : s.rgnValid r = false ∧ u.rgnValid r = true)
    (hlegal : u.regionFields r = true ∧ u.regionOk r = true) :
    Completes (.regionWrite (.rgn r j) w) s fun t => t.rgnValid r = true ∧ t.rgnInit r = true ∧
      RegsExcept [Reg.HBM_RGND r] u t ∧ t.hbm = s.hbm ∧ t.core = s.core ∧ t.log = s.log := by
  have hwrite := State.regionWrite_of_new hu htrained hfree.1 hfree.2 hvalid.1 hvalid.2 hlegal.1 hlegal.2
  have hinit : (u.setF (Reg.HBM_RGND r) Fld.HBM_RGND_INIT 1).rgnInit r = true := by
    rw [State.rgnInit, State.fld_setF_same _ _ _ _ (by decide)]
    rfl
  refine ⟨_, congrArg Host.Outcome.next hwrite, ?_, hinit, u.setF_regsExcept (List.mem_singleton_self _) _ _, ?_⟩
  · rw [State.rgnValid, State.fld_setF_ne (Reg.HBM_RGND_ne_RGNA r r)]
    exact hvalid.2
  · rw [State.setF_hbm, State.setF_core, State.setF_log, hu, State.wr_hbm, State.wr_core, State.wr_log]
    exact ⟨rfl, rfl, rfl⟩

theorem regionWrite_of_inUse (j : Fin 4) (w : Word) (huse : s.inUse (s.rgnPart r) = true) :
    Completes (.regionWrite (.rgn r j) w) s fun t => t.fld (Reg.HBM_STAT 0) Fld.HBM_STAT_WREJ = 1 ∧ RegsExcept [Reg.HBM_STAT 0] s t ∧
      t.hbm = s.hbm ∧ t.core = s.core ∧ t.log = s.log :=
  ⟨_, congrArg Host.Outcome.next (State.regionWrite_of_inUse huse j w.toNat), State.fld_setF_same _ _ _ _ (by decide),
    s.setF_regsExcept (List.mem_singleton_self _) _ _, rfl, rfl, rfl⟩

theorem handleWrite_completes (p : PartNo) (h : Fin 64) (w : Word) (hrun : s.run p = 0)
    (hregion : s.rgnValid (bits w.toNat 0 10) = true ∧ s.rgnPart (bits w.toNat 0 10) = p.val) :
    Completes (.regionWrite (.hmap p h) w) s fun t => t.rd (Reg.HBM_HMAP (p * 64 + h)) = w.toNat &&& writable (Reg.HBM_HMAP (p * 64 + h)) ∧
      p.val * 64 + h.val ∉ t.hbm.stale ∧ RegsExcept [Reg.HBM_HMAP (p * 64 + h)] s t ∧ t.core = s.core ∧ t.log = s.log := by
  have hwrite := State.hmapWrite_of_legal (h := h.val) (by omega) hrun hregion.1 hregion.2 _ rfl
  refine ⟨_, congrArg Host.Outcome.next hwrite, ?_, ?_, s.wr_regsExcept (List.mem_singleton_self _) _, rfl, rfl⟩
  · exact State.rd_wr_same _ _ _ (lt_of_le_of_lt Nat.and_le_left w.isLt)
  · simp

end

end Sys2Proof
end

section
set_option Elab.async false

/-! ### The fill of a region -/

namespace Sys2Proof

namespace Machine

/-! #### INIT_FILL_COMPLETE (R237) -/

/-- Whether a granule lies in a region. -/
def State.holdsGranule (s : State) (r g : Nat) : Bool := decide (s.regionBase r ≤ g) && decide (g < s.regionBase r + s.regionSize r)

/-- The granules of a region hold zeros. -/
def State.regionZeroed (s : State) (r : Nat) : State :=
  { s with hbm := { s.hbm with
    mem := s.hbm.mem.filter fun e => !s.holdsGranule r e.1
    cond := s.hbm.cond.filter fun e => !s.holdsGranule r e.1 } }

/-- Count granules in a register pair of every controller. -/
def State.countAll (s : State) (a : Nat → Nat) (n : State → Nat) : State := s.forEach (List.range 8) fun s m => s.inc64 (a m) (n s)

section
variable (s : State) (a : Nat → Nat) (n : State → Nat)

@[simp] theorem State.countAll_core : (s.countAll a n).core = s.core := State.forEach_keeps State.core _ (fun _ _ => State.inc64_core ..) _ s
@[simp] theorem State.countAll_hbm : (s.countAll a n).hbm = s.hbm := State.forEach_keeps State.hbm _ (fun _ _ => State.inc64_hbm ..) _ s
@[simp] theorem State.countAll_srv : (s.countAll a n).srv = s.srv := State.forEach_keeps State.srv _ (fun _ _ => State.inc64_srv ..) _ s
@[simp] theorem State.countAll_log : (s.countAll a n).log = s.log := State.forEach_keeps State.log _ (fun _ _ => State.inc64_log ..) _ s

end

section
variable (s : State) (m n : Nat)

@[simp] theorem State.addHbmb_core : (s.addHbmb m n).core = s.core := rfl
@[simp] theorem State.addHbmb_hbm : (s.addHbmb m n).hbm = s.hbm := rfl
@[simp] theorem State.addHbmb_srv : (s.addHbmb m n).srv = s.srv := rfl
@[simp] theorem State.addHbmb_log : (s.addHbmb m n).log = s.log := rfl

end

/-- The zeroed region, its fill counted. -/
def State.filled (s : State) (r : Nat) : State :=
  let v := (s.regionZeroed r).countAll Reg.HBM_WRG_LO fun s => s.regionSize r / 8
  v.addHbmb (1024 + v.rgnPart r) (32 * v.regionSize r)

theorem State.initDone_of_filled {s : State} {r : Nat} (hinit : s.rgnInit r = true)
    (hwrites : (s.hbm.writes.any fun w => s.holdsGranule r w.g) = false) :
    s.initDone r = (s.filled r).setF (Reg.HBM_RGND r) Fld.HBM_RGND_INIT 0 := by
  have hgo : ¬(!s.rgnInit r || s.hbm.writes.any fun w => s.holdsGranule r w.g) = true := by
    rw [hinit, hwrites]
    decide
  exact if_neg hgo

theorem State.filled_core (s : State) (r : Nat) : (s.filled r).core = s.core := (State.addHbmb_core ..).trans (State.countAll_core ..)
theorem State.filled_hbm (s : State) (r : Nat) : (s.filled r).hbm = (s.regionZeroed r).hbm := (State.addHbmb_hbm ..).trans (State.countAll_hbm ..)
theorem State.filled_log (s : State) (r : Nat) : (s.filled r).log = s.log := (State.addHbmb_log ..).trans (State.countAll_log ..)

end Machine

open Machine

theorem initFillComplete_completes (s : State) (r : Fin 1024) (g : Nat) (hinit : s.rgnInit r = true)
    (hwrites : (s.hbm.writes.any fun w => s.holdsGranule r w.g) = false)
    (hg : s.regionBase r ≤ g ∧ g < s.regionBase r + s.regionSize r) :
    Completes (.initFillComplete r) s fun t => t.gran g = 0 ∧ t.granCond g = 0 ∧ t.rgnInit r = false ∧ t.core = s.core ∧ t.log = s.log := by
  have hinside : s.holdsGranule r g = true := by simp [State.holdsGranule, hg]
  have hhbm : ((s.filled r).setF (Reg.HBM_RGND r) Fld.HBM_RGND_INIT 0).hbm = (s.regionZeroed r).hbm :=
    (State.setF_hbm ..).trans (s.filled_hbm r)
  refine ⟨_, congrArg Host.Outcome.next (State.initDone_of_filled hinit hwrites), ?_, ?_, ?_, (State.setF_core ..).trans (s.filled_core r), (State.setF_log ..).trans (s.filled_log r)⟩
  · rw [State.gran, hhbm]
    exact SMap.get_filter_none _ (fun _ => by simp [hinside]) _
  · rw [State.granCond, hhbm]
    exact SMap.get_filter_none _ (fun _ => by simp [hinside]) _
  · rw [State.rgnInit, State.fld_setF_same _ _ _ _ (by decide)]
    rfl

end Sys2Proof
end

section
set_option Elab.async false

/-! ### Requests at the HBM controllers -/

namespace Sys2Proof

namespace Machine

/-! #### HBM_REQUEST (R238, R240) -/

theorem mem_rotation {p : Nat} (hp : p < 64) (i : Nat) : p ∈ rotation i :=
  List.mem_map.2 ⟨(p + (64 - i % 64)) % 64, List.mem_range.2 (Nat.mod_lt _ (by decide)), by omega⟩

/-- The first of a rotation that one partition alone passes is that partition. -/
theorem find?_rotation {p : Nat} {f : Nat → Bool} (hp : p < 64) (hf : f p = true) (hother : ∀ x, f x = true → x = p) (i : Nat) :
    (rotation i).find? f = some p := by
  cases hfind : (rotation i).find? f with
  | none => exact absurd hf (List.find?_eq_none.1 hfind p (mem_rotation hp i))
  | some x => rw [hother x (List.find?_some hfind)]

/-- The only partition that asks has the slot, with its share or past it. -/
theorem Arbiter.grant_single (a : Arbiter) (shares : List Nat) {p : Nat} (hp : p < 64) : ∃ b, a.grant shares [p] = some (p, b) := by
  have hask (x : Nat) (h : [p].contains x = true) : x = p := by simpa using h
  unfold Arbiter.grant
  rw [if_neg (List.cons_ne_nil _ _)]
  extract_lets
  split
  next x hfind =>
    have hpass := List.find?_some hfind
    have hx : x = p := hask x (Bool.and_eq_true_iff.1 hpass).1
    exact ⟨_, congrArg (fun x => some (x, _)) hx⟩
  next =>
    rw [find?_rotation hp (by simp) hask]
    exact ⟨_, rfl⟩

theorem State.regionAt_congr {s t : State} (h : s.regs = t.regs) (g : Nat) : s.regionAt g = t.regionAt g := by
  have hfld : s.fld = t.fld := funext fun a => funext (State.fld_congr h a)
  unfold State.regionAt State.validRegions State.rgnValid State.regionBase State.regionSize
  rw [hfld]

/-- What R235 allows a request turns on the registers and, for a peer's, on its port. -/
theorem State.reqAllowed_congr {s t : State} (h : s.regs = t.regs) (hlnk : s.lnk = t.lnk) (q : HbmReq) : s.reqAllowed q = t.reqAllowed q := by
  have hfld : s.fld = t.fld := funext fun a => funext (State.fld_congr h a)
  unfold State.reqAllowed State.rgnType State.rgnInit State.rgnPart State.port
  rw [State.regionAt_congr h, hlnk, hfld]

/-- The controllers' requests and arbiters replaced. -/
def State.withReqs (s : State) (l : List HbmReq) (a : SMap Arbiter) : State := { s with hbm := { s.hbm with arbs := a, reqs := l } }

section
variable (s : State) (l : List HbmReq) (a : SMap Arbiter)

theorem State.withReqs_regs : (s.withReqs l a).regs = s.regs := rfl
theorem State.withReqs_lnk : (s.withReqs l a).lnk = s.lnk := rfl

theorem State.reqAllowed_withReqs (q : HbmReq) : (s.withReqs l a).reqAllowed q = s.reqAllowed q := by
  exact State.reqAllowed_congr (s.withReqs_regs l a) (s.withReqs_lnk l a) q

end

/-- A controller with an only request that it has room for takes it. -/
theorem State.hbmRequest_single {s : State} {q : HbmReq} (hreqs : s.hbm.reqs = [q]) (hpart : q.part < 64)
    (hawake : s.pwr.selfRefresh = false) (hroom : s.reqRoom q = true) :
    ∃ a, s.hbmRequest q.ctl = (s.withReqs [] a).acceptReq q := by
  have hask : (q.ctl == q.ctl && s.reqRoom q) = true := by simp [hroom]
  have htake : (q.ctl == q.ctl && q.part == q.part && s.reqRoom q) = true := by simp [hroom]
  obtain ⟨b, hb⟩ := (SMap.get (fun _ => {}) s.hbm.arbs q.ctl).grant_single (s.hbmShares q.ctl) hpart
  refine ⟨SMap.set (fun _ => ({} : Arbiter)) s.hbm.arbs q.ctl b, ?_⟩
  have helig : (([q].filter fun r => r.ctl == q.ctl && s.reqRoom r).map fun r => r.part).eraseDups = [q.part] := by
    rw [List.filter_cons_of_pos (p := fun r => r.ctl == q.ctl && s.reqRoom r) hask]
    rfl
  unfold State.hbmRequest
  dsimp only
  rw [hreqs, hawake, helig, hb, if_neg Bool.false_ne_true]
  dsimp only
  rw [findIdx1_cons_of_pos (p := fun r => r.ctl == q.ctl && r.part == q.part && s.reqRoom r) htake]
  dsimp only [List.eraseIdx, State.withReqs]

theorem State.reqRoom_of_refused {s : State} {q : HbmReq} (h : s.reqAllowed q = false) : s.reqRoom q = true := if_pos (by rw [h]; decide)

/-- A buffer that is not full has room for a request of one controller. -/
theorem State.reqRoom_of_length {s : State} {q : HbmReq} (h : (if q.write then s.hbm.writes.length < 2048 else s.hbm.reads.length < 8192)) :
    s.reqRoom q = true := by
  unfold State.reqRoom
  split
  · rfl
  · split
    next hwrite =>
      rw [if_pos hwrite] at h
      exact decide_eq_true ((List.length_filter_le ..).trans_lt h)
    next hread =>
      rw [if_neg hread] at h
      exact decide_eq_true ((List.length_filter_le ..).trans_lt h)

/-- A read of a granule that no accepted write changes has its content (R241). -/
theorem State.readContent_of_quiet {s : State} {g : Nat} (h : (s.hbm.writes.all fun w => w.g != g) = true) :
    s.readContent g = (s.gran g, s.granCond g, s) := by
  have hnone : s.hbm.writes.filter (fun w => w.g == g) = [] :=
    List.filter_eq_nil_iff.2 fun w hw => by simpa using List.all_eq_true.1 h w hw
  rw [State.readContent, hnone]

/-- A controller holds a request: a write as it is, a read with what it returns (R241). -/
def State.holdReq (s : State) (q : HbmReq) : State :=
  if q.write then { s with hbm := { s.hbm with writes := s.hbm.writes ++ [q] } }
  else
    let (d, c, s) := s.readContent q.g
    { s with hbm := { s.hbm with reads := s.hbm.reads ++ [{ q with data := d, cond := c }] } }

/-- An accepted request is held, and metered (R524, R525). -/
theorem State.acceptReq_of_allowed {s : State} {q : HbmReq} (h : s.reqAllowed q = true) : ∃ m, s.acceptReq q = State.holdReq { s with mgmt := m } q := by
  have hgo : ¬(!s.reqAllowed q) = true := by rw [h]; decide
  unfold State.acceptReq
  rw [if_neg hgo]
  cases s.regionAt q.g with
  | none => exact ⟨_, rfl⟩
  | some r => exact ⟨_, rfl⟩

theorem State.holdReq_of_write {q : HbmReq} (h : q.write = true) (s : State) :
    s.holdReq q = { s with hbm := { s.hbm with writes := s.hbm.writes ++ [q] } } := if_pos h

theorem State.holdReq_of_read {s : State} {q : HbmReq} (h : q.write = false) (hquiet : (s.hbm.writes.all fun w => w.g != q.g) = true) :
    s.holdReq q = { s with hbm := { s.hbm with reads := s.hbm.reads ++ [{ q with data := s.gran q.g, cond := s.granCond q.g }] } } := by
  have hno : ¬q.write = true := by rw [h]; decide
  rw [State.holdReq, if_neg hno, State.readContent_of_quiet hquiet]

end Machine

open Machine

section
variable {s : State} {q : HbmReq}

theorem acceptWrite_completes (m : StackNo) (hreqs : s.hbm.reqs = [q]) (hctl : q.ctl = m.val) (hpart : q.part < 64)
    (hawake : s.pwr.selfRefresh = false) (hallowed : s.reqAllowed q = true) (hwrite : q.write = true) (hroom : s.hbm.writes.length < 2048) :
    Completes (.hbmRequest m) s fun t => t.hbm.reqs = [] ∧ t.hbm.writes = s.hbm.writes ++ [q] ∧
      t.hbm.reads = s.hbm.reads ∧ t.hbm.mem = s.hbm.mem ∧ RegsExcept [] s t ∧ t.core = s.core ∧ t.log = s.log := by
  obtain ⟨a, ha⟩ := State.hbmRequest_single hreqs hpart hawake (State.reqRoom_of_length (by rwa [if_pos hwrite]))
  obtain ⟨x, hx⟩ := State.acceptReq_of_allowed ((s.reqAllowed_withReqs [] a q).trans hallowed)
  have heq := (hctl ▸ ha).trans (hx.trans (State.holdReq_of_write hwrite _))
  exact ⟨_, congrArg Host.Outcome.next heq, rfl, rfl, rfl, rfl, .of_regs [] rfl, rfl, rfl⟩

theorem acceptRead_completes (m : StackNo) (hreqs : s.hbm.reqs = [q]) (hctl : q.ctl = m.val) (hpart : q.part < 64)
    (hawake : s.pwr.selfRefresh = false) (hallowed : s.reqAllowed q = true) (hread : q.write = false) (hroom : s.hbm.reads.length < 8192)
    (hquiet : (s.hbm.writes.all fun w => w.g != q.g) = true) :
    Completes (.hbmRequest m) s fun t => t.hbm.reqs = [] ∧ t.hbm.reads = s.hbm.reads ++ [{ q with data := s.gran q.g, cond := s.granCond q.g }] ∧
      t.hbm.writes = s.hbm.writes ∧ t.hbm.mem = s.hbm.mem ∧ RegsExcept [] s t ∧ t.core = s.core ∧ t.log = s.log := by
  obtain ⟨a, ha⟩ := State.hbmRequest_single hreqs hpart hawake (State.reqRoom_of_length (by rwa [hread]))
  obtain ⟨x, hx⟩ := State.acceptReq_of_allowed ((s.reqAllowed_withReqs [] a q).trans hallowed)
  have heq := (hctl ▸ ha).trans (hx.trans (State.holdReq_of_read hread hquiet))
  exact ⟨_, congrArg Host.Outcome.next heq, rfl, rfl, rfl, rfl, .of_regs [] rfl, rfl, rfl⟩

section
variable {k u id x y : Nat} (hby : q.by_ = .desc k u id x y) (hwaits : ((s.queue k u).any fun d => d.started && d.id == id) = true)
include hby hwaits

theorem refuseRequest_completes (m : StackNo) (hreqs : s.hbm.reqs = [q]) (hctl : q.ctl = m.val) (hpart : q.part < 64)
    (hawake : s.pwr.selfRefresh = false) (hrefused : s.reqAllowed q = false) :
    Completes (.hbmRequest m) s fun t => t.hbm.reqs = [] ∧
      t.hbm.resps = s.hbm.resps ++ [{ by_ := q.by_, write := q.write, data := 0, poison := false, refused := true }] ∧
      t.rd (Reg.HBM_REFCNT m) = satAdd 0xFFFFFFFF (s.rd (Reg.HBM_REFCNT m)) 1 ∧ t.hbm.mem = s.hbm.mem ∧ RegsExcept [Reg.HBM_REFCNT m] s t ∧
      t.core = s.core ∧ t.log = s.log := by
  obtain ⟨a, ha⟩ := State.hbmRequest_single hreqs hpart hawake (State.reqRoom_of_refused hrefused)
  rw [State.acceptReq_of_refused ((s.reqAllowed_withReqs [] a q).trans hrefused), hctl] at ha
  have heq := ha.trans (State.answerReq_of_waiting (s := (s.withReqs [] a).inc _ _) hby hwaits 0 false true)
  exact ⟨_, congrArg Host.Outcome.next heq, rfl, rfl, State.rd_inc_same _ _ _, rfl, s.wr_regsExcept (List.mem_singleton_self _) _, rfl, rfl⟩

end

end

end Sys2Proof
end

section
set_option Elab.async false

/-! ### Accesses and checks of the HBM stacks -/

namespace Sys2Proof

namespace Machine

theorem State.granCond_setGran (s : State) (g h : Nat) (v : Granule) (p : Bool) :
    (s.setGran g v p).granCond h = if g = h then (if p then 3 else 0) else s.granCond h := SMap.get_set ..

/-- A granule without error that is found clean is delivered as it is (R243). -/
theorem State.judgeRead_clean (s : State) (g : Nat) : s.judgeRead g 0 0 = (false, s) := rfl

/-- The end of a read that is not poisoned: the access is forgotten and counted. -/
def State.readDone (s : State) (m : Nat) : State := State.inc64 { s with hbm := { s.hbm with reads := [] } } (Reg.HBM_RDG_LO m) 1

theorem State.readDone_hbm (s : State) (m : Nat) : (s.readDone m).hbm = { s.hbm with reads := [] } := State.inc64_hbm ..
theorem State.readDone_core (s : State) (m : Nat) : (s.readDone m).core = s.core := State.inc64_core ..
theorem State.readDone_log (s : State) (m : Nat) : (s.readDone m).log = s.log := State.inc64_log ..
theorem State.readDone_regsExcept (s : State) (m : Nat) : RegsExcept [Reg.HBM_RDG_LO m, Reg.HBM_RDG_LO m + 4] s (s.readDone m) :=
  (RegsExcept.of_regs _ rfl).trans (State.inc64_regsExcept _ (by simp) (by simp) _)

theorem State.hbmReadData_single {s : State} {q : HbmReq} (hreads : s.hbm.reads = [q]) (hclean : q.cond = 0) :
    s.hbmReadData q.ctl 0 0 = (s.readDone q.ctl).answerReq q q.data false false := by
  have hmine : (s.hbm.reads.zipIdx.filter fun e => e.1.ctl == q.ctl)[0]? = some (q, 0) := by simp [hreads]
  unfold State.hbmReadData
  dsimp only
  rw [hmine]
  dsimp only
  rw [hclean, State.judgeRead_clean, hreads]
  rfl

/-- The oldest write of a controller becomes visible. -/
def State.writeDone (s : State) (q : HbmReq) (rest : List HbmReq) : State :=
  (State.setGran { s with hbm := { s.hbm with writes := rest } } q.g q.data q.poison).inc64 (Reg.HBM_WRG_LO q.ctl) 1

section
variable (s : State) (q : HbmReq) (rest : List HbmReq)

theorem State.writeDone_writes : (s.writeDone q rest).hbm.writes = rest := congrArg (·.writes) (State.inc64_hbm ..)
theorem State.writeDone_core : (s.writeDone q rest).core = s.core := State.inc64_core ..
theorem State.writeDone_log : (s.writeDone q rest).log = s.log := State.inc64_log ..
theorem State.writeDone_regsExcept : RegsExcept [Reg.HBM_WRG_LO q.ctl, Reg.HBM_WRG_LO q.ctl + 4] s (s.writeDone q rest) :=
  (RegsExcept.of_regs _ rfl).trans (State.inc64_regsExcept _ (by simp) (by simp) _)

theorem State.gran_writeDone (g : Nat) : (s.writeDone q rest).gran g = if q.g = g then q.data else s.gran g :=
  (State.gran_congr (State.inc64_hbm ..) g).trans (State.gran_setGran ..)
theorem State.granCond_writeDone (g : Nat) :
    (s.writeDone q rest).granCond g = if q.g = g then (if q.poison then 3 else 0) else s.granCond g :=
  (congrArg (fun h : HbmBlk => SMap.get (fun _ => 0) h.cond g) (State.inc64_hbm ..)).trans (State.granCond_setGran ..)

end

theorem State.hbmWriteAck_cons {s : State} {q : HbmReq} {rest : List HbmReq} (h : s.hbm.writes = q :: rest) :
    s.hbmWriteAck q.ctl = (s.writeDone q rest).answerReq q 0 false false := by
  unfold State.hbmWriteAck
  rw [h, findIdx1_cons_of_pos (p := fun r : HbmReq => r.ctl == q.ctl) (by simp)]
  rfl

/-- The patrol of a granule without error moves on. -/
theorem State.patrol_clean {s : State} {m : Nat} (h : s.granCond (8 * SMap.get (fun _ => 0) s.hbm.patrol m + m) = 0) :
    s.patrol m 0 = { s with hbm := { s.hbm with
      patrol := SMap.set (fun _ => 0) s.hbm.patrol m ((SMap.get (fun _ => 0) s.hbm.patrol m + 1) % 1207959552) } } := by
  have hread (u : State) (g : Nat) (hg : u.granCond g = 0) : (u.ownRead g 0).2 = u := by
    rw [State.ownRead, hg]
    rfl
  exact hread _ _ h

end Machine

open Machine

section
variable {s : State} {q : HbmReq} {k u id x y : Nat}

theorem readData_completes (m : StackNo) (hreads : s.hbm.reads = [q]) (hctl : q.ctl = m.val) (hclean : q.cond = 0)
    (hby : q.by_ = .desc k u id x y) (hwaits : ((s.queue k u).any fun d => d.started && d.id == id) = true) :
    Completes (.hbmReadData m 0 0) s fun t => t.hbm.reads = [] ∧
      t.hbm.resps = s.hbm.resps ++ [{ by_ := q.by_, write := q.write, data := q.data, poison := false, refused := false }] ∧
      t.rd64 (Reg.HBM_RDG_LO m) = (s.rd64 (Reg.HBM_RDG_LO m) + 1) % 2 ^ 64 ∧ t.hbm.mem = s.hbm.mem ∧
      RegsExcept [Reg.HBM_RDG_LO m, Reg.HBM_RDG_LO m + 4] s t ∧ t.core = s.core ∧ t.log = s.log := by
  have hwaits' : (((s.readDone q.ctl).queue k u).any fun d => d.started && d.id == id) = true := by
    rw [State.queue, State.readDone_core]
    exact hwaits
  have heq := hctl ▸ (State.hbmReadData_single hreads hclean).trans (State.answerReq_of_waiting hby hwaits' q.data false false)
  have hhbm := s.readDone_hbm q.ctl
  refine ⟨_, congrArg Host.Outcome.next heq, ?_, ?_, ?_, ?_, ?_, s.readDone_core q.ctl, s.readDone_log q.ctl⟩
  · exact congrArg (·.reads) hhbm
  · exact congrArg (·.resps ++ _) hhbm
  · rw [← hctl]
    exact State.rd64_inc64_same { s with hbm := { s.hbm with reads := [] } } _ _
  · exact congrArg (·.mem) hhbm
  · rw [← hctl]
    exact (s.readDone_regsExcept q.ctl).trans (.of_regs _ rfl)

theorem writeAck_completes {rest : List HbmReq} (m : StackNo) (hwrites : s.hbm.writes = q :: rest) (hctl : q.ctl = m.val)
    (hby : q.by_ = .desc k u id x y) :
    Completes (.hbmWriteAck m) s fun t => t.gran q.g = q.data ∧ t.granCond q.g = (if q.poison then 3 else 0) ∧
      (∀ g, g ≠ q.g → t.gran g = s.gran g ∧ t.granCond g = s.granCond g) ∧ t.hbm.writes = rest ∧
      RegsExcept [Reg.HBM_WRG_LO m, Reg.HBM_WRG_LO m + 4] s t ∧ t.core = s.core ∧ t.log = s.log := by
  have hgran := s.gran_writeDone q rest
  have hcond := s.granCond_writeDone q rest
  obtain ⟨l, hl⟩ := (s.writeDone q rest).answerReq_of_desc hby 0 false false
  have heq := hctl ▸ (State.hbmWriteAck_cons hwrites).trans hl
  refine ⟨_, congrArg Host.Outcome.next heq, (hgran q.g).trans (if_pos rfl), (hcond q.g).trans (if_pos rfl),
    fun g hg => ⟨(hgran g).trans (if_neg hg.symm), (hcond g).trans (if_neg hg.symm)⟩, s.writeDone_writes q rest, ?_,
    s.writeDone_core q rest, s.writeDone_log q rest⟩
  rw [← hctl]
  exact (s.writeDone_regsExcept q rest).trans (.of_regs _ rfl)

end

section
variable (s : State) (m : StackNo)

theorem patrolScrub_completes (h : s.granCond (8 * SMap.get (fun _ => 0) s.hbm.patrol m + m) = 0) :
    Completes (.patrolScrub m 0) s fun t => SMap.get (fun _ => 0) t.hbm.patrol m = (SMap.get (fun _ => 0) s.hbm.patrol m + 1) % 1207959552 ∧
      t.hbm.mem = s.hbm.mem ∧ t.hbm.cond = s.hbm.cond ∧ RegsExcept [] s t ∧ t.core = s.core ∧ t.log = s.log :=
  ⟨_, congrArg Host.Outcome.next (State.patrol_clean h), SMap.get_set_same .., rfl, rfl, .of_regs [] rfl, rfl, rfl⟩

theorem ceWindowEnd_completes :
    Completes (.ceWindowEnd m) s fun t => SMap.get (fun _ => 0) t.hbm.ceWin m = 0 ∧
      SMap.get (fun _ => false) t.hbm.ceEv m = false ∧ t.hbm.mem = s.hbm.mem ∧ RegsExcept [] s t ∧ t.core = s.core ∧ t.log = s.log :=
  ⟨_, rfl, SMap.get_set_same (fun _ => 0) s.hbm.ceWin m 0, SMap.get_set_same (fun _ => false) s.hbm.ceEv m false, rfl, .of_regs [] rfl, rfl, rfl⟩

theorem Machine.Reg.HBM_STAT_ne_HBM_TEMP (m n : Nat) : Reg.HBM_STAT m ≠ Reg.HBM_TEMP n := by
  rw [Reg.HBM_STAT, Reg.HBM_TEMP]
  omega

theorem stackSensorReading_completes (b : Byte) (htrained : s.fld (Reg.HBM_STAT m) Fld.HBM_STAT_TRAINED = 1) :
    Completes (.stackSensorReading m b) s fun t => t.fld (Reg.HBM_TEMP m) Fld.HBM_TEMP_TEMP = b.toNat ∧
      t.fld (Reg.HBM_STAT m) Fld.HBM_STAT_HOT = (if 85 ≤ b.toNat then 1 else 0) ∧ RegsExcept [Reg.HBM_TEMP m, Reg.HBM_STAT m] s t ∧
      t.hbm = s.hbm ∧ t.log = s.log := by
  have hshow : s.stackReading m b.toNat = (s.setF (Reg.HBM_TEMP m) Fld.HBM_TEMP_TEMP b.toNat).setF (Reg.HBM_STAT m) Fld.HBM_STAT_HOT
      (b2n (decide (85 ≤ b.toNat))) := if_neg (by rw [htrained]; decide)
  refine ⟨_, congrArg Host.Outcome.next hshow, ?_, ?_, ?_, ?_, ?_⟩
  · rw [State.fld_setF_ne (Reg.HBM_STAT_ne_HBM_TEMP m m), State.fld_setF_same _ _ _ _ (by decide)]
    exact Nat.mod_eq_of_lt b.isLt
  · rw [State.fld_setF_same _ _ _ _ (by decide)]
    by_cases hhot : 85 ≤ b.toNat
    · rw [decide_eq_true hhot, if_pos hhot]
      rfl
    · rw [decide_eq_false hhot, if_neg hhot]
      rfl
  · exact (s.setF_regsExcept (by simp) _ _).trans (State.setF_regsExcept _ (by simp) _ _)
  · rw [State.setF_hbm, State.setF_hbm]
  · rw [State.setF_log, State.setF_log]

/-- A failure with no stream held, after its record. -/
theorem hbmStackFailure_completes (hfailed : s.failed = false) (hnone : noStreams s = true) :
    Completes (.hbmStackFailure m) s fun t => t.failed = true ∧ t.fld Reg.LOG_PFAIL Fld.LOG_PFAIL_CODE = 0x32 := by
  obtain ⟨hstreams, hmoves⟩ := (noStreams_iff s).1 hnone
  let e : Event := { code := 0x32, sev := 4, unit := unitHbm m, detail := [(48, s.rd (Reg.HBM_STAT m))] }
  have hfailed' : (s.sherd e).failed = false := by
    rw [State.failed, State.sherd_fld _ _ (by decide)]
    exact hfailed
  have hnone' : noStreams (s.sherd e) = true := by
    rw [noStreams_iff, State.sherd_srv, State.sherd_hbm]
    exact ⟨hstreams, hmoves⟩
  obtain ⟨h1, h2⟩ := State.partFail_effect hfailed' hnone' 0x32
  exact ⟨_, rfl, h1, h2⟩

end

/-- Settles O11, a clause per theorem. -/
theorem hbmCommandsComplete : Obligations.HbmCommandsComplete :=
  ⟨fun s u r j w hu ht hf hv hl => regionWrite_completes s r u j w hu ht hf hv hl, fun s r j w h => regionWrite_of_inUse s r j w h,
    fun s p h w hrun hr => handleWrite_completes s p h w hrun hr, fun s r g hi hw hg => initFillComplete_completes s r g hi hw hg,
    fun _ m _ hr hc hp ha hal hw hroom => acceptWrite_completes m hr hc hp ha hal hw hroom,
    fun _ m _ hr hc hp ha hal hw hroom hq => acceptRead_completes m hr hc hp ha hal hw hroom hq,
    fun _ m _ _ _ _ _ _ hr hc hp ha hal hby hw => refuseRequest_completes hby hw m hr hc hp ha hal,
    fun _ m _ _ _ _ _ _ hr hc hcl hby hw => readData_completes m hr hc hcl hby hw,
    fun _ m _ _ _ _ _ _ _ hw hc hby => writeAck_completes m hw hc hby, patrolScrub_completes, ceWindowEnd_completes,
    stackSensorReading_completes, hbmStackFailure_completes⟩

end Sys2Proof
end

section
set_option Elab.async false

/-! ### The commands of the tier movers -/

namespace Sys2Proof

namespace Machine

/-! #### Moves and blocks of the KV table (R249, R258, R274) -/

theorem State.mem_setMove {s : State} {m n : Move} (h : m ∈ s.hbm.moves) : n ∈ (s.setMove m n).hbm.moves :=
  List.mem_map.2 ⟨m, h, if_pos rfl⟩

theorem State.length_setMove (s : State) (m n : Move) : (s.setMove m n).hbm.moves.length = s.hbm.moves.length := List.length_map _

theorem State.not_mem_dropMove (s : State) (m : Move) : m ∉ (s.dropMove m).hbm.moves := by
  intro h
  have hkept := (List.mem_filter.1 h).2
  simp at hkept

theorem State.gran_dropMove (s : State) (m : Move) (g : Nat) : (s.dropMove m).gran g = s.gran g := rfl

theorem State.kv_setKv_same (s : State) (c b : Nat) (e : Option KvEnt) : (s.setKv c b e).kv c b = e := SMap.get_set_same ..
theorem State.stream_setStream_same (s : State) (c : Nat) (x : Stream) : (s.setStream c x).stream c = x := SMap.get_set_same ..

section
variable {s : State} {p c : Nat}

theorem State.tryStop_of_none (h : (s.part p).stopping = 0) : s.tryStop p = s := if_pos (.inl h)

/-- A running stream goes on when one of its moves ends (R260). -/
theorem State.afterMove_of_run (hrun : (s.stream c).state = .run) (hstop : (s.part p).stopping = 0) : s.afterMove p c = s := by
  unfold State.afterMove
  dsimp only
  rw [hrun]
  exact State.tryStop_of_none hstop

end

/-- A block of a running stream has its place. -/
def State.settle (s : State) (c b : Nat) (e : KvEnt) : State :=
  let u := s.setKv c b (some e)
  u.setStream c { u.stream c with tiers := u.tiersOf c }

section
variable (s : State) (c b : Nat) (e : KvEnt)

theorem State.settle_regs : (s.settle c b e).regs = s.regs := rfl
theorem State.settle_core : (s.settle c b e).core = s.core := rfl
theorem State.settle_hbm : (s.settle c b e).hbm = s.hbm := rfl
theorem State.settle_log : (s.settle c b e).log = s.log := rfl
theorem State.settle_part (p : Nat) : (s.settle c b e).part p = s.part p := rfl
theorem State.settle_kv : (s.settle c b e).kv c b = some e := s.kv_setKv_same c b (some e)
theorem State.settle_state : ((s.settle c b e).stream c).state = (s.stream c).state := congrArg (·.state) (State.stream_setStream_same ..)

end

/-- The end of a move whose stream runs. -/
theorem State.afterMove_settle {s : State} {c : Nat} (hrun : (s.stream c).state = .run) {p : Nat} (hstop : (s.part p).stopping = 0)
    (b : Nat) (e : KvEnt) : ∀ u, u = s.setKv c b (some e) →
    (if (u.stream c).state = .free ∨ (u.stream c).state = .ended then u.freeEntry p c b
      else u.setStream c { u.stream c with tiers := u.tiersOf c }).afterMove p c = s.settle c b e := by
  rintro u rfl
  have hlive : ¬(((s.setKv c b (some e)).stream c).state = .free ∨ ((s.setKv c b (some e)).stream c).state = .ended) := by
    rw [show (s.setKv c b (some e)).stream c = s.stream c from rfl, hrun]
    decide
  rw [if_neg hlive]
  exact State.afterMove_of_run ((s.settle_state c b e).trans hrun) hstop

/-! #### KV_MOVE_OUT (R252 to R254) -/

/-- A block of a stream sealed for a tier-2 slot. -/
def State.sealedBlock (s : State) (c b g0 slot : Nat) : Sealed :=
  { srcchip := s.chip, tenant := (s.stream c).tenant, ctx := c, block := b, gen := (s.stream c).gen,
    seq := (s.hbm.moveseq + 1) % 2 ^ 64, tier := 2, chip := 0, slot := slot, data := s.blockData g0 }

/-- The move that waits for the confirmation of its slot. -/
def State.sealedMove (s : State) (m : Move) (slot : Nat) : Move :=
  { m with tier := 2, chip := 0, slot := slot, step := 3, seq := (s.hbm.moveseq + 1) % 2 ^ 64 }

/-- A block sealed for tier 2 goes to the host under the next number. -/
theorem State.sealOut_tier2 (s : State) (m : Move) (g0 slot : Nat) : ∃ h, s.sealOut m g0 (2, 0, slot) =
    { s with
      hbm := { s.hbm with
        moveseq := (s.hbm.moveseq + 1) % 2 ^ 64
        sealed := s.hbm.sealed ++ [s.sealedBlock m.stream m.block g0 slot]
        moves := s.hbm.moves.map fun x => if x = m then s.sealedMove m slot else x }
      host := h } := by
  unfold State.sealOut
  dsimp only
  rw [if_pos rfl]
  exact ⟨_, rfl⟩

/-- The granules of a block are read and counted. -/
def State.blockRead (s : State) (c : Nat) : State :=
  let u := s.countAll Reg.HBM_RDG_LO fun _ => 256
  u.addHbmb (u.stream c).tenant 65536

section
variable (s : State) (c : Nat)

theorem State.blockRead_core : (s.blockRead c).core = s.core := (State.addHbmb_core ..).trans (State.countAll_core ..)
theorem State.blockRead_hbm : (s.blockRead c).hbm = s.hbm := (State.addHbmb_hbm ..).trans (State.countAll_hbm ..)
theorem State.blockRead_srv : (s.blockRead c).srv = s.srv := (State.addHbmb_srv ..).trans (State.countAll_srv ..)
theorem State.blockRead_log : (s.blockRead c).log = s.log := (State.addHbmb_log ..).trans (State.countAll_log ..)

theorem State.blockRead_chip : (s.blockRead c).chip = s.chip := by
  have hcount (u : State) (m : Nat) : (u.inc64 (Reg.HBM_RDG_LO m) 256).rd Reg.LNK_CHIP = u.rd Reg.LNK_CHIP :=
    u.inc64_regsExcept (l := [Reg.HBM_RDG_LO m, Reg.HBM_RDG_LO m + 4]) (by simp) (by simp) 256 _ (by
      simp only [List.mem_cons, List.not_mem_nil, or_false, Reg.LNK_CHIP, Reg.HBM_RDG_LO]
      omega)
  have hrd : (s.blockRead c).rd Reg.LNK_CHIP = s.rd Reg.LNK_CHIP :=
    (State.setMeter_rd ..).trans (State.forEach_keeps (fun u => u.rd Reg.LNK_CHIP) _ hcount (List.range 8) s)
  rw [State.chip, State.fld, hrd]
  rfl

/-- What is sealed is what the block holds before its read is counted. -/
theorem State.sealedBlock_blockRead (d b g0 slot : Nat) : (s.blockRead c).sealedBlock d b g0 slot = s.sealedBlock d b g0 slot := by
  have hgran : (s.blockRead c).gran = s.gran := funext (State.gran_congr (s.blockRead_hbm c))
  unfold State.sealedBlock State.stream State.blockData
  rw [State.blockRead_chip, State.blockRead_hbm, State.blockRead_srv, hgran]

end

/-- An outward move of a block without error to tier 2. -/
theorem State.kvMoveOut_of_clean {s : State} {c b slot : Nat} {m : Move} {e : KvEnt}
    (hmove : (s.hbm.moves.find? fun m => m.stream == c && m.block == b && m.out && m.step == 0) = some m) (hkv : s.kv c b = some e)
    (htier : e.tier = 0) (hdest : s.moveDest m none = some (2, 0, slot)) (hroom : s.movesInFlight < 64) (hawake : s.pwr.selfRefresh = false)
    (hclean : (s.hbm.cond.all fun x => !(decide (e.off / 32 ≤ x.1) && decide (x.1 < e.off / 32 + 2048))) = true) :
    s.kvMoveOut c b [] none = (s.blockRead c).sealOut m (e.off / 32) (2, 0, slot) := by
  have hmarked : (s.hbm.cond.filter fun x => decide (e.off / 32 ≤ x.1) && decide (x.1 < e.off / 32 + 2048)) = [] :=
    List.filter_eq_nil_iff.2 fun x hx => by simpa only [Bool.not_eq_true', Bool.not_eq_true] using List.all_eq_true.1 hclean x hx
  unfold State.kvMoveOut
  rw [hmove, hkv]
  dsimp only
  rw [hdest]
  dsimp only
  rw [if_neg (by simp [htier, hawake]; omega), hmarked]
  rfl

/-! #### KV_MOVE_OUT_CONFIRM and KV_MOVE_IN (R252) -/

theorem State.kvMoveOutConfirm_of_run {s : State} {c b : Nat} {m : Move}
    (hmove : (s.hbm.moves.find? fun m => m.stream == c && m.block == b && m.out && m.step == 3) = some m) (htier : m.tier = 2)
    (hrun : (s.stream c).state = .run) (hstop : (s.part m.part).stopping = 0) :
    s.kvMoveOutConfirm c b 0 = ((s.dropMove m).inc (Reg.HBM_MVCNT (blockCtl 0)) 1).settle c b
      { tier := 2, off := m.slot, chip := m.chip, seq := m.seq } := by
  unfold State.kvMoveOutConfirm
  rw [hmove]
  dsimp only
  rw [if_neg (by simp [htier]), if_neg (by simp), htier]
  exact State.afterMove_settle (s := (s.dropMove m).inc _ _) hrun hstop b _ _ rfl

theorem State.kvMoveIn_of_named {s : State} {c b : Nat} {m : Move} {e : KvEnt} {d : Sealed} {id : SealId}
    (hmove : (s.hbm.moves.find? fun m => m.stream == c && m.block == b && !m.out && decide (m.step < 2)) = some m)
    (hkv : s.kv c b = some e) (hstep : m.step = 0) (hroom : s.movesInFlight < 64) (hawake : s.pwr.selfRefresh = false) (htier : e.tier = 2)
    (hdma : s.dmaOn = true) (hslot : (s.hbm.sealed.find? fun d => d.seq == e.seq) = some d)
    (hid : id.tenant = (s.stream m.stream).tenant ∧ id.ctx = m.stream ∧ id.block = m.block ∧ id.gen = (s.stream m.stream).gen ∧ id.seq = e.seq) :
    s.kvMoveIn c b (some id) = s.setMove m { m with step := 4, data := d.data } := by
  unfold State.kvMoveIn
  rw [hmove, hkv]
  dsimp only
  rw [if_neg (by rw [hstep]; decide), if_neg (by simp [hawake]; omega), if_neg (by rw [htier]; decide), if_pos ⟨htier, hdma⟩]
  unfold State.checkIn
  rw [hslot]
  exact if_pos hid

/-! #### KV_MOVE_IN_DONE (R252, R274) -/

/-- A block of the KV table is freed in the table, the store and the host's slots. -/
theorem State.freeEntry_frame (s : State) (p c b : Nat) : ∃ l h k, s.freeEntry p c b =
    { s with hbm := { s.hbm with sealed := l }, host := h, srv := { s.srv with kv := k } } := by
  unfold State.freeEntry
  cases s.kv c b with
  | none => exact ⟨s.hbm.sealed, s.host, s.srv.kv, rfl⟩
  | some e =>
    obtain ⟨h, hh⟩ : ∃ h, s.when (e.tier == 2) (fun s => s.slot2 p e.off false) = { s with host := h } := by
      unfold State.when
      split
      · exact ⟨_, rfl⟩
      · exact ⟨s.host, rfl⟩
    dsimp only
    rw [hh]
    unfold State.when
    split
    · exact ⟨_, _, _, rfl⟩
    · exact ⟨s.hbm.sealed, _, _, rfl⟩

theorem State.freeEntry_blocks (s : State) (p c b : Nat) : ∀ u, u = s.freeEntry p c b →
    u.core = s.core ∧ u.log = s.log ∧ u.hbm.mem = s.hbm.mem ∧ u.srv.streams = s.srv.streams ∧ u.srv.parts = s.srv.parts := by
  rintro u rfl
  obtain ⟨l, h, k, hfreed⟩ := s.freeEntry_frame p c b
  rw [hfreed]
  exact ⟨rfl, rfl, rfl, rfl, rfl⟩

/-- The plaintext of an inward move stands in the block and is counted. -/
def State.blockWritten (s : State) (c : Nat) (m : Move) (off : Nat) : State :=
  let u := (s.putContent (off / 32) m.data).countAll Reg.HBM_WRG_LO fun _ => 256
  u.addHbmb (u.stream c).tenant 65536

section
variable (s : State) (c : Nat) (m : Move) (off : Nat)

theorem State.blockWritten_core : (s.blockWritten c m off).core = s.core :=
  ((State.addHbmb_core ..).trans (State.countAll_core ..)).trans (s.putContent_blocks _ _).2.1
theorem State.blockWritten_log : (s.blockWritten c m off).log = s.log :=
  ((State.addHbmb_log ..).trans (State.countAll_log ..)).trans (s.putContent_blocks _ _).2.2
theorem State.blockWritten_srv : (s.blockWritten c m off).srv = s.srv :=
  ((State.addHbmb_srv ..).trans (State.countAll_srv ..)).trans (State.forEach_keeps State.srv _ (fun _ _ => State.setGran_srv ..) _ s)
theorem State.gran_blockWritten {i : Nat} (hi : i < m.data.length) : (s.blockWritten c m off).gran (off / 32 + i) = nth 0 m.data i :=
  (State.gran_congr ((State.addHbmb_hbm ..).trans (State.countAll_hbm ..)) _).trans (s.gran_written (off / 32) hi)

end

theorem State.kvMoveInDone_of_run {s : State} {c b off : Nat} {m : Move} {e : KvEnt}
    (hmove : (s.hbm.moves.find? fun m => m.stream == c && m.block == b && !m.out && m.step == 4) = some m) (hkv : s.kv c b = some e)
    (hfree : s.freeBlock m.part (s.stream c).tenant [] = some off) (hrun : (s.stream c).state = .run) (hstop : (s.part m.part).stopping = 0) :
    s.kvMoveInDone c b = ((((s.blockWritten c m off).freeEntry m.part c b).dropMove m).inc (Reg.HBM_MVCNT (blockCtl 0)) 1).settle c b
      { tier := 0, off := off, chip := 0, seq := e.seq } := by
  have hsrv := s.blockWritten_srv c m off
  obtain ⟨-, -, -, hstreams, hparts⟩ := (s.blockWritten c m off).freeEntry_blocks m.part c b _ rfl
  have hrun' : (((s.blockWritten c m off).freeEntry m.part c b).stream c).state = .run := by
    rwa [State.stream, hstreams, hsrv]
  have hstop' : (((s.blockWritten c m off).freeEntry m.part c b).part m.part).stopping = 0 := by
    rwa [State.part, hparts, hsrv]
  unfold State.kvMoveInDone
  rw [hmove, hkv]
  dsimp only
  rw [hfree]
  exact State.afterMove_settle (s := (((s.blockWritten c m off).freeEntry m.part c b).dropMove m).inc _ _) hrun' hstop' b _ _ rfl

end Machine

open Machine

section
variable {s : State} {m : Move} {e : KvEnt} (c : StreamNo) (b : Fin 1024)

/-- A move that is looked up by its block names it. -/
theorem move_names {l : List Move} {c b : Nat} {out step : Move → Bool}
    (h : (l.find? fun m => m.stream == c && m.block == b && out m && step m) = some m) : m.stream = c ∧ m.block = b := by
  have hnamed := List.find?_some h
  simp only [Bool.and_eq_true, beq_iff_eq] at hnamed
  exact hnamed.1.1

theorem kvMoveOut_completes {i : Nat}
    (hmove : (s.hbm.moves.find? fun m => m.stream == c.val && m.block == b.val && m.out && m.step == 0) = some m)
    (hkv : s.kv c b = some e) (htier : e.tier = 0) (hdest : s.moveDest m none = some (2, 0, i)) (hroom : s.movesInFlight < 64)
    (hawake : s.pwr.selfRefresh = false)
    (hclean : (s.hbm.cond.all fun x => !(decide (e.off / 32 ≤ x.1) && decide (x.1 < e.off / 32 + 2048))) = true) :
    Completes (.kvMoveOut c b [] none) s fun t => t.hbm.moveseq = (s.hbm.moveseq + 1) % 2 ^ 64 ∧
      t.hbm.sealed = s.hbm.sealed ++ [s.sealedBlock c b (e.off / 32) i] ∧ s.sealedMove m i ∈ t.hbm.moves ∧ t.hbm.mem = s.hbm.mem ∧
      t.kv c b = s.kv c b ∧ t.core = s.core ∧ t.log = s.log := by
  obtain ⟨hstream, hblock⟩ := move_names hmove
  have hhbm := s.blockRead_hbm c
  obtain ⟨h, hseal⟩ := (s.blockRead c).sealOut_tier2 m (e.off / 32) i
  refine ⟨_, congrArg Host.Outcome.next ((State.kvMoveOut_of_clean hmove hkv htier hdest hroom hawake hclean).trans hseal),
    ?_, ?_, ?_, ?_, ?_, ?_, ?_⟩
  · rw [hhbm]
  · rw [State.sealedBlock_blockRead, hhbm, hstream, hblock]
  · unfold State.sealedMove
    rw [hhbm]
    exact List.mem_map.2 ⟨m, List.mem_of_find?_eq_some hmove, if_pos rfl⟩
  · rw [hhbm]
  · unfold State.kv
    rw [State.blockRead_srv]
  · rw [State.blockRead_core]
  · rw [State.blockRead_log]

theorem kvMoveOutConfirm_completes
    (hmove : (s.hbm.moves.find? fun m => m.stream == c.val && m.block == b.val && m.out && m.step == 3) = some m) (htier : m.tier = 2)
    (hrun : (s.stream c).state = .run) (hstop : (s.part m.part).stopping = 0) :
    Completes (.kvMoveOutConfirm c b 0) s fun t => t.kv c b = some { tier := 2, off := m.slot, chip := m.chip, seq := m.seq } ∧
      m ∉ t.hbm.moves ∧ t.hbm.sealed = s.hbm.sealed ∧
      t.rd (Reg.HBM_MVCNT (blockCtl 0)) = satAdd 0xFFFFFFFF (s.rd (Reg.HBM_MVCNT (blockCtl 0))) 1 ∧
      RegsExcept [Reg.HBM_MVCNT (blockCtl 0)] s t ∧ t.log = s.log := by
  have hdone := State.kvMoveOutConfirm_of_run hmove htier hrun hstop
  have hregs := State.settle_regs ((s.dropMove m).inc (Reg.HBM_MVCNT (blockCtl 0)) 1) c b { tier := 2, off := m.slot, chip := m.chip, seq := m.seq }
  refine ⟨_, congrArg Host.Outcome.next hdone, State.settle_kv .., s.not_mem_dropMove m, rfl, ?_, ?_, rfl⟩
  · rw [State.rd_congr hregs, State.rd_inc_same, State.dropMove_rd]
  · exact ((RegsExcept.of_regs _ rfl).trans (State.wr_regsExcept (s.dropMove m) (List.mem_singleton_self _) _)).trans (.of_regs _ hregs)

theorem kvMoveIn_completes {d : Sealed} {id : SealId}
    (hmove : (s.hbm.moves.find? fun m => m.stream == c.val && m.block == b.val && !m.out && decide (m.step < 2)) = some m)
    (hkv : s.kv c b = some e) (hstep : m.step = 0) (hroom : s.movesInFlight < 64) (hawake : s.pwr.selfRefresh = false) (htier : e.tier = 2)
    (hdma : s.dmaOn = true) (hslot : (s.hbm.sealed.find? fun d => d.seq == e.seq) = some d)
    (hid : id.tenant = (s.stream c).tenant ∧ id.ctx = c.val ∧ id.block = b.val ∧ id.gen = (s.stream c).gen ∧ id.seq = e.seq) :
    Completes (.kvMoveIn c b (some id)) s fun t => { m with step := 4, data := d.data } ∈ t.hbm.moves ∧
      t.hbm.moves.length = s.hbm.moves.length ∧ t.hbm.mem = s.hbm.mem ∧ t.kv c b = s.kv c b ∧ RegsExcept [] s t ∧ t.core = s.core ∧
      t.log = s.log := by
  obtain ⟨hstream, hb⟩ := move_names hmove
  have hread := State.kvMoveIn_of_named hmove hkv hstep hroom hawake htier hdma hslot (id := id) (by rwa [hstream, hb])
  exact ⟨_, congrArg Host.Outcome.next hread, State.mem_setMove (List.mem_of_find?_eq_some hmove), s.length_setMove m _, rfl, rfl,
    .of_regs [] rfl, rfl, rfl⟩

theorem kvMoveInDone_completes {off : Nat}
    (hmove : (s.hbm.moves.find? fun m => m.stream == c.val && m.block == b.val && !m.out && m.step == 4) = some m)
    (hkv : s.kv c b = some e) (hfree : s.freeBlock m.part (s.stream c).tenant [] = some off) (hrun : (s.stream c).state = .run)
    (hstop : (s.part m.part).stopping = 0) :
    Completes (.kvMoveInDone c b) s fun t => t.kv c b = some { tier := 0, off := off, chip := 0, seq := e.seq } ∧ m ∉ t.hbm.moves ∧
      (∀ i ∈ List.range m.data.length, t.gran (off / 32 + i) = nth 0 m.data i) ∧ t.core = s.core ∧ t.log = s.log := by
  have hdone := State.kvMoveInDone_of_run hmove hkv hfree hrun hstop
  obtain ⟨hcore, hlog, hmem, -, -⟩ := (s.blockWritten c m off).freeEntry_blocks m.part c b _ rfl
  refine ⟨_, congrArg Host.Outcome.next hdone, State.settle_kv .., State.not_mem_dropMove _ m, fun i hi => ?_, ?_, ?_⟩
  · rw [State.gran_congr (State.settle_hbm ..), State.gran_congr (State.inc_hbm ..), State.gran_dropMove, State.gran, hmem]
    exact s.gran_blockWritten c m off (List.mem_range.1 hi)
  · rw [State.settle_core, State.inc_core, State.dropMove_core, hcore]
    exact s.blockWritten_core c m off
  · rw [State.settle_log, State.inc_log, State.dropMove_log, hlog]
    exact s.blockWritten_log c m off

end

/-- Settles O12, a clause per theorem. -/
theorem kvMoveCommandsComplete : Obligations.KvMoveCommandsComplete :=
  ⟨fun _ c b _ _ _ hmove hkv ht hd hr ha hc => kvMoveOut_completes c b hmove hkv ht hd hr ha hc,
    fun _ c b _ hmove ht hr hs => kvMoveOutConfirm_completes c b hmove ht hr hs,
    fun _ c b _ _ _ _ hmove hkv hst hr ha ht hd hsl hid => kvMoveIn_completes c b hmove hkv hst hr ha ht hd hsl hid,
    fun _ c b _ _ _ hmove hkv hf hr hs => kvMoveInDone_completes c b hmove hkv hf hr hs⟩

end Sys2Proof
end

section
set_option Elab.async false

/-! ### The opening of the interfaces: a port of PORTEN that is enabled already -/

namespace Sys2Proof

namespace Machine

theorem State.stampTime_regsExcept (s : State) : RegsExcept [Reg.CFG_TIME] s s.stampTime :=
  State.wr_regsExcept { s with free := s.free + 1 } (List.mem_singleton_self _) _

theorem State.partnReached_of_regsExcept {s t : State} {l : List Nat} (h : RegsExcept l s t) (hesc : Reg.LOG_ESC ∉ l)
    (hfence : Reg.LOG_CFENCE ∉ l) : t.partnReached = s.partnReached := by
  unfold State.partnReached State.fencedCores
  rw [h.fld hesc, h.fld hfence]

/-- The ports of PORTEN have been enabled and the part is in READY (R369, R383). -/
def State.portsOpened (s : State) : State :=
  let u := s.setF Reg.CFG_BOOT Fld.CFG_BOOT_PHASE 8
  (u.forEach ((List.range 16).filter fun i => bitAt u.boot.portEn i) State.portEnable).setF Reg.CFG_BOOT Fld.CFG_BOOT_PHASE 9

/-- The time of bring-up is stamped and the service is full (R369). -/
def State.inService (s : State) : State := { s.stampTime with boot := { s.stampTime.boot with service := 0 } }

theorem State.inService_regsExcept (s : State) : RegsExcept [Reg.CFG_TIME] s s.inService := s.stampTime_regsExcept.trans (.of_regs _ rfl)

theorem State.acts_inService (s : State) : s.inService.boot.acts = s.boot.acts := rfl

/-- PARTN fenced cores fail the part at READY (R470). -/
def State.judgePartn (s : State) : State := s.when s.partnReached fun s => s.partFail 0x12

theorem State.interfacesOpen_of_phase {s : State} (h : ¬(!s.inPhase 7 ∨ !s.boot.acted ∨ s.wts.loads ≠ [])) : s.interfacesOpen =
    s.portsOpened.inService.judgePartn.forEach s.portsOpened.inService.judgePartn.boot.acts State.bootStart := if_neg h

/-- INTERFACES_OPEN without a boot action to act on. -/
theorem State.interfacesOpen_of_no_acts {s : State} (hphase : s.inPhase 7 = true) (hacted : s.boot.acted = true) (hloads : s.wts.loads = [])
    (hpartn : s.portsOpened.partnReached = false) (hacts : s.portsOpened.boot.acts = []) :
    s.interfacesOpen = s.portsOpened.inService := by
  have hreached : s.portsOpened.inService.partnReached = false :=
    (State.partnReached_of_regsExcept s.portsOpened.inService_regsExcept (by decide) (by decide)).trans hpartn
  have hjudged : s.portsOpened.inService.judgePartn = s.portsOpened.inService := by
    rw [State.judgePartn, hreached, State.when_false]
  rw [State.interfacesOpen_of_phase (by simp [hphase, hacted, hloads]), hjudged, State.acts_inService, hacts, State.forEach_nil]

end Machine

open Machine

/-- Bring-up is in phase 7 and its boot actions are done; PORTEN names port 1, whose EN is 1 already while the port is in state 0. -/
def enabledPort : State :=
  (({ boot := { pwrgood := true, acted := true, portEn := 2 } } : State).setF Reg.CFG_BOOT Fld.CFG_BOOT_PHASE 7).setF
    (Reg.LNK_CTL 1) Fld.LNK_CTL_EN 1

/-- Refutes O29: the clause of INTERFACES_OPEN names no condition on the ports' EN bits. A port trains when its EN is written from 0
(R298), so the port of `enabledPort`, whose EN is 1 before, stays in state 0, and the clause puts it into DETECT. -/
theorem not_bringUpCommandsComplete : ¬ Obligations.BringUpCommandsComplete := by
  rintro ⟨-, -, -, -, -, -, -, -, -, -, hopen, -⟩
  obtain ⟨t, ht, -, -, hports, -⟩ := hopen enabledPort (by decide +kernel) rfl rfl (by decide +kernel) (by decide) (by decide)
  obtain rfl : enabledPort.interfacesOpen = t := Host.Outcome.next.inj ht
  have hopened := State.interfacesOpen_of_no_acts (s := enabledPort) (by decide +kernel) rfl rfl (by decide +kernel) (by decide +kernel)
  have hstays : enabledPort.interfacesOpen.portState 1 = 0 := by
    rw [hopened]
    exact (enabledPort.portsOpened.inService_regsExcept.fld (by decide) _).trans (by decide +kernel)
  exact absurd (hstays.symm.trans (hports 1 (by decide) (by decide)).1) (by decide)

end Sys2Proof
end
